-- ==== Sys2Proof/Word.lean ====
section
/-!
DEFINITION. The word types of the AJ3140: bytes of frames and of the exchange memory, and the 16- and 32-bit
counts, identities and generations that the spec lets wrap.
-/

namespace Sys2Proof

/-- A byte of a frame or of the exchange memory (R24, R155). -/
abbrev Byte := BitVec 8

/-- A 16-bit count, generation, census number or register (R5, R42, R169). -/
abbrev Word16 := BitVec 16

/-- A 32-bit identity, signature or count (R55, R70, R161). -/
abbrev Word32 := BitVec 32

end Sys2Proof
end

