-- ==== Sys2Proof/Machine/Bytes.lean ====
section
/-!
DEFINITION. Byte orders, the two cyclic redundancy checks and the shift register: frames are big-endian (R24), the
exchange memory little-endian (R155).
-/

namespace Sys2Proof.Machine

/-- Byte `i` of a list, 0 beyond its end. -/
def byteAt (l : List Byte) (i : Nat) : Byte := l.getD i 0

/-- A number as a byte; fields the spec keeps below 256 lose nothing. -/
def byte (n : Nat) : Byte := BitVec.ofNat 8 n

def word16 (n : Nat) : Word16 := BitVec.ofNat 16 n

def word32 (n : Nat) : Word32 := BitVec.ofNat 32 n

def boolByte (b : Bool) : Byte := if b then 1 else 0

/-- Two bytes of a frame, most significant first (R24). -/
def be16 (w : Word16) : List Byte := [w.extractLsb' 8 8, w.extractLsb' 0 8]

/-- Four bytes of a frame, most significant first (R24). -/
def be32 (w : Word32) : List Byte :=
  [w.extractLsb' 24 8, w.extractLsb' 16 8, w.extractLsb' 8 8, w.extractLsb' 0 8]

/-- Two bytes of exchange memory, least significant first (R155). -/
def le16 (w : Word16) : List Byte := [w.extractLsb' 0 8, w.extractLsb' 8 8]

/-- Four bytes of exchange memory, least significant first (R155). -/
def le32 (w : Word32) : List Byte :=
  [w.extractLsb' 0 8, w.extractLsb' 8 8, w.extractLsb' 16 8, w.extractLsb' 24 8]

/-- The big-endian 16-bit field at offset `i` (R24). -/
def getBe16 (l : List Byte) (i : Nat) : Word16 := byteAt l i ++ byteAt l (i + 1)

/-- The big-endian 32-bit field at offset `i` (R24). -/
def getBe32 (l : List Byte) (i : Nat) : Word32 := getBe16 l i ++ getBe16 l (i + 2)

/-- The little-endian 16-bit field at offset `i` (R155). -/
def getLe16 (l : List Byte) (i : Nat) : Word16 := byteAt l (i + 1) ++ byteAt l i

/-- The little-endian 32-bit field at offset `i` (R155). -/
def getLe32 (l : List Byte) (i : Nat) : Word32 := getLe16 l (i + 2) ++ getLe16 l i

/-- `f` applied `n` times. -/
def iterate {α : Type} (f : α → α) : Nat → α → α
  | 0, x => x
  | n + 1, x => iterate f n (f x)

/-- One bit of the 16-bit CRC with polynomial 0x1021 (R26). -/
def crc16Bit (c : Word16) : Word16 := if c.msb then (c <<< 1) ^^^ 0x1021 else c <<< 1

/-- A byte enters the 16-bit CRC, most significant bit first (R26). -/
def crc16Byte (c : Word16) (b : Byte) : Word16 := iterate crc16Bit 8 (c ^^^ (b ++ (0 : Byte) : Word16))

/-- The CRC of a frame: register starting at 0xFFFF, no reflection, no final XOR (R26). -/
def crc16 (l : List Byte) : Word16 := l.foldl crc16Byte 0xFFFF

/-- One bit of the 32-bit CRC with polynomial 0x04C11DB7 (R55). -/
def crc32Bit (c : Word32) : Word32 := if c.msb then (c <<< 1) ^^^ 0x04C11DB7 else c <<< 1

/-- A byte enters the 32-bit CRC, most significant bit first (R55). -/
def crc32Byte (c : Word32) (b : Byte) : Word32 := iterate crc32Bit 8 (c ^^^ (b ++ (0 : BitVec 24) : Word32))

/-- The signature of a table: register starting at 0xFFFFFFFF, final XOR with 0xFFFFFFFF (R55). -/
def crc32 (l : List Byte) : Word32 := l.foldl crc32Byte 0xFFFFFFFF ^^^ 0xFFFFFFFF

/-- One step of the shift register: the XOR of bits 15, 13, 12 and 10 enters bit 0 (R5). -/
def lfsrStep (r : Word16) : Word16 :=
  (r <<< 1) ||| (BitVec.ofBool (((r.getLsbD 15).xor (r.getLsbD 13)).xor ((r.getLsbD 12).xor (r.getLsbD 10)))).setWidth 16

/-- A draw: eight steps, the resulting value (R5). -/
def lfsrDraw (r : Word16) : Word16 := iterate lfsrStep 8 r

/-- A loaded value of 0 is replaced by 0x0001 (R5). -/
def lfsrSeed (w : Word16) : Word16 := if w = 0 then 1 else w

/-- The next value of a number that runs from 65 535 on to 1 (R42, R56, R139). -/
def nextNumber (w : Word16) : Word16 := if w = 0xFFFF then 1 else w + 1

end Sys2Proof.Machine
end

