-- ==== Sys2Proof/Syntax.lean ====
section
/-!
DEFINITION. The commands of the AJ3140: one constructor of `Instr` per row of spec/opcode_table.json.

Every row but the two hardware resets carries `dt`, the half-nanoseconds that have passed since the command before it
(00 "Time base"; log 1). A row that stands for one of two spans, two door sides, four heater stages, three converter
channels or two roll kinds names which; a serial transaction carries its bytes and where it is held (`Sent`; R156,
log 20); a row in which the device samples a pin carries the sample (log 23).
-/

namespace Sys2Proof

/-- Span unit A or B, at the A-end or the B-end of the car (00 "Car ends and car sides"). -/
inductive SpanId | a | b
deriving DecidableEq, Repr

/-- Car side 1 or 2, and the door-side channel that serves it (00 "Car ends and car sides"). -/
inductive SideId | one | two
deriving DecidableEq, Repr

/-- The three converter channels of the line monitor (R152). -/
inductive Chan | linev | cari | auxv
deriving DecidableEq, Repr

/-- The two kinds of roll a member originates (R89). -/
inductive RollKind | doorState | demand
deriving DecidableEq, Repr

/-- The level of a line pair: at rest, or one of the two driven levels (01 "The coupler line"). -/
inductive Level | quiet | positive | negative
deriving DecidableEq, Repr

/-- The polarity of an excursion against a probe pulse (R7). -/
inductive Polarity | same | inverted
deriving DecidableEq, Repr

/-- An excursion of the line as an echo entry records it: arrival and width in half-nanoseconds, and polarity (R7). -/
structure Excursion where
  arrival : Word16
  width : Word16
  polarity : Polarity
deriving DecidableEq, Repr

/-- What a row of the serial port shifts in, `whole` (its bytes or their number), and in `held` the number of bytes, header
included, after which the row leaves the transaction with CSN still low, or `none` when CSN rises at its end (R156;
log 20). -/
structure Sent (α : Type) where
  whole : α
  held : Option Nat
deriving DecidableEq, Repr

/-- A sample of the receive pin of a span (R37). -/
structure Sampled where
  span : SpanId
  level : Level
deriving DecidableEq, Repr

/-- The commands, in the order of spec/opcode_table.json. -/
inductive Instr
  /-- POWER_ON (R162). -/
  | powerOn
  /-- RESETN (R162): the pin has been low and rises. -/
  | resetn
  /-- MEM_READ (R156): `n` data bytes from `addr`. -/
  | memRead (dt : Nat) (addr : Word16) (n : Sent Nat)
  /-- MEM_WRITE (R157): `data` aimed at `addr`. -/
  | memWrite (dt : Nat) (addr : Word16) (data : Sent (List Byte))
  /-- REG_READ (R160): `n` data bytes of register `reg`. -/
  | regRead (dt : Nat) (reg : Word16) (n : Sent Nat)
  /-- REG_WRITE_OTHER (R160): a REG_WRITE to IDENT or to an unassigned number. -/
  | regWriteOther (dt : Nat) (reg : Word16) (data : Sent (List Byte))
  /-- PORT_SET_ECHO (R160): a REG_WRITE to PORT_SET, seen for its bit 0. -/
  | portSetEcho (dt : Nat) (data : Sent (List Byte))
  /-- PORT_SET_ATTN_POLARITY (R160): a REG_WRITE to PORT_SET, seen for its bit 1. -/
  | portSetAttnPolarity (dt : Nat) (data : Sent (List Byte))
  /-- PORT_SET_ATTN_DRIVE (R160): a REG_WRITE to PORT_SET, seen for its bit 2. -/
  | portSetAttnDrive (dt : Nat) (data : Sent (List Byte))
  /-- MISALIGN (R158): a REG_WRITE to MISALIGN. -/
  | misalign (dt : Nat) (data : Sent (List Byte))
  /-- RESET_WORD (R160): a REG_WRITE to RESET_WORD. -/
  | resetWord (dt : Nat) (data : Sent (List Byte))
  /-- MISALIGNED_TRANSACTION (R158): the whole bytes shifted in, header first, and the bits of the broken byte. -/
  | misalignedTransaction (dt : Nat) (bytesIn : Sent (List Byte)) (bits : Nat)
  /-- UNKNOWN_OPCODE (R156): the bytes shifted in, header first; also a transaction that ends before its header does. -/
  | unknownOpcode (dt : Nat) (bytesIn : Sent (List Byte))
  /-- IGNORED_TRANSACTION (R162): a transaction of these bytes whose CSN fell within 1 ms after a reset. -/
  | ignoredTransaction (dt : Nat) (bytesIn : Sent (List Byte))
  /-- TAKE (R167). -/
  | take (dt : Nat)
  /-- CONFIGURE (R164). -/
  | configure (dt : Nat)
  /-- SPAN_CONTROL_ENABLE (R22). -/
  | spanControlEnable (dt : Nat)
  /-- SPAN_CONTROL_DISABLE (R22). -/
  | spanControlDisable (dt : Nat)
  /-- SPAN_CONTROL_RESTART (R22). -/
  | spanControlRestart (dt : Nat)
  /-- SPAN_CONTROL_BYPASS (R4). -/
  | spanControlBypass (dt : Nat)
  /-- SPAN_CONTROL_UNBYPASS (R4). -/
  | spanControlUnbypass (dt : Nat)
  /-- RELAY_SWITCHED (R3). -/
  | relaySwitched (dt : Nat)
  /-- PROBE (R6): the line has been at the quiet level for `quiet` half-nanoseconds. -/
  | probe (dt : Nat) (x : SpanId) (quiet : Nat)
  /-- LISTEN_WINDOW_END (R9): the excursions seen in the window, in order of arrival. -/
  | listenWindowEnd (dt : Nat) (x : SpanId) (excursions : List Excursion)
  /-- FOREIGN_PROBE (R8): a pulse whose leading edge falls now, with its polarity and width. -/
  | foreignProbe (dt : Nat) (x : SpanId) (level : Level) (width : Nat)
  /-- PROBE_ANSWER (R8). -/
  | probeAnswer (dt : Nat) (x : SpanId)
  /-- FRAME_RECEIVED (R27): the line levels seen, one per 0.5 µs, up to the return to the quiet level. -/
  | frameReceived (dt : Nat) (x : SpanId) (line : List Level)
  /-- HELLO (R14): the span unit takes a HELLO from its receive queue. -/
  | hello (dt : Nat) (x : SpanId)
  /-- KEEPALIVE (R18): the span unit takes a KEEPALIVE from its receive queue. -/
  | keepalive (dt : Nat) (x : SpanId)
  /-- GREETING_HELLO_DUE (R14). -/
  | greetingHelloDue (dt : Nat) (x : SpanId)
  /-- GREET_TIMEOUT (R14). -/
  | greetTimeout (dt : Nat) (x : SpanId)
  /-- SILENCE (R18). -/
  | silence (dt : Nat) (x : SpanId)
  /-- ERRORS (R29). -/
  | errors (dt : Nat) (x : SpanId)
  /-- KEEPALIVE_DUE (R17). -/
  | keepaliveDue (dt : Nat) (x : SpanId)
  /-- TRANSMIT_ATTEMPT (R36): the line has been at the quiet level for `quiet` half-nanoseconds. -/
  | transmitAttempt (dt : Nat) (x : SpanId) (quiet : Nat)
  /-- COLLISION (R37): the level sampled on the receive pin while a frame is driven. -/
  | collision (dt : Nat) (pin : Sampled)
  /-- JAM_END (R38). -/
  | jamEnd (dt : Nat) (x : SpanId)
  /-- BACKOFF_END (R38). -/
  | backoffEnd (dt : Nat) (x : SpanId)
  /-- FRAME_COMPLETED (R35). -/
  | frameCompleted (dt : Nat) (x : SpanId)
  /-- TAKE_LEAD (R44). -/
  | takeLead (dt : Nat)
  /-- CENSUS_START (R45). -/
  | censusStart (dt : Nat)
  /-- DROP_LEAD (R61). -/
  | dropLead (dt : Nat)
  /-- CALL (R50): taken from the receive queue of span `x`, as for the kinds below. -/
  | call (dt : Nat) (x : SpanId)
  /-- REPORT (R56). -/
  | report (dt : Nat) (x : SpanId)
  /-- TABLE (R57). -/
  | table (dt : Nat) (x : SpanId)
  /-- TABLE_ACK (R58). -/
  | tableAck (dt : Nat) (x : SpanId)
  /-- VOID (R62). -/
  | void (dt : Nat) (x : SpanId)
  /-- BREAK (R64). -/
  | brk (dt : Nat) (x : SpanId)
  /-- CENSUS_TIMER_EXPIRED (R54). -/
  | censusTimerExpired (dt : Nat)
  /-- SETTLE_TIMER_EXPIRED (R65). -/
  | settleTimerExpired (dt : Nat)
  /-- ORDER (R85). -/
  | order (dt : Nat) (x : SpanId)
  /-- ORDER_ACK (R86). -/
  | orderAck (dt : Nat) (x : SpanId)
  /-- ACK_WAIT_TIMEOUT (R86). -/
  | ackWaitTimeout (dt : Nat)
  /-- GRANT (R87). -/
  | grant (dt : Nat) (x : SpanId)
  /-- DOOR_STATE_ROLL (R88). -/
  | doorStateRoll (dt : Nat) (x : SpanId)
  /-- DEMAND_ROLL (R88). -/
  | demandRoll (dt : Nat) (x : SpanId)
  /-- ORIGINATION_TIMER (R89). -/
  | originationTimer (dt : Nat) (kind : RollKind)
  /-- SUBSTITUTE_ORIGINATION (R90). -/
  | substituteOrigination (dt : Nat) (kind : RollKind)
  /-- DOOR_ORDER (R116). -/
  | doorOrder (dt : Nat)
  /-- DOOR_ORDER_TIMED_OUT (R122). -/
  | doorOrderTimedOut (dt : Nat)
  /-- ROLL_AGE_TIMER_EXPIRED (R125). -/
  | rollAgeTimerExpired (dt : Nat)
  /-- DOOR_LOCAL_ISOLATE (R110). -/
  | doorLocalIsolate (dt : Nat)
  /-- DOOR_LOCAL_RESTORE (R110). -/
  | doorLocalRestore (dt : Nat)
  /-- FAULT_CLEAR_DOOR (R102). -/
  | faultClearDoor (dt : Nat)
  /-- FAULT_CLEAR_HEATING (R150). -/
  | faultClearHeating (dt : Nat)
  /-- LOCK_LEVEL_CHANGED (R97). -/
  | lockLevelChanged (dt : Nat) (k : SideId)
  /-- DRIVE_MISMATCH (R99). -/
  | driveMismatch (dt : Nat) (k : SideId)
  /-- DRIVE_MISMATCH_ENDED (R101). -/
  | driveMismatchEnded (dt : Nat) (k : SideId)
  /-- APPLY_INSTANT (R105). -/
  | applyInstant (dt : Nat)
  /-- LEASE_EXPIRED (R107). -/
  | leaseExpired (dt : Nat) (k : SideId)
  /-- CLOSE_TIMEOUT (R100). -/
  | closeTimeout (dt : Nat) (k : SideId)
  /-- HEAT_DEMAND (R131). -/
  | heatDemand (dt : Nat)
  /-- DEMAND_LEASE_EXPIRED (R132). -/
  | demandLeaseExpired (dt : Nat)
  /-- HEAT_SUPPLY (R135). -/
  | heatSupply (dt : Nat)
  /-- ALLOCATION_TIMER_EXPIRED (R137). -/
  | allocationTimerExpired (dt : Nat)
  /-- GRANT_HOLD_EXPIRED (R141). -/
  | grantHoldExpired (dt : Nat)
  /-- PERIOD_START (R146). -/
  | periodStart (dt : Nat)
  /-- WINDOW_START (R147). -/
  | windowStart (dt : Nat) (stage : Fin 4)
  /-- WINDOW_END (R147). -/
  | windowEnd (dt : Nat) (stage : Fin 4)
  /-- READING_COMPLETED (R152): the raw samples of the channel's block. -/
  | readingCompleted (dt : Nat) (chan : Chan) (block : List (BitVec 12))
  /-- LOW_TIMER_EXPIRED (R153). -/
  | lowTimerExpired (dt : Nat)
  /-- RETURN_TIMER_EXPIRED (R153). -/
  | returnTimerExpired (dt : Nat)
  /-- RELEASE_HALF_PERIOD (R98). -/
  | releaseHalfPeriod (dt : Nat) (k : SideId)
  /-- FEEDBACK_SAMPLE (R99): the level sampled on RFB1 or RFB2. -/
  | feedbackSample (dt : Nat) (k : SideId) (high : Bool)
  /-- MILLISECOND_TICK (R161): the levels sampled on LCK1 and LCK2 (R97). -/
  | millisecondTick (dt : Nat) (lck1 lck2 : Bool)
deriving DecidableEq, Repr

end Sys2Proof
end

