-- ==== Sys2Proof/WellFormed.lean ====
section
/-!
DEFINITION. Which commands the spec's own ranges admit. A command outside them stands for no event of the device;
the meanings are total and treat such a command as one that does not arise (log 2).
-/

namespace Sys2Proof

/-- An excursion of a listen window arrives within its 13 000 units, and its width lies from 0 to 65 534 (R7). -/
def Excursion.wf (e : Excursion) : Bool := decide (e.arrival.toNat < 13000) && e.width != 0xFFFF

/-- The excursions of one window are listed in order of arrival (R7). -/
def excursionsInOrder : List Excursion → Bool
  | [] => true
  | [_] => true
  | e :: f :: rest => decide (e.arrival.toNat ≤ f.arrival.toNat) && excursionsInOrder (f :: rest)

/-- The opcodes of the four transactions (R156). -/
def knownOpcode (op : Byte) : Bool := op == 0x0B || op == 0x02 || op == 0x0D || op == 0x04

/-- A transaction is one of UNKNOWN_OPCODE when its header is short or its opcode is none of the four (R156). -/
def unknownTransaction (bytesIn : List Byte) : Bool :=
  decide (bytesIn.length < 3) || !knownOpcode (bytesIn.headD 0)

/-- The registers that REG_WRITE_OTHER does not name: PORT_SET, MISALIGN and RESET_WORD (R160). -/
def writableRegister (reg : Word16) : Bool := reg == 1 || reg == 2 || reg == 3

/-- The operands the spec admits for a command. -/
def Instr.wf : Instr → Bool
  | .regWriteOther _ reg _ => !writableRegister reg
  | .misalignedTransaction _ _ bits => decide (1 ≤ bits) && decide (bits ≤ 7)
  | .unknownOpcode _ bytesIn => unknownTransaction bytesIn.whole
  | .listenWindowEnd _ _ excursions => excursions.all Excursion.wf && excursionsInOrder excursions
  | .foreignProbe _ _ level _ => level != .quiet
  | .readingCompleted _ _ block => block.length == 1 || block.length == 4 || block.length == 16
  | _ => true

end Sys2Proof
end

