-- ==== Sys2Proof/Decode.lean ====
section
/-!
DEFINITION. Words and bytes as commands. The opcode table gives no row any bits (98_reader.md, "n_rows_with_fixed": 0), so
no word spells a command (log 5); on the serial port, the header of a transaction names its row (R156, R160).
-/

namespace Sys2Proof

/-- The command an `nbits`-bit word spells by the table's bits: none, since no row has any. -/
def decodeTableWord (_nbits _w : Nat) : Option Instr := none

/-- The bytes of a header: the opcode and two address bytes, the more significant first (R156). -/
def Machine.headerOf (opcode : Byte) (addr : Word16) : List Byte := opcode :: Machine.be16 addr

/-- The passed time, the bytes shifted in and where it is held, for a row that is a transaction of whole bytes (R156). -/
def Instr.transaction : Instr → Option (Nat × List Byte × Option Nat)
  | .memRead dt addr n => some (dt, Machine.headerOf 0x0B addr ++ List.replicate n.whole 0, n.held)
  | .memWrite dt addr data => some (dt, Machine.headerOf 0x02 addr ++ data.whole, data.held)
  | .regRead dt reg n => some (dt, Machine.headerOf 0x0D reg ++ List.replicate n.whole 0, n.held)
  | .regWriteOther dt reg data => some (dt, Machine.headerOf 0x04 reg ++ data.whole, data.held)
  | .portSetEcho dt data => some (dt, Machine.headerOf 0x04 1 ++ data.whole, data.held)
  | .portSetAttnPolarity dt data => some (dt, Machine.headerOf 0x04 1 ++ data.whole, data.held)
  | .portSetAttnDrive dt data => some (dt, Machine.headerOf 0x04 1 ++ data.whole, data.held)
  | .misalign dt data => some (dt, Machine.headerOf 0x04 2 ++ data.whole, data.held)
  | .resetWord dt data => some (dt, Machine.headerOf 0x04 3 ++ data.whole, data.held)
  | .unknownOpcode dt bytesIn => some (dt, bytesIn.whole, bytesIn.held)
  | _ => none

/-- The row of a REG_WRITE, by its register number (R160); a write to PORT_SET is one of its three rows, which are alike
(log 19). -/
def registerWriteOf (dt : Nat) (reg : Word16) (data : List Byte) (held : Option Nat) : Instr :=
  if reg = 1 then .portSetEcho dt ⟨data, held⟩
  else if reg = 2 then .misalign dt ⟨data, held⟩
  else if reg = 3 then .resetWord dt ⟨data, held⟩
  else .regWriteOther dt reg ⟨data, held⟩

/-- The row of a transaction of whole bytes, by its opcode byte and address (R156). What SDI carries while a read shifts
out its data is not examined. -/
def transactionOf (dt : Nat) (bytesIn : List Byte) (held : Option Nat) : Instr :=
  match bytesIn with
  | opcode :: hi :: lo :: data =>
    let addr : Word16 := hi ++ lo
    if opcode = 0x0B then .memRead dt addr ⟨data.length, held⟩
    else if opcode = 0x02 then .memWrite dt addr ⟨data, held⟩
    else if opcode = 0x0D then .regRead dt addr ⟨data.length, held⟩
    else if opcode = 0x04 then registerWriteOf dt addr data held
    else .unknownOpcode dt ⟨bytesIn, held⟩
  | _ => .unknownOpcode dt ⟨bytesIn, held⟩

end Sys2Proof
end

