-- ==== Sys2Proof/Machine/LineCode.lean ====
section
/-!
DEFINITION. The coupler line (R1, R2): frames as levels of the line, one level per 0.5 µs, sent and received.
-/

namespace Sys2Proof.Machine

/-- The other driven level; the quiet level has none. -/
def Level.flip : Level → Level
  | .quiet => .quiet
  | .positive => .negative
  | .negative => .positive

/-- A cell of 1: a transition at its start and one at its middle (R1). The argument is the level before the cell. -/
def cellOne (p : Level) : List Level := [Level.flip p, p]

/-- A cell of 0: a transition at its start, the level held for the whole microsecond (R1). -/
def cellZero (p : Level) : List Level := [Level.flip p, Level.flip p]

/-- The coded cells of a list of bits and the level after them (R1). -/
def codeBits : Level → List Bool → List Level × Level
  | p, [] => ([], p)
  | p, b :: bs =>
    let cell := if b then cellOne p else cellZero p
    let after := if b then p else Level.flip p
    let rest := codeBits after bs
    (cell ++ rest.1, rest.2)

/-- The bits of a byte, most significant first (R1). -/
def byteBits (b : Byte) : List Bool :=
  [b.getLsbD 7, b.getLsbD 6, b.getLsbD 5, b.getLsbD 4, b.getLsbD 3, b.getLsbD 2, b.getLsbD 1, b.getLsbD 0]

/-- A 2 µs stretch without a transition after its start (R2; log 14). -/
def stretch (p : Level) : List Level := List.replicate 4 (Level.flip p)

/-- The levels of a frame that starts with the driven level `first`: 14 cells of 1 and a stretch, the coded bytes, a
stretch and 6 cells of 0 (R2). -/
def codeFrame (first : Level) (bytes : List Byte) : List Level :=
  let p := Level.flip first
  let start := codeBits p (List.replicate 14 true)
  let s1 := Level.flip start.2
  let body := codeBits s1 (bytes.flatMap byteBits)
  let s2 := Level.flip body.2
  start.1 ++ stretch start.2 ++ body.1 ++ stretch body.2 ++ (codeBits s2 (List.replicate 6 false)).1

/-- What the line decoder hands to the receive checks (R2). -/
inductive LineFrame
  /-- No start delimiter: not a received frame of any kind. -/
  | none
  /-- A delimiter violation after a start delimiter. -/
  | violated
  | frame (bytes : List Byte)
deriving DecidableEq, Repr

/-- Finds a start delimiter: at least 10 cells of 1, which are 20 half cells with a transition each, and then a 2 µs
stretch (R2). Answers the level of the stretch and the rest of the line. -/
def findStart : Level → Nat → List Level → Option (Level × List Level)
  | _, _, [] => none
  | prev, run, h :: rest =>
    if h ≠ .quiet ∧ h ≠ prev ∧ 20 ≤ run ∧ rest.take 3 = [h, h, h] then some (h, rest.drop 3)
    else findStart h (if h ≠ .quiet ∧ h ≠ prev then run + 1 else 0) rest

/-- After the stretch of an end delimiter: exactly 6 cells of 0 and then the quiet level (R2). -/
def endsClean (p : Level) (l : List Level) : Bool :=
  decide (l.take 12 = (codeBits p (List.replicate 6 false)).1) && decide ((l.drop 12).head? = some .quiet)

/-- Eight bits at a time, most significant first. -/
def bitsToBytes : List Bool → List Byte
  | b7 :: b6 :: b5 :: b4 :: b3 :: b2 :: b1 :: b0 :: rest =>
    byte ([b7, b6, b5, b4, b3, b2, b1, b0].foldl (fun n b => 2 * n + b.toNat) 0) :: bitsToBytes rest
  | _ => []

/-- Decodes cells into bits until an end delimiter or a violation (R2). The first argument bounds the number of cells. -/
def decodeCells : Nat → Level → List Bool → List Level → LineFrame
  | fuel + 1, p, bits, x :: y :: rest =>
    if x = .quiet ∨ y = .quiet ∨ x = p then .violated
    else if x = y ∧ rest.take 2 = [x, x] then
      if endsClean x (rest.drop 2) ∧ bits.length % 8 = 0 then .frame (bitsToBytes bits.reverse) else .violated
    else decodeCells fuel y ((x != y) :: bits) rest
  | _, _, _, _ => .violated

/-- The line decoder of a span unit (R2). It looks for one start delimiter between two quiet levels: after a violation the
rest of the activity starts no further frame (log 54). -/
def decodeLine (line : List Level) : LineFrame :=
  match findStart .quiet 0 line with
  | none => .none
  | some (p, rest) => decodeCells rest.length p [] rest

end Sys2Proof.Machine
end

