-- ==== Sys2Proof/Config.lean ====
section
/-!
DEFINITION. The values the spec leaves free. Each is an opaque constant: nothing in Lean can evaluate it, and a claim
holds whatever it is. What the car's own settings fix (R163) is state, not configuration.
-/

namespace Sys2Proof.Config

/-- The choices of an order that the spec leaves open: which block's trail event is written next (R170), which span's
report is taken first (R3), whether frames told lost or the report of the exit comes first (R40). The argument is
`State.choices`, which every choice advances (log 7, 8, 9). -/
opaque choice : Nat → Nat

/-- Whether a CALL whose census number lies exactly 32 768 places on from the context's, counted modulo 2^16 and across
the wrap, is newer: R50 does not say whether the count passes through 0 (log 10). Arguments: context's and CALL's. -/
opaque newerAtWrap : Word16 → Word16 → Bool

/-- The train-left and train-right sides shown for a record whose front end is neither A nor B: R78 gives none, and
R72 lets such a record into the image (log 11). -/
opaque trainSides : Byte → Byte × Byte

/-- The driven level a frame starts with: R1 gives "a driven level" (log 12). True is the positive level. -/
opaque firstPositive : Bool

end Sys2Proof.Config
end

