-- ==== Sys2Proof/Machine/State.lean ====
section
/-!
DEFINITION. The state of the AJ3140 as plain data: every register, queue, timer, count and published block the spec
names, the queue of waiting commands, and the state after reset.

An instant is a number of half-nanoseconds since the last reset (00 "Time base"; log 1). A timer is `none` while it is
stopped and the instant at which it runs out while it runs. Multi-field records follow the tables of the rules cited.
-/

namespace Sys2Proof.Machine

/-! ## Span units and bypass control (chapters 1 and 2) -/

/-- The states of a span (R11, 1.4). -/
inductive SpanState | off | probing | sensed | greeting | up | held
deriving DecidableEq, Repr

/-- The causes of R19. -/
inductive Cause
  | none | silence | errors | partnerChanged | partnerRestarted | hostRestart | disabled | bypassed | selfLoop | greetTimeout
deriving DecidableEq, Repr

/-- The probe classifications of R9; `none` stands for none since the last restart. -/
inductive ProbeClass | none | answered | shorted | opened | noisy | nothing
deriving DecidableEq, Repr

/-- The relay states of R3. -/
inductive RelayState | closed | opened | switching
deriving DecidableEq, Repr

/-- The thirteen known frame kinds of R25. -/
inductive FrameKind
  | hello | keepalive | call | report | table | tableAck | void | brk | order | orderAck | doorState | demand | grant
deriving DecidableEq, Repr

/-- A frame without its length and CRC, which follow from the payload (R24). -/
structure Frame where
  kind : FrameKind
  late : Bool
  conflict : Bool
  origin : Byte
  hop : Byte
  gen : Word16
  delay : Word32
  payload : List Byte
deriving DecidableEq, Repr

/-- What the offering block must know when a frame of its own completes or is lost (R35, R86, R91, R93). -/
inductive Tag
  /-- No block acts on the frame's completion or loss. -/
  | plain
  /-- The lead's ORDER with this order number (R91, R116). -/
  | leadOrder (number : Byte)
  /-- A member's forwarded ORDER: generation, order number, end of the received frame, received delay (0 if LATE), LATE (R93). -/
  | forwarded (gen : Word16) (number : Byte) (rxEnd : Nat) (delay : Nat) (late : Bool)
deriving DecidableEq, Repr

/-- A frame in a transmit queue (R32). -/
structure TxFrame where
  frame : Frame
  tag : Tag
deriving DecidableEq, Repr

/-- An accepted frame in a receive queue, with the end of its end delimiter (R30, R92). -/
structure RxFrame where
  frame : Frame
  endAt : Nat
deriving DecidableEq, Repr

/-- The partner record of an UP span (R14). -/
structure Partner where
  identity : Word32
  endCode : Byte
  kind : Byte
  gen : Word16
deriving DecidableEq, Repr

/-- What a span unit drives on its line, with the instant it began (R1, R6, R8, R36, R38). -/
inductive Drive
  | idle
  | probe (start : Nat)
  | answer (start : Nat)
  | frame (start : Nat) (bytes : List Byte)
  /-- A jam; `onFirst` says whether the level driven when the collision was found is the level frames start with, so that
  the jam's first cell begins with a transition away from it (R1, R38; log 36). -/
  | jam (start : Nat) (onFirst : Bool)
deriving DecidableEq, Repr

/-- The reasons of R27; `none` stands for none since the last reset. -/
inductive Rejection | none | delimiter | short | lengthOver | lengthMismatch | crc
deriving DecidableEq, Repr

/-- A span unit (R5 to R41). -/
structure Span where
  state : SpanState
  enable : Bool
  lastCause : Cause
  delay : Nat
  history : List Nat
  lastClass : ProbeClass
  runCount : Nat
  runRef : Nat
  restartCount : Word16
  bucket : Nat
  partner : Option Partner
  heard : Word32
  lfsr : Word16
  /-- The echo buffer fields of the span block, four entries (R23). -/
  echo : List Excursion
  probeDue : Option Nat
  /-- Leading edge of the probe whose listen window is open (R7). -/
  window : Option Nat
  /-- Leading edges of the answers still to be driven, oldest first (R8). -/
  answers : List Nat
  greetEnd : Option Nat
  helloDue : Option Nat
  silenceEnd : Option Nat
  /-- The later of the end of the last completed frame and the entry to UP (R17). -/
  idleFrom : Nat
  /-- The end of the last HELLO that completed (R16). -/
  lastHello : Option Nat
  /-- Frames waiting, oldest first; the current frame is `cur` (R32, R34). -/
  txq : List TxFrame
  cur : Option TxFrame
  attempt : Nat
  backoffEnd : Option Nat
  drive : Drive
  /-- The last instant at which the unit itself knows its line was not quiet (R36; log 24). -/
  busyUntil : Nat
  /-- The receiver has decoded nothing of what was seen before this instant: the unit drove its line with a frame, a jam or an
  answer until then, or was in OFF or HELD (R1, R27; log 71). -/
  deafUntil : Nat
  rxq : List RxFrame
  accepted : Word32
  sent : Word32
  rejDelimiter : Word16
  rejShort : Word16
  rejLengthOver : Word16
  rejLengthMismatch : Word16
  rejCrc : Word16
  unknownKind : Word16
  overruns : Word16
  drops : Word16
  collisions : Word16
  sendFails : Word16
  lastReject : Rejection
deriving DecidableEq, Repr

/-- An echo entry as the zeroed span block shows it (R23). -/
def zeroEcho : Excursion := { arrival := 0, width := 0, polarity := .same }

/-- A span unit after reset (R5, R11, R23, R29, R30, R32, R41). -/
def Span.reset : Span where
  state := .off
  enable := false
  lastCause := .none
  delay := 0
  history := []
  lastClass := .none
  runCount := 0
  runRef := 0
  restartCount := 0
  bucket := 0
  partner := none
  heard := 0
  lfsr := 1
  echo := [zeroEcho, zeroEcho, zeroEcho, zeroEcho]
  probeDue := none
  window := none
  answers := []
  greetEnd := none
  helloDue := none
  silenceEnd := none
  idleFrom := 0
  lastHello := none
  txq := []
  cur := none
  attempt := 0
  backoffEnd := none
  drive := .idle
  busyUntil := 0
  deafUntil := 0
  rxq := []
  accepted := 0
  sent := 0
  rejDelimiter := 0
  rejShort := 0
  rejLengthOver := 0
  rejLengthMismatch := 0
  rejCrc := 0
  unknownKind := 0
  overruns := 0
  drops := 0
  collisions := 0
  sendFails := 0
  lastReject := .none

/-- Bypass control (R3, R4). -/
structure Bypass where
  relay : RelayState
  /-- The BYPASS output: on means energised (R3). -/
  drive : Bool
  doneAt : Option Nat
  /-- The slot of a BYPASS or UNBYPASS that waits for the relay (R4). -/
  waiter : Option Nat
deriving DecidableEq, Repr

/-! ## Census engine and consist image (chapters 3 and 4) -/

/-- R42. -/
inductive Role | member | lead
deriving DecidableEq, Repr

/-- The seven census states of 3.1. -/
inductive CensusState | uncensused | calling | distributing | enlisted | awaitTable | valid | stale
deriving DecidableEq, Repr

/-- The census context of a member; its upstream span is the span at its front end (R42, R52). -/
structure Context where
  lead : Word32
  number : Word16
  position : Nat
  upstream : SpanId
deriving DecidableEq, Repr

/-- The last VOID taken (R62). -/
structure VoidMark where
  number : Word16
  lead : Word32
  reason : Byte
deriving DecidableEq, Repr

/-- The census engine (R42). -/
structure Census where
  role : Role
  state : CensusState
  number : Word16
  ctx : Option Context
  lastVoid : Option VoidMark
  ackForwarded : Bool
  /-- In AWAIT_TABLE: the END report was relayed, not sent by the car itself (R54). -/
  relayed : Bool
  timerEnd : Option Nat
  slot : Option Nat
  settleEnd : Option Nat
  retry : Nat
deriving DecidableEq, Repr

/-- The car record of R72. -/
structure CarRecord where
  identity : Word32
  kind : Byte
  frontEnd : Byte
  doorSides : Byte
  flags : Byte
  demand : Word16
  capacity : Word16
  frontDelay : Word16
  lastGen : Word16
deriving DecidableEq, Repr

/-- An image record of R74; its position is its place in the list. -/
structure ImageRecord where
  car : CarRecord
  left : Byte
  right : Byte
  proving : Byte
  demand : Word16
  grant : Word16
  grantAlloc : Word16
deriving DecidableEq, Repr

/-- The table the image holds: header bytes 2 to 15 and the records (R69, R74). -/
structure Table where
  own : Nat
  gen : Word16
  number : Word16
  signature : Word32
  lead : Word32
  records : List ImageRecord
deriving DecidableEq, Repr

/-! ## Wave relay (chapter 5) -/

/-- The three classes of R119. -/
inductive OrderClass | applied | notAddressed | refused
deriving DecidableEq, Repr

/-- A car's contribution to an ORDER_ACK, with the verdict codes of its sides, 0 for a side not handed the order (R119, R121).
-/
structure Contribution where
  cls : OrderClass
  late : Bool
  verdict1 : Byte
  verdict2 : Byte
deriving DecidableEq, Repr

/-- The open order of a member (R81, R86). -/
structure OpenOrder where
  gen : Word16
  number : Byte
  own : Contribution
  ackEnd : Nat
deriving DecidableEq, Repr

/-- The roll watch of one kind (R81, R89, R90). -/
structure RollWatch where
  /-- When the last roll of the kind was taken from downstream. -/
  lastRoll : Option Nat
  /-- The origination timer. -/
  dueAt : Option Nat
  /-- Origination is substitute origination. -/
  substitute : Bool
  /-- The moment the three periods of R90 are counted from. -/
  watchFrom : Nat
deriving DecidableEq, Repr

/-- The wave relay (R81). -/
structure Relay where
  openOrder : Option OpenOrder
  lastOrder : Option (Word16 × Byte)
  lastGrant : Option (Word16 × Word16)
  doorWatch : RollWatch
  demandWatch : RollWatch
  /-- End-car status at the last review, `none` while the relay does not act (R84; log 40). -/
  endCar : Option Bool
deriving DecidableEq, Repr

/-! ## Door unit (chapters 6 and 7) -/

/-- R96. -/
inductive DoorState | absent | closed | released | closing | unlocked | isolated | fault
deriving DecidableEq, Repr

/-- The three fault causes of R101, as one status of each. -/
structure Causes where
  mismatch : Bool
  closeTimeout : Bool
  lockLost : Bool
deriving DecidableEq, Repr

/-- R103, R115. -/
inductive Action | release | withdraw | close
deriving DecidableEq, Repr

/-- The verdicts of R103. -/
inductive Verdict | taken | notAddressed | refusedFault | refusedStale | refusedAux
deriving DecidableEq, Repr

/-- The skip reasons of R105. -/
inductive Skip | census | generation | sideState | auxLow | discarded
deriving DecidableEq, Repr

/-- A door order as a side holds it (R104). -/
structure PendingOrder where
  action : Action
  number : Byte
  lease : Byte
  gen : Word16
  applyAt : Nat
  late : Bool
deriving DecidableEq, Repr

/-- A door-side channel (R95). -/
structure Side where
  state : DoorState
  lock : Bool
  /-- Consecutive samples that differ from the debounced level, 0 to 50 (R97). -/
  lockRun : Nat
  mismatch : Nat
  live : Causes
  stored : Causes
  masked : Causes
  pend : Option PendingOrder
  leaseEnd : Option Nat
  closeEnd : Option Nat
  lastVerdict : Option Verdict
  lastAction : Option Action
  lastSkip : Option Skip
  /-- The level of the release output (R98). -/
  relHigh : Bool
  /-- The start of the generator's current half-period (R98). -/
  halfStart : Nat
  /-- The feedback input was sampled in this half-period (R99). -/
  sampled : Bool
deriving DecidableEq, Repr

/-- A train door order: the payload of R117. -/
structure Order where
  number : Byte
  action : Action
  trainSide : Byte
  first : Byte
  last : Byte
  lease : Byte
deriving DecidableEq, Repr

/-- An ORDER_ACK as it arrives: payload and origin position (R120). -/
structure OrderAck where
  number : Byte
  reached : Byte
  applied : Byte
  notAddressed : Byte
  refused : Byte
  late : Byte
  firstRefused : Byte
  stop : Byte
  origin : Byte
deriving DecidableEq, Repr

/-- The outstanding order of the lead (R114). -/
structure Outstanding where
  slot : Nat
  order : Order
  d0 : Nat
  gen : Word16
  /-- n of the image when the request was taken (R121). -/
  n : Nat
  own : Option Contribution
  /-- An ORDER_ACK that arrived before the own contribution was formed (R121). -/
  waiting : Option OrderAck
deriving DecidableEq, Repr

/-- An order in flight: what the lead hands its own sides when the span reports (R114, R116). -/
structure Flight where
  order : Order
  d0 : Nat
  gen : Word16
deriving DecidableEq, Repr

/-- The held DOOR_STATE roll of the lead (R114). -/
structure HeldRoll where
  contributors : Nat
  left : Bool
  right : Bool
  firstUnproven : Byte
  origin : Byte
  gen : Word16
deriving DecidableEq, Repr

/-- The train door summary with the fields of R127 it fixes. -/
structure Summary where
  left : Bool
  right : Bool
  leftReason : Byte
  rightReason : Byte
  firstUnproven : Byte
  contributors : Byte
  n : Byte
deriving DecidableEq, Repr

/-- The last completed order: number, outcome code and result bytes 1 to 8 (R127). -/
structure LastDone where
  number : Byte
  outcome : Byte
  counts : List Byte
deriving DecidableEq, Repr

/-- The door unit (R95, R114). -/
structure Door where
  side1 : Side
  side2 : Side
  lastNumber : Byte
  outstanding : Option Outstanding
  ackEnd : Option Nat
  inFlight : List Flight
  held : Option HeldRoll
  rollAgeEnd : Option Nat
  aged : Bool
  summary : Summary
  lastDone : LastDone
deriving DecidableEq, Repr

/-! ## Heating share, firing and line monitor (chapters 8 and 9) -/

/-- One value for each of the four heater stages. -/
structure Stages (α : Type) where
  s0 : α
  s1 : α
  s2 : α
  s3 : α
deriving DecidableEq, Repr

/-- R129. -/
inductive DemandSource | none | request | standby
deriving DecidableEq, Repr

/-- R141. -/
inductive CapState | stopped | granted | fallback | faulted
deriving DecidableEq, Repr

/-- The last grant of R129. -/
structure Grant where
  value : Nat
  gen : Word16
  alloc : Word16
deriving DecidableEq, Repr

/-- The supply record of R135. -/
structure Supply where
  on : Bool
  limit : Nat
  shed : Nat
  cut : Nat
deriving DecidableEq, Repr

/-- One position's share in an allocation: position, clamped demand and grant (R138, R142). -/
structure Share where
  position : Nat
  demand : Nat
  grant : Nat
deriving DecidableEq, Repr

/-- The allocation fields of the heating board, bytes 40 to 191 (R142). -/
structure AllocRecord where
  lineV : Nat
  leff : Nat
  number : Word16
  level : Nat
  sumDemand : Nat
  sumGrant : Nat
  remainder : Nat
  shares : List Share
deriving DecidableEq, Repr

/-- The heating share unit (R129). -/
structure Heat where
  source : DemandSource
  onTimes : Stages Nat
  leaseEnd : Option Nat
  cap : CapState
  lastGrant : Grant
  holdEnd : Option Nat
  supply : Supply
  allocNumber : Word16
  /-- The entries of the last DEMAND roll taken: position and demand (R137). -/
  allocList : List (Nat × Nat)
  allocEnd : Option Nat
  lastAlloc : AllocRecord
deriving DecidableEq, Repr

/-- R151, byte 218. -/
inductive Judgement | none | within | overdraw | notJudged
deriving DecidableEq, Repr

/-- The firing unit (R145, R147, R149, R151). -/
structure Fire where
  /-- The instant the current period started, `none` while the period timer is stopped. -/
  periodStart : Option Nat
  count : Word32
  scaled : Stages Nat
  phases : Stages Nat
  /-- The instants at which windows of this period are still to begin (R147). -/
  starts : Stages (Option Nat)
  /-- The instants at which the open windows end; a stage output is on while its window is open (R147). -/
  ends : Stages (Option Nat)
  cap : Nat
  demand : Nat
  position : Nat
  expected : Nat
  sum : Nat
  readings : Nat
  overdraw : Nat
  lastExpected : Nat
  lastMeasured : Nat
  lastReadings : Nat
  lastJudgement : Judgement
  cut : Bool
deriving DecidableEq, Repr

/-- One converter channel (R152). -/
structure Channel where
  code : Nat
  reading : Nat
  completions : Word32
  /-- The instant of the last raw sample of the block in progress. -/
  nextDue : Nat
deriving DecidableEq, Repr

/-- The line monitor (R152, R153). -/
structure Monitor where
  running : Bool
  lineV : Channel
  carI : Channel
  auxV : Channel
  auxLow : Bool
  lowEnd : Option Nat
  returnEnd : Option Nat
  auxStamp : Word32
deriving DecidableEq, Repr

/-! ## Exchange memory, port, requests, tallies and trail (chapters 10 and 11) -/

/-- The settings of R163. -/
structure Settings where
  identity : Word32
  kind : Nat
  cabEnd : Nat
  doorSides : Nat
  releaseFrequency : Nat
  closeTimeout : Nat
  closeOnFault : Nat
  mask1 : Byte
  mask2 : Byte
  ratings : Stages Nat
  standby : Stages Nat
  ceiling : Nat
  averaging : Nat
  probeRepeat : Nat
  lineFull : Nat
  carFull : Nat
  auxFull : Nat
  auxThreshold : Nat
  longSpan : Nat
  autoCensus : Nat
  spanEnables : Byte
deriving DecidableEq, Repr

/-- R161, byte 1. -/
inductive ResetCause | powerOn | portReset
deriving DecidableEq, Repr

/-- The port notes of R159. -/
structure Notes where
  ownedWrite : Bool
  slotGuard : Bool
  overlength : Bool
  badRelease : Bool
deriving DecidableEq, Repr

/-- A serial transaction under way: the bytes shifted in since CSN fell, and whether it fell in the millisecond in which
the port ignores transactions (R156, R162). The bytes hold the header and the gather buffer of R157 (log 20). -/
structure Transfer where
  bytesIn : List Byte
  ignored : Bool
deriving DecidableEq, Repr

/-- The serial port (R156 to R162). -/
structure Port where
  running : Bool
  resetCause : ResetCause
  notes : Notes
  misalign : Nat
  setting : Byte
  /-- The transaction under way, `none` while CSN is high. -/
  transfer : Option Transfer
  /-- The bytes shifted out on SDO since CSN last fell (log 35). -/
  sdo : List Byte
deriving DecidableEq, Repr

/-- The request kinds of R168. -/
inductive RequestKind
  | configure | spanControl | takeLead | dropLead | censusStart | doorOrder | doorLocal | heatDemand | heatSupply | faultClear
deriving DecidableEq, Repr

/-- The copy a take hands to the owning block (R167). -/
structure Request where
  slot : Nat
  kind : RequestKind
  params : List Byte
deriving DecidableEq, Repr

/-- The request unit (R167). -/
structure Requests where
  queue : List Nat
  handed : List Request
deriving DecidableEq, Repr

/-- The six tallies of R169. -/
structure Tallies where
  slot : Word16
  consist : Word16
  door : Word16
  heat : Word16
  trail : Word16
  fault : Word16
deriving DecidableEq, Repr

/-- The trail writer (R170). -/
structure Trail where
  oldest : Word32
  next : Word32
  gap : Nat
deriving DecidableEq, Repr

/-- A trail event as a block hands it to the trail writer (R170). -/
structure Event where
  kind : Byte
  source : Byte
  position : Byte
  detail : Byte
  value : Word32
deriving DecidableEq, Repr

/-- An event of the step in progress, with the group whose events keep their order among themselves (R170; log 7). -/
structure Raised where
  group : Nat
  event : Event
deriving DecidableEq, Repr

/-- The blocks the device publishes by rewrites: their bytes without the counter, and the counters (R70, R112, R143, R154). -/
structure Published where
  image : List Byte
  imageCounter : Word32
  door : List Byte
  doorCounter : Word32
  /-- Heating board bytes 4 to 191. -/
  heat : List Byte
  /-- Heating board bytes 192 to 255. -/
  fire : List Byte
  heatCounter : Word32
  readings : List Byte
  readingsCounter : Word32
deriving DecidableEq, Repr

/-- The port-written areas, the request slots and the trail, as (address, byte) pairs: addresses strictly rising, no
byte 0 listed, since every byte reads 0 until it is written (R155). -/
abbrev Memory := List Host.Cell

/-- The AJ3140. -/
structure State where
  now : Nat
  tickDue : Nat
  msCount : Word32
  choices : Nat
  raised : List Raised
  pending : List Instr
  mem : Memory
  pub : Published
  port : Port
  settings : Settings
  req : Requests
  tallies : Tallies
  trail : Trail
  bypass : Bypass
  spanA : Span
  spanB : Span
  census : Census
  table : Table
  relay : Relay
  door : Door
  heat : Heat
  fire : Fire
  mon : Monitor
deriving DecidableEq, Repr

/-! ## After reset -/

def Causes.none : Causes := { mismatch := false, closeTimeout := false, lockLost := false }

/-- A channel after reset (R95). -/
def Side.reset : Side where
  state := .absent
  lock := false
  lockRun := 0
  mismatch := 0
  live := Causes.none
  stored := Causes.none
  masked := Causes.none
  pend := none
  leaseEnd := none
  closeEnd := none
  lastVerdict := none
  lastAction := none
  lastSkip := none
  relHigh := false
  halfStart := 0
  sampled := false

def RollWatch.stopped : RollWatch := { lastRoll := none, dueAt := none, substitute := false, watchFrom := 0 }

/-- The wave relay after reset, and whenever the census state is neither VALID nor STALE (R81). -/
def Relay.empty : Relay where
  openOrder := none
  lastOrder := none
  lastGrant := none
  doorWatch := RollWatch.stopped
  demandWatch := RollWatch.stopped
  endCar := none

/-- The train door summary of a car that is not lead (R114, R127). -/
def Summary.zero : Summary where
  left := false
  right := false
  leftReason := 0
  rightReason := 0
  firstUnproven := 0
  contributors := 0
  n := 0

/-- The allocation fields before an allocation, and at a member (R142). -/
def AllocRecord.zero : AllocRecord where
  lineV := 0
  leff := 0
  number := 0
  level := 0
  sumDemand := 0
  sumGrant := 0
  remainder := 0
  shares := []

def Stages.all {α : Type} (x : α) : Stages α := { s0 := x, s1 := x, s2 := x, s3 := x }

def Settings.zero : Settings where
  identity := 0
  kind := 0
  cabEnd := 0
  doorSides := 0
  releaseFrequency := 0
  closeTimeout := 0
  closeOnFault := 0
  mask1 := 0
  mask2 := 0
  ratings := Stages.all 0
  standby := Stages.all 0
  ceiling := 0
  averaging := 0
  probeRepeat := 0
  lineFull := 0
  carFull := 0
  auxFull := 0
  auxThreshold := 0
  longSpan := 0
  autoCensus := 0
  spanEnables := 0

def Notes.clear : Notes := { ownedWrite := false, slotGuard := false, overlength := false, badRelease := false }

def Channel.zero : Channel := { code := 0, reading := 0, completions := 0, nextDue := 0 }

/-- The census engine after reset (R42). -/
def Census.reset : Census where
  role := .member
  state := .uncensused
  number := 0
  ctx := none
  lastVoid := none
  ackForwarded := false
  relayed := false
  timerEnd := none
  slot := none
  settleEnd := none
  retry := 0

/-- The door unit after reset (R95, R114). -/
def Door.reset : Door where
  side1 := Side.reset
  side2 := Side.reset
  lastNumber := 0
  outstanding := none
  ackEnd := none
  inFlight := []
  held := none
  rollAgeEnd := none
  aged := false
  summary := Summary.zero
  lastDone := { number := 0, outcome := 0, counts := List.replicate 8 0 }

/-- The heating share unit after reset (R129). -/
def Heat.reset : Heat where
  source := .none
  onTimes := Stages.all 0
  leaseEnd := none
  cap := .stopped
  lastGrant := { value := 0, gen := 0, alloc := 0 }
  holdEnd := none
  supply := { on := false, limit := 0, shed := 0, cut := 0 }
  allocNumber := 0
  allocList := []
  allocEnd := none
  lastAlloc := AllocRecord.zero

/-- The firing unit after reset (R145). -/
def Fire.reset : Fire where
  periodStart := none
  count := 0
  scaled := Stages.all 0
  phases := Stages.all 0
  starts := Stages.all none
  ends := Stages.all none
  cap := 0
  demand := 0
  position := 0
  expected := 0
  sum := 0
  readings := 0
  overdraw := 0
  lastExpected := 0
  lastMeasured := 0
  lastReadings := 0
  lastJudgement := .none
  cut := false

/-- The line monitor after reset (R152, R153). -/
def Monitor.reset : Monitor where
  running := false
  lineV := Channel.zero
  carI := Channel.zero
  auxV := Channel.zero
  auxLow := false
  lowEnd := none
  returnEnd := none
  auxStamp := 0

/-- The published blocks after reset: all zero (R68, R111, R142, R151, R154). -/
def Published.reset : Published where
  image := List.replicate 1052 0
  imageCounter := 0
  door := List.replicate 124 0
  doorCounter := 0
  heat := List.replicate 188 0
  fire := List.replicate 64 0
  heatCounter := 0
  readings := List.replicate 60 0
  readingsCounter := 0

/-- The device right after power-on or the rise of RESETN (R162), with an empty command queue. -/
def State.reset : State where
  now := 0
  tickDue := 2000000
  msCount := 0
  choices := 0
  raised := []
  pending := []
  mem := []
  pub := Published.reset
  port :=
    { running := false, resetCause := .powerOn, notes := Notes.clear, misalign := 0, setting := 0, transfer := none, sdo := [] }
  settings := Settings.zero
  req := { queue := [], handed := [] }
  tallies := { slot := 0, consist := 0, door := 0, heat := 0, trail := 0, fault := 0 }
  trail := { oldest := 1, next := 1, gap := 0 }
  bypass := { relay := .closed, drive := false, doneAt := none, waiter := none }
  spanA := Span.reset
  spanB := Span.reset
  census := Census.reset
  table := { own := 0, gen := 0, number := 0, signature := 0, lead := 0, records := [] }
  relay := Relay.empty
  door := Door.reset
  heat := Heat.reset
  fire := Fire.reset
  mon := Monitor.reset

/-! ## Outcomes -/

/-- The reasons a step can stop. There are none: the spec gives every command an effect in every state, or gives it no
occasion to arise, and then only time passes (log 2). -/
inductive Fault
deriving DecidableEq, Repr

/-- The reasons a command has no meaning. -/
inductive Refusal
  /-- Raised by a refused arm of `exec`, for a row that has no meaning yet; no arm raises it. Safe: nothing can be proved
  of the command but that it is refused. -/
  | notModelled (mnemonic : String)
deriving DecidableEq, Repr

/-- What a command or a step answers. -/
abbrev Result := Host.Outcome State Fault Refusal

end Sys2Proof.Machine
end

