-- ==== Sys2Proof/Machine/Frames.lean ====
section
/-!
DEFINITION. The outer form of a frame (R24 to R26) and the receive checks (R27).
-/

namespace Sys2Proof.Machine

/-- The frame kind codes of R25. -/
def FrameKind.code : FrameKind → Byte
  | .hello => 1
  | .keepalive => 2
  | .call => 3
  | .report => 4
  | .table => 5
  | .tableAck => 6
  | .void => 7
  | .brk => 8
  | .order => 9
  | .orderAck => 10
  | .doorState => 11
  | .demand => 12
  | .grant => 13

/-- The kind of a code; codes 0 and 14 to 255 are unknown (R25). -/
def frameKindOf (code : Byte) : Option FrameKind :=
  [FrameKind.hello, .keepalive, .call, .report, .table, .tableAck, .void, .brk, .order, .orderAck, .doorState,
    .demand, .grant].find? (fun k => k.code == code)

/-- The transmit class of a kind (R25). -/
def FrameKind.txClass : FrameKind → Nat
  | .hello => 3
  | .keepalive => 3
  | .call => 1
  | .report => 1
  | .table => 1
  | .tableAck => 1
  | .void => 1
  | .brk => 1
  | .order => 0
  | .orderAck => 0
  | .doorState => 0
  | .demand => 2
  | .grant => 2

/-- The block that takes a kind from the receive queue (R25). -/
inductive Consumer | spanUnit | census | relay
deriving DecidableEq, Repr

/-- The consumer of a kind (R25). -/
def FrameKind.consumer : FrameKind → Consumer
  | .hello => .spanUnit
  | .keepalive => .spanUnit
  | .call => .census
  | .report => .census
  | .table => .census
  | .tableAck => .census
  | .void => .census
  | .brk => .census
  | .order => .relay
  | .orderAck => .relay
  | .doorState => .relay
  | .demand => .relay
  | .grant => .relay

/-- The flags byte: bit 0 LATE, bit 1 CONFLICT, the rest sent as 0 (R24). -/
def Frame.flagsByte (f : Frame) : Byte := byte (f.late.toNat + 2 * f.conflict.toNat)

/-- Header and payload in the order they are sent (R24). -/
def Frame.body (f : Frame) : List Byte :=
  [f.kind.code, f.flagsByte, f.origin, f.hop] ++ be16 f.gen ++ be32 f.delay ++ be16 (word16 f.payload.length) ++ f.payload

/-- The bytes of a frame on the line, CRC included (R24, R26). -/
def Frame.encode (f : Frame) : List Byte := f.body ++ be16 (crc16 f.body)

/-- The line time of a frame, 136 + 8 × L µs, in half-nanoseconds, from its bytes (R2). -/
def lineTime (bytes : List Byte) : Nat := (24 + 8 * bytes.length) * 2000

/-- The receive checks in order; `none` when the frame passes (R27). -/
def rejection (bytes : List Byte) : Option Rejection :=
  if bytes.length < 14 then some .short
  else if 544 < (getBe16 bytes 10).toNat then some .lengthOver
  else if (getBe16 bytes 10).toNat ≠ bytes.length - 14 then some .lengthMismatch
  else if crc16 (bytes.take (bytes.length - 2)) ≠ getBe16 bytes (bytes.length - 2) then some .crc
  else none

/-- The frame of bytes that passed the checks, `none` for an unknown kind; flag bits 2 to 7 are ignored (R24, R28). -/
def parseFrame (bytes : List Byte) : Option Frame :=
  (frameKindOf (byteAt bytes 0)).map fun kind =>
    { kind
      late := (byteAt bytes 1).getLsbD 0
      conflict := (byteAt bytes 1).getLsbD 1
      origin := byteAt bytes 2
      hop := byteAt bytes 3
      gen := getBe16 bytes 4
      delay := getBe32 bytes 6
      payload := (bytes.take (bytes.length - 2)).drop 12 }

end Sys2Proof.Machine
end

