-- ==== Sys2Proof/Machine/Operands.lean ====
section
/-!
DEFINITION. The operands of the commands: frame payloads with their validity rules, car records, settings and request
parameters, each laid out as its owning chapter gives.
-/

namespace Sys2Proof.Machine

/-! ## Codes -/

/-- The end of a span: 1 A, 2 B (R15, R69). -/
def endCode : SpanId → Byte
  | .a => 1
  | .b => 2

/-- The span at an end, by its code. -/
def spanOfEnd (code : Byte) : Option SpanId :=
  if code = 1 then some .a else if code = 2 then some .b else none

/-- The span at the other end of the car. -/
def otherSpan : SpanId → SpanId
  | .a => .b
  | .b => .a

/-- R19. -/
def Cause.code : Cause → Byte
  | .none => 0
  | .silence => 1
  | .errors => 2
  | .partnerChanged => 3
  | .partnerRestarted => 4
  | .hostRestart => 5
  | .disabled => 6
  | .bypassed => 7
  | .selfLoop => 8
  | .greetTimeout => 9

/-- The cause code of a span that came UP, JOINED (R48). -/
def joinedCode : Byte := 10

/-- R103, R105. -/
def Action.code : Action → Byte
  | .release => 1
  | .withdraw => 2
  | .close => 3

def actionOf (code : Byte) : Option Action :=
  if code = 1 then some .release else if code = 2 then some .withdraw else if code = 3 then some .close else none

/-- R69, byte 0. -/
def CensusState.code : CensusState → Byte
  | .uncensused => 0
  | .calling => 1
  | .distributing => 2
  | .enlisted => 3
  | .awaitTable => 4
  | .valid => 5
  | .stale => 6

/-- The answers of a REPORT (R48). -/
inductive Answer | ended | conflict | tooLong | silent
deriving DecidableEq, Repr

def Answer.code : Answer → Byte
  | .ended => 1
  | .conflict => 2
  | .tooLong => 3
  | .silent => 4

def answerOf (code : Byte) : Option Answer :=
  [Answer.ended, .conflict, .tooLong, .silent].find? (fun a => a.code == code)

/-- The reasons of R59. -/
inductive FailReason
  | leadNotAtEnd | leadConflict | tooManyCars | downstreamSilent | duplicateIdentity | tableRefused | ackTimeout
  | spanLost | leadDropped | cut
deriving DecidableEq, Repr

def FailReason.code : FailReason → Byte
  | .leadNotAtEnd => 1
  | .leadConflict => 2
  | .tooManyCars => 3
  | .downstreamSilent => 4
  | .duplicateIdentity => 5
  | .tableRefused => 6
  | .ackTimeout => 7
  | .spanLost => 8
  | .leadDropped => 9
  | .cut => 10

/-- The stop reasons of R85. -/
inductive StopReason | ended | spanEnd | generation | forwardLost | noAck
deriving DecidableEq, Repr

def StopReason.code : StopReason → Byte
  | .ended => 1
  | .spanEnd => 2
  | .generation => 3
  | .forwardLost => 4
  | .noAck => 5

/-- 0 and 0xFFFFFFFF are invalid as identities (00 "Car identity"). -/
def badIdentity (w : Word32) : Bool := w == 0 || w == 0xFFFFFFFF

/-! ## HELLO and KEEPALIVE (R15) -/

structure HelloMsg where
  identity : Word32
  endCode : Byte
  kind : Byte
  gen : Word16
  heard : Word32
deriving DecidableEq, Repr

/-- A valid HELLO's fields, `none` for an invalid one (R15). -/
def parseHello (f : Frame) : Option HelloMsg :=
  let m : HelloMsg :=
    { identity := getBe32 f.payload 0, endCode := byteAt f.payload 4, kind := byteAt f.payload 5,
      gen := getBe16 f.payload 6, heard := getBe32 f.payload 8 }
  if f.payload.length = 12 ∧ badIdentity m.identity = false ∧ (m.endCode = 1 ∨ m.endCode = 2) ∧
      (m.kind = 1 ∨ m.kind = 2) ∧ m.heard ≠ 0xFFFFFFFF then some m else none

/-- A valid KEEPALIVE's identity and generation (R15). -/
def parseKeepalive (f : Frame) : Option (Word32 × Word16) :=
  if f.payload.length = 6 ∧ badIdentity (getBe32 f.payload 0) = false then
    some (getBe32 f.payload 0, getBe16 f.payload 4) else none

def helloPayload (m : HelloMsg) : List Byte := be32 m.identity ++ [m.endCode, m.kind] ++ be16 m.gen ++ be32 m.heard

def keepalivePayload (identity : Word32) (gen : Word16) : List Byte := be32 identity ++ be16 gen

/-! ## Car records (R72) -/

/-- The 16 bytes of a car record as frames and the signature carry them (R72). -/
def CarRecord.encode (r : CarRecord) : List Byte :=
  be32 r.identity ++ [r.kind, r.frontEnd, r.doorSides, r.flags] ++ be16 r.demand ++ be16 r.capacity ++
    be16 r.frontDelay ++ be16 r.lastGen

def parseRecord (l : List Byte) : CarRecord :=
  { identity := getBe32 l 0, kind := byteAt l 4, frontEnd := byteAt l 5, doorSides := byteAt l 6, flags := byteAt l 7,
    demand := getBe16 l 8, capacity := getBe16 l 10, frontDelay := getBe16 l 12, lastGen := getBe16 l 14 }

/-- `k` records of 16 bytes each. -/
def parseRecords : Nat → List Byte → List CarRecord
  | 0, _ => []
  | k + 1, l => parseRecord (l.take 16) :: parseRecords k (l.drop 16)

/-- The signature of a list of records in position order (R55). -/
def signature (rs : List CarRecord) : Word32 := crc32 (rs.flatMap CarRecord.encode)

/-! ## Census frames (R48) -/

structure CallMsg where
  number : Word16
  lead : Word32
  hop : Nat
deriving DecidableEq, Repr

def parseCall (f : Frame) : Option CallMsg :=
  let lead := getBe32 f.payload 2
  if f.payload.length = 6 ∧ badIdentity lead = false ∧ 1 ≤ f.hop.toNat ∧ f.hop.toNat ≤ 31 then
    some { number := getBe16 f.payload 0, lead, hop := f.hop.toNat } else none

def callPayload (number : Word16) (lead : Word32) : List Byte := be16 number ++ be32 lead

structure ReportMsg where
  number : Word16
  lead : Word32
  answer : Answer
  records : List CarRecord
  origin : Byte
deriving DecidableEq, Repr

/-- A valid REPORT: the CONFLICT flag is set exactly when the answer is CONFLICT; at most 31 records (R48, R54). -/
def parseReport (f : Frame) : Option ReportMsg :=
  let lead := getBe32 f.payload 2
  let k := (byteAt f.payload 7).toNat
  match answerOf (byteAt f.payload 6) with
  | none => none
  | some answer =>
    if f.payload.length = 8 + 16 * k ∧ k ≤ 31 ∧ badIdentity lead = false ∧ (f.conflict = true ↔ answer = .conflict) then
      some { number := getBe16 f.payload 0, lead, answer, records := parseRecords k (f.payload.drop 8), origin := f.origin }
    else none

def reportPayload (number : Word16) (lead : Word32) (answer : Answer) (records : List CarRecord) : List Byte :=
  be16 number ++ be32 lead ++ [answer.code, byte records.length] ++ records.flatMap CarRecord.encode

structure TableMsg where
  number : Word16
  lead : Word32
  gen : Word16
  signature : Word32
  records : List CarRecord
deriving DecidableEq, Repr

/-- A valid TABLE, of 2 to 32 cars (R48; log 28). -/
def parseTable (f : Frame) : Option TableMsg :=
  let lead := getBe32 f.payload 2
  let n := (byteAt f.payload 6).toNat
  if f.payload.length = 12 + 16 * n ∧ 2 ≤ n ∧ n ≤ 32 ∧ badIdentity lead = false then
    some { number := getBe16 f.payload 0, lead, gen := f.gen, signature := getBe32 f.payload 8,
           records := parseRecords n (f.payload.drop 12) }
  else none

def tablePayload (number : Word16) (lead : Word32) (sig : Word32) (records : List CarRecord) : List Byte :=
  be16 number ++ be32 lead ++ [byte records.length, 0] ++ be32 sig ++ records.flatMap CarRecord.encode

structure TableAckMsg where
  number : Word16
  lead : Word32
  acks : Byte
  refusals : Byte
  first : Byte
  origin : Byte
deriving DecidableEq, Repr

def parseTableAck (f : Frame) : Option TableAckMsg :=
  let lead := getBe32 f.payload 2
  if f.payload.length = 10 ∧ badIdentity lead = false then
    some { number := getBe16 f.payload 0, lead, acks := byteAt f.payload 6, refusals := byteAt f.payload 7,
           first := byteAt f.payload 8, origin := f.origin }
  else none

def tableAckPayload (number : Word16) (lead : Word32) (acks refusals first : Byte) : List Byte :=
  be16 number ++ be32 lead ++ [acks, refusals, first, 0]

/-- A valid VOID; its reason is one of R59 (R48). -/
def parseVoid (f : Frame) : Option VoidMark :=
  let lead := getBe32 f.payload 2
  let reason := byteAt f.payload 6
  if f.payload.length = 8 ∧ badIdentity lead = false ∧ 1 ≤ reason.toNat ∧ reason.toNat ≤ 10 then
    some { number := getBe16 f.payload 0, lead, reason } else none

def voidPayload (number : Word16) (lead : Word32) (reason : Byte) : List Byte := be16 number ++ be32 lead ++ [reason, 0]

structure BreakMsg where
  number : Word16
  lead : Word32
  position : Byte
  lostEnd : Byte
  cause : Byte
deriving DecidableEq, Repr

/-- A valid BREAK; its cause is one a lost span can have, 1 to 8, or JOINED (R21, R48; log 28). -/
def parseBreak (f : Frame) : Option BreakMsg :=
  let lead := getBe32 f.payload 2
  let lostEnd := byteAt f.payload 7
  let cause := byteAt f.payload 8
  if f.payload.length = 10 ∧ badIdentity lead = false ∧ (lostEnd = 1 ∨ lostEnd = 2) ∧
      ((1 ≤ cause.toNat ∧ cause.toNat ≤ 8) ∨ cause = joinedCode) then
    some { number := getBe16 f.payload 0, lead, position := byteAt f.payload 6, lostEnd, cause } else none

def breakPayload (m : BreakMsg) : List Byte := be16 m.number ++ be32 m.lead ++ [m.position, m.lostEnd, m.cause, 0]

/-! ## Wave frames (R117, R120, R123, R133, R139) -/

/-- A valid ORDER (R92, R117). -/
def parseOrder (f : Frame) : Option Order :=
  let p := f.payload
  match actionOf (byteAt p 1) with
  | none => none
  | some action =>
    if p.length = 6 ∧ byteAt p 0 ≠ 0 ∧ 1 ≤ (byteAt p 2).toNat ∧ (byteAt p 2).toNat ≤ 3 ∧ 1 ≤ (byteAt p 3).toNat ∧
        (byteAt p 3).toNat ≤ 32 ∧ (byteAt p 3).toNat ≤ (byteAt p 4).toNat ∧ (byteAt p 4).toNat ≤ 32 ∧
        (byteAt p 5).toNat ≤ 3 ∧ (f.delay.toNat ≤ 20000000 ∨ f.late = true) then
      some { number := byteAt p 0, action, trainSide := byteAt p 2, first := byteAt p 3, last := byteAt p 4,
             lease := byteAt p 5 }
    else none

def orderPayload (o : Order) : List Byte := [o.number, o.action.code, o.trainSide, o.first, o.last, o.lease]

/-- A valid ORDER_ACK (R120). The conditions do not name the range of the counts: those above 31 are taken (log 66). -/
def parseOrderAck (f : Frame) : Option OrderAck :=
  let p := f.payload
  let m : OrderAck :=
    { number := byteAt p 0, reached := byteAt p 1, applied := byteAt p 2, notAddressed := byteAt p 3,
      refused := byteAt p 4, late := byteAt p 5, firstRefused := byteAt p 6, stop := byteAt p 7, origin := f.origin }
  if p.length = 8 ∧ m.number ≠ 0 ∧ m.reached.toNat = m.applied.toNat + m.notAddressed.toNat + m.refused.toNat ∧
      m.late.toNat ≤ m.reached.toNat ∧ (m.firstRefused = 0 ↔ m.refused = 0) ∧ 1 ≤ m.stop.toNat ∧ m.stop.toNat ≤ 5 then
    some m else none

def orderAckPayload (m : OrderAck) : List Byte :=
  [m.number, m.reached, m.applied, m.notAddressed, m.refused, m.late, m.firstRefused, m.stop]

/-- A valid DOOR_STATE roll (R123): one of no contributor is discarded, one of more than 31 is taken (log 62). -/
def parseDoorState (f : Frame) : Option HeldRoll :=
  let p := f.payload
  let first := byteAt p 3
  if p.length = 4 ∧ (byteAt p 0).toNat + f.hop.toNat = f.origin.toNat + 1 ∧ 1 ≤ (byteAt p 0).toNat ∧
      (byteAt p 1).toNat ≤ 1 ∧ (byteAt p 2).toNat ≤ 1 ∧
      (first = 0 ∨ (f.hop.toNat ≤ first.toNat ∧ first.toNat ≤ f.origin.toNat)) ∧
      (first = 0 ↔ (byteAt p 1 = 1 ∧ byteAt p 2 = 1)) then
    some { contributors := (byteAt p 0).toNat, left := byteAt p 1 == 1, right := byteAt p 2 == 1, firstUnproven := first,
           origin := f.origin, gen := f.gen }
  else none

def doorStatePayload (contributors : Nat) (left right : Bool) (first : Byte) : List Byte :=
  [byte contributors, boolByte left, boolByte right, first]

/-- `m` entries of a DEMAND roll: position and demand (R133). -/
def parseEntries : Nat → List Byte → List (Nat × Nat)
  | 0, _ => []
  | m + 1, l => ((byteAt l 0).toNat, (getBe16 l 2).toNat) :: parseEntries m (l.drop 4)

/-- Entry i carries position origin − i (R133). -/
def entriesDescend : Nat → List (Nat × Nat) → Bool
  | _, [] => true
  | origin, e :: rest => decide (e.1 = origin) && entriesDescend (origin - 1) rest

/-- A valid DEMAND roll's entries (R133): one of no entry is discarded, one of more than 31 is taken (log 62). -/
def parseDemand (f : Frame) : Option (List (Nat × Nat)) :=
  let m := (byteAt f.payload 0).toNat
  let es := parseEntries m (f.payload.drop 2)
  if f.payload.length = 2 + 4 * m ∧ 1 ≤ m ∧ m + f.hop.toNat = f.origin.toNat + 1 ∧
      entriesDescend f.origin.toNat es = true then some es else none

def demandPayload (es : List (Nat × Nat)) : List Byte :=
  [byte es.length, 0] ++ es.flatMap (fun e => [byte e.1, 0] ++ be16 (word16 e.2))

structure GrantMsg where
  alloc : Word16
  grants : List Nat
deriving DecidableEq, Repr

def parseGrants : Nat → List Byte → List Nat
  | 0, _ => []
  | n + 1, l => (getBe16 l 0).toNat :: parseGrants n (l.drop 2)

/-- A valid GRANT for a car whose image lists `n` cars (R139). -/
def parseGrant (f : Frame) (n : Nat) : Option GrantMsg :=
  let k := (byteAt f.payload 2).toNat
  let gs := parseGrants k (f.payload.drop 4)
  if f.payload.length = 4 + 2 * k ∧ getBe16 f.payload 0 ≠ 0 ∧ k = n ∧ gs.all (fun g => decide (g ≤ 4000)) = true then
    some { alloc := getBe16 f.payload 0, grants := gs } else none

def grantPayload (alloc : Word16) (grants : List Nat) : List Byte :=
  be16 alloc ++ [byte grants.length, 0] ++ grants.flatMap (fun g => be16 (word16 g))

/-! ## Settings (R163) -/

/-- The settings fields of the 40 bytes examined. -/
def parseSettings (l : List Byte) : Settings :=
  let u8 (i : Nat) : Nat := (byteAt l i).toNat
  let u16 (i : Nat) : Nat := (getLe16 l i).toNat
  { identity := getLe32 l 0, kind := u8 4, cabEnd := u8 5, doorSides := u8 6, releaseFrequency := u8 7,
    closeTimeout := u8 8, closeOnFault := u8 9, mask1 := byteAt l 10, mask2 := byteAt l 11,
    ratings := { s0 := u16 12, s1 := u16 14, s2 := u16 16, s3 := u16 18 },
    standby := { s0 := u8 20, s1 := u8 21, s2 := u8 22, s3 := u8 23 },
    ceiling := u16 24, averaging := u8 26, probeRepeat := u8 27, lineFull := u16 28, carFull := u16 30,
    auxFull := u16 32, auxThreshold := u16 34, longSpan := u16 36, autoCensus := u8 38, spanEnables := byteAt l 39 }

/-- The fields with their offsets and whether each is valid, in ascending offset order (R163). The table has one row for the
four stage ratings; each is taken as a field of its own, at offset 12, 14, 16 or 18 (log 77). -/
def settingsChecks (s : Settings) : List (Nat × Bool) :=
  let upTo (n top : Nat) : Bool := decide (n ≤ top)
  let oneOf124 (n : Nat) : Bool := n == 1 || n == 2 || n == 4
  [(0, !badIdentity s.identity), (4, s.kind == 1 || s.kind == 2),
   (5, s.kind != 1 || s.cabEnd == 1 || s.cabEnd == 2), (6, upTo s.doorSides 3),
   (7, decide (1 ≤ s.releaseFrequency) && upTo s.releaseFrequency 3),
   (8, decide (1 ≤ s.closeTimeout) && upTo s.closeTimeout 30), (9, upTo s.closeOnFault 1),
   (10, upTo s.mask1.toNat 3), (11, upTo s.mask2.toNat 3),
   (12, upTo s.ratings.s0 1000), (14, upTo s.ratings.s1 1000), (16, upTo s.ratings.s2 1000),
   (18, upTo s.ratings.s3 1000), (24, upTo s.ceiling 4000),
   (26, s.averaging == 1 || s.averaging == 4 || s.averaging == 16), (27, oneOf124 s.probeRepeat),
   (28, upTo s.lineFull 20000), (30, upTo s.carFull 20000), (32, upTo s.auxFull 20000),
   (34, upTo s.auxThreshold 20000), (36, upTo s.longSpan 4000), (38, upTo s.autoCensus 1),
   (39, upTo s.spanEnables.toNat 3)]

/-- The offset of the first field outside its values (R163; of a stage rating: log 77). -/
def settingsFault (s : Settings) : Option Nat := ((settingsChecks s).find? (fun c => !c.2)).map (fun c => c.1)

/-! ## Requests (R168) -/

/-- The request kind codes of R168. -/
def RequestKind.code : RequestKind → Byte
  | .configure => 1
  | .spanControl => 2
  | .takeLead => 3
  | .dropLead => 4
  | .censusStart => 5
  | .doorOrder => 6
  | .doorLocal => 7
  | .heatDemand => 8
  | .heatSupply => 9
  | .faultClear => 10

/-- Codes 0 and 11 to 255 are unknown (R168). -/
def requestKindOf (code : Byte) : Option RequestKind :=
  [RequestKind.configure, .spanControl, .takeLead, .dropLead, .censusStart, .doorOrder, .doorLocal, .heatDemand,
    .heatSupply, .faultClear].find? (fun k => k.code == code)

/-- The outcome codes of R168. -/
inductive SlotOutcome
  | ok | partially | refusedState | refusedRole | refusedRange | refusedBusy | timedOut | aborted | superseded | unknownKind
deriving DecidableEq, Repr

def SlotOutcome.code : SlotOutcome → Byte
  | .ok => 1
  | .partially => 2
  | .refusedState => 3
  | .refusedRole => 4
  | .refusedRange => 5
  | .refusedBusy => 6
  | .timedOut => 7
  | .aborted => 8
  | .superseded => 9
  | .unknownKind => 10

/-- The offset of the first DOOR_ORDER parameter outside its values (R115). -/
def doorOrderFault (p : List Byte) : Option Nat :=
  let u8 (i : Nat) : Nat := (byteAt p i).toNat
  if ¬(1 ≤ u8 0 ∧ u8 0 ≤ 3) then some 0
  else if ¬(1 ≤ u8 1 ∧ u8 1 ≤ 3) then some 1
  else if ¬(1 ≤ u8 2 ∧ u8 2 ≤ 32) then some 2
  else if ¬(1 ≤ u8 3) then some 3
  else if ¬(u8 4 ≤ 3) then some 4
  else if ¬((getLe16 p 6).toNat ≤ 2000) then some 6
  else none

end Sys2Proof.Machine
end

