-- ==== Sys2Proof/Machine/Ops.lean ====
section
/-!
DEFINITION. The shared operations under every command: time, exchange memory, slots and completions, tallies, and the
event trail with its order of writing.
-/

namespace Sys2Proof.Machine

/-! ## Time (00 "Time base"; log 1) -/

/-- Half-nanoseconds in a microsecond. -/
def us : Nat := 2000

/-- Half-nanoseconds in a millisecond. -/
def ms : Nat := 2000000

/-- Half-nanoseconds in a delay unit of 0.1 µs. -/
def delayUnit : Nat := 200

/-- `dt` half-nanoseconds pass. -/
def State.advance (dt : Nat) (s : State) : State := { s with now := s.now + dt }

/-- A running timer has run out. -/
def State.reached (s : State) (timer : Option Nat) : Bool :=
  match timer with
  | some t => decide (t ≤ s.now)
  | none => false

/-- The millisecond stamp into which an instant falls (R111). -/
def stampOf (t : Nat) : Word32 := word32 (t / ms)

/-- The stamp of a timer's end, 0 while it is stopped (R111, R142). -/
def stampOfTimer (timer : Option Nat) : Word32 :=
  match timer with
  | some t => stampOf t
  | none => 0

/-! ## Exchange memory cells (R155) -/

/-- The byte at an address; an unlisted address reads 0, as every byte does after a reset (R155). -/
def Memory.read : Memory → Nat → Byte
  | [], _ => 0
  | (k, v) :: m, a => if k = a then v else Memory.read m a

/-- Stores a byte and keeps the canonical form: addresses strictly rising, no byte 0 listed. -/
def Memory.write : Memory → Nat → Byte → Memory
  | [], a, b => if b = 0 then [] else [(a, b)]
  | (k, v) :: m, a, b =>
    if a < k then (if b = 0 then (k, v) :: m else (a, b) :: (k, v) :: m)
    else if a = k then (if b = 0 then m else (a, b) :: m)
    else (k, v) :: Memory.write m a b

/-- The canonical form. -/
def Memory.wf : Memory → Bool
  | [] => true
  | [(_, v)] => v != 0
  | (k, v) :: (k', v') :: m => v != 0 && decide (k < k') && Memory.wf ((k', v') :: m)

/-- Stores a list of bytes at rising addresses. -/
def Memory.writeList : Memory → Nat → List Byte → Memory
  | m, _, [] => m
  | m, a, b :: bs => Memory.writeList (Memory.write m a b) (a + 1) bs

/-- `n` bytes from an address on. -/
def Memory.readList (m : Memory) (a n : Nat) : List Byte := (List.range n).map fun i => Memory.read m (a + i)

/-! ## Slots (R165, R168) -/

/-- The address of slot `k` (R165). -/
def slotBase (k : Nat) : Nat := 0x0100 + 64 * k

def slotFree : Byte := 0
def slotPosted : Byte := 1
def slotTaken : Byte := 2
def slotDone : Byte := 3

/-- The state byte of slot `k` (R165). -/
def State.slotState (s : State) (k : Nat) : Byte := s.mem.read (slotBase k)

def State.setSlotState (s : State) (k : Nat) (b : Byte) : State := { s with mem := s.mem.write (slotBase k) b }

/-- The 32 result bytes of a completion: 0 in every byte the owning rule does not give (R168). -/
def resultBytes (l : List Byte) : List Byte := (l ++ List.replicate 32 0).take 32

/-- A completion: outcome, detail and results are written, then the state byte becomes DONE and SLOT_TALLY rises by 1;
the ticket is left as it was (R168). -/
def State.complete (s : State) (k : Nat) (outcome : SlotOutcome) (detail : Byte) (results : List Byte) : State :=
  let m := (s.mem.writeList (slotBase k + 4) [outcome.code, detail]).writeList (slotBase k + 32) (resultBytes results)
  { s with mem := m.write (slotBase k) slotDone, tallies := { s.tallies with slot := s.tallies.slot + 1 } }

/-- A completion of a slot that may not be there, such as the slot of an automatic census (R45). -/
def State.completeIf (s : State) (slot : Option Nat) (outcome : SlotOutcome) (detail : Byte) (results : List Byte) : State :=
  match slot with
  | some k => s.complete k outcome detail results
  | none => s

/-! ## The trail (R170) -/

/-- The held count N − O (R170). -/
def Trail.held (t : Trail) : Nat := (t.next - t.oldest).toNat

/-- The trail address of a sequence number (R170). -/
def trailAddress (n : Word32) : Nat := 0x2000 + 16 * (n.toNat % 128)

/-- The 16 bytes of a trail record (R170). -/
def Event.record (e : Event) (sequence stamp : Word32) : List Byte :=
  le32 sequence ++ [e.kind, e.source, e.position, e.detail] ++ le32 e.value ++ le32 stamp

/-- The trail writer takes an event: it writes the record, or counts it lost when 128 are held (R170). -/
def State.writeEvent (s : State) (e : Event) : State :=
  if s.trail.held < 128 then
    { s with
      mem := s.mem.writeList (trailAddress s.trail.next) (e.record s.trail.next s.msCount)
      trail := { s.trail with next := s.trail.next + 1 }
      tallies := { s.tallies with trail := s.tallies.trail + 1 } }
  else { s with trail := { s.trail with gap := min 65535 (s.trail.gap + 1) } }

/-- A block hands an event to the trail writer. The events of one group keep their order and take consecutive
sequence numbers (R170, "Where one event of a block raises two trail events"); the order among groups is open until the step
ends, but for the door unit, whose groups stand together (log 7). -/
def State.raise (s : State) (group : Nat) (e : Event) : State :=
  { s with raised := s.raised ++ [{ group := group, event := e }] }

/-- The events of one group in the order they were raised. -/
def groupEvents (g : Nat) (l : List Raised) : List Event := (l.filter fun r => r.group == g).map fun r => r.event

/-- An order of writing for the events of one step: free among groups, and within each the order they were raised in, one
after the other with no event of another group between (R170; log 7). -/
def eventOrder : Nat → Nat → List Raised → List Event
  | 0, _, l => l.map (fun r => r.event)
  | _, _, [] => []
  | fuel + 1, c, r :: rest =>
    if rest.all (fun x => x.group == r.group) then (r :: rest).map (fun x => x.event)
    else
      let g := ((r :: rest).getD (Config.choice c % (rest.length + 1)) r).group
      groupEvents g (r :: rest) ++ eventOrder fuel (c + 1) ((r :: rest).filter fun x => x.group != g)

/-- An event of the door unit, which is one block with its two sides and the train summary (00 "Blocks"; sources 5 to 7 of
R170). -/
def Event.ofDoorUnit (e : Event) : Bool := e.source == 5 || e.source == 6 || e.source == 7

/-- A list with its elements that satisfy `p` drawn together where the first of them stands; all else keeps its order. -/
def drawTogether {α : Type} (p : α → Bool) : List α → List α
  | [] => []
  | x :: l => if p x then x :: l.filter p ++ l.filter (fun y => !p y) else x :: drawTogether p l

/-- The order in which the events of the step are written: those of the door unit, whichever of its groups they belong to,
one after the other, and each group in its own order (R170; log 7). -/
def State.writingOrder (s : State) : List Event :=
  drawTogether Event.ofDoorUnit (eventOrder s.raised.length s.choices s.raised)

/-- The trail writer takes the events of the step. -/
def State.flush (s : State) : State :=
  let s' := s.writingOrder.foldl State.writeEvent { s with raised := [] }
  { s' with choices := s.choices + s.raised.length }

/-- A choice of the order of two operations that the spec leaves open (log 8, 9). -/
def State.eitherOrder (f g : State → State) (s : State) : State :=
  let t := { s with choices := s.choices + 1 }
  if Config.choice s.choices % 2 = 0 then g (f t) else f (g t)

/-! ## Spans, sides and stages by name -/

def State.span (s : State) : SpanId → Span
  | .a => s.spanA
  | .b => s.spanB

def State.setSpan (s : State) : SpanId → Span → State
  | .a, u => { s with spanA := u }
  | .b, u => { s with spanB := u }

def State.side (s : State) : SideId → Side
  | .one => s.door.side1
  | .two => s.door.side2

def State.setSide (s : State) : SideId → Side → State
  | .one, d => { s with door := { s.door with side1 := d } }
  | .two, d => { s with door := { s.door with side2 := d } }

def Stages.get {α : Type} (v : Stages α) : Fin 4 → α
  | 0 => v.s0
  | 1 => v.s1
  | 2 => v.s2
  | 3 => v.s3

def Stages.set {α : Type} (v : Stages α) : Fin 4 → α → Stages α
  | 0, x => { v with s0 := x }
  | 1, x => { v with s1 := x }
  | 2, x => { v with s2 := x }
  | 3, x => { v with s3 := x }

def Stages.map {α β : Type} (f : α → β) (v : Stages α) : Stages β :=
  { s0 := f v.s0, s1 := f v.s1, s2 := f v.s2, s3 := f v.s3 }

/-- One function of the values of two vectors, stage by stage. -/
def Stages.zip {α β γ : Type} (f : α → β → γ) (v : Stages α) (w : Stages β) : Stages γ :=
  { s0 := f v.s0 w.s0, s1 := f v.s1 w.s1, s2 := f v.s2 w.s2, s3 := f v.s3 w.s3 }

/-- The sum over the stages. -/
def Stages.total (v : Stages Nat) : Nat := v.s0 + v.s1 + v.s2 + v.s3

/-- The bytes of four values below 256. -/
def Stages.bytes (v : Stages Nat) : List Byte := [byte v.s0, byte v.s1, byte v.s2, byte v.s3]

/-! ## Requests handed to their owners (R167) -/

/-- Takes the oldest handed request that satisfies `p`. -/
def takeRequest (p : Request → Bool) : List Request → Option Request × List Request
  | [] => (none, [])
  | r :: rest =>
    if p r then (some r, rest)
    else
      let t := takeRequest p rest
      (t.1, r :: t.2)

/-- An owner carries out its oldest handed request of one kind; without one, nothing arises (log 2, 17). -/
def State.serve (s : State) (p : Request → Bool) (f : Request → State → State) : State :=
  match takeRequest p s.req.handed with
  | (some r, rest) => f r { s with req := { s.req with handed := rest } }
  | (none, _) => s

/-- Byte `i` of a request's parameters (R165). -/
def Request.param (r : Request) (i : Nat) : Byte := byteAt r.params i

/-- The action whose row carries a SPAN_CONTROL or DOOR_LOCAL out: its own, 1 to `top`. One outside those values falls to
the row of action 1, which refuses it (R22, R110; log 18). -/
def Request.rowAction (r : Request) (top : Nat) : Byte :=
  if 1 ≤ (r.param 0).toNat ∧ (r.param 0).toNat ≤ top then r.param 0 else 1

/-! ## What the blocks read of each other -/

/-- The position a trail event carries: own position of the image header (R170). -/
def State.eventPosition (s : State) : Byte := byte s.table.own

/-- The number of listed cars (R69). -/
def State.n (s : State) : Nat := s.table.records.length

/-- VALID or STALE, the states in which waves are acted on (R43, R81). -/
def CensusState.listed : CensusState → Bool
  | .valid => true
  | .stale => true
  | _ => false

/-- CALLING or DISTRIBUTING: a census is running (3.1). -/
def CensusState.busy : CensusState → Bool
  | .calling => true
  | .distributing => true
  | _ => false

/-- The image record at a position, counted from 1 (R74). -/
def State.recordAt (s : State) (p : Nat) : Option ImageRecord := if p = 0 then none else s.table.records[p - 1]?

/-- The car's cab end as a span; a TRAILER has none and is never asked (R77, R163). -/
def State.cabSpan (s : State) : SpanId := if s.settings.cabEnd = 2 then .b else .a

/-- The car's front end as a span (R77). -/
def State.front (s : State) : Option SpanId :=
  match s.census.role, s.census.state with
  | .lead, _ => some s.cabSpan
  | .member, .enlisted => s.census.ctx.map (fun c => c.upstream)
  | .member, .awaitTable => s.census.ctx.map (fun c => c.upstream)
  | .member, .valid => (s.recordAt s.table.own).bind (fun r => spanOfEnd r.car.frontEnd)
  | .member, .stale => (s.recordAt s.table.own).bind (fun r => spanOfEnd r.car.frontEnd)
  | .member, _ => none

/-- The upstream span; a lead has none (R77). -/
def State.upstream (s : State) : Option SpanId :=
  match s.census.role with
  | .lead => none
  | .member => s.front

/-- The downstream span, the train span at a lead (R77). -/
def State.downstream (s : State) : Option SpanId := s.front.map otherSpan

def State.isUp (s : State) (x : SpanId) : Bool := (s.span x).state == .up

def State.downstreamUp (s : State) : Bool :=
  match s.downstream with
  | some x => s.isUp x
  | none => false

end Sys2Proof.Machine
end

