-- ==== Sys2Proof/Machine/Flags.lean ====
section
/-!
DEFINITION. The conditions the port reports: the port notes (R159), the tallies that differ from their marks (R169),
ATTN (R160) and the summary echo (R159).
-/

namespace Sys2Proof.Machine

/-- The notes as summary byte 2 and the third echo byte show them (R159). -/
def Notes.byte (n : Notes) : Byte :=
  BitVec.ofNat 8 (n.ownedWrite.toNat + 2 * n.slotGuard.toNat + 4 * n.overlength.toNat + 8 * n.badRelease.toNat)

def State.setNotes (s : State) (n : Notes) : State := { s with port := { s.port with notes := n } }

def State.raiseOwnedWrite (s : State) : State := s.setNotes { s.port.notes with ownedWrite := true }

def State.raiseSlotGuard (s : State) : State := s.setNotes { s.port.notes with slotGuard := true }

def State.raiseOverlength (s : State) : State := s.setNotes { s.port.notes with overlength := true }

def State.raiseBadRelease (s : State) : State := s.setNotes { s.port.notes with badRelease := true }

/-- The tallies in the order of the summary and marks blocks (R169). -/
def Tallies.list (t : Tallies) : List Word16 := [t.slot, t.consist, t.door, t.heat, t.trail, t.fault]

def marksBase : Nat := 0x0500

/-- Mark `i` of the marks block (R169). -/
def State.mark (s : State) (i : Nat) : Word16 :=
  s.mem.read (marksBase + 2 * i + 1) ++ s.mem.read (marksBase + 2 * i)

/-- The number of tallies that differ from their marks, 0 to 6 (R169). -/
def State.differing (s : State) : Nat :=
  ((List.range 6).filter fun i => s.tallies.list.getD i 0 != s.mark i).length

/-- ATTN is active while the count is above 0 (R169). -/
def State.attnActive (s : State) : Bool := decide (0 < s.differing)

/-- What an output pin does: driven to a level, or released (R160). -/
inductive PinDrive | low | high | released
deriving DecidableEq, Repr

/-- The ATTN pin: bit 1 of PORT_SET is the polarity, bit 2 the drive type (R160). -/
def State.attnPin (s : State) : PinDrive :=
  let levelHigh := s.attnActive == s.port.setting.getLsbD 1
  if s.port.setting.getLsbD 2 then (if levelHigh then .high else .low)
  else (if levelHigh then .released else .low)

/-- Echo is on while bit 0 of PORT_SET is 0 (R160). -/
def State.echoOn (s : State) : Bool := !s.port.setting.getLsbD 0

/-- The three bytes SDO carries during the header: part state, differing tallies, port notes; zeros while echo is off
(R159). -/
def State.echoBytes (s : State) : List Byte :=
  if s.echoOn then [boolByte s.port.running, byte s.differing, s.port.notes.byte] else [0, 0, 0]

/-- The notes that stay when those of a third echo byte are cleared (R159). -/
def Notes.without (n : Notes) (echoed : Byte) : Notes where
  ownedWrite := n.ownedWrite && !echoed.getLsbD 0
  slotGuard := n.slotGuard && !echoed.getLsbD 1
  overlength := n.overlength && !echoed.getLsbD 2
  badRelease := n.badRelease && !echoed.getLsbD 3

/-- A transaction that ends on a byte boundary clears the notes its third echo byte carried: none while echo is off, none
when it ended before that byte (R159). -/
def State.clearEchoed (s : State) : State := s.setNotes (s.port.notes.without (byteAt s.port.sdo 2))

end Sys2Proof.Machine
end

