-- ==== Sys2Proof/Machine/Share.lean ====
section
/-!
DEFINITION. The arithmetic of the heating share: demand and capacity (R130), cap (R141), effective limit (R136) and the
division of the limit by water level (R138).
-/

namespace Sys2Proof.Machine

/-- R141. -/
def CapState.code : CapState → Byte
  | .stopped => 0
  | .granted => 1
  | .fallback => 2
  | .faulted => 3

/-- The demand of a set of on-times: (Σ Is × ks + 255) div 256 (R130). -/
def demandOf (ratings onTimes : Stages Nat) : Nat := ((Stages.zip (· * ·) ratings onTimes).total + 255) / 256

/-- The heater capacity (R130); 0 before CONFIGURE, since the ratings in force are 0. -/
def State.capacity (s : State) : Nat := (s.settings.ratings.total * 255 + 255) / 256

/-- The reported demand d: 0 while STOPPED or FAULTED (R130). -/
def State.demand (s : State) : Nat :=
  match s.heat.cap with
  | .stopped => 0
  | .faulted => 0
  | .granted => demandOf s.settings.ratings s.heat.onTimes
  | .fallback => demandOf s.settings.ratings s.heat.onTimes

/-- The cap c (R141). -/
def State.cap (s : State) : Nat :=
  match s.heat.cap with
  | .stopped => 0
  | .granted => s.heat.lastGrant.value
  | .fallback => s.settings.ceiling
  | .faulted => 0

/-- The effective limit for line voltage `v` (R136). -/
def effectiveLimit (p : Supply) (v : Nat) : Nat :=
  if p.on = false then 0
  else if p.shed ≤ v then p.limit
  else if v ≤ p.cut then 0
  else p.limit * (v - p.cut) / (p.shed - p.cut)

/-- The effective limit with the line voltage reading of this moment (R136). -/
def State.leff (s : State) : Nat := effectiveLimit s.heat.supply s.mon.lineV.reading

/-- The sum over the entries of min(di, λ) (R138). -/
def sumAtLevel (ds : List Nat) (level : Nat) : Nat := (ds.map fun d => min d level).sum

/-- The largest level up to `top` whose sum is at most the limit (R138). -/
def waterLevel (ds : List Nat) (leff : Nat) : Nat → Nat
  | 0 => 0
  | k + 1 => if sumAtLevel ds (k + 1) ≤ leff then k + 1 else waterLevel ds leff k

def maxOf (ds : List Nat) : Nat := ds.foldl max 0

/-- Hands out one extra dA to each of the first `r` entries whose demand is above the level, in the order given (R138). -/
def handOut (level : Nat) : Nat → List (Nat × Nat) → List Share
  | _, [] => []
  | r, (p, d) :: rest =>
    if level < d ∧ 0 < r then { position := p, demand := d, grant := level + 1 } :: handOut level (r - 1) rest
    else { position := p, demand := d, grant := min d level } :: handOut level r rest

/-- An allocation's figures: water level, remainder and shares (R138, R142). When the limit covers the demands the level is
0 by R142, and so is the remainder, which R138 then leaves undefined, by the model's choice (log 73). -/
structure Division where
  level : Nat
  remainder : Nat
  shares : List Share
deriving DecidableEq, Repr

/-- Divides a limit among entries given in ascending position, their demands clamped to 4000 (R138; remainder 0 when the
limit covers the demands: log 73). -/
def divide (leff : Nat) (entries : List (Nat × Nat)) : Division :=
  let es := entries.map fun e => (e.1, min e.2 4000)
  let ds := es.map fun e => e.2
  if ds.sum ≤ leff then
    { level := 0, remainder := 0, shares := es.map fun e => { position := e.1, demand := e.2, grant := e.2 } }
  else
    let level := waterLevel ds leff (maxOf ds)
    let r := leff - sumAtLevel ds level
    { level, remainder := r, shares := handOut level r es }

/-- The grant of a position: 0 without an entry (R138). -/
def grantAt (shares : List Share) (p : Nat) : Nat :=
  match shares.find? (fun x => x.position == p) with
  | some x => x.grant
  | none => 0

/-- Puts an entry in its place by position. -/
def insertEntry (e : Nat × Nat) : List (Nat × Nat) → List (Nat × Nat)
  | [] => [e]
  | x :: rest => if e.1 ≤ x.1 then e :: x :: rest else x :: insertEntry e rest

/-- The entries of an allocation in ascending position: the list and the lead's own, positions 0 and above n left out (R137). -/
def allocEntries (n own : Nat) (list : List (Nat × Nat)) : List (Nat × Nat) :=
  (((1, own) :: list).filter fun e => decide (1 ≤ e.1) && decide (e.1 ≤ n)).foldr insertEntry []

end Sys2Proof.Machine
end

