-- ==== Sys2Proof/Machine/Sides.lean ====
section
/-!
DEFINITION. What follows from a door side's state: its outputs and proven status (R96), the mapping of train sides
(R78), and the train door summary of the lead (R126).
-/

namespace Sys2Proof.Machine

/-- R96. -/
def DoorState.code : DoorState → Byte
  | .absent => 0
  | .closed => 1
  | .released => 2
  | .closing => 3
  | .unlocked => 4
  | .isolated => 5
  | .fault => 6

/-- The close output of a side (R96). -/
def closeOutput (s : Settings) (d : Side) : Bool :=
  match d.state with
  | .closing => true
  | .fault => s.closeOnFault == 1
  | _ => false

/-- A side is proven when ABSENT, or when its release output is stopped and its debounced lock level is true (R96). -/
def Side.proven (d : Side) : Bool :=
  match d.state with
  | .absent => true
  | .released => false
  | _ => d.lock

/-- The car side facing train-left for a front end; train-right is the other (R78). -/
def trainLeft : SpanId → SideId
  | .a => .two
  | .b => .one

def trainRight : SpanId → SideId
  | .a => .one
  | .b => .two

/-- The car is proven on train-left, on train-right, with its front end of this moment (R123). -/
def State.provenLeft (s : State) : Bool :=
  match s.front with
  | some f => (s.side (trainLeft f)).proven
  | none => false

def State.provenRight (s : State) : Bool :=
  match s.front with
  | some f => (s.side (trainRight f)).proven
  | none => false

/-- The car is unproven on either train side (R123). -/
def State.unproven (s : State) : Bool := !(s.provenLeft && s.provenRight)

/-- The lead counts as a single-car lead (R126). -/
def State.singleCar (s : State) : Bool :=
  s.census.role == .lead && s.census.state.listed && s.n == 1

/-- The reason code of one train side at a lead that is no single-car lead, 0 when proven (R126). -/
def summaryReason (s : State) (ownProven : Bool) (rollProven : HeldRoll → Bool) : Byte :=
  match s.door.held with
  | none => 1
  | some r =>
    if s.door.aged then 2
    else if r.contributors + 1 ≠ s.n then 4
    else if rollProven r && ownProven then 0
    else 5

/-- The train door summary (R126); zero at a member (R127). -/
def State.summaryNow (s : State) : Summary :=
  if s.census.role = .member then Summary.zero
  else
    let lr : Byte := if s.singleCar then (if s.provenLeft then 0 else 5) else summaryReason s s.provenLeft (fun r => r.left)
    let rr : Byte := if s.singleCar then (if s.provenRight then 0 else 5) else summaryReason s s.provenRight (fun r => r.right)
    { left := lr == 0, right := rr == 0, leftReason := lr, rightReason := rr
      firstUnproven := if s.unproven then 1 else
        match s.door.held with
        | some r => r.firstUnproven
        | none => 0
      contributors := match s.door.held with
        | some r => byte (r.contributors + 1)
        | none => 0
      n := byte s.n }

/-- The summary code: bit 0 train-left proven, bit 1 train-right proven (R128). -/
def Summary.code (m : Summary) : Byte := byte (m.left.toNat + 2 * m.right.toNat)

/-- Recomputes the summary; a change of a proven status raises DOOR_STATE, except with the role becoming MEMBER (R126,
R128). It is done once at the end of a step, also when both sides changed in it: one event at most (log 63). -/
def State.recompute (s : State) : State :=
  let old := s.door.summary
  let new := s.summaryNow
  let t := { s with door := { s.door with summary := new } }
  if s.census.role = .lead ∧ old.code ≠ new.code then
    t.raise 7 { kind := 10, source := 7, position := 1, detail := new.code,
                value := (new.contributors ++ new.rightReason ++ new.leftReason ++ old.code : Word32) }
  else t

end Sys2Proof.Machine
end

