-- ==== Sys2Proof/Machine/Views.lean ====
section
/-!
DEFINITION. The exchange memory as the port reads it: the areas of R155 and the layout of every block the device writes
(R23, R41, R69, R74, R111, R127, R142, R151, R154, R161, R170).
-/

namespace Sys2Proof.Machine

/-- The areas of R155. -/
inductive Area
  | summary | settings | slot (k off : Nat) | marks | image | spanA | spanB | door | heat | readings | trail | scratch
  | unassigned
deriving DecidableEq, Repr

/-- The area of an address (R155). -/
def areaOf (a : Nat) : Area :=
  if a < 0x0040 then .summary
  else if a < 0x0100 then .settings
  else if a < 0x0500 then .slot ((a - 0x0100) / 64) ((a - 0x0100) % 64)
  else if a < 0x0540 then .marks
  else if a < 0x0600 then .unassigned
  else if a < 0x0A20 then .image
  else if a < 0x0C00 then .unassigned
  else if a < 0x0C80 then .spanA
  else if a < 0x0D00 then .spanB
  else if a < 0x0D80 then .door
  else if a < 0x0E00 then .unassigned
  else if a < 0x0F00 then .heat
  else if a < 0x0F40 then .readings
  else if a < 0x2000 then .unassigned
  else if a < 0x2800 then .trail
  else if a < 0x4000 then .unassigned
  else if a < 0x8000 then .scratch
  else .unassigned

/-! ## Span blocks (R23, R41) -/

/-- R23, byte 0. -/
def SpanState.code : SpanState → Byte
  | .off => 0
  | .probing => 1
  | .sensed => 2
  | .greeting => 3
  | .up => 4
  | .held => 5

/-- R23, byte 2. -/
def RelayState.code : RelayState → Byte
  | .closed => 0
  | .opened => 1
  | .switching => 2

/-- R9. -/
def ProbeClass.code : ProbeClass → Byte
  | .none => 0
  | .answered => 1
  | .shorted => 2
  | .opened => 3
  | .noisy => 4
  | .nothing => 5

/-- R27. -/
def Rejection.code : Rejection → Byte
  | .none => 0
  | .delimiter => 1
  | .short => 2
  | .lengthOver => 3
  | .lengthMismatch => 4
  | .crc => 5

/-- An echo entry in the span block (R23). -/
def Excursion.block (e : Excursion) : List Byte :=
  le16 e.arrival ++ le16 e.width ++ [(match e.polarity with | .same => (0 : Byte) | .inverted => 1), 0]

/-- Frames waiting in a class, the current frame not counted (R32). -/
def Span.classCount (u : Span) (c : Nat) : Nat := (u.txq.filter fun f => f.frame.kind.txClass == c).length

/-- Frames the transmit queue holds, the current one among them (R32, R34). -/
def Span.depth (u : Span) : Nat := u.txq.length + (if u.cur.isSome then 1 else 0)

/-- The 128 bytes of a span block (R23, R41). -/
def spanBlock (relay : RelayState) (u : Span) : List Byte :=
  let hist : List Word16 := u.history.map word16 ++ List.replicate (4 - u.history.length) 0
  let partner : List Byte := match u.partner with
    | some p => le32 p.identity ++ [p.endCode, p.kind] ++ le16 p.gen
    | none => List.replicate 8 0
  [u.state.code, boolByte u.enable, relay.code, u.lastCause.code] ++ le16 (word16 u.delay) ++
    [u.lastClass.code, byte u.runCount] ++ le16 u.restartCount ++ [byte u.bucket, byte u.history.length] ++
    hist.flatMap le16 ++ partner ++ le32 u.heard ++ u.echo.flatMap Excursion.block ++
    le32 u.accepted ++ le32 u.sent ++ le16 u.rejDelimiter ++ le16 u.rejShort ++ le16 u.rejLengthOver ++
    le16 u.rejLengthMismatch ++ le16 u.rejCrc ++ le16 u.unknownKind ++ le16 u.overruns ++ le16 u.drops ++
    le16 u.collisions ++ le16 u.sendFails ++ [byte u.depth, byte u.rxq.length] ++
    (List.range 4).map (fun c => byte (u.classCount c)) ++
    [(match u.cur with | some f => f.frame.kind.code | none => (0 : Byte)), byte u.attempt, u.lastReject.code] ++
    List.replicate 35 0

/-! ## Consist image (R69, R74) -/

/-- An end or span code, 0 for none (R69, bytes 20 to 22). -/
def spanOptCode : Option SpanId → Byte
  | some x => endCode x
  | none => 0

/-- The fields of a car record as the image stores them (R68, R74). -/
def CarRecord.stored (r : CarRecord) : List Byte :=
  le32 r.identity ++ [r.kind, r.frontEnd, r.doorSides, r.flags] ++ le16 r.demand ++ le16 r.capacity ++
    le16 r.frontDelay ++ le16 r.lastGen

/-- The 32 bytes of image record `p` (R74). -/
def ImageRecord.stored (p : Nat) (r : ImageRecord) : List Byte :=
  r.car.stored ++ [byte p, r.left, r.right, r.proving] ++ le16 r.demand ++ le16 r.grant ++ le16 r.grantAlloc ++
    List.replicate 6 0

/-- Records from position `p` on. -/
def recordsStored : Nat → List ImageRecord → List Byte
  | _, [] => []
  | p, r :: rest => r.stored p ++ recordsStored (p + 1) rest

def State.workNumber (s : State) : Word16 :=
  match s.census.role with
  | .lead => s.census.number
  | .member => match s.census.ctx with
    | some c => c.number
    | none => 0

def State.workLead (s : State) : Word32 :=
  match s.census.role with
  | .lead => s.settings.identity
  | .member => match s.census.ctx with
    | some c => c.lead
    | none => 0

/-- The 1052 image bytes beside the update counter (R69, R74). -/
def State.imageBytes (s : State) : List Byte :=
  [s.census.state.code, (match s.census.role with | .member => (0 : Byte) | .lead => 1), byte s.n, byte s.table.own] ++
    le16 s.table.gen ++ le16 s.table.number ++ le32 s.table.signature ++ le32 s.table.lead ++
    [spanOptCode s.front, spanOptCode s.upstream, spanOptCode s.downstream, byte s.census.retry] ++
    le16 s.workNumber ++ le32 s.workLead ++ [0, 0] ++
    recordsStored 1 s.table.records ++ List.replicate (32 * (32 - s.n)) 0

/-! ## Door board (R111, R127) -/

/-- Cause bits (R111). -/
def Causes.byte (c : Causes) : Byte := BitVec.ofNat 8 (c.mismatch.toNat + 2 * c.closeTimeout.toNat + 4 * c.lockLost.toNat)

/-- R103. -/
def Verdict.code : Verdict → Byte
  | .taken => 1
  | .notAddressed => 2
  | .refusedFault => 3
  | .refusedStale => 4
  | .refusedAux => 5

/-- R105. -/
def Skip.code : Skip → Byte
  | .census => 1
  | .generation => 2
  | .sideState => 3
  | .auxLow => 4
  | .discarded => 5

def actionCodeOpt : Option Action → Byte
  | some a => a.code
  | none => 0

def skipCodeOpt : Option Skip → Byte
  | some k => k.code
  | none => 0

/-- A side block (R111). -/
def sideBlock (set : Settings) (d : Side) : List Byte :=
  if d.state = .absent then List.replicate 28 0
  else
    let pend : List Byte := match d.pend with
      | some o => [o.action.code, o.number, o.lease, boolByte o.late] ++ le16 o.gen ++ le32 (stampOf o.applyAt)
      | none => List.replicate 10 0
    [d.state.code, boolByte (d.state == .released), boolByte (closeOutput set d), boolByte d.lock, boolByte d.proven,
      d.live.byte, d.stored.byte, d.masked.byte] ++ pend ++ le32 (stampOfTimer d.leaseEnd) ++
      le32 (stampOfTimer d.closeEnd) ++
      [(match d.lastVerdict with | some v => v.code | none => (0 : Byte)),
       actionCodeOpt d.lastAction ||| (skipCodeOpt d.lastSkip <<< (4 : Nat))]

/-- Bytes 64 to 127: the lead's summary and order handling (R127). -/
def State.leadBlock (s : State) : List Byte :=
  match s.census.role with
  | .member => List.replicate 64 0
  | .lead =>
    let m := s.door.summary
    let roll : Byte := match s.door.held with | none => 0 | some _ => if s.door.aged then 2 else 1
    let held : List Byte := match s.door.held with
      | none => [0, m.n, 0, 0]
      | some r => [r.origin, m.n] ++ le16 r.gen
    let out : List Byte := match s.door.outstanding with
      | none => [0, 0, 0, 0, 0]
      | some o => [o.order.number, o.order.action.code, o.order.trainSide, o.order.first, o.order.last]
    [1, boolByte m.left, boolByte m.right, m.leftReason, m.rightReason, roll, m.contributors, m.firstUnproven] ++
      held ++ [s.door.lastNumber] ++ out ++ [byte s.door.inFlight.length, s.door.lastDone.number, s.door.lastDone.outcome] ++
      s.door.lastDone.counts ++ List.replicate 35 0

/-- Door board bytes 4 to 127 (R111, R127). -/
def State.doorBytes (s : State) : List Byte :=
  [byte s.settings.doorSides, byte s.settings.releaseFrequency, byte s.settings.closeOnFault, boolByte s.mon.auxLow] ++
    sideBlock s.settings s.door.side1 ++ sideBlock s.settings s.door.side2 ++ s.leadBlock

/-! ## Heating board (R142, R151) -/

/-- R142, byte 5. -/
def DemandSource.code : DemandSource → Byte
  | .none => 0
  | .request => 1
  | .standby => 2

/-- R151, byte 218. -/
def Judgement.code : Judgement → Byte
  | .none => 0
  | .within => 1
  | .overdraw => 2
  | .notJudged => 3

/-- The allocation table entry of a position (R142). -/
def shareBlock (shares : List Share) (p : Nat) : List Byte :=
  match shares.find? (fun x => x.position == p) with
  | some x => le16 (word16 x.demand) ++ le16 (word16 x.grant)
  | none => [0, 0, 0, 0]

/-- Heating board bytes 4 to 191 (R142). -/
def State.heatBytes (s : State) : List Byte :=
  let h := s.heat
  let a := h.lastAlloc
  [h.cap.code, h.source.code] ++ le16 (word16 s.cap) ++ le16 (word16 s.demand) ++ le16 (word16 s.capacity) ++
    h.onTimes.bytes ++ le32 (stampOfTimer h.leaseEnd) ++ le16 (word16 h.lastGrant.value) ++ le16 h.lastGrant.alloc ++
    le16 h.lastGrant.gen ++ le32 (stampOfTimer h.holdEnd) ++ le16 (word16 s.settings.ceiling) ++
    [boolByte (s.census.role == .lead), boolByte h.supply.on] ++ le16 (word16 h.supply.limit) ++
    le16 (word16 h.supply.shed) ++ le16 (word16 h.supply.cut) ++ le16 (word16 a.lineV) ++ le16 (word16 a.leff) ++
    le16 a.number ++ le16 (word16 a.level) ++ le32 (word32 a.sumDemand) ++ le16 (word16 a.sumGrant) ++
    [byte a.shares.length, byte a.remainder] ++ List.replicate 8 0 ++
    (List.range 32).flatMap (fun i => shareBlock a.shares (i + 1))

/-- The bytes among 4 to 191 whose change raises HEAT_TALLY: cap state, source, cap, demand, on-times, last grant value,
lead byte and supply fields (R143). -/
def heatTallyBytes (l : List Byte) : List Byte :=
  l.take 6 ++ (l.drop 8).take 4 ++ (l.drop 16).take 2 ++ (l.drop 28).take 8

/-- Heating board bytes 192 to 255 (R151). -/
def Fire.board (f : Fire) : List Byte :=
  le32 f.count ++ [byte f.position, byte f.overdraw] ++ le16 (word16 f.cap) ++ le16 (word16 f.demand) ++
    f.scaled.bytes ++ f.phases.bytes ++ le16 (word16 f.expected) ++ le16 (word16 f.lastExpected) ++
    le16 (word16 f.lastMeasured) ++ le16 (word16 f.lastReadings) ++ [f.lastJudgement.code, boolByte f.cut] ++
    List.replicate 36 0

/-! ## Readings block (R154) -/

/-- The return level T + T div 20 (R153). -/
def returnLevel (t : Nat) : Nat := t + t / 20

/-- Readings block bytes 4 to 63 (R154). -/
def State.readingsBytes (s : State) : List Byte :=
  let m := s.mon
  let chan (c : Channel) : List Byte := le16 (word16 c.code) ++ le16 (word16 c.reading)
  chan m.lineV ++ chan m.carI ++ chan m.auxV ++ [boolByte m.auxLow, byte s.settings.averaging] ++
    le16 (word16 s.settings.lineFull) ++ le16 (word16 s.settings.carFull) ++ le16 (word16 s.settings.auxFull) ++
    le16 (word16 s.settings.auxThreshold) ++ le16 (word16 (returnLevel s.settings.auxThreshold)) ++
    le32 m.lineV.completions ++ le32 m.carI.completions ++ le32 m.auxV.completions ++ le32 m.auxStamp ++
    List.replicate 20 0

/-! ## Summary block (R161, R170) -/

/-- The 64 bytes of the summary block (R161, R170). It shows the state at every moment: right after a reset, when R155 has
every memory byte 0, its bytes 32 to 39 show O = N = 1 (R170) and byte 1 the reset cause (R162); that is the model's reading
(log 74). -/
def State.summaryBlock (s : State) : List Byte :=
  [boolByte s.port.running, (match s.port.resetCause with | .powerOn => (1 : Byte) | .portReset => 2), s.port.notes.byte,
    byte s.differing] ++ le32 s.msCount ++ le32 s.settings.identity ++
    [byte s.settings.kind, if s.settings.kind = 1 then byte s.settings.cabEnd else 0, 0, 0] ++
    s.tallies.list.flatMap le16 ++ [0, 0, 0, 0] ++
    le32 s.trail.oldest ++ le32 s.trail.next ++ le16 (word16 s.trail.gap) ++ [byte s.trail.held] ++
    List.replicate 21 0

/-! ## Reading -/

/-- A byte of a published block: its counter in bytes 0 to 3, the rest as published (R112, R143, R154). -/
def boardByte (counter : Word32) (rest : List Byte) (off : Nat) : Byte :=
  if off < 4 then byteAt (le32 counter) off else byteAt rest (off - 4)

/-- The byte the port reads at an address below 0x8000 (R155). -/
def State.readByte (s : State) (a : Nat) : Byte :=
  match areaOf a with
  | .summary => byteAt s.summaryBlock a
  | .settings => s.mem.read a
  | .slot _ _ => s.mem.read a
  | .marks => s.mem.read a
  | .image =>
    let off := a - 0x0600
    if off < 16 then byteAt s.pub.image off
    else if off < 20 then byteAt (le32 s.pub.imageCounter) (off - 16)
    else byteAt s.pub.image (off - 4)
  | .spanA => byteAt (spanBlock s.bypass.relay s.spanA) (a - 0x0C00)
  | .spanB => byteAt (spanBlock s.bypass.relay s.spanB) (a - 0x0C80)
  | .door => boardByte s.pub.doorCounter s.pub.door (a - 0x0D00)
  | .heat => boardByte s.pub.heatCounter (s.pub.heat ++ s.pub.fire) (a - 0x0E00)
  | .readings => boardByte s.pub.readingsCounter s.pub.readings (a - 0x0F00)
  | .trail => s.mem.read a
  | .scratch => s.mem.read a
  | .unassigned => 0

/-! ## Rewrites -/

/-- A rewrite of the image, if a byte changed: the counter rises by 2 and CONSIST_TALLY by 1 (R70, R71). -/
def State.publishImage (s : State) : State :=
  if s.imageBytes = s.pub.image then s
  else
    { s with
      pub := { s.pub with image := s.imageBytes, imageCounter := s.pub.imageCounter + 2 }
      tallies := { s.tallies with consist := s.tallies.consist + 1 } }

/-- A rewrite of the door board, if a byte changed (R112). -/
def State.publishDoor (s : State) : State :=
  if s.doorBytes = s.pub.door then s
  else
    { s with
      pub := { s.pub with door := s.doorBytes, doorCounter := s.pub.doorCounter + 2 }
      tallies := { s.tallies with door := s.tallies.door + 1 } }

/-- A rewrite of heating board bytes 4 to 191, if one changed; HEAT_TALLY rises only with the bytes R143 lists. -/
def State.publishHeat (s : State) : State :=
  if s.heatBytes = s.pub.heat then s
  else
    { s with
      pub := { s.pub with heat := s.heatBytes, heatCounter := s.pub.heatCounter + 2 }
      tallies := { s.tallies with
        heat := if heatTallyBytes s.heatBytes = heatTallyBytes s.pub.heat then s.tallies.heat else s.tallies.heat + 1 } }

/-- A rewrite of the firing bytes, if one changed; it raises no tally (R151). -/
def State.publishFire (s : State) : State :=
  if s.fire.board = s.pub.fire then s
  else { s with pub := { s.pub with fire := s.fire.board, heatCounter := s.pub.heatCounter + 2 } }

/-- A rewrite of the readings block, if a byte changed; it raises no tally (R154). -/
def State.publishReadings (s : State) : State :=
  if s.readingsBytes = s.pub.readings then s
  else { s with pub := { s.pub with readings := s.readingsBytes, readingsCounter := s.pub.readingsCounter + 2 } }

/-- The end of a step: the summary is recomputed once (log 63), the trail writer takes the step's events, and each block
whose bytes changed makes its rewrite (log 25). -/
def State.settle (s : State) : State :=
  s.recompute.flush.publishImage.publishDoor.publishHeat.publishReadings

/-- A command: `dt` passes, the command acts, the step settles. -/
def State.run (dt : Nat) (f : State → State) (s : State) : State := (f (s.advance dt)).settle

end Sys2Proof.Machine
end

