-- ==== Sys2Proof/Machine/Queues.lean ====
section
/-!
DEFINITION. A span's own operations: draws, the clearing that restarts and exits share, entry to the search for a
partner, and the offer of a frame to the transmit queue (R5, R6, R11, R19, R20, R32, R33, R40).
-/

namespace Sys2Proof.Machine

/-- The trail source of a span (R170). -/
def spanSource : SpanId → Byte
  | .a => 1
  | .b => 2

/-- A draw advances the register (R5). -/
def Span.draw (u : Span) : Span × Nat :=
  let r := lfsrDraw u.lfsr
  ({ u with lfsr := r }, r.toNat)

/-- An emptied echo buffer: arrival 65 535, width 0, polarity SAME in each entry (R7). -/
def emptyEcho : Excursion := { arrival := 0xFFFF, width := 0, polarity := .same }

/-- The span drives its line with a frame, a jam or a probe answer (R27); a probe pulse is `pulsing` below. -/
def Span.driving (u : Span) (now : Nat) : Bool :=
  match u.drive with
  | .idle => false
  | .probe _ => false
  | .answer t => decide (now < t + us)
  | .frame _ _ => true
  | .jam _ _ => true

/-- The states whose receiver decodes: all but OFF and HELD (R1, R20, R29). -/
def SpanState.receives : SpanState → Bool
  | .off => false
  | .held => false
  | .probing => true
  | .sensed => true
  | .greeting => true
  | .up => true

/-- An answer is being driven (R6, R8). -/
def Span.answering (u : Span) (now : Nat) : Bool :=
  match u.drive with
  | .answer t => decide (now < t + us)
  | _ => false

/-- The 0.5 µs of a probe pulse (R6). -/
def Span.pulsing (u : Span) (now : Nat) : Bool :=
  match u.drive with
  | .probe t => decide (now < t + 1000)
  | _ => false

/-- The line-enable output LENA or LENB: asserted while the unit drives its line (R1; log 13). -/
def State.lineEnable (s : State) (x : SpanId) : Bool := (s.span x).driving s.now || (s.span x).pulsing s.now

/-- The half cell a drive begun at `start` has reached at `now`: 0.5 µs each (R1). -/
def halfCell (start now : Nat) : Nat := (now - start) / 1000

/-- The driven level a frame starts with; R1 leaves it open (log 12). -/
def firstLevel : Level := if Config.firstPositive then .positive else .negative

/-- The level the unit presents on TXDA or TXDB: pulses are positive (R6, R8), a frame follows R1 and R2, and a jam is 8
cells of 1 that go on from the level driven when the collision was found (R1, R38). -/
def State.transmitLevel (s : State) (x : SpanId) : Level :=
  let u := s.span x
  if s.lineEnable x = false then .quiet
  else match u.drive with
    | .idle => .quiet
    | .probe _ => .positive
    | .answer _ => .positive
    | .frame t bytes => ((codeFrame firstLevel bytes)[halfCell t s.now]?).getD .quiet
    | .jam t onFirst =>
      let before := if onFirst then firstLevel else Level.flip firstLevel
      ((codeBits before (List.replicate 8 true)).1[halfCell t s.now]?).getD .quiet

/-- What every restart, entry to HELD and entry to OFF clears: the transmission, both queues, the bucket, the partner
record and heard identity, the delay history, the echo buffer, the run count, and the timers and probes of the state
left (R6, R11, R12, R19, R20, R40). R6 closes a listen window and drops the waiting answers where a span leaves PROBING and
SENSED; that SPAN_CONTROL RESTART, which leaves a span in PROBING, does so too and cuts a pulse being driven is the model's
choice (log 72). -/
def Span.clear (u : Span) (now : Nat) : Span :=
  { u with
    delay := 0, history := [], runCount := 0, runRef := 0, bucket := 0, partner := none, heard := 0,
    echo := [emptyEcho, emptyEcho, emptyEcho, emptyEcho],
    probeDue := none, window := none, answers := [], greetEnd := none, helloDue := none, silenceEnd := none,
    txq := [], cur := none, attempt := 0, backoffEnd := none, drive := .idle,
    busyUntil := if u.driving now || u.pulsing now then now else u.busyUntil
    deafUntil := if u.driving now || !u.state.receives then now else u.deafUntil, rxq := [] }

/-- Entry to PROBING from OFF, GREETING, UP or HELD: the first probe falls due after a jitter draw (R6, R12). -/
def Span.toProbing (u : Span) (now : Nat) : Span :=
  let d := u.draw
  { d.1 with state := .probing, runCount := 0, runRef := 0, probeDue := some (now + d.2 % 8 * ms) }

/-- The frames a span held in its transmit queue, in the order in which their loss is told at an exit: the current one, then
the waiting ones, oldest first (R40; log 57). -/
def Span.queued (u : Span) : List TxFrame := u.cur.toList ++ u.txq

/-! ## Offering a frame (R32, R33) -/

/-- What the offering block is told (R32, R33). -/
inductive Offer | joined | discarded | dropped
deriving DecidableEq, Repr

/-- The highest class number among the waiting frames (R33). -/
def worstClass (q : List TxFrame) : Nat := (q.map fun f => f.frame.kind.txClass).foldl max 0

/-- Takes the youngest frame of a class out of a queue: the last one (R33). -/
def dropYoungest (c : Nat) : List TxFrame → Option TxFrame × List TxFrame
  | [] => (none, [])
  | f :: rest =>
    match dropYoungest c rest with
    | (some g, rest') => (some g, f :: rest')
    | (none, _) => if f.frame.kind.txClass = c then (some f, rest) else (none, f :: rest)

/-- A queue drop: the count and the QUEUE_DROP event naming the discarded frame's kind (R33). -/
def State.queueDrop (s : State) (x : SpanId) (kind : FrameKind) : State :=
  let u := s.span x
  let n := u.drops + 1
  (s.setSpan x { u with drops := n }).raise (spanSource x).toNat
    { kind := 3, source := spanSource x, position := s.eventPosition, detail := kind.code, value := n.setWidth 32 }

/-- A frame is offered to the transmit queue of span `x` (R32, R33). -/
def State.offer (s : State) (x : SpanId) (f : TxFrame) : State × Offer :=
  let u := s.span x
  let kind := f.frame.kind
  if kind.consumer ≠ .spanUnit ∧ u.state ≠ .up then (s, .discarded)
  else if u.depth < 8 then (s.setSpan x { u with txq := u.txq ++ [f] }, .joined)
  else
    let worst := worstClass u.txq
    if kind.txClass < worst then
      match dropYoungest worst u.txq with
      | (some g, q) => ((s.setSpan x { u with txq := q ++ [f] }).queueDrop x g.frame.kind, .joined)
      | (none, _) => (s.queueDrop x kind, .dropped)
    else (s.queueDrop x kind, .dropped)

/-- An offer whose result the offering block does not act on. -/
def State.send (s : State) (x : SpanId) (f : Frame) : State := (s.offer x { frame := f, tag := .plain }).1

/-- An offer on a span that may not exist. -/
def State.sendIf (s : State) (x : Option SpanId) (f : Frame) : State :=
  match x with
  | some y => s.send y f
  | none => s

/-- A HELLO or KEEPALIVE of the span unit: header fields 0, the rest filled at each attempt (R15, R35). -/
def unitFrame (kind : FrameKind) : Frame :=
  { kind, late := false, conflict := false, origin := 0, hop := 0, gen := 0, delay := 0, payload := [] }

/-- The span unit enqueues a HELLO (R14, R16). -/
def State.enqueueHello (s : State) (x : SpanId) : State := s.send x (unitFrame .hello)

/-- Takes the oldest frame for a consumer out of a receive queue (R30). -/
def takeFor (c : Consumer) : List RxFrame → Option RxFrame × List RxFrame
  | [] => (none, [])
  | f :: rest =>
    if f.frame.kind.consumer = c then (some f, rest)
    else
      let t := takeFor c rest
      (t.1, f :: t.2)

/-- A consumer takes its oldest frame of span `x` if it is of the kind the command names; otherwise nothing arises
(R28, R30; log 2). -/
def State.takeFrame (s : State) (x : SpanId) (kind : FrameKind) (f : RxFrame → State → State) : State :=
  let u := s.span x
  match takeFor kind.consumer u.rxq with
  | (some r, rest) => if r.frame.kind = kind then f r (s.setSpan x { u with rxq := rest }) else s
  | (none, _) => s

/-- The census engine and the wave relay act on a frame of an UP span; in other states it is discarded (R28). -/
def State.takeWhileUp (s : State) (x : SpanId) (kind : FrameKind) (f : Frame → Nat → State → State) : State :=
  s.takeFrame x kind fun r t => if t.isUp x then f r.frame r.endAt t else t

end Sys2Proof.Machine
end

