-- ==== Sys2Proof/Machine/HeatOps.lean ====
section
/-!
DEFINITION. The heating share unit's shared operations: the cap state and its events (R141, R144), taking a grant
(R140), the image's demand and grant fields (R75), and making an allocation (R137 to R139).
-/

namespace Sys2Proof.Machine

/-- The causes of a cap state change (R144). -/
inductive CapCause | configured | grantTaken | holdRanOut | generationChanged | overdraw | cleared
deriving DecidableEq, Repr

def CapCause.code : CapCause → Byte
  | .configured => 1
  | .grantTaken => 2
  | .holdRanOut => 3
  | .generationChanged => 4
  | .overdraw => 5
  | .cleared => 6

/-- The trail group of the heating share and firing units, whose events keep their order (R149). -/
def heatGroup : Nat := 8

/-- The cap state moves; the hold timer stops at an entry to any state but GRANTED; a change raises HEAT_STATE (R141,
R144). -/
def State.setCap (s : State) (new : CapState) (cause : CapCause) : State :=
  let old := s.heat.cap
  let t := { s with heat := { s.heat with cap := new, holdEnd := if new = .granted then s.heat.holdEnd else none } }
  if old = new then t
  else t.raise heatGroup { kind := 14, source := 8, position := s.eventPosition, detail := new.code,
                           value := (word16 t.cap ++ cause.code ++ old.code : Word32) }

/-- The car takes its grant: it is recorded; unless FAULTED, the hold timer restarts at 5 s and the cap state is GRANTED
(R140, R141). -/
def State.takeGrant (s : State) (value : Nat) (gen alloc : Word16) : State :=
  let t := { s with heat := { s.heat with lastGrant := { value, gen, alloc } } }
  match t.heat.cap with
  | .stopped => t
  | .faulted => t
  | .granted => { t with heat := { t.heat with holdEnd := some (t.now + 5000 * ms) } }
  | .fallback =>
    State.setCap { t with heat := { t.heat with holdEnd := some (t.now + 5000 * ms) } } .granted .grantTaken

/-- The image generation changed: a grant of the old generation no longer counts (R141). -/
def State.generationChanged (s : State) : State :=
  match s.heat.cap with
  | .granted => s.setCap .fallback .generationChanged
  | .stopped => s
  | .fallback => s
  | .faulted => s

/-- Writes each entry's demand into the record at its position; positions 0 and above n are ignored (R75). -/
def writeDemands (records : List ImageRecord) (entries : List (Nat × Nat)) : List ImageRecord :=
  entries.foldl (fun rs e => if e.1 = 0 then rs else rs.modify (e.1 - 1) (fun r => { r with demand := word16 e.2 })) records

/-- Writes the grant of every position and the allocation number (R75); a list index is the position less 1. -/
def writeGrants (alloc : Word16) : List ImageRecord → List Nat → List ImageRecord
  | [], _ => []
  | r :: rs, gs => { r with grant := word16 (gs.headD 0), grantAlloc := alloc } :: writeGrants alloc rs gs.tail

def State.setRecords (s : State) (rs : List ImageRecord) : State := { s with table := { s.table with records := rs } }

/-- The lead's train span, opposite its cab end (3.1, R77). -/
def State.trainSpan (s : State) : SpanId := otherSpan s.cabSpan

/-- The header of a wave frame of this car (R82). -/
def State.waveFrame (s : State) (kind : FrameKind) (origin : Nat) (payload : List Byte) : Frame :=
  { kind, late := false, conflict := false, origin := byte origin, hop := byte s.table.own, gen := s.table.gen,
    delay := 0, payload }

/-- The lead makes an allocation: number, own grant, image in one rewrite, board, and a GRANT when n is above 1 (R137 to
R139). The image is published first, so that the grants are a rewrite of their own (R75). -/
def State.allocate (s : State) : State :=
  let n := s.n
  let number := nextNumber s.heat.allocNumber
  let leff := s.leff
  let d := divide leff (allocEntries n s.demand s.heat.allocList)
  let grants := (List.range n).map fun i => grantAt d.shares (i + 1)
  let record : AllocRecord :=
    { lineV := s.mon.lineV.reading, leff, number, level := d.level,
      sumDemand := (d.shares.map fun x => x.demand).sum, sumGrant := (d.shares.map fun x => x.grant).sum,
      remainder := d.remainder, shares := d.shares }
  let s1 := s.publishImage
  let s2 := ({ s1 with heat := { s1.heat with allocNumber := number } }).takeGrant (grantAt d.shares 1) s.table.gen number
  let s3 := { s2.setRecords (writeGrants number s2.table.records grants) with
    heat := { s2.heat with lastAlloc := record } }
  if 1 < n then s3.send s3.trainSpan (s3.waveFrame .grant 1 (grantPayload number grants)) else s3

/-- The allocation timer of a single-car lead starts, and the first allocation is made (R137). -/
def State.startAllocations (s : State) : State :=
  State.allocate { s with heat := { s.heat with allocEnd := some (s.now + 1000 * ms) } }

/-- At an entry to a state other than VALID and STALE and at a change of role, the allocation list is emptied and the
timer stopped (R129). -/
def State.clearAllocations (s : State) : State := { s with heat := { s.heat with allocList := [], allocEnd := none } }

end Sys2Proof.Machine
end

