-- ==== Sys2Proof/Machine/DoorOps.lean ====
section
/-!
DEFINITION. The door unit's shared operations: changes of a side's state (R96, R113), fault causes (R101), orders at a
side (R103 to R106), the decision at a car (R118, R119), and the lead's outstanding order (R114, R116, R121, R122).
-/

namespace Sys2Proof.Machine

/-- The transition causes of R113. -/
inductive DoorCause | configured | order | lease | lock | closeTimer | feedback | auxLow | localControl | faultClear
deriving DecidableEq, Repr

def DoorCause.code : DoorCause → Byte
  | .configured => 1
  | .order => 2
  | .lease => 3
  | .lock => 4
  | .closeTimer => 5
  | .feedback => 6
  | .auxLow => 7
  | .localControl => 8
  | .faultClear => 9

/-- The trail source of a door side (R170). -/
def sideSource : SideId → Byte
  | .one => 5
  | .two => 6

/-- The half-period of the release frequency setting: 1000, 500 or 250 µs (R98). -/
def State.halfPeriod (s : State) : Nat :=
  if s.settings.releaseFrequency = 1 then 1000 * us
  else if s.settings.releaseFrequency = 2 then 500 * us
  else 250 * us

/-- The lease of a lease code: 0.5, 1, 2 or 5 s (6.6). -/
def leaseTime (code : Byte) : Nat :=
  if code = 0 then 500 * ms else if code = 1 then 1000 * ms else if code = 2 then 2000 * ms else 5000 * ms

/-- An APPLY_SKIPPED event (R105). -/
def State.skipEvent (s : State) (group : Nat) (k : SideId) (o : PendingOrder) (why : Skip) : State :=
  s.raise group { kind := 12, source := sideSource k, position := s.eventPosition, detail := o.number,
                  value := ((0 : Word16) ++ o.action.code ++ why.code : Word32) }

/-- Empties a pending order without applying it, with reason DISCARDED (R104). Its event has a group of its own: R113
orders DOOR_FAULT and DOOR_STATE only (log 51). -/
def State.discardPending (s : State) (k : SideId) : State :=
  let d := s.side k
  match d.pend with
  | none => s
  | some o => (s.setSide k { d with pend := none, lastSkip := some .discarded }).skipEvent (15 + (sideSource k).toNat) k o .discarded

/-- A side's fields after an entry to a state: outputs and timers as R96 lists them; entry to RELEASED restarts the
generator high (R98); RELEASED, CLOSING and ISOLATED end the live status of CLOSE_TIMEOUT and LOCK_LOST (R101). -/
def Side.enter (d : Side) (new : DoorState) (now closeTimeout : Nat) : Side :=
  let t := { d with
    state := new
    leaseEnd := none
    closeEnd := none
    relHigh := false }
  match new with
  | .released =>
    { t with relHigh := true, halfStart := now, sampled := false,
             live := { t.live with closeTimeout := false, lockLost := false } }
  | .closing =>
    { t with closeEnd := some (now + closeTimeout * 1000 * ms), live := { t.live with closeTimeout := false, lockLost := false } }
  | .isolated => { t with live := { t.live with closeTimeout := false, lockLost := false } }
  | .absent => t
  | .closed => t
  | .unlocked => t
  | .fault => t

/-- One change of a side's state with its DOOR_STATE event (R113). -/
def State.moveSide (s : State) (k : SideId) (new : DoorState) (cause : DoorCause) (number : Byte) : State :=
  let d := s.side k
  (s.setSide k (d.enter new s.now s.settings.closeTimeout)).raise (sideSource k).toNat
    { kind := 10, source := sideSource k, position := s.eventPosition, detail := new.code,
      value := (number.setWidth 16 ++ cause.code ++ d.state.code : Word32) }

/-- A side enters a state. FAULT and ISOLATED empty the pending order (R104); UNLOCKED and CLOSING move on to CLOSED at
once when the debounced lock level is true (R97). -/
def State.enterSide (s : State) (k : SideId) (new : DoorState) (cause : DoorCause) (number : Byte) : State :=
  let t := s.moveSide k new cause number
  match new with
  | .fault => t.discardPending k
  | .isolated => t.discardPending k
  | .unlocked => if (t.side k).lock then t.moveSide k .closed .lock 0 else t
  | .closing => if (t.side k).lock then t.moveSide k .closed .lock 0 else t
  | .absent => t
  | .closed => t
  | .released => t

/-- CLOSED when the debounced lock level is true, UNLOCKED otherwise (R95, R106, R107, R108). -/
def Side.rest (d : Side) : DoorState := if d.lock then .closed else .unlocked

/-! ## Fault causes (R101) -/

inductive FaultCause | mismatch | closeTimeout | lockLost
deriving DecidableEq, Repr

def FaultCause.code : FaultCause → Byte
  | .mismatch => 1
  | .closeTimeout => 2
  | .lockLost => 3

def Causes.get (c : Causes) : FaultCause → Bool
  | .mismatch => c.mismatch
  | .closeTimeout => c.closeTimeout
  | .lockLost => c.lockLost

def Causes.set (c : Causes) (f : FaultCause) (b : Bool) : Causes :=
  match f with
  | .mismatch => { c with mismatch := b }
  | .closeTimeout => { c with closeTimeout := b }
  | .lockLost => { c with lockLost := b }

/-- An unmasked cause is stored (R102), or live or stored (R110). -/
def Causes.anyUnmasked (c masked : Causes) : Bool :=
  (c.mismatch && !masked.mismatch) || (c.closeTimeout && !masked.closeTimeout) || (c.lockLost && !masked.lockLost)

def Causes.any (c : Causes) : Bool := c.mismatch || c.closeTimeout || c.lockLost

/-- The transition cause of a fault cause (R113). -/
def FaultCause.doorCause : FaultCause → DoorCause
  | .mismatch => .feedback
  | .closeTimeout => .closeTimer
  | .lockLost => .lock

/-- A cause becomes live: it is stored; a stored addition raises FAULT_TALLY and DOOR_FAULT; the channel enters FAULT,
or UNLOCKED for a masked CLOSE_TIMEOUT in CLOSING or LOCK_LOST in CLOSED (R101). -/
def State.causeArises (s : State) (k : SideId) (f : FaultCause) : State :=
  let d := s.side k
  let masked := d.masked.get f
  let s1 := s.setSide k { d with live := d.live.set f true, stored := d.stored.set f true }
  let s2 :=
    if d.stored.get f then s1
    else
      ({ s1 with tallies := { s1.tallies with fault := s1.tallies.fault + 1 } }).raise (sideSource k).toNat
        { kind := 11, source := sideSource k, position := s.eventPosition, detail := f.code,
          value := (boolByte masked).setWidth 32 }
  match d.state with
  | .isolated => s2
  | .fault => s2
  | .absent => s2
  | .closed =>
    if masked then (if f = .lockLost then s2.enterSide k .unlocked f.doorCause 0 else s2)
    else s2.enterSide k .fault f.doorCause 0
  | .closing =>
    if masked then (if f = .closeTimeout then s2.enterSide k .unlocked f.doorCause 0 else s2)
    else s2.enterSide k .fault f.doorCause 0
  | .released => if masked then s2 else s2.enterSide k .fault f.doorCause 0
  | .unlocked => if masked then s2 else s2.enterSide k .fault f.doorCause 0

/-! ## Orders at a side (R103 to R106) -/

/-- The first failing check of a RELEASE at its apply instant (R105). -/
def State.skipReason (s : State) (k : SideId) (o : PendingOrder) : Option Skip :=
  if o.action ≠ .release then none
  else if s.census.state ≠ .valid then some .census
  else if o.gen ≠ s.table.gen then some .generation
  else if (s.side k).state = .absent ∨ (s.side k).state = .isolated ∨ (s.side k).state = .fault then some .sideState
  else if s.mon.auxLow then some .auxLow
  else none

/-- The lease of a RELEASE starts, counted from the apply instant (R106). -/
def State.startLease (s : State) (k : SideId) (o : PendingOrder) : State :=
  s.setSide k { s.side k with leaseEnd := some (o.applyAt + leaseTime o.lease) }

/-- What an order that takes effect does to a side in each state (R106). -/
def State.actOnSide (s : State) (k : SideId) (o : PendingOrder) : State :=
  match (s.side k).state, o.action with
  | .released, .release => s.startLease k o
  | .closed, .release => (s.enterSide k .released .order o.number).startLease k o
  | .closing, .release => (s.enterSide k .released .order o.number).startLease k o
  | .unlocked, .release => (s.enterSide k .released .order o.number).startLease k o
  | .released, .withdraw => s.enterSide k (s.side k).rest .order o.number
  | .released, .close => s.enterSide k .closing .order o.number
  | .unlocked, .close => s.enterSide k .closing .order o.number
  | _, _ => s

/-- The pending order of a side reaches its apply instant: it is checked again, applied or skipped, and the pending
order is then empty (R104, R105, R106). -/
def State.applyPending (s : State) (k : SideId) (o : PendingOrder) : State :=
  let s1 := s.setSide k { s.side k with pend := none }
  match s1.skipReason k o with
  | some why => (s1.setSide k { s1.side k with lastSkip := some why }).skipEvent (sideSource k).toNat k o why
  | none => (s1.setSide k { s1.side k with lastAction := some o.action }).actOnSide k o

/-- A side's verdict on an order handed to it (R103). -/
def State.verdict (s : State) (k : SideId) (a : Action) : Verdict :=
  let st := (s.side k).state
  if st = .absent ∨ st = .isolated then .notAddressed
  else if st = .fault then .refusedFault
  else if a = .release ∧ s.census.state = .stale then .refusedStale
  else if a = .release ∧ s.mon.auxLow = true then .refusedAux
  else .taken

/-- An order is handed to a side: verdict, pending order, and application at once when its instant has been reached
(R103, R104). -/
def State.handToSide (s : State) (k : SideId) (o : PendingOrder) : State :=
  let v := s.verdict k o.action
  let s1 := s.setSide k { s.side k with lastVerdict := some v }
  if v = .taken then
    if o.applyAt ≤ s.now then s1.applyPending k o else s1.setSide k { s1.side k with pend := some o }
  else s1

/-- The sides an order addresses at a car: position in range, train side mapped through the front end (R118). A car without a
front end has no train sides and is handed no order, BOTH included (log 60). -/
def sidesAddressed (o : Order) (position : Nat) (front : Option SpanId) (k : SideId) : Bool :=
  decide (o.first.toNat ≤ position) && decide (position ≤ o.last.toNat) &&
    match front with
    | none => false
    | some f =>
      if o.trainSide = 1 then k == trainLeft f
      else if o.trainSide = 2 then k == trainRight f
      else true

/-- The class of a car from the verdict codes of its sides, 0 for a side not handed the order (R119). -/
def classOf (v1 v2 : Byte) : OrderClass :=
  if 3 ≤ v1.toNat ∨ 3 ≤ v2.toNat then .refused
  else if v1 = 1 ∨ v2 = 1 then .applied
  else .notAddressed

/-- The door unit decides on an order for the car: each addressed side gives its verdict and takes the order (R118,
R119). The verdicts are those of this moment. -/
def State.handOrder (s : State) (o : Order) (gen : Word16) (applyAt : Nat) (late : Bool) (position : Nat) : State × Contribution :=
  let p : PendingOrder := { action := o.action, number := o.number, lease := o.lease, gen, applyAt, late }
  let one := sidesAddressed o position s.front .one
  let two := sidesAddressed o position s.front .two
  let v1 : Byte := if one then (s.verdict .one o.action).code else 0
  let v2 : Byte := if two then (s.verdict .two o.action).code else 0
  let s1 := if one then s.handToSide .one p else s
  let s2 := if two then s1.handToSide .two p else s1
  (s2, { cls := classOf v1 v2, late, verdict1 := v1, verdict2 := v2 })

/-! ## Counts of an ORDER_ACK (R120) -/

/-- A count raised by 1, stopping at `top` (R120, R121); one received above `top` is brought down to it (log 66). -/
def raiseCount (top : Nat) (b : Byte) : Byte := if b.toNat < top then b + 1 else byte top

/-- An ORDER_ACK with no car counted (R83, R120). -/
def emptyAck (number : Byte) (stop : Byte) (origin : Byte) : OrderAck where
  number := number
  reached := 0
  applied := 0
  notAddressed := 0
  refused := 0
  late := 0
  firstRefused := 0
  stop := stop
  origin := origin

/-- A car adds its contribution; a refusing car is the one nearest the lead so far (R120). -/
def addContribution (top : Nat) (m : OrderAck) (c : Contribution) (position : Nat) : OrderAck :=
  { m with
    reached := raiseCount top m.reached
    applied := if c.cls = .applied then raiseCount top m.applied else m.applied
    notAddressed := if c.cls = .notAddressed then raiseCount top m.notAddressed else m.notAddressed
    refused := if c.cls = .refused then raiseCount top m.refused else m.refused
    late := if c.late then raiseCount top m.late else m.late
    firstRefused := if c.cls = .refused then byte position else m.firstRefused }

/-! ## The outstanding order of the lead (R114, R116, R121, R122) -/

/-- The result bytes of a DOOR_ORDER slot that was taken (R121). -/
def orderResults (o : Outstanding) (m : OrderAck) : List Byte :=
  let verdicts : Byte := match o.own with
    | some c => c.verdict1 ||| (c.verdict2 <<< (4 : Nat))
    | none => 0
  [o.order.number, m.reached, m.applied, m.notAddressed, m.refused, m.late, m.firstRefused, m.stop, m.origin, byte o.n,
    o.order.last, verdicts] ++ le16 o.gen

/-- The outstanding order completes and is emptied; the ack wait stops (R121, R122). -/
def State.finishOrder (s : State) (o : Outstanding) (m : OrderAck) (outcome : SlotOutcome) (detail : Byte) : State :=
  let t := s.complete o.slot outcome detail (orderResults o m)
  { t with door := { t.door with
    outstanding := none
    ackEnd := none
    lastDone := { number := o.order.number, outcome := outcome.code,
                  counts := [m.reached, m.applied, m.notAddressed, m.refused, m.late, m.firstRefused, m.stop, m.origin] } } }

/-- The counts of the lead alone, zero while its contribution has not been formed (R122). -/
def ownCounts (o : Outstanding) (stop origin : Byte) : OrderAck :=
  match o.own with
  | some c => addContribution 32 (emptyAck o.order.number stop origin) c 1
  | none => emptyAck o.order.number stop origin

/-- The outstanding order, if any, ends without an ORDER_ACK: SUPERSEDED, TIMED_OUT or ABORTED (R122). -/
def State.endOutstanding (s : State) (outcome : SlotOutcome) (detail stop origin : Byte) : State :=
  match s.door.outstanding with
  | some o => s.finishOrder o (ownCounts o stop origin) outcome detail
  | none => s

/-- The lead takes an ORDER_ACK for its outstanding order; one that comes before the own contribution waits (R121). The total
is compared with n as it was when the request was taken, and one above it completes PARTIAL (log 61). -/
def State.leadTakesAck (s : State) (m : OrderAck) : State :=
  match s.door.outstanding with
  | none => s
  | some o =>
    if m.number ≠ o.order.number then s
    else match o.own with
      | none =>
        { s with door := { s.door with outstanding := some { o with waiting := some (o.waiting.getD m) } } }
      | some c =>
        let total := addContribution 32 m c 1
        s.finishOrder o total (if total.reached.toNat = o.n then .ok else .partially) m.stop

/-- Takes an order in flight out of the list by its number (R116). -/
def takeFlight (number : Byte) : List Flight → Option Flight × List Flight
  | [] => (none, [])
  | f :: rest =>
    if f.order.number = number then (some f, rest)
    else
      let t := takeFlight number rest
      (t.1, f :: t.2)

/-- The lead hands an order in flight to its own sides with its own apply instant; the contribution goes into the
outstanding order if that is still this order (R116, R118, R119). A car that has dropped the lead since does the same with
position 1 and the front end it then has, if any (R114; log 60). -/
def State.leadTakesOwn (s : State) (f : Flight) (applyAt : Nat) : State :=
  let r := s.handOrder f.order f.gen applyAt false 1
  match r.1.door.outstanding with
  | none => r.1
  | some o =>
    if o.order.number = f.order.number then
      { r.1 with door := { r.1.door with outstanding := some { o with own := some r.2 } } }
    else r.1

/-- Span delay in delay units, rounded to the nearest (R91, R93). -/
def delayUnits (delay : Nat) : Nat := (delay + 100) / 200

/-- The span reports that the lead's ORDER completed, its successful attempt having started at `start`: the lead works
out its own apply instant, its sides decide, and an ORDER_ACK that waited is taken (R91, R116, R121). -/
def State.leadOrderCompleted (s : State) (number : Byte) (start : Nat) : State :=
  match takeFlight number s.door.inFlight with
  | (none, _) => s
  | (some f, rest) =>
    let applyAt := start + (1840 + delayUnits (s.span s.trainSpan).delay + f.d0) * delayUnit
    let t := State.leadTakesOwn { s with door := { s.door with inFlight := rest } } f applyAt
    match t.door.outstanding with
    | some o => if o.order.number = number then (match o.waiting with | some m => t.leadTakesAck m | none => t) else t
    | none => t

/-- The span reports that the lead's ORDER was discarded, dropped or given up: the own apply instant is D0 after the
report, and an order still outstanding completes PARTIAL with the lead's contribution alone (R91, R116, R122). -/
def State.leadOrderLost (s : State) (number : Byte) (why : StopReason) : State :=
  match takeFlight number s.door.inFlight with
  | (none, _) => s
  | (some f, rest) =>
    let t := State.leadTakesOwn { s with door := { s.door with inFlight := rest } } f (s.now + f.d0 * delayUnit)
    match t.door.outstanding with
    | some o =>
      if o.order.number = number then t.finishOrder o (ownCounts o why.code 1) .partially why.code else t
    | none => t

/-- The held roll is emptied and the roll age timer stopped (R114). -/
def State.dropHeldRoll (s : State) : State := { s with door := { s.door with held := none, rollAgeEnd := none, aged := false } }

end Sys2Proof.Machine
end

