-- ==== Sys2Proof/Machine/RelayOps.lean ====
section
/-!
DEFINITION. The wave relay's shared operations: the end car (R84), origination and its watch (R89, R90), the open order
and its endings (R86), and what happens to an ORDER that a span lost (R35, R86, R116).
-/

namespace Sys2Proof.Machine

/-- The period of a roll kind: 100 ms or 1000 ms (R89). -/
def rollPeriod : RollKind → Nat
  | .doorState => 100 * ms
  | .demand => 1000 * ms

def Relay.watch (r : Relay) : RollKind → RollWatch
  | .doorState => r.doorWatch
  | .demand => r.demandWatch

def Relay.setWatch (r : Relay) : RollKind → RollWatch → Relay
  | .doorState, w => { r with doorWatch := w }
  | .demand, w => { r with demandWatch := w }

def State.setWatch (s : State) (k : RollKind) (w : RollWatch) : State := { s with relay := s.relay.setWatch k w }

/-- A member in VALID or STALE is the end car at position n or with its downstream span not UP; the lead never is (R84). -/
def State.isEndCar (s : State) : Bool :=
  s.census.role == .member && s.census.state.listed && (s.table.own == s.n || !s.downstreamUp)

/-- The member writes the demands of a roll's entries, its own among them, into its image, a rewrite of its own (R75). -/
def State.noteDemands (s : State) (entries : List (Nat × Nat)) : State :=
  let t := s.publishImage
  (t.setRecords (writeDemands t.table.records entries)).publishImage

/-- A car's own share of a DOOR_STATE roll: contributors 1 (R124). -/
def State.ownDoorState (s : State) : List Byte :=
  doorStatePayload 1 s.provenLeft s.provenRight (if s.unproven then byte s.table.own else 0)

/-- A member originates a roll of a kind on its upstream span (R89, R124, R134). -/
def State.originate (s : State) (k : RollKind) : State :=
  match k with
  | .doorState => s.sendIf s.upstream (s.waveFrame .doorState s.table.own s.ownDoorState)
  | .demand =>
    let es := [(s.table.own, s.demand)]
    let t := s.noteDemands es
    t.sendIf t.upstream (t.waveFrame .demand t.table.own (demandPayload es))

/-- The car becomes the end car: the origination timers start and the first roll of each kind is originated (R89). -/
def State.becomeEnd (s : State) : State :=
  let arm (k : RollKind) (w : RollWatch) : RollWatch := { w with dueAt := some (s.now + rollPeriod k), substitute := false }
  let t := { s with relay := { s.relay with
    endCar := some true
    doorWatch := arm .doorState s.relay.doorWatch
    demandWatch := arm .demand s.relay.demandWatch } }
  (t.originate .doorState).originate .demand

/-- The car is not the end car, or no longer: origination stops and the watch for rolls from below starts (R89, R90). -/
def State.watchBelow (s : State) : State :=
  let rest (w : RollWatch) : RollWatch := { w with dueAt := none, substitute := false, watchFrom := s.now }
  { s with relay := { s.relay with
    endCar := some false
    doorWatch := rest s.relay.doorWatch
    demandWatch := rest s.relay.demandWatch } }

/-- The end-car status is read afresh after a span event or a change of the census (R84, R89; log 40). -/
def State.reviewEnd (s : State) : State :=
  if s.census.role = .member ∧ s.census.state.listed = true then
    if s.isEndCar then (if s.relay.endCar = some true then s else s.becomeEnd)
    else (if s.relay.endCar = some false then s else s.watchBelow)
  else s

/-! ## ORDER_ACK of a member (R85, R86) -/

/-- An ORDER_ACK sent on the upstream span by this car (R82, R120). -/
def State.sendAck (s : State) (m : OrderAck) (gen : Word16) : State :=
  s.sendIf s.upstream { s.waveFrame .orderAck m.origin.toNat (orderAckPayload m) with gen }

/-- The ORDER_ACK a car starts, with its own contribution alone (R120). -/
def State.startAck (s : State) (number : Byte) (gen : Word16) (c : Contribution) (why : StopReason) : State :=
  s.sendAck (addContribution 31 (emptyAck number why.code (byte s.table.own)) c s.table.own) gen

/-- The open order ends with a stop reason of this car (R86). -/
def State.endOpenOrder (s : State) (why : StopReason) : State :=
  match s.relay.openOrder with
  | none => s
  | some o => State.startAck { s with relay := { s.relay with openOrder := none } } o.number o.gen o.own why

/-- The span tells the relay that the ORDER it sent on was lost: the open order ends if it is still that one (R86). -/
def State.forwardedLost (s : State) (gen : Word16) (number : Byte) (why : StopReason) : State :=
  match s.relay.openOrder with
  | none => s
  | some o => if o.gen = gen ∧ o.number = number then s.endOpenOrder why else s

/-- The offering block is told that a frame of its own was lost (R32, R33, R39, R40). -/
def State.tellLost (s : State) (why : StopReason) (f : TxFrame) : State :=
  match f.tag with
  | .plain => s
  | .leadOrder number => s.leadOrderLost number why
  | .forwarded gen number _ _ _ => s.forwardedLost gen number why

/-- An ORDER is offered and its loss, if any, acted on at once (R86, R116). -/
def State.offerOrder (s : State) (x : SpanId) (f : TxFrame) : State :=
  match s.offer x f with
  | (t, .joined) => t
  | (t, .discarded) => t.tellLost .spanEnd f
  | (t, .dropped) => t.tellLost .forwardLost f

/-- A member's downstream span left UP: an open order ends with SPAN_END (R86). -/
def State.relaySpanDown (s : State) (x : SpanId) : State :=
  if s.census.role = .member ∧ s.census.state.listed = true ∧ s.downstream = some x then s.endOpenOrder .spanEnd else s

end Sys2Proof.Machine
end

