-- ==== Sys2Proof/Machine/Doors.lean ====
section
/-!
DEFINITION. Meanings of the door commands (chapters 6 and 7): DOOR_ORDER, local control, fault clearing, locks, feedback,
apply instants and timers.
-/

namespace Sys2Proof.Machine

/-! ## DOOR_ORDER (R115, R116, R122) -/

/-- The first failing check of a DOOR_ORDER with its outcome and detail (R115). -/
def State.doorOrderRefusal (s : State) (r : Request) : Option (SlotOutcome × Byte) :=
  if s.census.role ≠ .lead then some (.refusedRole, 0)
  else match doorOrderFault r.params with
    | some offset => some (.refusedRange, byte offset)
    | none =>
      if ¬(s.census.state = .valid ∨ (s.census.state = .stale ∧ r.param 0 ≠ 1)) then
        some (.refusedState, s.census.state.code)
      else if s.n < (r.param 2).toNat then some (.refusedRange, 2)
      else if (r.param 3).toNat < (r.param 2).toNat then some (.refusedRange, 3)
      else none

/-- The next order number, from 255 on to 1 (R116). -/
def nextOrderNumber (b : Byte) : Byte := if b = 0xFF then 1 else b + 1

/-- The ORDER frame of the lead (R82, R91, R117). -/
def State.orderFrame (s : State) (o : Order) (d0 : Nat) : Frame :=
  { s.waveFrame .order 1 (orderPayload o) with delay := word32 d0 }

/-- A DOOR_ORDER that passes its checks (R116). -/
def State.takeDoorOrder (s : State) (r : Request) (a : Action) : State :=
  let s1 := s.endOutstanding .superseded 0 0 0
  let o : Order :=
    { number := nextOrderNumber s.door.lastNumber, action := a, trainSide := r.param 1, first := r.param 2,
      last := byte (min (r.param 3).toNat s.n), lease := r.param 4 }
  let d0 := (getLe16 r.params 6).toNat * 10000
  let out : Outstanding := { slot := r.slot, order := o, d0, gen := s.table.gen, n := s.n, own := none, waiting := none }
  let s2 := { s1 with door := { s1.door with
    lastNumber := o.number, outstanding := some out, ackEnd := some (s.now + 1000 * ms) } }
  if s.n = 1 then
    let h := s2.handOrder o s.table.gen (s.now + d0 * delayUnit) false 1
    let done : Outstanding := { out with own := some h.2 }
    h.1.finishOrder done (ownCounts done StopReason.ended.code 1) .ok StopReason.ended.code
  else
    let flight : Flight := { order := o, d0, gen := s.table.gen }
    let s3 := { s2 with door := { s2.door with inFlight := s2.door.inFlight ++ [flight] } }
    s3.offerOrder s3.trainSpan { frame := s3.orderFrame o d0, tag := .leadOrder o.number }

def State.doorOrder (s : State) (r : Request) : State :=
  match s.doorOrderRefusal r, actionOf (r.param 0) with
  | some why, _ => s.complete r.slot why.1 why.2 []
  | none, some a => s.takeDoorOrder r a
  | none, none => s

/-- DOOR_ORDER (R116). -/
def execDoorOrder (dt : Nat) (s : State) : Result :=
  .next <| s.run dt fun t => t.serve (fun r => r.kind == .doorOrder) fun r u => u.doorOrder r

/-- DOOR_ORDER_TIMED_OUT (R122). -/
def execDoorOrderTimedOut (dt : Nat) (s : State) : Result :=
  .next <| s.run dt fun t =>
    if t.reached t.door.ackEnd then t.endOutstanding .timedOut 5 StopReason.noAck.code 1 else t

/-- ROLL_AGE_TIMER_EXPIRED (R125). -/
def execRollAgeTimerExpired (dt : Nat) (s : State) : Result :=
  .next <| s.run dt fun t =>
    if t.reached t.door.rollAgeEnd then { t with door := { t.door with aged := true, rollAgeEnd := none } } else t

/-! ## DOOR_LOCAL (R110) -/

/-- A handed DOOR_LOCAL that the row of this action carries out (R110; log 18). -/
def Request.doorAction (r : Request) (action : Byte) : Bool := r.kind == .doorLocal && r.rowAction 2 == action

/-- The side selector: 1 side 1, 2 side 2, 3 both (R110). -/
def selectsSide (selector : Byte) : SideId → Bool
  | .one => selector == 1 || selector == 3
  | .two => selector == 2 || selector == 3

/-- DOOR_LOCAL on the selected sides, none of which may be ABSENT (R110). An action outside 1 and 2 is refused as a
selector outside 1 to 3 is (log 18); the detail byte of each completion is 0, which R110 does not say (log 52). -/
def State.doorLocal (s : State) (r : Request) (act : SideId → State → State) : State :=
  let sel := r.param 1
  if r.param 0 ≠ r.rowAction 2 ∨ !(sel == 1 || sel == 2 || sel == 3) then s.complete r.slot .refusedRange 0 []
  else
    let absent (k : SideId) : Bool := selectsSide sel k && (s.side k).state == .absent
    if absent .one || absent .two then s.complete r.slot .refusedState 0 []
    else
      let s1 := if selectsSide sel .one then act .one s else s
      let s2 := if selectsSide sel .two then act .two s1 else s1
      s2.complete r.slot .ok 0 [s2.door.side1.state.code, s2.door.side2.state.code]

/-- A side is isolated; one already ISOLATED is left as it is (R110). -/
def State.isolateSide (k : SideId) (s : State) : State :=
  if (s.side k).state = .isolated then s else s.enterSide k .isolated .localControl 0

/-- The state an ISOLATED side is restored to (R110). -/
def Side.restored (d : Side) : DoorState :=
  if d.live.anyUnmasked d.masked || d.stored.anyUnmasked d.masked then .fault else d.rest

/-- An ISOLATED side is restored; a side in any other state is left as it is (R110). -/
def State.restoreSide (k : SideId) (s : State) : State :=
  let d := s.side k
  if d.state = .isolated then s.enterSide k d.restored .localControl 0 else s

/-- DOOR_LOCAL_ISOLATE (R110). -/
def execDoorLocalIsolate (dt : Nat) (s : State) : Result :=
  .next <| s.run dt fun t => t.serve (fun r => r.doorAction 1) fun r u => u.doorLocal r State.isolateSide

/-- DOOR_LOCAL_RESTORE (R110). -/
def execDoorLocalRestore (dt : Nat) (s : State) : Result :=
  .next <| s.run dt fun t => t.serve (fun r => r.doorAction 2) fun r u => u.doorLocal r State.restoreSide

/-! ## FAULT_CLEAR for a door side (R102) -/

/-- Clears the stored status of the named causes; 0 names all three (R102). -/
def Causes.clear (c : Causes) (named : Byte) : Causes :=
  { mismatch := c.mismatch && !(named == 0 || named.getLsbD 0)
    closeTimeout := c.closeTimeout && !(named == 0 || named.getLsbD 1)
    lockLost := c.lockLost && !(named == 0 || named.getLsbD 2) }

/-- A FAULT_CLEAR completion with the side's state and causes (R102); R102 gives no detail, and the byte is 0 (log 52). -/
def State.completeClear (s : State) (k : SideId) (slot : Nat) (outcome : SlotOutcome) : State :=
  let d := s.side k
  s.complete slot outcome 0 [d.state.code, d.live.byte, d.stored.byte]

/-- FAULT_CLEAR of a side (R102). -/
def State.clearSide (s : State) (k : SideId) (r : Request) : State :=
  let d := s.side k
  if 8 ≤ (r.param 1).toNat then s.completeClear k r.slot .refusedRange
  else if d.state = .absent then s.completeClear k r.slot .refusedState
  else if d.live.any then s.completeClear k r.slot .refusedState
  else
    let stored := d.stored.clear (r.param 1)
    let s1 := s.setSide k { d with stored := stored }
    let s2 := if d.state = .fault ∧ stored.anyUnmasked d.masked = false then s1.enterSide k d.rest .faultClear 0 else s1
    s2.completeClear k r.slot .ok

/-- FAULT_CLEAR at the door unit: target 1 or 2; any other target but 3 is out of range (R102, R168). -/
def State.faultClearDoor (s : State) (r : Request) : State :=
  if r.param 0 = 1 then s.clearSide .one r
  else if r.param 0 = 2 then s.clearSide .two r
  else s.complete r.slot .refusedRange 0 []

/-- FAULT_CLEAR_DOOR (R102). -/
def execFaultClearDoor (dt : Nat) (s : State) : Result :=
  .next <| s.run dt fun t => t.serve (fun r => r.kind == .faultClear && r.param 0 != 3) fun r u => u.faultClearDoor r

/-! ## The lock input (R97) -/

/-- One sample of a lock input: the run of samples that differ from the debounced level grows to 50 or starts again; a
change that is due stands until it is taken (R97; log 6). -/
def Side.sampleLock (d : Side) (level : Bool) : Side :=
  if 50 ≤ d.lockRun then d
  else if level = d.lock then { d with lockRun := 0 }
  else { d with lockRun := d.lockRun + 1 }

/-- The debounced level turns true: the live status of CLOSE_TIMEOUT and LOCK_LOST ends, and UNLOCKED and CLOSING become
CLOSED (R97, R101). -/
def State.lockTrue (s : State) (k : SideId) : State :=
  let d := s.side k
  let t := s.setSide k { d with lock := true, lockRun := 0, live := { d.live with closeTimeout := false, lockLost := false } }
  match d.state with
  | .closing => t.enterSide k .closed .lock 0
  | .unlocked => t.enterSide k .closed .lock 0
  | .absent => t
  | .closed => t
  | .released => t
  | .isolated => t
  | .fault => t

/-- The debounced level turns false: LOCK_LOST arises in CLOSED (R97, R101). -/
def State.lockFalse (s : State) (k : SideId) : State :=
  let d := s.side k
  let t := s.setSide k { d with lock := false, lockRun := 0 }
  match d.state with
  | .closed => t.causeArises k .lockLost
  | .closing => t
  | .unlocked => t
  | .absent => t
  | .released => t
  | .isolated => t
  | .fault => t

/-- LOCK_LEVEL_CHANGED: 50 consecutive samples have shown the other level (R97). -/
def execLockLevelChanged (dt : Nat) (k : SideId) (s : State) : Result :=
  .next <| s.run dt fun t =>
    if 50 ≤ (t.side k).lockRun then (if (t.side k).lock then t.lockFalse k else t.lockTrue k) else t

/-! ## The release output and its feedback (R98, R99) -/

/-- A half-period boundary of the generator: the output of a RELEASED side alternates, any other stays low (R98). -/
def State.halfPeriodEnd (s : State) (k : SideId) : State :=
  let d := s.side k
  if d.state ≠ .absent ∧ d.halfStart + s.halfPeriod ≤ s.now then
    s.setSide k { d with
      halfStart := d.halfStart + s.halfPeriod, sampled := false
      relHigh := if d.state = .released then !d.relHigh else false }
  else s

/-- RELEASE_HALF_PERIOD (R98). -/
def execReleaseHalfPeriod (dt : Nat) (k : SideId) (s : State) : Result :=
  .next <| s.run dt fun t => t.halfPeriodEnd k

/-- The middle of the half-period has come and its sample is still to be taken (R99). -/
def State.sampleDue (s : State) (k : SideId) : Bool :=
  let d := s.side k
  d.state != .absent && !d.sampled && decide (d.halfStart + s.halfPeriod / 2 ≤ s.now)

/-- A sample of the feedback input: one that differs from the commanded level raises the mismatch run, and DRIVE_MISMATCH
becomes live when it reaches 4; one that agrees sets it to 0 and ends the live status (R99, R101). -/
def State.takeFeedback (s : State) (k : SideId) (high : Bool) : State :=
  let d := s.side k
  if high = d.relHigh then
    s.setSide k { d with sampled := true, mismatch := 0, live := { d.live with mismatch := false } }
  else
    let t := s.setSide k { d with sampled := true, mismatch := min 4 (d.mismatch + 1) }
    if d.mismatch = 3 then t.causeArises k .mismatch else t

/-- FEEDBACK_SAMPLE (R99). -/
def execFeedbackSample (dt : Nat) (k : SideId) (high : Bool) (s : State) : Result :=
  .next <| s.run dt fun t => if t.sampleDue k then t.takeFeedback k high else t

/-- DRIVE_MISMATCH: the sample that brings the mismatch run to 4 (R99, R101; log 32). -/
def execDriveMismatch (dt : Nat) (k : SideId) (s : State) : Result :=
  .next <| s.run dt fun t =>
    if t.sampleDue k && (t.side k).mismatch == 3 then t.takeFeedback k (!(t.side k).relHigh) else t

/-- DRIVE_MISMATCH_ENDED: a sample that agrees (R99, R101; log 32). -/
def execDriveMismatchEnded (dt : Nat) (k : SideId) (s : State) : Result :=
  .next <| s.run dt fun t => if t.sampleDue k then t.takeFeedback k (t.side k).relHigh else t

/-! ## Apply instants, leases and close timers (R100, R105, R107) -/

/-- The apply instant of a side's pending order. -/
def State.pendingAt (s : State) (k : SideId) : Option Nat := (s.side k).pend.map fun o => o.applyAt

/-- The side's pending order is due at the instant `t`, the earliest that has come. -/
def State.applyAtInstant (s : State) (t : Nat) (k : SideId) : State :=
  match (s.side k).pend with
  | some o => if o.applyAt = t then s.applyPending k o else s
  | none => s

/-- The earliest apply instant of the two sides. -/
def State.earliestApply (s : State) : Option Nat :=
  match s.pendingAt .one, s.pendingAt .two with
  | some a, some b => some (min a b)
  | some a, none => some a
  | none, b => b

/-- APPLY_INSTANT: both sides of a car reach one order's instant together (R105, R106). -/
def execApplyInstant (dt : Nat) (s : State) : Result :=
  .next <| s.run dt fun t =>
    match t.earliestApply with
    | some i => if i ≤ t.now then (t.applyAtInstant i .one).applyAtInstant i .two else t
    | none => t

/-- LEASE_EXPIRED (R107). -/
def execLeaseExpired (dt : Nat) (k : SideId) (s : State) : Result :=
  .next <| s.run dt fun t =>
    if (t.side k).state = .released ∧ t.reached (t.side k).leaseEnd = true then t.enterSide k (t.side k).rest .lease 0 else t

/-- CLOSE_TIMEOUT (R100). -/
def execCloseTimeout (dt : Nat) (k : SideId) (s : State) : Result :=
  .next <| s.run dt fun t =>
    if (t.side k).state = .closing ∧ t.reached (t.side k).closeEnd = true then t.causeArises k .closeTimeout else t

end Sys2Proof.Machine
end

