-- ==== Sys2Proof/Machine/AuxClock.lean ====
section
/-!
DEFINITION. Meanings of the AUX timers (R153, R108) and of the millisecond tick with its lock samples (R97, R161).
-/

namespace Sys2Proof.Machine

/-- The AUX state changes: its timers stop, the change is stamped and its event raised (R153, R154). The stamp is the
millisecond into which the moment of the change falls, also while the tick of that moment is not yet taken; the event's record
then still carries the count before the tick (log 76). -/
def State.changeAux (s : State) (low : Bool) (kind : Byte) : State :=
  ({ s with mon := { s.mon with auxLow := low, lowEnd := none, returnEnd := none, auxStamp := stampOf s.now } }).raise 10
    { kind := kind, source := 10, position := s.eventPosition, detail := 0, value := word32 s.mon.auxV.reading }

/-- A released side is withdrawn when the AUX state turns LOW (R108). -/
def State.withdrawSide (s : State) (k : SideId) : State :=
  if (s.side k).state = .released then s.enterSide k (s.side k).rest .auxLow 0 else s

/-- LOW_TIMER_EXPIRED (R153). -/
def execLowTimerExpired (dt : Nat) (s : State) : Result :=
  .next <| s.run dt fun t =>
    if t.mon.auxLow = false ∧ t.reached t.mon.lowEnd = true then
      ((t.changeAux true 16).withdrawSide .one).withdrawSide .two
    else t

/-- RETURN_TIMER_EXPIRED (R153). -/
def execReturnTimerExpired (dt : Nat) (s : State) : Result :=
  .next <| s.run dt fun t =>
    if t.mon.auxLow = true ∧ t.reached t.mon.returnEnd = true then t.changeAux false 17 else t

/-- The millisecond count rises and wraps, and the lock inputs are sampled (R97, R161). -/
def State.tick (s : State) (lck1 lck2 : Bool) : State :=
  { s with
    msCount := s.msCount + 1
    tickDue := s.tickDue + ms
    door := { s.door with side1 := s.door.side1.sampleLock lck1, side2 := s.door.side2.sampleLock lck2 } }

/-- MILLISECOND_TICK (R161). -/
def execMillisecondTick (dt : Nat) (lck1 lck2 : Bool) (s : State) : Result :=
  .next <| s.run dt fun t => if t.tickDue ≤ t.now then t.tick lck1 lck2 else t

end Sys2Proof.Machine
end

