-- ==== Sys2Proof/Machine/CensusOps.lean ====
section
/-!
DEFINITION. The census engine's shared operations: entries to census states and roles (R42 to R45), the car's own record
(R49, R73), tables (R47, R56, R74), starting, completing and failing a census (R46, R59, R66), and span events (R54,
R60, R63 to R65).
-/

namespace Sys2Proof.Machine

/-- The trail group and source of the census engine (R67, R170). -/
def censusGroup : Nat := 3

def State.setCensus (s : State) (c : Census) : State := { s with census := c }

/-- The census timer of a state (3.1). -/
def censusTime : CensusState → Option Nat
  | .calling => some (2000 * ms)
  | .distributing => some (1500 * ms)
  | .enlisted => some (1500 * ms)
  | .awaitTable => some (2000 * ms)
  | .uncensused => none
  | .valid => none
  | .stale => none

/-- An entry to a census state: its timer starts afresh or the timer stops (R42); the settle timer stops in CALLING and
DISTRIBUTING (R65); a state other than VALID and STALE empties the relay (R81) and the allocation list (R129) and, at
the lead, ends the outstanding order and empties the held roll (R114, R122). -/
def State.enterCensus (s : State) (c : CensusState) : State :=
  let t := s.setCensus { s.census with
    state := c
    timerEnd := (censusTime c).map (fun d => s.now + d)
    settleEnd := if c.busy then none else s.census.settleEnd }
  if c.listed then t
  else
    let u := ({ t with relay := Relay.empty }).clearAllocations
    match s.census.role with
    | .member => u
    | .lead => (u.endOutstanding .aborted c.code 0 0).dropHeldRoll

/-! ## The car's own record (R49, R72, R73) -/

/-- The record of a car with front end `front`; `frontDelay` is 0 at the lead (R49, R73). -/
def State.makeRecord (s : State) (front : SpanId) (frontDelay : Nat) : CarRecord :=
  let down := otherSpan front
  let long := decide (s.settings.longSpan < frontDelay)
  let fault := s.heat.cap == .faulted
  let suspect := s.isUp down && decide (s.settings.longSpan < (s.span down).delay)
  { identity := s.settings.identity, kind := byte s.settings.kind, frontEnd := endCode front,
    doorSides := byte s.settings.doorSides, flags := byte (long.toNat + 2 * fault.toNat + 4 * suspect.toNat),
    demand := word16 s.demand, capacity := word16 s.capacity, frontDelay := word16 frontDelay, lastGen := s.table.gen }

def State.leadRecord (s : State) : CarRecord := s.makeRecord s.cabSpan 0

def State.memberRecord (s : State) (c : Context) : CarRecord := s.makeRecord c.upstream (s.span c.upstream).delay

/-! ## Tables (R74) -/

/-- An image record as a table writes it (R74, R78). -/
def imageRecordOf (r : CarRecord) : ImageRecord :=
  let sides : Byte × Byte := if r.frontEnd = 1 then (2, 1) else if r.frontEnd = 2 then (1, 2) else Config.trainSides r.frontEnd
  { car := r, left := sides.1, right := sides.2, proving := 0, demand := r.demand, grant := 0, grantAlloc := 0 }

/-- A table is written into the image; the heating share unit learns of a changed generation (R74, R141). A table whose
generation is the one held leaves GRANTED as it is (log 68). -/
def State.writeTable (s : State) (own : Nat) (gen number : Word16) (lead : Word32) (rs : List CarRecord) : State :=
  let t := { s with table := { own, gen, number, signature := signature rs, lead, records := rs.map imageRecordOf } }
  if gen = s.table.gen then t else t.generationChanged

/-! ## Frames of the census engine (R48) -/

/-- The position in the census the car is working in, 0 if it has none (R48). A lead's is 1 also while no census runs, and a
member's is that of its context in every census state (log 64). -/
def State.censusPosition (s : State) : Nat :=
  match s.census.role with
  | .lead => 1
  | .member => match s.census.ctx with
    | some c => c.position
    | none => 0

/-- A census frame made by this car (R48). -/
def State.censusFrame (s : State) (kind : FrameKind) (gen : Word16) (payload : List Byte) : Frame :=
  { kind, late := false, conflict := false, origin := byte s.censusPosition, hop := byte s.censusPosition, gen, delay := 0,
    payload }

/-- A REPORT; the CONFLICT flag goes with the answer CONFLICT (R48). -/
def State.reportFrame (s : State) (number : Word16) (lead : Word32) (a : Answer) (rs : List CarRecord) : Frame :=
  { s.censusFrame .report 0 (reportPayload number lead a rs) with conflict := a == .conflict }

/-- A VOID of this car, with its image generation (R48). -/
def State.voidFrame (s : State) (m : VoidMark) : Frame :=
  s.censusFrame .void s.table.gen (voidPayload m.number m.lead m.reason)

def State.breakFrame (s : State) (m : BreakMsg) : Frame := s.censusFrame .brk s.table.gen (breakPayload m)

/-- A VOID on a span, if it is UP (R59, R61, R62, R63). -/
def State.sendVoid (s : State) (x : SpanId) (m : VoidMark) : State :=
  if s.isUp x then s.send x (s.voidFrame m) else s

/-! ## The end of a census (R45, R59, R66, R67) -/

/-- The result bytes of a census slot (R45). -/
def State.censusResults (s : State) (n : Nat) (position : Byte) : List Byte :=
  le16 s.census.number ++ [byte n] ++ le16 s.table.gen ++ [position, s.census.state.code]

/-- The census slot completes and is forgotten (R45). -/
def State.completeCensusSlot (s : State) (outcome : SlotOutcome) (detail : Byte) (n : Nat) (position : Byte) : State :=
  (s.setCensus { s.census with slot := none }).completeIf s.census.slot outcome detail (s.censusResults n position)

/-- CENSUS_FAILED (R67). -/
def State.censusFailedEvent (s : State) (reason : FailReason) (position : Byte) : State :=
  s.raise censusGroup { kind := 7, source := 3, position := s.eventPosition, detail := reason.code,
                        value := s.census.number ++ (position.setWidth 16) }

/-- The reasons that are retried (R66). -/
def FailReason.retried : FailReason → Bool
  | .downstreamSilent => true
  | .ackTimeout => true
  | .tableRefused => true
  | .spanLost => true
  | _ => false

/-- The settle timer starts at 500 ms if the auto-census setting is on (R65, R66). -/
def State.startSettle (s : State) (retry : Nat) : State :=
  if s.settings.autoCensus = 1 then
    s.setCensus { s.census with settleEnd := some (s.now + 500 * ms), retry := retry }
  else s

/-- A census fails at the lead (R59), and the retry rule (R66). `position` is the origin position of the REPORT or the
first refusing position, 0 when neither applies (R45). -/
def State.failCensus (s : State) (reason : FailReason) (position : Byte) : State :=
  let s1 := s.enterCensus .uncensused
  let s2 := s1.sendVoid s1.trainSpan { number := s1.census.number, lead := s1.settings.identity, reason := reason.code }
  let s3 := (s2.completeCensusSlot .aborted reason.code 0 position).censusFailedEvent reason position
  if reason.retried = true ∧ s3.census.retry < 3 then s3.startSettle (s3.census.retry + 1) else s3

/-- A census completes at the lead: VALID, retry count 0, CENSUS_DONE, the census slot OK (R47, R58). -/
def State.completeCensus (s : State) : State :=
  let s1 := s.enterCensus .valid
  let s2 := s1.setCensus { s1.census with retry := 0 }
  let s3 := s2.raise censusGroup { kind := 6, source := 3, position := s2.eventPosition, detail := byte s2.n,
                                   value := s2.census.number ++ s2.table.gen }
  s3.completeCensusSlot .ok 0 s3.n 0

/-! ## Starting a census (R46, R47) -/

/-- The single-car table; the lead enters VALID and makes its first allocation, with the list of no earlier table (R47,
R137). -/
def State.buildSingle (s : State) : State :=
  let r := s.leadRecord
  let s1 := s.writeTable 1 (nextNumber s.table.gen) s.census.number s.settings.identity [r]
  s1.clearAllocations.completeCensus.startAllocations

/-- A lead starts a census with or without a census slot (R46). -/
def State.startCensus (s : State) (slot : Option Nat) : State :=
  let s1 := s.setCensus { s.census with number := nextNumber s.census.number, slot := slot, settleEnd := none }
  if s1.isUp s1.cabSpan then s1.failCensus .leadNotAtEnd 0
  else if s1.isUp s1.trainSpan then
    let s2 := s1.enterCensus .calling
    s2.send s2.trainSpan (s2.censusFrame .call 0 (callPayload s2.census.number s2.settings.identity))
  else s1.buildSingle

/-- The role becomes LEAD: the context is emptied, the settle timer stopped, the retry count 0 (R44, R129). -/
def State.becomeLead (s : State) : State :=
  let t := s.setCensus { s.census with
    role := .lead, ctx := none, lastVoid := none, ackForwarded := false, relayed := false, settleEnd := none, retry := 0 }
  ({ t with relay := Relay.empty }).clearAllocations

/-- The role becomes MEMBER with an empty context and the state UNCENSUSED (R61, R114, R129, R142). The record of the last
allocation is emptied here, so a car that takes the lead again shows 0 in bytes 40 to 55 and 64 to 191 until its next one
(log 69). The image records stay as they are (R43, R61), and with them the door-proving codes written as lead, although R76 has
that field 0 at a member (log 75). -/
def State.becomeMember (s : State) : State :=
  let s1 := s.enterCensus .uncensused
  let s2 := s1.setCensus { s1.census with
    role := .member, ctx := none, lastVoid := none, ackForwarded := false, relayed := false }
  State.clearAllocations { s2 with heat := { s2.heat with lastAlloc := AllocRecord.zero } }

/-! ## Span events (R54, R60, R63, R64, R65) -/

/-- VALID becomes STALE with CONSIST_STALE; STALE stays (R63, R64, R67). -/
def State.goStale (s : State) (position lostEnd cause : Byte) : State :=
  if s.census.state = .valid then
    (s.enterCensus .stale).raise censusGroup
      { kind := 8, source := 3, position := s.eventPosition, detail := position,
        value := (cause ++ lostEnd ++ s.table.gen : Word32) }
  else s

/-- A BREAK of this car for its own span event (R63). -/
def State.sendBreak (s : State) (x : SpanId) (cause : Byte) : State :=
  s.sendIf s.upstream (s.breakFrame { number := s.table.number, lead := s.table.lead, position := byte s.table.own,
                                      lostEnd := endCode x, cause })

/-- A span event at a lead outside a census: VALID becomes STALE, and the settle timer starts with the retry count at 0
(R64, R65). -/
def State.leadSpanEvent (s : State) (x : SpanId) (cause : Byte) : State :=
  (s.goStale (byte s.table.own) (endCode x) cause).startSettle 0

/-- The census engine takes SPAN_UP (R54, R60, R63, R64). -/
def State.censusSpanUp (s : State) (x : SpanId) : State :=
  match s.census.role with
  | .lead =>
    if s.census.state.busy then (if x = s.cabSpan then s.failCensus .leadNotAtEnd 0 else s)
    else s.leadSpanEvent x joinedCode
  | .member =>
    if s.census.state.listed = true ∧ s.downstream = some x then
      (s.sendBreak x joinedCode).goStale (byte s.table.own) (endCode x) joinedCode
    else s

/-- A member leaves its census without a frame (R54). -/
def State.leaveCensus (s : State) : State := s.enterCensus .uncensused

/-- A REPORT with answer SILENT and no records on the upstream span, then UNCENSUSED (R54). -/
def State.reportSilent (s : State) (c : Context) : State :=
  (s.send c.upstream (s.reportFrame c.number c.lead .silent [])).leaveCensus

/-- A member in VALID or STALE lost a span: a BREAK upstream for the downstream span, a VOID with reason CUT and
UNCENSUSED for the upstream span (R63). -/
def State.memberSpanLost (s : State) (x : SpanId) (code : Byte) : State :=
  if s.downstream = some x then (s.sendBreak x code).goStale (byte s.table.own) (endCode x) code
  else if s.upstream = some x then
    (s.sendVoid (otherSpan x) { number := s.table.number, lead := s.table.lead, reason := FailReason.cut.code }).leaveCensus
  else s

/-- The census engine takes SPAN_DOWN (R54, R60, R63, R64). -/
def State.censusSpanDown (s : State) (x : SpanId) (cause : Cause) : State :=
  match s.census.role with
  | .lead =>
    if s.census.state.busy then (if x = s.trainSpan then s.failCensus .spanLost 0 else s)
    else s.leadSpanEvent x cause.code
  | .member =>
    match s.census.state, s.census.ctx with
    | .enlisted, some c => if x = c.upstream then s.leaveCensus else s.reportSilent c
    | .awaitTable, some c => if x = c.upstream ∨ s.census.relayed = true then s.leaveCensus else s
    | .uncensused, _ => s
    | .calling, _ => s
    | .distributing, _ => s
    | .enlisted, none => s
    | .awaitTable, none => s
    | .valid, _ => s.memberSpanLost x cause.code
    | .stale, _ => s.memberSpanLost x cause.code

end Sys2Proof.Machine
end

