-- ==== Sys2Proof/Machine/Census.lean ====
section
/-!
DEFINITION. Meanings of the census commands (chapter 3). Each ends with a fresh look at the end-car status (R84).
-/

namespace Sys2Proof.Machine

/-! ## Requests (R44, R45, R61) -/

/-- ENLISTED or AWAIT_TABLE: a member taking part in a census (3.1). -/
def CensusState.takingPart : CensusState → Bool
  | .enlisted => true
  | .awaitTable => true
  | .uncensused => false
  | .calling => false
  | .distributing => false
  | .valid => false
  | .stale => false

/-- TAKE_LEAD, taken by its owner (R44; log 29). -/
def State.takeLead (s : State) (r : Request) : State :=
  if s.settings.kind ≠ 1 then s.complete r.slot .refusedRole 0 []
  else if s.census.state.takingPart || s.census.state.busy then s.complete r.slot .refusedBusy 0 []
  else match s.census.role with
    | .member => s.becomeLead.startCensus (some r.slot)
    | .lead => s.startCensus (some r.slot)

/-- TAKE_LEAD (R44). -/
def execTakeLead (dt : Nat) (s : State) : Result :=
  .next <| s.run dt fun t => t.serve (fun r => r.kind == .takeLead) fun r u => (u.takeLead r).reviewEnd

/-- CENSUS_START, taken by its owner (R45). -/
def State.censusStart (s : State) (r : Request) : State :=
  match s.census.role with
  | .member => s.complete r.slot .refusedRole 0 []
  | .lead =>
    if s.census.state.busy then s.complete r.slot .refusedBusy 0 []
    else (s.setCensus { s.census with retry := 0 }).startCensus (some r.slot)

/-- CENSUS_START (R45). -/
def execCensusStart (dt : Nat) (s : State) : Result :=
  .next <| s.run dt fun t => t.serve (fun r => r.kind == .censusStart) fun r u => (u.censusStart r).reviewEnd

/-- A lead gives up its role; a running census ends with its slot ABORTED (R45, R61). -/
def State.dropLead (s : State) : State :=
  let s1 := s.sendVoid s.trainSpan
    { number := s.census.number, lead := s.settings.identity, reason := FailReason.leadDropped.code }
  let s2 := s1.setCensus { s1.census with timerEnd := none, settleEnd := none, retry := 0 }
  if s.census.state.busy then
    (s2.censusFailedEvent .leadDropped 0).becomeMember.completeCensusSlot .aborted FailReason.leadDropped.code 0 0
  else s2.becomeMember

/-- DROP_LEAD (R61). -/
def execDropLead (dt : Nat) (s : State) : Result :=
  .next <| s.run dt fun t => t.serve (fun r => r.kind == .dropLead) fun r u =>
    match u.census.role with
    | .member => u.complete r.slot .refusedRole 0 []
    | .lead => u.dropLead.reviewEnd.complete r.slot .ok 0 []

/-! ## CALL (R50 to R53) -/

/-- A CALL's number is newer than the context's (R50; log 10). -/
def newerNumber (held called : Word16) : Bool :=
  let d := (called - held).toNat
  if 1 ≤ d ∧ d ≤ 32767 then true
  else if d = 32768 ∧ called.toNat < held.toNat then Config.newerAtWrap held called
  else false

def State.leadConflict (s : State) (who : Byte) (lead : Word32) : State :=
  s.raise censusGroup { kind := 9, source := 3, position := s.eventPosition, detail := who, value := lead }

/-- A member finds a conflict (R51). -/
def State.memberConflict (s : State) (x : SpanId) (m : CallMsg) (c : Context) : State :=
  let s1 := s.send x (s.reportFrame m.number m.lead .conflict [])
  let s2 := s1.send c.upstream (s1.reportFrame c.number c.lead .conflict [])
  s2.leaveCensus.leadConflict 2 m.lead

/-- A member adopts a CALL (R52). -/
def State.adoptCall (s : State) (x : SpanId) (m : CallMsg) : State :=
  let c : Context := { lead := m.lead, number := m.number, position := m.hop + 1, upstream := x }
  let t := s.setCensus { s.census with ctx := some c, lastVoid := none, ackForwarded := false, relayed := false }
  if t.isUp (otherSpan x) then
    if c.position ≤ 31 then
      (t.send (otherSpan x) (t.censusFrame .call 0 (callPayload m.number m.lead))).enterCensus .enlisted
    else (t.send x (t.reportFrame m.number m.lead .tooLong [])).leaveCensus
  else (t.send x (t.reportFrame m.number m.lead .ended [t.memberRecord c])).enterCensus .awaitTable

/-- A member takes a valid CALL (R50). -/
def State.memberCall (s : State) (x : SpanId) (m : CallMsg) : State :=
  if m.lead = s.settings.identity then s
  else match s.census.ctx with
    | none => s.adoptCall x m
    | some c =>
      if c.lead = m.lead then (if newerNumber c.number m.number then s.adoptCall x m else s)
      else if s.census.state.takingPart then s.memberConflict x m c
      else s.adoptCall x m

/-- A lead takes a valid CALL (R53). -/
def State.leadCall (s : State) (x : SpanId) (m : CallMsg) : State :=
  if m.lead = s.settings.identity then s
  else
    let t := (s.send x (s.reportFrame m.number m.lead .conflict [])).leadConflict 1 m.lead
    if t.census.state.busy then t.failCensus .leadConflict 0 else t

def State.takeCall (s : State) (x : SpanId) (f : Frame) : State :=
  match parseCall f with
  | none => s
  | some m =>
    match s.census.role with
    | .member => s.memberCall x m
    | .lead => s.leadCall x m

/-- CALL (R50). -/
def execCall (dt : Nat) (x : SpanId) (s : State) : Result :=
  .next <| s.run dt fun t => t.takeWhileUp x .call fun f _ u => (u.takeCall x f).reviewEnd

/-! ## REPORT (R54, R56) -/

/-- A member relays a REPORT with its own record in front (R54). -/
def State.relayReport (s : State) (m : ReportMsg) (c : Context) : State :=
  let f := s.reportFrame m.number m.lead m.answer (s.memberRecord c :: m.records)
  let t := s.send c.upstream { f with origin := m.origin }
  if m.answer = .ended then (t.setCensus { t.census with relayed := true }).enterCensus .awaitTable else t.leaveCensus

def State.memberReport (s : State) (x : SpanId) (m : ReportMsg) : State :=
  match s.census.state, s.census.ctx with
  | .enlisted, some c =>
    if x = otherSpan c.upstream ∧ m.number = c.number ∧ m.lead = c.lead ∧ m.records.length < 31 then s.relayReport m c
    else s
  | _, _ => s

/-- An identity stands twice in a list of records (R56). -/
def hasRepeat : List CarRecord → Bool
  | [] => false
  | r :: rest => rest.any (fun q => q.identity == r.identity) || hasRepeat rest

/-- The new generation: 1 plus the largest of the own generation and the records' last generations (R56). -/
def newGeneration (own : Word16) (rs : List CarRecord) : Word16 :=
  nextNumber (word16 (rs.foldl (fun m r => max m r.lastGen.toNat) own.toNat))

/-- The lead builds and distributes its table (R56). -/
def State.buildTable (s : State) (rs : List CarRecord) : State :=
  let t := s.writeTable 1 (newGeneration s.table.gen rs) s.census.number s.settings.identity rs
  (t.send t.trainSpan (t.censusFrame .table t.table.gen
    (tablePayload t.census.number t.settings.identity t.table.signature rs))).enterCensus .distributing

def State.leadReport (s : State) (x : SpanId) (m : ReportMsg) : State :=
  if s.census.state = .calling ∧ x = s.trainSpan ∧ m.lead = s.settings.identity ∧ m.number = s.census.number then
    match m.answer with
    | .conflict => s.failCensus .leadConflict m.origin
    | .tooLong => s.failCensus .tooManyCars m.origin
    | .silent => s.failCensus .downstreamSilent m.origin
    | .ended =>
      let rs := s.leadRecord :: m.records
      if hasRepeat rs then s.failCensus .duplicateIdentity m.origin else s.buildTable rs
  else s

def State.takeReport (s : State) (x : SpanId) (f : Frame) : State :=
  match parseReport f with
  | none => s
  | some m =>
    match s.census.role with
    | .member => s.memberReport x m
    | .lead => s.leadReport x m

/-- REPORT (R56). -/
def execReport (dt : Nat) (x : SpanId) (s : State) : Result :=
  .next <| s.run dt fun t => t.takeWhileUp x .report fun f _ u => (u.takeReport x f).reviewEnd

/-! ## TABLE (R57) -/

/-- The checks of a member in AWAIT_TABLE (R57). -/
def tablePasses (s : State) (m : TableMsg) (c : Context) : Bool :=
  match m.records[c.position - 1]? with
  | none => false
  | some r => r.identity == s.settings.identity && r.frontEnd == endCode c.upstream && signature m.records == m.signature

/-- A TABLE_ACK of this car on the upstream span of its context (R48, R57). -/
def State.sendTableAck (s : State) (c : Context) (acks refusals first : Byte) : State :=
  s.send c.upstream (s.censusFrame .tableAck 0 (tableAckPayload c.number c.lead acks refusals first))

/-- A passing table is adopted and sent on, or acknowledged at position n; a JOINED BREAK follows there if the
downstream span is UP (R57; log 27). The checks of R57 do not look at the header generation: a table of generation 0 is
adopted as well (log 58). The TABLE_ACK is offered first, then the BREAK; the first rolls of the end car follow both, in
`State.reviewEnd` (log 65). -/
def State.adoptTable (s : State) (m : TableMsg) (c : Context) (payload : List Byte) : State :=
  let t := (s.writeTable c.position m.gen m.number m.lead m.records).enterCensus .valid
  let down := otherSpan c.upstream
  if c.position < m.records.length then t.send down (t.censusFrame .table m.gen payload)
  else
    let u := t.sendTableAck c 1 0 0
    if u.isUp down then (u.sendBreak down joinedCode).goStale (byte u.table.own) (endCode down) joinedCode else u

def State.refuseTable (s : State) (c : Context) : State := s.leaveCensus.sendTableAck c 0 1 (byte c.position)

def State.memberTable (s : State) (x : SpanId) (m : TableMsg) (payload : List Byte) : State :=
  match s.census.ctx with
  | none => s
  | some c =>
    if x = c.upstream ∧ m.lead = c.lead ∧ m.number = c.number then
      if s.census.state = .awaitTable then (if tablePasses s m c then s.adoptTable m c payload else s.refuseTable c)
      else if s.census.state = .valid ∧ s.table.gen = m.gen then s
      else s.refuseTable c
    else s

def State.takeTable (s : State) (x : SpanId) (f : Frame) : State :=
  match s.census.role, parseTable f with
  | .member, some m => s.memberTable x m f.payload
  | .member, none => s
  | .lead, _ => s

/-- TABLE (R57); at position n the first rolls are offered after the answer to the table (R89; log 65). -/
def execTable (dt : Nat) (x : SpanId) (s : State) : Result :=
  .next <| s.run dt fun t => t.takeWhileUp x .table fun f _ u => (u.takeTable x f).reviewEnd

/-! ## TABLE_ACK (R58) -/

/-- The car holds the table distributed in the census of its context (R58). -/
def State.holdsTable (s : State) (c : Context) : Bool :=
  s.census.state.listed && s.table.number == c.number && s.table.lead == c.lead

/-- A member adds itself and relays, once in a census (R58); a count above 31 is brought down to 31 (log 66). -/
def State.memberTableAck (s : State) (x : SpanId) (m : TableAckMsg) : State :=
  match s.census.ctx with
  | none => s
  | some c =>
    if x = otherSpan c.upstream ∧ m.lead = c.lead ∧ m.number = c.number ∧ s.census.ackForwarded = false then
      let payload :=
        if s.holdsTable c then tableAckPayload c.number c.lead (raiseCount 31 m.acks) m.refusals m.first
        else tableAckPayload c.number c.lead m.acks (raiseCount 31 m.refusals) (byte c.position)
      let t := s.send c.upstream { s.censusFrame .tableAck 0 payload with origin := m.origin }
      t.setCensus { t.census with ackForwarded := true }
    else s

def State.leadTableAck (s : State) (x : SpanId) (m : TableAckMsg) : State :=
  if s.census.state = .distributing ∧ x = s.trainSpan ∧ m.lead = s.settings.identity ∧ m.number = s.census.number then
    if m.acks.toNat + 1 = s.n ∧ m.refusals = 0 then s.completeCensus else s.failCensus .tableRefused m.first
  else s

def State.takeTableAck (s : State) (x : SpanId) (f : Frame) : State :=
  match parseTableAck f with
  | none => s
  | some m =>
    match s.census.role with
    | .member => s.memberTableAck x m
    | .lead => s.leadTableAck x m

/-- TABLE_ACK (R58). -/
def execTableAck (dt : Nat) (x : SpanId) (s : State) : Result :=
  .next <| s.run dt fun t => t.takeWhileUp x .tableAck fun f _ u => (u.takeTableAck x f).reviewEnd

/-! ## VOID (R62) -/

def State.memberVoid (s : State) (x : SpanId) (m : VoidMark) (payload : List Byte) : State :=
  match s.census.ctx with
  | none => s
  | some c =>
    if x = c.upstream ∧ m.lead = c.lead ∧ s.census.lastVoid ≠ some m then
      let s1 := s.leaveCensus
      let t := s1.setCensus { s1.census with lastVoid := some m }
      if t.isUp (otherSpan x) then t.send (otherSpan x) (t.censusFrame .void t.table.gen payload) else t
    else s

def State.takeVoid (s : State) (x : SpanId) (f : Frame) : State :=
  match s.census.role, parseVoid f with
  | .member, some m => s.memberVoid x m f.payload
  | .member, none => s
  | .lead, _ => s

/-- VOID (R62). -/
def execVoid (dt : Nat) (x : SpanId) (s : State) : Result :=
  .next <| s.run dt fun t => t.takeWhileUp x .void fun f _ u => (u.takeVoid x f).reviewEnd

/-! ## BREAK (R60, R64, R65) -/

def State.memberBreak (s : State) (x : SpanId) (m : BreakMsg) (payload : List Byte) : State :=
  if s.census.state.listed = true ∧ s.downstream = some x ∧ m.lead = s.table.lead then
    let t := s.goStale m.position m.lostEnd m.cause
    t.sendIf t.upstream (t.censusFrame .brk t.table.gen payload)
  else s

/-- A lead takes a BREAK by its state (R60, R64, R65; log 37). -/
def State.leadBreak (s : State) (x : SpanId) (m : BreakMsg) : State :=
  if x = s.trainSpan ∧ m.lead = s.settings.identity then
    match s.census.state with
    | .valid => (s.goStale m.position m.lostEnd m.cause).startSettle 0
    | .stale => s.startSettle 0
    | .uncensused => s.startSettle 0
    | .distributing => s.failCensus .spanLost 0
    | .calling => s
    | .enlisted => s
    | .awaitTable => s
  else s

def State.takeBreak (s : State) (x : SpanId) (f : Frame) : State :=
  match parseBreak f with
  | none => s
  | some m =>
    match s.census.role with
    | .member => s.memberBreak x m f.payload
    | .lead => s.leadBreak x m

/-- BREAK (R64). -/
def execBrk (dt : Nat) (x : SpanId) (s : State) : Result :=
  .next <| s.run dt fun t => t.takeWhileUp x .brk fun f _ u => (u.takeBreak x f).reviewEnd

/-! ## Timers (R54, R56, R58, R65) -/

/-- The census timer acts on the state in which it was started (R42, R54, R56, R58). -/
def State.censusTimeout (s : State) : State :=
  match s.census.state, s.census.ctx with
  | .calling, _ => s.failCensus .downstreamSilent 0
  | .distributing, _ => s.failCensus .ackTimeout 0
  | .enlisted, some c => s.reportSilent c
  | .enlisted, none => s.leaveCensus
  | .awaitTable, _ => s.leaveCensus
  | .uncensused, _ => s
  | .valid, _ => s
  | .stale, _ => s

/-- CENSUS_TIMER_EXPIRED (R54). -/
def execCensusTimerExpired (dt : Nat) (s : State) : Result :=
  .next <| s.run dt fun t => if t.reached t.census.timerEnd then t.censusTimeout.reviewEnd else t

/-- SETTLE_TIMER_EXPIRED (R65). -/
def execSettleTimerExpired (dt : Nat) (s : State) : Result :=
  .next <| s.run dt fun t =>
    if t.reached t.census.settleEnd = true ∧ t.census.role = .lead ∧ t.census.state.busy = false then
      (t.startCensus none).reviewEnd
    else t

end Sys2Proof.Machine
end

