-- ==== Sys2Proof/Machine/FireOps.lean ====
section
/-!
DEFINITION. The firing unit's period start: judgement, scaling, phases and windows (R146 to R149).
-/

namespace Sys2Proof.Machine

/-- A slot of a firing period, 4 ms, and a period of 256 slots (R145). -/
def slotTime : Nat := 4 * ms

def periodTime : Nat := 256 * slotTime

/-- The scaled on-time of a stage (R146, step 3). -/
def scaledOnTime (c d k : Nat) : Nat := if d = 0 then 0 else if d ≤ c then k else k * c / d

/-- The expected current (R146, step 4). -/
def expectedCurrent (ratings scaled : Stages Nat) : Nat := (Stages.zip (· * ·) ratings scaled).total / 256

/-- The phases of a car at position `p` (R147). -/
def phasesOf (p : Nat) : Stages Nat :=
  let phase (stage : Nat) : Nat := ((p - 1) * 23 + stage * 64) % 256
  { s0 := phase 0, s1 := phase 1, s2 := phase 2, s3 := phase 3 }

/-- The position a period uses: the own position in VALID or STALE, 1 in every other census state (R146, step 2). -/
def State.firePosition (s : State) : Nat := if s.census.state.listed then s.table.own else 1

/-- Steps 2 to 5 of a period start at `start`: the values are taken, and each stage with a scaled on-time opens a window
at the start of its phase's slot; windows of the period before run on (R146, R147). -/
def State.startPeriod (s : State) (start : Nat) : State :=
  let c := s.cap
  let d := s.demand
  let p := s.firePosition
  let scaled := s.heat.onTimes.map (scaledOnTime c d)
  let phases := phasesOf p
  let opens (k phase : Nat) : Option Nat := if 0 < k then some (start + phase * slotTime) else none
  State.publishFire { s with fire := { s.fire with
    periodStart := some start
    count := s.fire.count + 1
    scaled, phases
    starts := Stages.zip opens scaled phases
    cap := c, demand := d, position := p
    expected := expectedCurrent s.settings.ratings scaled
    sum := 0, readings := 0 } }

/-- The margin test: M above E + E div 8 + 20 (R149). -/
def overdrawn (m e : Nat) : Bool := decide (e + e / 8 + 20 < m)

/-- The overdraw fault: FAULT_TALLY and HEAT_FAULT, the cap state FAULTED with its HEAT_STATE, every output off and every
window ended, the firing bytes rewritten (R148, R149, R151). -/
def State.overdrawFault (s : State) (e m : Nat) : State :=
  let s1 := ({ s with tallies := { s.tallies with fault := s.tallies.fault + 1 } }).raise heatGroup
    { kind := 15, source := 9, position := s.eventPosition, detail := 3, value := (word16 m ++ word16 e : Word32) }
  let s2 := s1.setCap .faulted .overdraw
  State.publishFire { s2 with fire := { s2.fire with
    overdraw := 0, starts := Stages.all none, ends := Stages.all none, cut := true } }

/-- Step 1: the ended period is judged in GRANTED and FALLBACK (R149). A period with no reading is not judged. The
outputs are no longer cut from this period start on, unless it finds the fault (R151). Bytes 212 to 218 take the figures of
every ended period, also of one that ended in FAULTED, with code 3 (log 70). -/
def State.judgePeriod (s : State) : State :=
  let f := s.fire
  let e := f.expected
  let m := f.sum / f.readings
  let judged := (s.heat.cap == .granted || s.heat.cap == .fallback) && f.readings != 0
  let exceeds := overdrawn m e
  let count := if judged then (if exceeds then f.overdraw + 1 else 0) else f.overdraw
  let t := { s with fire := { f with
    overdraw := count, lastExpected := e, lastMeasured := m, lastReadings := f.readings, cut := false
    lastJudgement := if judged then (if exceeds then .overdraw else .within) else .notJudged } }
  if judged && decide (3 ≤ count) then t.overdrawFault e m else t

/-- A stage output is on while a window is open (R147). -/
def State.heaterOutput (s : State) (stage : Fin 4) : Bool := (s.fire.ends.get stage).isSome

end Sys2Proof.Machine
end

