-- ==== Sys2Proof/Machine/Heat.lean ====
section
/-!
DEFINITION. Meanings of the heating, firing and line monitor commands (chapters 8 and 9) but for the AUX timers, which
move doors and stand in AuxClock.lean.
-/

namespace Sys2Proof.Machine

/-! ## Demand (R131, R132) -/

/-- HEAT_DEMAND, taken by its owner; any value of its parameters is in range (R131). -/
def State.heatDemand (s : State) (r : Request) : State :=
  let on (i : Nat) : Nat := (r.param i).toNat
  let t := { s with heat := { s.heat with
    source := .request, onTimes := { s0 := on 0, s1 := on 1, s2 := on 2, s3 := on 3 },
    leaseEnd := some (s.now + 10000 * ms) } }
  t.complete r.slot .ok 0
    (le16 (word16 t.demand) ++ [t.heat.cap.code] ++ le16 (word16 t.cap) ++ le16 (word16 t.capacity))

/-- HEAT_DEMAND (R131). -/
def execHeatDemand (dt : Nat) (s : State) : Result :=
  .next <| s.run dt fun t => t.serve (fun r => r.kind == .heatDemand) fun r u => u.heatDemand r

/-- DEMAND_LEASE_EXPIRED (R132). -/
def execDemandLeaseExpired (dt : Nat) (s : State) : Result :=
  .next <| s.run dt fun t =>
    if t.reached t.heat.leaseEnd then
      { t with heat := { t.heat with source := .standby, onTimes := t.settings.standby, leaseEnd := none } }
    else t

/-! ## Supply and allocation (R135 to R139) -/

/-- HEAT_SUPPLY, taken by its owner (R135). One that fails both checks completes with detail 0 (log 67). -/
def State.heatSupply (s : State) (r : Request) : State :=
  let shed := (getLe16 r.params 4).toNat
  let cut := (getLe16 r.params 6).toNat
  if 1 < (r.param 0).toNat then s.complete r.slot .refusedRange 0 []
  else if shed ≤ cut then s.complete r.slot .refusedRange 4 []
  else
    let s1 := { s with heat := { s.heat with
      supply := { on := r.param 0 == 1, limit := (getLe16 r.params 2).toNat, shed, cut } } }
    let allocates := s.census.role == .lead && s.census.state.listed
    let s2 := if allocates then s1.allocate else s1
    s2.complete r.slot .ok 0 (le16 (word16 s2.leff) ++ le16 s2.heat.allocNumber ++ [boolByte allocates])

/-- HEAT_SUPPLY (R135). -/
def execHeatSupply (dt : Nat) (s : State) : Result :=
  .next <| s.run dt fun t => t.serve (fun r => r.kind == .heatSupply) fun r u => u.heatSupply r

/-- ALLOCATION_TIMER_EXPIRED: the timer of a single-car lead runs on and an allocation is made (R137). -/
def execAllocationTimerExpired (dt : Nat) (s : State) : Result :=
  .next <| s.run dt fun t =>
    match t.heat.allocEnd with
    | some e =>
      if e ≤ t.now then State.allocate { t with heat := { t.heat with allocEnd := some (e + 1000 * ms) } } else t
    | none => t

/-- GRANT_HOLD_EXPIRED (R141). -/
def execGrantHoldExpired (dt : Nat) (s : State) : Result :=
  .next <| s.run dt fun t =>
    if t.heat.cap = .granted ∧ t.reached t.heat.holdEnd = true then t.setCap .fallback .holdRanOut else t

/-! ## FAULT_CLEAR for heating (R150) -/

/-- FAULT_CLEAR of the heating target, taken by its owner (R150). -/
def State.faultClearHeating (s : State) (r : Request) : State :=
  let results (t : State) : List Byte := [t.heat.cap.code] ++ le16 (word16 t.cap) ++ [byte t.fire.overdraw]
  if s.heat.cap = .faulted then
    let t := State.setCap { s with fire := { s.fire with overdraw := 0 } } .fallback .cleared
    t.complete r.slot .ok 0 (results t)
  else s.complete r.slot .refusedState s.heat.cap.code (results s)

/-- FAULT_CLEAR_HEATING (R150). -/
def execFaultClearHeating (dt : Nat) (s : State) : Result :=
  .next <| s.run dt fun t => t.serve (fun r => r.kind == .faultClear && r.param 0 == 3) fun r u => u.faultClearHeating r

/-! ## Firing (R146, R147) -/

/-- PERIOD_START: the heating bytes of a fault found in step 1 are rewritten before the firing bytes of step 5 (R146,
R149, R151; log 25). -/
def execPeriodStart (dt : Nat) (s : State) : Result :=
  .next <| s.run dt fun t =>
    match t.fire.periodStart with
    | some p => if p + periodTime ≤ t.now then t.judgePeriod.publishHeat.startPeriod (p + periodTime) else t
    | none => t

/-- The slot number of the current period, 0 to 255; 0 while the period timer is stopped (R145). -/
def State.slotNumber (s : State) : Nat :=
  match s.fire.periodStart with
  | some p => (s.now - p) / slotTime % 256
  | none => 0

/-- A window begins: its stage's output is on until it has lasted ks' slots. A window of the period before that is still open
ends here, the output staying on (R147; log 39). -/
def State.openWindow (s : State) (stage : Fin 4) : State :=
  match s.fire.starts.get stage with
  | some a =>
    if a ≤ s.now then
      { s with fire := { s.fire with
        starts := s.fire.starts.set stage none
        ends := s.fire.ends.set stage (some (a + s.fire.scaled.get stage * slotTime)) } }
    else s
  | none => s

/-- WINDOW_START (R147). -/
def execWindowStart (dt : Nat) (stage : Fin 4) (s : State) : Result :=
  .next <| s.run dt fun t => t.openWindow stage

/-- A period start that falls no later than `e` has not been taken yet (R146). -/
def State.periodOwed (s : State) (e : Nat) : Bool :=
  match s.fire.periodStart with
  | some p => decide (p + periodTime ≤ e)
  | none => false

/-- The stage's next window begins no later than `e` (R147). -/
def State.followsBy (s : State) (stage : Fin 4) (e : Nat) : Bool :=
  match s.fire.starts.get stage with
  | some a => decide (a ≤ e)
  | none => false

/-- A window ends. One that the next window follows without a gap passes into it, the output staying on; so a period start
of the same moment, which may set that window, is taken before it (R147; log 53). -/
def State.endWindow (s : State) (stage : Fin 4) : State :=
  match s.fire.ends.get stage with
  | some e =>
    if s.now < e ∨ s.periodOwed e = true then s
    else if s.followsBy stage e then s.openWindow stage
    else { s with fire := { s.fire with ends := s.fire.ends.set stage none } }
  | none => s

/-- WINDOW_END (R147). -/
def execWindowEnd (dt : Nat) (stage : Fin 4) (s : State) : Result :=
  .next <| s.run dt fun t => t.endWindow stage

/-! ## The line monitor (R152, R153) -/

def Monitor.channel (m : Monitor) : Chan → Channel
  | .linev => m.lineV
  | .cari => m.carI
  | .auxv => m.auxV

def Monitor.setChannel (m : Monitor) : Chan → Channel → Monitor
  | .linev, c => { m with lineV := c }
  | .cari, c => { m with carI := c }
  | .auxv, c => { m with auxV := c }

/-- The full-scale setting of a channel (R152). -/
def Settings.fullScale (s : Settings) : Chan → Nat
  | .linev => s.lineFull
  | .cari => s.carFull
  | .auxv => s.auxFull

/-- The code of a block of A samples: sum × 16 / A (R152). -/
def blockCode (block : List (BitVec 12)) : Nat := (block.map fun x => x.toNat).sum * 16 / block.length

/-- The scaled reading of a code (R152). -/
def scaledReading (code fullScale : Nat) : Nat := code * fullScale / 65520

/-- The last raw sample of the channel's block of A samples falls now (R152). -/
def State.blockDone (s : State) (c : Chan) (block : List (BitVec 12)) : Bool :=
  s.mon.running && block.length == s.settings.averaging && decide ((s.mon.channel c).nextDue ≤ s.now)

/-- The AUX judgement of a completed AUX_V reading: a timer starts, runs on or is stopped (R153). -/
def State.judgeAux (s : State) (reading : Nat) : State :=
  let m := s.mon
  let t := s.settings.auxThreshold
  if m.auxLow then
    if returnLevel t ≤ reading then { s with mon := { m with returnEnd := some (m.returnEnd.getD (s.now + 100 * ms)) } }
    else { s with mon := { m with returnEnd := none } }
  else if reading < t then { s with mon := { m with lowEnd := some (m.lowEnd.getD (s.now + 20 * ms)) } }
  else { s with mon := { m with lowEnd := none } }

/-- The firing unit takes a CAR_I reading while a period runs (R149). -/
def State.addReading (s : State) (reading : Nat) : State :=
  if s.fire.periodStart.isSome then
    { s with fire := { s.fire with sum := s.fire.sum + reading, readings := s.fire.readings + 1 } }
  else s

/-- A completed reading replaces the channel's previous one and is handed to its users (R152). -/
def State.completeReading (s : State) (c : Chan) (block : List (BitVec 12)) : State :=
  let old := s.mon.channel c
  let code := blockCode block
  let reading := scaledReading code (s.settings.fullScale c)
  let new : Channel :=
    { code, reading, completions := old.completions + 1, nextDue := old.nextDue + s.settings.averaging * 375 * us }
  let t := { s with mon := s.mon.setChannel c new }
  match c with
  | .linev => t
  | .cari => t.addReading reading
  | .auxv => t.judgeAux reading

/-- READING_COMPLETED (R152). -/
def execReadingCompleted (dt : Nat) (chan : Chan) (block : List (BitVec 12)) (s : State) : Result :=
  .next <| s.run dt fun t => if t.blockDone chan block then t.completeReading chan block else t

end Sys2Proof.Machine
end

