-- ==== Sys2Proof/Machine/SpanOps.lean ====
section
/-!
DEFINITION. A span's exits and entries: restart, HELD, OFF, GREETING and UP, with the frames that are told lost and the
reports to the census engine and the wave relay (R6, R11, R14, R16, R19 to R21, R40).
-/

namespace Sys2Proof.Machine

/-- Where an exit leads: a restart into PROBING (R19), HELD (R20) or OFF (R11). -/
inductive ExitTo | probing | held | off
deriving DecidableEq, Repr

/-- The span unit after an exit: all is cleared; a restart and an entry to HELD count in the restart count and leave no
classification, an entry to OFF keeps both (R11, R19, R20; log 16). -/
def Span.exit (u : Span) (now : Nat) (cause : Cause) : ExitTo → Span
  | .probing =>
    { (u.clear now).toProbing now with lastCause := cause, lastClass := .none, restartCount := u.restartCount + 1 }
  | .held => { u.clear now with state := .held, lastCause := cause, lastClass := .none, restartCount := u.restartCount + 1 }
  | .off => { u.clear now with state := .off, lastCause := cause }

/-- The SPAN_DOWN report: its trail event, then the wave relay, the census engine and the end-car status take it (R21,
R63, R84, R86). So the ORDER_ACK of an open order is offered first, then the BREAK, then the first rolls (log 59). -/
def State.spanDownReport (s : State) (x : SpanId) (cause : Cause) (lost : Word32) : State :=
  let t := s.raise (spanSource x).toNat
    { kind := 2, source := spanSource x, position := s.eventPosition, detail := cause.code, value := lost }
  ((t.relaySpanDown x).censusSpanDown x cause).reviewEnd

/-- The SPAN_UP report (R21). -/
def State.spanUpReport (s : State) (x : SpanId) (p : Partner) : State :=
  let t := s.raise (spanSource x).toNat
    { kind := 1, source := spanSource x, position := s.eventPosition, detail := p.endCode, value := p.identity }
  (t.censusSpanUp x).reviewEnd

/-- What follows an exit of span `x`, whose unit was `u` before it: after an exit from UP, each census or wave frame the
queue held is told discarded, the current frame first and then the queue from its oldest (log 57), and the report is made;
which of the two comes first is open (R21, R40; log 9). -/
def State.exitFollows (s : State) (x : SpanId) (u : Span) (cause : Cause) : State :=
  if u.state ≠ .up then s
  else
    let tell (v : State) : State := u.queued.foldl (fun w f => w.tellLost .spanEnd f) v
    let report (v : State) : State := v.spanDownReport x cause ((u.partner.map fun p => p.identity).getD 0)
    if u.queued.all (fun f => f.tag == .plain) then report s else s.eitherOrder tell report

/-- An exit of one span (R11, R19, R20). -/
def State.exitSpan (s : State) (x : SpanId) (target : ExitTo) (cause : Cause) : State :=
  let u := s.span x
  (s.setSpan x (u.exit s.now cause target)).exitFollows x u cause

/-- The spans that satisfy `p` exit at one moment; two reports are taken in either order (R3; log 8). -/
def State.exitWhere (s : State) (p : SpanId → Bool) (target : ExitTo) (cause : Cause) : State :=
  let a := s.spanA
  let b := s.spanB
  let t := { s with
    spanA := if p .a then a.exit s.now cause target else a
    spanB := if p .b then b.exit s.now cause target else b }
  let followA (v : State) : State := if p .a then v.exitFollows .a a cause else v
  let followB (v : State) : State := if p .b then v.exitFollows .b b cause else v
  if p .a && p .b then t.eitherOrder followA followB else followB (followA t)

/-- Entry to GREETING: the delay is frozen, probing is cancelled, the heard identity is 0, the greeting timer and the
HELLO schedule start, and a HELLO is enqueued (R6, R14). A waiting answer is not sent; one being driven runs to the end of
its pulse (log 55). -/
def State.enterGreeting (s : State) (x : SpanId) : State :=
  let u := s.span x
  (s.setSpan x { u with
    state := .greeting, probeDue := none, window := none, answers := [], heard := 0,
    greetEnd := some (s.now + 100 * ms), helloDue := some (s.now + 2 * ms) }).enqueueHello x

/-- Entry to UP with a partner record (R14, R16, R29). -/
def State.enterUp (s : State) (x : SpanId) (p : Partner) : State :=
  let u := s.span x
  ((s.setSpan x { u with
    state := .up, partner := some p, bucket := 0, greetEnd := none, helloDue := none,
    silenceEnd := some (s.now + 20 * ms), idleFrom := s.now }).enqueueHello x).spanUpReport x p

/-- A HELLO received in GREETING (R14). -/
def State.greet (s : State) (x : SpanId) (m : HelloMsg) : State :=
  if m.identity = s.settings.identity then s.exitSpan x .held .selfLoop
  else if m.heard = s.settings.identity then
    s.enterUp x { identity := m.identity, endCode := m.endCode, kind := m.kind, gen := m.gen }
  else s.setSpan x { s.span x with heard := m.identity }

/-- A span leaves OFF for PROBING when its enable is set, the part is RUNNING and the relay is OPEN (R11); it acts on nothing
seen while it was in OFF (R1). -/
def State.searchIfReady (s : State) (x : SpanId) : State :=
  let u := s.span x
  if u.state = .off ∧ u.enable = true ∧ s.port.running = true ∧ s.bypass.relay = .opened then
    s.setSpan x { u.toProbing s.now with deafUntil := s.now }
  else s

/-- 4 is added to the error bucket, which stops at 255 (R29). -/
def Span.spoil (u : Span) : Span := { u with bucket := min 255 (u.bucket + 4) }

/-- The mean of samples, rounded half up (R10). -/
def meanHalfUp (l : List Nat) : Nat := (2 * l.sum + l.length) / (2 * l.length)

/-- A delay sample joins the history, and the published span delay is the mean of the last R samples (R10). -/
def Span.addSample (u : Span) (repeatSetting sample : Nat) : Span :=
  let joined := u.history ++ [sample]
  let hist := joined.drop (joined.length - 4)
  { u with history := hist, delay := meanHalfUp (hist.drop (hist.length - repeatSetting)) }

/-- The delay sample of an ANSWERED(t) probe, clamped to 0 to 4000 (R10); t is at least 4000 (R9). -/
def delaySample (t : Nat) : Nat := min 4000 ((t - 4000 + 1) / 2)

/-- The earliest entry that answers a probe (R9). -/
def answerOf? (es : List Excursion) : Option Nat :=
  (es.find? fun e => decide (1800 ≤ e.width.toNat) && decide (e.width.toNat ≤ 2200) &&
    decide (4000 ≤ e.arrival.toNat) && decide (e.arrival.toNat ≤ 12000)).map fun e => e.arrival.toNat

/-- The classification of a probe by its echo entries, in order of arrival (R9). -/
def classify (es : List Excursion) : ProbeClass :=
  if (answerOf? es).isSome then .answered
  else match es with
    | [] => .nothing
    | e :: _ =>
      if 800 ≤ e.width.toNat ∧ e.width.toNat ≤ 1200 then (match e.polarity with | .inverted => .shorted | .same => .opened)
      else .noisy

/-- The echo buffer of up to four excursions, the rest unused (R7). -/
def echoBuffer (es : List Excursion) : List Excursion :=
  es.take 4 ++ List.replicate (4 - es.length) emptyEcho

/-- The debounce of one classified probe in PROBING or SENSED (R12). -/
def State.debounce (s : State) (x : SpanId) (answer : Option Nat) : State :=
  let u := s.span x
  match u.state, answer with
  | .probing, some t => s.setSpan x { u with state := .sensed, runCount := 1, runRef := t }
  | .probing, none => s
  | .sensed, some t =>
    if t ≤ u.runRef + 40 ∧ u.runRef ≤ t + 40 then
      let v := s.setSpan x { u with runCount := u.runCount + 1 }
      if u.runCount + 1 = 3 then v.enterGreeting x else v
    else s.setSpan x { u with runCount := 1, runRef := t }
  | .sensed, none => s.setSpan x { u with state := .probing, runCount := 0, runRef := 0 }
  | .off, _ => s
  | .greeting, _ => s
  | .up, _ => s
  | .held, _ => s

end Sys2Proof.Machine
end

