-- ==== Sys2Proof/Machine/LineOps.lean ====
section
/-!
DEFINITION. Line access: the fields filled at each attempt, the choice of the current frame, and what follows a completed
or given-up frame (R34, R35, R38, R39, R93); the handling of a received frame (R27 to R31).
-/

namespace Sys2Proof.Machine

/-! ## Receiving (R27 to R31) -/

/-- The count of a rejection reason rises (R27, R41). -/
def Span.countReject (u : Span) : Rejection → Span
  | .none => u
  | .delimiter => { u with rejDelimiter := u.rejDelimiter + 1 }
  | .short => { u with rejShort := u.rejShort + 1 }
  | .lengthOver => { u with rejLengthOver := u.rejLengthOver + 1 }
  | .lengthMismatch => { u with rejLengthMismatch := u.rejLengthMismatch + 1 }
  | .crc => { u with rejCrc := u.rejCrc + 1 }

/-- A rejected frame: 4 into the bucket, its count, the last-rejection byte (R27). -/
def State.rejectFrame (s : State) (x : SpanId) (why : Rejection) : State :=
  s.setSpan x { (s.span x).spoil.countReject why with lastReject := why }

/-- An accepted frame: 1 out of the bucket, the silence timer afresh while UP, then the receive queue, or an overrun when
it holds 4 (R18, R28, R30, R31). -/
def State.acceptFrame (s : State) (x : SpanId) (f : Frame) : State :=
  let u := s.span x
  let v : Span := { u with
    accepted := u.accepted + 1, bucket := u.bucket - 1
    silenceEnd := if u.state = .up then some (s.now + 20 * ms) else u.silenceEnd }
  if u.rxq.length < 4 then s.setSpan x { v with rxq := u.rxq ++ [{ frame := f, endAt := s.now }] }
  else
    (s.setSpan x { v with overruns := u.overruns + 1 }).raise (spanSource x).toNat
      { kind := 4, source := spanSource x, position := s.eventPosition, detail := f.kind.code,
        value := (u.overruns + 1).setWidth 32 }

/-- A received frame passes the receive checks and is handled by its kind (R27, R28). -/
def State.receiveBytes (s : State) (x : SpanId) (bytes : List Byte) : State :=
  match rejection bytes with
  | some why => s.rejectFrame x why
  | none =>
    match parseFrame bytes with
    | none => s.setSpan x { s.span x with unknownKind := (s.span x).unknownKind + 1 }
    | some f => s.acceptFrame x f

/-- How many half cells the activity lasted: the levels up to the return to the quiet level. -/
def activeLength (line : List Level) : Nat := (line.reverse.dropWhile fun l => l == .quiet).length

/-- The part of an activity ending at `now` that the receiver decodes: the half cells seen after the unit last drove its line
and after it left OFF or HELD (R1, R27). A frame of which it missed a part is not in progress after it: what is left is
searched for a start delimiter like any activity (log 71). -/
def Span.heardPart (u : Span) (now : Nat) (line : List Level) : List Level :=
  line.drop (activeLength line - (now - u.deafUntil) / 1000)

/-- Line activity up to its return to the quiet level, at this moment: the receiver is idle in OFF and HELD and while the unit
drives the line; otherwise the line decoder hands over what it makes of the part it heard (R1, R2, R27). -/
def State.receiveLine (s : State) (x : SpanId) (line : List Level) : State :=
  let u := s.span x
  if u.state.receives = false ∨ u.driving s.now = true then s
  else
    let t := s.setSpan x { u with busyUntil := max u.busyUntil s.now }
    match decodeLine (u.heardPart s.now line) with
    | .none => t
    | .violated => t.rejectFrame x .delimiter
    | .frame bytes => t.receiveBytes x bytes

/-! ## Attempts (R34 to R36, R93) -/

/-- The identity a HELLO of this span names as heard: the partner's while UP (R14, R16). -/
def Span.heardNow (u : Span) : Word32 :=
  match u.state, u.partner with
  | .up, some p => p.identity
  | _, _ => u.heard

/-- The forwarded apply delay, `none` when it would be below 0 (R93). Arguments: received delay, gap, sd. -/
def forwardedDelay (dr gap sd : Nat) : Option Nat := if gap + 1840 + sd ≤ dr then some (dr - gap - 1840 - sd) else none

/-- The fields filled at attempt time (R35). -/
def State.fillFrame (s : State) (x : SpanId) (f : TxFrame) : Frame :=
  match f.frame.kind, f.tag with
  | .hello, _ =>
    let m : HelloMsg :=
      { identity := s.settings.identity, endCode := endCode x, kind := byte s.settings.kind, gen := s.table.gen,
        heard := (s.span x).heardNow }
    { f.frame with gen := s.table.gen, payload := helloPayload m }
  | .keepalive, _ => { f.frame with gen := s.table.gen, payload := keepalivePayload s.settings.identity s.table.gen }
  | _, .forwarded _ _ rxEnd dr late =>
    match (if late then none else forwardedDelay dr ((s.now - rxEnd) / delayUnit) (delayUnits (s.span x).delay)) with
    | some df => { f.frame with delay := word32 df, late := false }
    | none => { f.frame with delay := 0, late := true }
  | _, _ => f.frame

/-- The best class number in a queue: the lowest (R34). -/
def bestClass (q : List TxFrame) : Nat := (q.map fun f => f.frame.kind.txClass).foldl min 3

/-- Takes the oldest frame of a class out of a queue (R34). -/
def takeClass (c : Nat) : List TxFrame → Option TxFrame × List TxFrame
  | [] => (none, [])
  | f :: rest =>
    if f.frame.kind.txClass = c then (some f, rest)
    else
      let t := takeClass c rest
      (t.1, f :: t.2)

/-- The frame of the next attempt and the queue without it: the current frame, or the oldest of the best class (R34). -/
def Span.nextFrame (u : Span) : Option TxFrame × List TxFrame :=
  match u.cur with
  | some f => (some f, u.txq)
  | none => takeClass (bestClass u.txq) u.txq

/-- No frame or jam is being driven (R36: an attempt starts on a quiet line). -/
def Span.lineFree (u : Span) (now : Nat) : Bool :=
  match u.drive with
  | .frame _ _ => false
  | .jam _ _ => false
  | .idle => true
  | .probe _ => true
  | .answer t => decide (t + us ≤ now)

/-- No backoff wait is running (R36). -/
def State.backoffOver (s : State) (x : SpanId) : Bool :=
  match (s.span x).backoffEnd with
  | some t => decide (t ≤ s.now)
  | none => true

/-- An attempt starts: the frame is current and filled, its CRC computed, and driving begins (R34, R35). -/
def State.startAttempt (s : State) (x : SpanId) (f : TxFrame) (rest : List TxFrame) : State :=
  let u := s.span x
  let filled := s.fillFrame x f
  s.setSpan x { u with
    txq := rest, cur := some { f with frame := filled }, attempt := u.attempt + 1, backoffEnd := none,
    drive := .frame s.now filled.encode }

/-! ## Ends of attempts (R35, R37 to R39) -/

/-- The offering block is told that a frame of its own completed; only the lead's ORDER has one that acts (R35, R91). -/
def State.tellCompleted (s : State) (f : TxFrame) (start : Nat) : State :=
  match f.tag with
  | .plain => s
  | .forwarded _ _ _ _ _ => s
  | .leadOrder number => s.leadOrderCompleted number start

/-- The current frame completes at `endAt` (R17, R35, R41). -/
def State.completeFrame (s : State) (x : SpanId) (f : TxFrame) (start endAt : Nat) : State :=
  let u := s.span x
  State.tellCompleted
    (s.setSpan x { u with
      drive := .idle, busyUntil := endAt, deafUntil := endAt, cur := none, attempt := 0, sent := u.sent + 1, idleFrom := endAt
      lastHello := if f.frame.kind = .hello then some endAt else u.lastHello }) f start

/-- The current frame is given up after its 8th failed attempt (R29, R39). -/
def State.giveUp (s : State) (x : SpanId) (f : TxFrame) : State :=
  let u := s.span x
  State.tellLost
    ((s.setSpan x { u.spoil with cur := none, attempt := 0, sendFails := u.sendFails + 1 }).raise (spanSource x).toNat
      { kind := 5, source := spanSource x, position := s.eventPosition, detail := f.frame.kind.code,
        value := (u.sendFails + 1).setWidth 32 })
    .forwardLost f

/-- A backoff wait of a draw mod 16 times 32 µs, counted from the end of the jam (R38). -/
def State.startBackoff (s : State) (x : SpanId) (jamEnd draw : Nat) : State :=
  s.setSpan x { s.span x with backoffEnd := some (jamEnd + draw % 16 * (32 * us)) }

/-- The end of a jam: line-enable is released and a draw taken; the 8th failure gives the frame up without a further backoff,
an earlier one backs off (R38, R39; log 15). -/
def State.endJam (s : State) (x : SpanId) (jamEnd : Nat) : State :=
  let d := (s.span x).draw
  let t := s.setSpan x { d.1 with drive := .idle, busyUntil := jamEnd, deafUntil := jamEnd }
  match d.1.cur with
  | none => t
  | some f => if 8 ≤ d.1.attempt then t.giveUp x f else t.startBackoff x jamEnd d.2

end Sys2Proof.Machine
end

