-- ==== Sys2Proof/Machine/Requests.lean ====
section
/-!
DEFINITION. Meanings of TAKE (R167) and CONFIGURE (R163, R164).
-/

namespace Sys2Proof.Machine

/-! ## TAKE -/

/-- The slot becomes TAKEN and the copy goes to its owner (R167). -/
def State.handRequest (s : State) (r : Request) : State :=
  { s.setSlotState r.slot slotTaken with req := { s.req with handed := s.req.handed ++ [r] } }

/-- Where a taken request goes: a direct completion, or its owner (R163, R167). -/
def State.routeRequest (s : State) (slot : Nat) (code : Byte) (params : List Byte) : State :=
  match requestKindOf code with
  | none => s.complete slot .unknownKind 0 []
  | some kind =>
    if s.port.running = false ∧ kind ≠ .configure then s.complete slot .refusedState 0 []
    else s.handRequest { slot, kind, params }

/-- TAKE: the request unit takes the head of the post queue (R167). -/
def execTake (dt : Nat) (s : State) : Result :=
  .next <| s.run dt fun t =>
    match t.req.queue with
    | [] => t
    | k :: rest =>
      State.routeRequest { t with req := { t.req with queue := rest } } k (t.mem.read (slotBase k + 1))
        (t.mem.readList (slotBase k + 6) 26)

/-! ## CONFIGURE -/

/-- The masks of a side: bit 0 masks CLOSE_TIMEOUT, bit 1 unmasks LOCK_LOST; DRIVE_MISMATCH has no mask (R95, R101). -/
def maskCauses (m : Byte) : Causes :=
  { mismatch := false, closeTimeout := m.getLsbD 0, lockLost := !m.getLsbD 1 }

/-- A present side starts CLOSED or UNLOCKED by its debounced lock level, its generator running from now (R95, R98;
log 31). -/
def State.startSide (s : State) (k : SideId) (present : Bool) (mask : Byte) : State :=
  if present then
    let d := s.side k
    (s.setSide k { d with masked := maskCauses mask, halfStart := s.now, sampled := false }).moveSide k d.rest .configured 0
  else s

/-- The registers are seeded and the enables loaded; the relay starts SWITCHING toward OPEN (R3, R4, R5, R11). -/
def State.startSpans (s : State) : State :=
  let low : Word16 := s.settings.identity.setWidth 16
  { s with
    spanA := { s.spanA with lfsr := lfsrSeed (low ^^^ 0x5A5A), enable := s.settings.spanEnables.getLsbD 0 }
    spanB := { s.spanB with lfsr := lfsrSeed (low ^^^ 0xA5A5), enable := s.settings.spanEnables.getLsbD 1 }
    bypass := { s.bypass with relay := .switching, drive := true, doneAt := some (s.now + 10 * ms) } }

/-- The heating share unit takes the standby on-times and enters FALLBACK (R129, R141). -/
def State.startHeat (s : State) : State :=
  State.setCap { s with heat := { s.heat with source := .standby, onTimes := s.settings.standby, leaseEnd := none } }
    .fallback .configured

/-- The converter starts with LINEV, its first raw sample now; each channel's first block ends A − 1 samples of its own
later (R152; log 30). -/
def State.startMonitor (s : State) : State :=
  let first (i : Nat) : Nat := s.now + (i + 3 * (s.settings.averaging - 1)) * 125 * us
  { s with mon := { s.mon with
    running := true, auxLow := false, lowEnd := none, returnEnd := none
    lineV := { s.mon.lineV with nextDue := first 0 }
    carI := { s.mon.carI with nextDue := first 1 }
    auxV := { s.mon.auxV with nextDue := first 2 } } }

/-- The adoption of a settings block, one event that reaches every block (R164). -/
def State.adopt (s : State) (new : Settings) : State :=
  let s1 := State.startSpans { s with settings := new, port := { s.port with running := true } }
  let s2 := (s1.startSide .one (new.doorSides = 1 ∨ new.doorSides = 3) new.mask1).startSide .two
    (new.doorSides = 2 ∨ new.doorSides = 3) new.mask2
  let s3 := s2.startHeat.startPeriod s.now
  s3.startMonitor.raise 11
    { kind := 18, source := 11, position := 0, detail := byte new.kind, value := new.identity }

/-- CONFIGURE, taken by its owner (R163, R164). -/
def State.configure (s : State) (r : Request) : State :=
  if s.port.running then s.complete r.slot .refusedState 0 []
  else
    let new := parseSettings (s.mem.readList 0x0040 40)
    match settingsFault new with
    | some offset => s.complete r.slot .refusedRange (byte offset) []
    | none =>
      let t := s.adopt new
      t.complete r.slot .ok 0 [boolByte t.port.running, new.spanEnables, t.bypass.relay.code]

/-- CONFIGURE (R164). -/
def execConfigure (dt : Nat) (s : State) : Result :=
  .next <| s.run dt fun t => t.serve (fun r => r.kind == .configure) fun r u => u.configure r

end Sys2Proof.Machine
end

