-- ==== Sys2Proof/Machine/Spans.lean ====
section
/-!
DEFINITION. Meanings of the span and bypass control commands: SPAN_CONTROL (R22, R4), the relay (R3), the probe engine
(R6 to R12), the greeting and the watch over an UP span (R13 to R18).
-/

namespace Sys2Proof.Machine

/-! ## SPAN_CONTROL (R4, R22) -/

/-- A handed SPAN_CONTROL that the row of this action carries out (R22; log 18). -/
def Request.spanAction (r : Request) (action : Byte) : Bool := r.kind == .spanControl && r.rowAction 5 == action

/-- The span selector: 1 span A, 2 span B, 3 both (R22). -/
def selects (selector : Byte) : SpanId → Bool
  | .a => selector == 1 || selector == 3
  | .b => selector == 2 || selector == 3

def goodSelector (selector : Byte) : Bool := selector == 1 || selector == 2 || selector == 3

/-- The result bytes of a SPAN_CONTROL completion: both span states and the relay state (R22). -/
def State.spanResults (s : State) : List Byte := [s.spanA.state.code, s.spanB.state.code, s.bypass.relay.code]

/-- A SPAN_CONTROL completion with its result bytes (R22). -/
def State.completeSpan (s : State) (slot : Nat) (outcome : SlotOutcome) : State := s.complete slot outcome 0 s.spanResults

/-- ENABLE, DISABLE and RESTART examine the selector first (R22). -/
def State.withSelector (s : State) (r : Request) (f : Byte → State → State) : State :=
  if goodSelector (r.param 1) then f (r.param 1) s else s.completeSpan r.slot .refusedRange

def State.setEnable (s : State) (x : SpanId) (b : Bool) : State := s.setSpan x { s.span x with enable := b }

/-- ENABLE on the selected spans; an action outside 1 to 5 is refused here (R22; log 18). -/
def State.enableSpans (s : State) (r : Request) : State :=
  if r.param 0 = 1 then
    s.withSelector r fun sel v =>
      let one (x : SpanId) (w : State) : State := if selects sel x then (w.setEnable x true).searchIfReady x else w
      (one .b (one .a v)).completeSpan r.slot .ok
  else s.completeSpan r.slot .refusedRange

/-- SPAN_CONTROL_ENABLE (R22). -/
def execSpanControlEnable (dt : Nat) (s : State) : Result :=
  .next <| s.run dt fun t => t.serve (fun r => r.spanAction 1) fun r u => u.enableSpans r

/-- SPAN_CONTROL_DISABLE (R22). -/
def execSpanControlDisable (dt : Nat) (s : State) : Result :=
  .next <| s.run dt fun t => t.serve (fun r => r.spanAction 2) fun r u => u.withSelector r fun sel v =>
    let one (x : SpanId) (w : State) : State := if selects sel x then w.setEnable x false else w
    ((one .b (one .a v)).exitWhere (fun x => selects sel x && (v.span x).state != .off) .off .disabled).completeSpan r.slot .ok

/-- SPAN_CONTROL_RESTART (R22). -/
def execSpanControlRestart (dt : Nat) (s : State) : Result :=
  .next <| s.run dt fun t => t.serve (fun r => r.spanAction 3) fun r u => u.withSelector r fun sel v =>
    let isOff (x : SpanId) : Bool := selects sel x && (v.span x).state == .off
    if isOff .a || isOff .b then v.completeSpan r.slot .refusedState
    else (v.exitWhere (selects sel) .probing .hostRestart).completeSpan r.slot .ok

/-- A change of drive level puts the relay to SWITCHING for 10 ms; the slot waits for its end (R3, R4). -/
def State.switchRelay (s : State) (on : Bool) (slot : Nat) : State :=
  { s with bypass := { relay := .switching, drive := on, doneAt := some (s.now + 10 * ms), waiter := some slot } }

/-- SPAN_CONTROL_BYPASS (R4): every span that is not OFF goes to OFF at the moment the drive changes. -/
def execSpanControlBypass (dt : Nat) (s : State) : Result :=
  .next <| s.run dt fun t => t.serve (fun r => r.spanAction 4) fun r u =>
    match u.bypass.relay with
    | .opened => (u.switchRelay false r.slot).exitWhere (fun x => (u.span x).state != .off) .off .bypassed
    | .closed => u.completeSpan r.slot .ok
    | .switching => u.completeSpan r.slot .refusedBusy

/-- SPAN_CONTROL_UNBYPASS (R4). -/
def execSpanControlUnbypass (dt : Nat) (s : State) : Result :=
  .next <| s.run dt fun t => t.serve (fun r => r.spanAction 5) fun r u =>
    match u.bypass.relay with
    | .opened => u.completeSpan r.slot .ok
    | .closed => u.switchRelay true r.slot
    | .switching => u.completeSpan r.slot .refusedBusy

/-- The relay reaches the position of its drive; on OPEN every enabled span enters PROBING, and a waiting slot completes
OK (R3, R4, R11). -/
def State.relaySettles (s : State) : State :=
  let t := { s with bypass := { s.bypass with
    relay := if s.bypass.drive then .opened else .closed, doneAt := none, waiter := none } }
  let u := (t.searchIfReady .a).searchIfReady .b
  match s.bypass.waiter with
  | some k => u.completeSpan k .ok
  | none => u

/-- RELAY_SWITCHED (R3). -/
def execRelaySwitched (dt : Nat) (s : State) : Result :=
  .next <| s.run dt fun t => if t.reached t.bypass.doneAt then t.relaySettles else t

/-! ## The probe engine (R6 to R12) -/

/-- PROBING or SENSED, the states that probe and answer (1.4). -/
def SpanState.searching : SpanState → Bool
  | .probing => true
  | .sensed => true
  | .off => false
  | .greeting => false
  | .up => false
  | .held => false

/-- The line has been at the quiet level for 8 µs, as the receive pin shows it and as the unit's own driving and
receiving allow (R6, R36; log 24). -/
def State.quietFor (s : State) (x : SpanId) (quiet : Nat) : Bool :=
  decide (8 * us ≤ quiet) && decide ((s.span x).busyUntil + 8 * us ≤ s.now)

/-- A probe falls due and may be sent (R6). -/
def State.probeReady (s : State) (x : SpanId) (quiet : Nat) : Bool :=
  (s.span x).state.searching && s.reached (s.span x).probeDue && s.quietFor x quiet && !(s.span x).answering s.now

/-- A probe is sent: its listen window opens and the next probe is scheduled (R6, R7). -/
def State.sendProbe (s : State) (x : SpanId) : State :=
  let d := (s.span x).draw
  s.setSpan x { d.1 with
    drive := .probe s.now, window := some s.now, busyUntil := s.now + 1000
    probeDue := some (s.now + 10 * ms + d.2 % 8 * ms) }

/-- PROBE (R6). -/
def execProbe (dt : Nat) (x : SpanId) (quiet : Nat) (s : State) : Result :=
  .next <| s.run dt fun t => if t.probeReady x quiet then t.sendProbe x else t

/-- The end of the listen window has come (R7). -/
def State.windowEnded (s : State) (x : SpanId) : Bool :=
  match (s.span x).window with
  | some w => (s.span x).state.searching && decide (w + 13000 ≤ s.now)
  | none => false

/-- The probe is classified from its first four excursions: echo fields, classification, sample, debounce (R7, R9, R10,
R12). -/
def State.classifyProbe (s : State) (x : SpanId) (es : List Excursion) : State :=
  let seen := es.take 4
  let u : Span := { s.span x with window := none, echo := echoBuffer es, lastClass := classify seen }
  match answerOf? seen with
  | some t => (s.setSpan x (u.addSample s.settings.probeRepeat (delaySample t))).debounce x (some t)
  | none => (s.setSpan x u).debounce x none

/-- LISTEN_WINDOW_END (R9). -/
def execListenWindowEnd (dt : Nat) (x : SpanId) (excursions : List Excursion) (s : State) : Result :=
  .next <| s.run dt fun t =>
    if t.windowEnded x && excursions.all Excursion.wf && excursionsInOrder excursions then t.classifyProbe x excursions
    else t

/-- A pulse that begins now is a foreign probe to be answered (R8). That it is not seen while an answer is driven is judged
at its leading edge, as its place outside the listen window is (log 56). -/
def State.foreignProbe (s : State) (x : SpanId) (level : Level) (width : Nat) : Bool :=
  let u := s.span x
  u.state.searching && level == .positive && decide (800 ≤ width) && decide (width ≤ 1200) && !u.answering s.now &&
    match u.window with
    | some w => decide (w + 13000 ≤ s.now)
    | none => true

/-- FOREIGN_PROBE: an answer falls due 2000 ns after the pulse's leading edge (R8). -/
def execForeignProbe (dt : Nat) (x : SpanId) (level : Level) (width : Nat) (s : State) : Result :=
  .next <| s.run dt fun t =>
    if t.foreignProbe x level width then
      t.setSpan x { t.span x with
        answers := (t.span x).answers ++ [t.now + 4000]
        busyUntil := max (t.span x).busyUntil (t.now + width) }
    else t

/-- The oldest answer's instant has come: its pulse of 1.0 µs is driven (R8). -/
def State.driveAnswer (s : State) (x : SpanId) : State :=
  let u := s.span x
  match u.answers with
  | a :: rest =>
    if u.state.searching && decide (a ≤ s.now) then
      s.setSpan x { u with drive := .answer a, answers := rest, busyUntil := max u.busyUntil (a + us), deafUntil := a + us }
    else s
  | [] => s

/-- PROBE_ANSWER (R8). -/
def execProbeAnswer (dt : Nat) (x : SpanId) (s : State) : Result :=
  .next <| s.run dt fun t => t.driveAnswer x

/-! ## HELLO and KEEPALIVE (R13 to R18) -/

/-- A valid HELLO in PROBING or SENSED (R13). -/
def State.helloWhileSearching (s : State) (x : SpanId) (m : HelloMsg) : State :=
  if m.identity = s.settings.identity then s.exitSpan x .held .selfLoop
  else if (s.span x).history = [] then s
  else (s.enterGreeting x).greet x m

/-- No HELLO has completed on the span in the preceding 10 ms (R16). -/
def State.mayAnswerHello (s : State) (x : SpanId) : Bool :=
  match (s.span x).lastHello with
  | some t => decide (t + 10 * ms ≤ s.now)
  | none => true

/-- A valid HELLO while UP, checked against the partner record (R16, R18). -/
def State.helloWhileUp (s : State) (x : SpanId) (m : HelloMsg) : State :=
  match (s.span x).partner with
  | none => s
  | some p =>
    if m.identity = s.settings.identity then s.exitSpan x .held .selfLoop
    else if m.identity ≠ p.identity ∨ m.endCode ≠ p.endCode ∨ m.kind ≠ p.kind then
      s.exitSpan x .probing .partnerChanged
    else if m.heard ≠ s.settings.identity then s.exitSpan x .probing .partnerRestarted
    else
      let t := s.setSpan x { s.span x with partner := some { p with gen := m.gen } }
      if t.mayAnswerHello x then t.enqueueHello x else t

/-- The span unit takes a HELLO by its state; an invalid one is discarded (R13, R14, R15, R18). -/
def State.takeHello (s : State) (x : SpanId) (f : Frame) : State :=
  match parseHello f with
  | none => s
  | some m =>
    match (s.span x).state with
    | .probing => s.helloWhileSearching x m
    | .sensed => s.helloWhileSearching x m
    | .greeting => s.greet x m
    | .up => s.helloWhileUp x m
    | .off => s
    | .held => s

/-- HELLO (R14). -/
def execHello (dt : Nat) (x : SpanId) (s : State) : Result :=
  .next <| s.run dt fun t => t.takeFrame x .hello fun r u => u.takeHello x r.frame

/-- An UP span takes a KEEPALIVE; in other states, and when invalid, it is discarded (R15, R18, R28). -/
def State.takeKeepalive (s : State) (x : SpanId) (f : Frame) : State :=
  match (s.span x).state, (s.span x).partner, parseKeepalive f with
  | .up, some p, some m =>
    if m.1 ≠ p.identity then s.exitSpan x .probing .partnerChanged
    else s.setSpan x { s.span x with partner := some { p with gen := m.2 } }
  | _, _, _ => s

/-- KEEPALIVE (R18). -/
def execKeepalive (dt : Nat) (x : SpanId) (s : State) : Result :=
  .next <| s.run dt fun t => t.takeFrame x .keepalive fun r u => u.takeKeepalive x r.frame

/-- A HELLO of the span is in its transmit queue, the current frame included (R14, R32). -/
def Span.helloQueued (u : Span) : Bool := u.queued.any fun f => f.frame.kind == .hello

/-- The periodic HELLO of GREETING falls due: it is enqueued unless one is still queued, and the next falls due 2 ms
after this one did (R14, R32). -/
def State.periodicHello (s : State) (x : SpanId) : State :=
  let u := s.span x
  match u.helloDue with
  | some t =>
    if u.state = .greeting ∧ t ≤ s.now then
      let v := s.setSpan x { u with helloDue := some (t + 2 * ms) }
      if u.helloQueued then v else v.enqueueHello x
    else s
  | none => s

/-- GREETING_HELLO_DUE (R14). -/
def execGreetingHelloDue (dt : Nat) (x : SpanId) (s : State) : Result :=
  .next <| s.run dt fun t => t.periodicHello x

/-- GREET_TIMEOUT (R14, R19). -/
def execGreetTimeout (dt : Nat) (x : SpanId) (s : State) : Result :=
  .next <| s.run dt fun t =>
    if (t.span x).state = .greeting ∧ t.reached (t.span x).greetEnd = true then t.exitSpan x .probing .greetTimeout else t

/-- SILENCE (R18, R19). -/
def execSilence (dt : Nat) (x : SpanId) (s : State) : Result :=
  .next <| s.run dt fun t =>
    if (t.span x).state = .up ∧ t.reached (t.span x).silenceEnd = true then t.exitSpan x .probing .silence else t

/-- ERRORS (R18, R19, R29). -/
def execErrors (dt : Nat) (x : SpanId) (s : State) : Result :=
  .next <| s.run dt fun t =>
    if (t.span x).state = .up ∧ 32 ≤ (t.span x).bucket then t.exitSpan x .probing .errors else t

/-- KEEPALIVE_DUE: the queue is empty, no frame is current, and 5 ms have passed since the last completed frame or the
entry to UP (R17). -/
def execKeepaliveDue (dt : Nat) (x : SpanId) (s : State) : Result :=
  .next <| s.run dt fun t =>
    let u := t.span x
    if u.state = .up ∧ u.queued.isEmpty = true ∧ u.idleFrom + 5 * ms ≤ t.now then t.send x (unitFrame .keepalive) else t

end Sys2Proof.Machine
end

