-- ==== Sys2Proof/Machine/Line.lean ====
section
/-!
DEFINITION. Meanings of the line access commands: reception (R27), attempts, collisions, jams, backoff and completion
(R35 to R39).
-/

namespace Sys2Proof.Machine

/-- FRAME_RECEIVED (R27). -/
def execFrameReceived (dt : Nat) (x : SpanId) (line : List Level) (s : State) : Result :=
  .next <| s.run dt fun t => t.receiveLine x line

/-- The span sends frames in GREETING and UP (R36). -/
def SpanState.sends : SpanState → Bool
  | .greeting => true
  | .up => true
  | .off => false
  | .probing => false
  | .sensed => false
  | .held => false

/-- The conditions of R36, but for a frame to send. -/
def State.mayAttempt (s : State) (x : SpanId) (quiet : Nat) : Bool :=
  (s.span x).state.sends && (s.span x).lineFree s.now && s.backoffOver x && s.quietFor x quiet

/-- TRANSMIT_ATTEMPT (R36). -/
def execTransmitAttempt (dt : Nat) (x : SpanId) (quiet : Nat) (s : State) : Result :=
  .next <| s.run dt fun t =>
    if t.mayAttempt x quiet then
      match (t.span x).nextFrame with
      | (some f, rest) => t.startAttempt x f rest
      | (none, _) => t
    else t

/-- The receive pin is sampled 0.25 µs and 0.75 µs into each cell of a frame, in the middle of each half cell (R37). -/
def sampledAt (start now : Nat) (bytes : List Byte) : Bool :=
  decide (start ≤ now) && decide ((now - start) % 1000 = 500) && decide (now < start + lineTime bytes)

/-- The level driven at `now` is the one the frame started with. -/
def onFirstLevel (start now : Nat) (bytes : List Byte) : Bool :=
  (codeFrame .positive bytes)[halfCell start now]? == some .positive

/-- COLLISION: at a sample instant of a driven frame, a sample that differs from the driven level stops the frame, and the
jam begins (R37). -/
def execCollision (dt : Nat) (pin : Sampled) (s : State) : Result :=
  .next <| s.run dt fun t =>
    let x := pin.span
    let u := t.span x
    match u.drive with
    | .frame start bytes =>
      if sampledAt start t.now bytes ∧ pin.level ≠ t.transmitLevel x then
        t.setSpan x { u with drive := .jam t.now (onFirstLevel start t.now bytes), collisions := u.collisions + 1 }
      else t
    | .idle => t
    | .probe _ => t
    | .answer _ => t
    | .jam _ _ => t

/-- JAM_END: 8 µs after the jam began (R38). -/
def execJamEnd (dt : Nat) (x : SpanId) (s : State) : Result :=
  .next <| s.run dt fun t =>
    match (t.span x).drive with
    | .jam start _ => if start + 8 * us ≤ t.now then t.endJam x (start + 8 * us) else t
    | .idle => t
    | .probe _ => t
    | .answer _ => t
    | .frame _ _ => t

/-- BACKOFF_END (R38). -/
def execBackoffEnd (dt : Nat) (x : SpanId) (s : State) : Result :=
  .next <| s.run dt fun t =>
    if t.reached (t.span x).backoffEnd then t.setSpan x { t.span x with backoffEnd := none } else t

/-- FRAME_COMPLETED: the last cell of the end delimiter is sent (R35). -/
def execFrameCompleted (dt : Nat) (x : SpanId) (s : State) : Result :=
  .next <| s.run dt fun t =>
    match (t.span x).drive, (t.span x).cur with
    | .frame start bytes, some f =>
      if start + lineTime bytes ≤ t.now then t.completeFrame x f start (start + lineTime bytes) else t
    | _, _ => t

end Sys2Proof.Machine
end

