-- ==== Sys2Proof/Machine/PortOps.lean ====
section
/-!
DEFINITION. The serial port's shared operations: the three resets (R162), what a transaction shifts out (R156, R159,
R160), the commit of a memory write (R157, R166, R171) and of a register write (R160).
-/

namespace Sys2Proof.Machine

/-! ## Resets (R162) -/

/-- Power-on and RESETN: every block takes its reset values. The waiting commands are outside the device, and the
counter of free choices runs on. -/
def State.hardReset (s : State) : State := { State.reset with pending := s.pending, choices := s.choices }

/-- A port reset: the scratch area keeps its contents and the cause is PORT_RESET (R155, R161); the transaction that
caused it is complete (R162). -/
def State.portReset (s : State) : State :=
  { s.hardReset with
    mem := s.mem.filter fun c => decide (0x4000 ≤ c.1)
    port := { State.reset.port with resetCause := .portReset, sdo := s.port.sdo } }

/-- The 1 ms after a reset in which the port ignores transactions (R162). -/
def State.deaf (s : State) : Bool := decide (s.now < ms)

/-! ## SDO (R156, R159, R160) -/

/-- The bytes of a register, most significant first; none for an unassigned number (R160). -/
def State.register (s : State) (reg : Word16) : List Byte :=
  if reg = 0 then [0x4C, 0x44, 0x31, 0x40, 0x01]
  else if reg = 1 then [s.port.setting]
  else if reg = 2 then [byte s.port.misalign]
  else if reg = 3 then [0, 0]
  else []

/-- The address a transaction reaches `i` bytes on; bits 15 and above are ignored and 0x7FFF is followed by 0x0000 (R156). -/
def memAddress (addr : Word16) (i : Nat) : Nat := (addr.toNat + i) % 0x8000

/-- The data byte `i` that a transaction shifts out, as it stands at this moment (R156, R160). -/
def State.dataOut (s : State) (opcode : Byte) (addr : Word16) (i : Nat) : Byte :=
  if opcode = 0x0B then s.readByte (memAddress addr i)
  else if opcode = 0x0D then byteAt (s.register addr) i
  else 0

/-- The byte SDO carries while byte `i` of `bytesIn`, header first, is shifted in, as it stands at this moment (R156,
R159). -/
def State.byteOut (s : State) (bytesIn : List Byte) (i : Nat) : Byte :=
  if i < 3 then byteAt s.echoBytes i else s.dataOut (byteAt bytesIn 0) (getBe16 bytesIn 1) (i - 3)

/-- The bytes SDO carries while bytes `done` to `upto` − 1 of `bytesIn` are shifted in at this moment (R156, R159). -/
def State.shiftOut (s : State) (bytesIn : List Byte) (done upto : Nat) : List Byte :=
  (List.range (upto - done)).map fun i => s.byteOut bytesIn (done + i)

/-! ## A transaction (R156, R162; log 20) -/

/-- The transaction under way, or one whose CSN falls at this moment (R162). -/
def State.openTransfer (s : State) : Transfer := s.port.transfer.getD { bytesIn := [], ignored := s.deaf }

/-- How many bytes of a transaction are shifted in when a command ends: those it is held at, or all of them. -/
def shiftedTo (bytesIn : List Byte) : Option Nat → Nat
  | some k => min k bytesIn.length
  | none => bytesIn.length

/-- A command of the port that goes on with the transaction under way, or begins one: it shifts in the bytes of `bytesIn`
that are not in yet and shifts out theirs, each taken at this moment (R156, R159). Held at a number of bytes, CSN stays
low. Otherwise CSN rises and the transaction has its effect. One whose CSN fell in the millisecond after a reset shifts
out zeros and has none (R162). A command that does not go on with the transaction under way does not arise (log 2). -/
def State.transact (s : State) (bytesIn : List Byte) (held : Option Nat) (effect : State → State) : State :=
  let under := s.openTransfer
  let done := under.bytesIn.length
  let upto := shiftedTo bytesIn held
  if under.bytesIn = bytesIn.take done ∧ done ≤ upto then
    let out := if under.ignored then List.replicate (upto - done) 0 else s.shiftOut bytesIn done upto
    let t : State := { s with port := { s.port with
      sdo := s.port.sdo.take done ++ out
      transfer := held.map fun _ => { bytesIn := bytesIn.take upto, ignored := under.ignored } } }
    if held.isSome || under.ignored then t else effect t
  else s

/-! ## The commit of a memory write (R157) -/

/-- The gather buffer: the first 64 data bytes, each with the address it is aimed at (R157). -/
def gather (addr : Word16) (data : List Byte) : List (Nat × Byte) :=
  ((data.take 64).zipIdx).map fun d => (memAddress addr d.2, d.1)

/-- More than 64 data bytes raise OVERLENGTH at the commit (R157). -/
def State.noteLength (s : State) (data : List Byte) : State := if 64 < data.length then s.raiseOverlength else s

/-- A gathered byte is judged against its area as it stands at that moment (R157, step 2). -/
def State.judge (s : State) (a : Nat) (b : Byte) : State :=
  let store : State := { s with mem := s.mem.write a b }
  match areaOf a with
  | .settings => store
  | .marks => store
  | .scratch => store
  | .slot k off =>
    if off = 0 then s
    else if s.slotState k = slotFree ∨ s.slotState k = slotPosted then store
    else s.raiseOwnedWrite
  | .unassigned => s
  | .summary => s.raiseOwnedWrite
  | .image => s.raiseOwnedWrite
  | .spanA => s.raiseOwnedWrite
  | .spanB => s.raiseOwnedWrite
  | .door => s.raiseOwnedWrite
  | .heat => s.raiseOwnedWrite
  | .readings => s.raiseOwnedWrite
  | .trail => s.raiseOwnedWrite

/-- The slot guard judges a write of `b` to the state byte of slot `k` (R166). -/
def State.guardSlot (s : State) (k : Nat) (b : Byte) : State :=
  let held := s.slotState k
  if b = held then s
  else if held = slotFree ∧ b = slotPosted then
    { s.setSlotState k b with req := { s.req with queue := s.req.queue ++ [k] } }
  else if held = slotPosted ∧ b = slotFree then
    { s.setSlotState k b with req := { s.req with queue := s.req.queue.filter fun j => j != k } }
  else if held = slotDone ∧ b = slotFree then s.setSlotState k b
  else s.raiseSlotGuard

/-- Hands a gathered slot state byte to the slot guard (R157, step 3). -/
def State.handOn (s : State) (a : Nat) (b : Byte) : State :=
  match areaOf a with
  | .slot k off => if off = 0 then s.guardSlot k b else s
  | _ => s

/-- The release sequence S, bytes 12 to 15 of the marks block (R171). -/
def State.releaseSequence (s : State) : Word32 :=
  s.mem.read (marksBase + 15) ++ s.mem.read (marksBase + 14) ++ s.mem.read (marksBase + 13) ++ s.mem.read (marksBase + 12)

/-- The TRAIL_GAP record of a release that leaves room while events were lost (R171). -/
def State.writeGap (s : State) : State :=
  if s.trail.held < 128 ∧ 0 < s.trail.gap then
    let t := s.writeEvent { kind := 19, source := 12, position := 0, detail := 0, value := word32 s.trail.gap }
    { t with trail := { t.trail with gap := 0 } }
  else s

/-- The trail writer takes a changed release sequence (R171). -/
def State.releaseTrail (s : State) (seq : Word32) : State :=
  if (seq - (s.trail.oldest - 1)).toNat ≤ s.trail.held then
    State.writeGap { s with trail := { s.trail with oldest := seq + 1 } }
  else s.raiseBadRelease

/-- The commit of a MEM_WRITE (R157). At most 64 consecutive addresses hold one state byte, and the marks stand above
the slots, so handing on in the order of the gather buffer is handing on in ascending address order. -/
def State.commitWrite (s : State) (addr : Word16) (data : List Byte) : State :=
  let cells := gather addr data
  let s1 := s.clearEchoed.noteLength data
  let s2 := cells.foldl (fun t c => t.judge c.1 c.2) s1
  let s3 := cells.foldl (fun t c => t.handOn c.1 c.2) s2
  if s3.releaseSequence = s.releaseSequence then s3 else s3.releaseTrail s3.releaseSequence

/-- The commit of a REG_WRITE: notes, then its register (R157, R160). -/
def State.commitRegister (s : State) (data : List Byte) (effect : State → State) : State :=
  effect (s.clearEchoed.noteLength data)

/-- PORT_SET is written whole from the first data byte, if there is one (R160; log 19). -/
def State.writePortSet (data : List Byte) (s : State) : State :=
  match data with
  | [] => s
  | b :: _ => { s with port := { s.port with setting := b } }

/-- RESET_WORD: a port reset when the first two data bytes are 0xA5 and 0x3C, nothing otherwise (R160). -/
def State.writeResetWord (data : List Byte) (s : State) : State :=
  if data.take 2 = [0xA5, 0x3C] then s.portReset else s

end Sys2Proof.Machine
end

