-- ==== Sys2Proof/Machine/Port.lean ====
section
/-!
DEFINITION. Meanings of the reset and serial port commands (chapter 10). A transaction may come in pieces: a row held at a
number of bytes leaves CSN low, and a later row goes on with it (log 20).
-/

namespace Sys2Proof.Machine

/-- POWER_ON (R162). -/
def execPowerOn (s : State) : Result := .next s.hardReset

/-- RESETN: the values hold from the moment the pin rises (R162). -/
def execResetn (s : State) : Result := .next s.hardReset

/-- MEM_READ (R156): the notes it echoed are cleared at its clean end (R159). -/
def execMemRead (dt : Nat) (addr : Word16) (n : Sent Nat) (s : State) : Result :=
  .next <| s.run dt fun t => t.transact (headerOf 0x0B addr ++ List.replicate n.whole 0) n.held State.clearEchoed

/-- MEM_WRITE (R157). -/
def execMemWrite (dt : Nat) (addr : Word16) (data : Sent (List Byte)) (s : State) : Result :=
  .next <| s.run dt fun t => t.transact (headerOf 0x02 addr ++ data.whole) data.held fun u => u.commitWrite addr data.whole

/-- REG_READ (R160). -/
def execRegRead (dt : Nat) (reg : Word16) (n : Sent Nat) (s : State) : Result :=
  .next <| s.run dt fun t => t.transact (headerOf 0x0D reg ++ List.replicate n.whole 0) n.held State.clearEchoed

/-- REG_WRITE_OTHER: IDENT and unassigned numbers drop their writes (R160); other registers have rows of their own. -/
def execRegWriteOther (dt : Nat) (reg : Word16) (data : Sent (List Byte)) (s : State) : Result :=
  .next <| s.run dt fun t =>
    if writableRegister reg then t
    else t.transact (headerOf 0x04 reg ++ data.whole) data.held fun u => u.commitRegister data.whole fun v => v

/-- PORT_SET_ECHO: a REG_WRITE to PORT_SET; bit 0 turns echo off for the next transaction (R160). -/
def execPortSetEcho (dt : Nat) (data : Sent (List Byte)) (s : State) : Result :=
  .next <| s.run dt fun t =>
    t.transact (headerOf 0x04 1 ++ data.whole) data.held fun u => u.commitRegister data.whole (State.writePortSet data.whole)

/-- PORT_SET_ATTN_POLARITY: a REG_WRITE to PORT_SET; bit 1 is the ATTN polarity (R160). -/
def execPortSetAttnPolarity (dt : Nat) (data : Sent (List Byte)) (s : State) : Result :=
  .next <| s.run dt fun t =>
    t.transact (headerOf 0x04 1 ++ data.whole) data.held fun u => u.commitRegister data.whole (State.writePortSet data.whole)

/-- PORT_SET_ATTN_DRIVE: a REG_WRITE to PORT_SET; bit 2 is the ATTN drive (R160). -/
def execPortSetAttnDrive (dt : Nat) (data : Sent (List Byte)) (s : State) : Result :=
  .next <| s.run dt fun t =>
    t.transact (headerOf 0x04 1 ++ data.whole) data.held fun u => u.commitRegister data.whole (State.writePortSet data.whole)

/-- MISALIGN: any committed REG_WRITE to it clears the misalignment count, whatever the data (R158, R160). -/
def execMisalign (dt : Nat) (data : Sent (List Byte)) (s : State) : Result :=
  .next <| s.run dt fun t =>
    t.transact (headerOf 0x04 2 ++ data.whole) data.held fun u =>
      u.commitRegister data.whole fun v => { v with port := { v.port with misalign := 0 } }

/-- RESET_WORD (R160, R162). -/
def execResetWord (dt : Nat) (data : Sent (List Byte)) (s : State) : Result :=
  .next <| s.run dt fun t =>
    t.transact (headerOf 0x04 3 ++ data.whole) data.held fun u => u.commitRegister data.whole (State.writeResetWord data.whole)

/-- MISALIGNED_TRANSACTION: discarded whole and counted; no note is cleared (R158). -/
def execMisalignedTransaction (dt : Nat) (bytesIn : Sent (List Byte)) (bits : Nat) (s : State) : Result :=
  .next <| s.run dt fun t =>
    if 1 ≤ bits ∧ bits ≤ 7 then
      t.transact bytesIn.whole bytesIn.held fun u => { u with port := { u.port with misalign := min 255 (u.port.misalign + 1) } }
    else t

/-- UNKNOWN_OPCODE: taken as far as its header, for the echo; a transaction whose header is short has no effect (R156;
log 22). -/
def execUnknownOpcode (dt : Nat) (bytesIn : Sent (List Byte)) (s : State) : Result :=
  .next <| s.run dt fun t =>
    if unknownTransaction bytesIn.whole then t.transact bytesIn.whole bytesIn.held State.clearEchoed else t

/-- IGNORED_TRANSACTION: one whose CSN fell within 1 ms after a reset shifts out zeros and does nothing, even when it runs
on past the millisecond (R162). -/
def execIgnoredTransaction (dt : Nat) (bytesIn : Sent (List Byte)) (s : State) : Result :=
  .next <| s.run dt fun t => if t.openTransfer.ignored then t.transact bytesIn.whole bytesIn.held fun u => u else t

end Sys2Proof.Machine
end

