-- ==== Sys2Proof/Machine/Waves.lean ====
section
/-!
DEFINITION. Meanings of the wave commands (chapter 5): the filters of R83, orders, grants, rolls and their origination.
-/

namespace Sys2Proof.Machine

/-! ## The filters of R83 -/

/-- A wave frame of an UP span taken in VALID or STALE; in every other census state it is discarded (R28, R81). -/
def State.takeWave (s : State) (x : SpanId) (kind : FrameKind) (f : Frame → Nat → State → State) : State :=
  s.takeWhileUp x kind fun g endAt t => if t.census.state.listed then f g endAt t else t

/-- A downstream wave comes on the upstream span with hop p − 1 (R83, step 3); the lead has no upstream span. -/
def State.fromAbove (s : State) (x : SpanId) (f : Frame) : Bool :=
  s.upstream == some x && f.hop.toNat + 1 == s.table.own

/-- A roll comes on the downstream span with hop p + 1 (R83, step 3). -/
def State.fromBelow (s : State) (x : SpanId) (f : Frame) : Bool :=
  s.downstream == some x && f.hop.toNat == s.table.own + 1

def State.currentGen (s : State) (f : Frame) : Bool := f.gen == s.table.gen

/-! ## ORDER (R83, R85, R92) -/

/-- The answer to an ORDER of another generation, on the span it came on (R83, step 2). -/
def State.answerGeneration (s : State) (x : SpanId) (f : Frame) (number : Byte) : State :=
  s.send x { kind := .orderAck, late := false, conflict := false, origin := f.hop + 1, hop := f.hop + 1, gen := f.gen,
             delay := 0, payload := orderAckPayload (emptyAck number StopReason.generation.code (f.hop + 1)) }

/-- The apply instant of a received ORDER: Dr after the end of the frame, the end itself when LATE (R92). -/
def applyInstant (f : Frame) (endAt : Nat) : Nat := if f.late then endAt else endAt + f.delay.toNat * delayUnit

/-- APPLY_LATE (R92). -/
def State.noteLate (s : State) (f : Frame) (o : Order) : State :=
  if f.late then
    s.raise 4 { kind := 13, source := 4, position := s.eventPosition, detail := o.number, value := f.gen.setWidth 32 }
  else s

/-- The ack wait at position p, 600 − 15 × p ms (R86). -/
def ackWait (p : Nat) : Nat := (600 - 15 * p) * ms

/-- The order goes on to the next car with an open order behind it (R82, R85, step 4). -/
def State.forwardOrder (s : State) (f : Frame) (o : Order) (endAt : Nat) (c : Contribution) : State :=
  let t := { s with relay := { s.relay with
    openOrder := some { gen := f.gen, number := o.number, own := c, ackEnd := s.now + ackWait s.table.own } } }
  match s.downstream with
  | none => t
  | some y =>
    t.offerOrder y
      { frame := { s.waveFrame .order 1 f.payload with gen := f.gen, delay := f.delay, late := f.late }
        tag := .forwarded f.gen o.number endAt (if f.late then 0 else f.delay.toNat) f.late }

/-- A member takes an ORDER that passes the filters (R85). -/
def State.memberOrder (s : State) (f : Frame) (o : Order) (endAt : Nat) : State :=
  let s1 := State.noteLate { s with relay := { s.relay with lastOrder := some (f.gen, o.number) } } f o
  let r := s1.handOrder o f.gen (applyInstant f endAt) f.late s.table.own
  if r.1.isEndCar then
    State.startAck { r.1 with relay := { r.1.relay with openOrder := none } } o.number f.gen r.2
      (if s.table.own = s.n then .ended else .spanEnd)
  else r.1.forwardOrder f o endAt r.2

/-- An ORDER of an UP span in VALID or STALE; the lead discards every ORDER (R83). -/
def State.takeOrder (s : State) (x : SpanId) (f : Frame) (endAt : Nat) : State :=
  match s.census.role, parseOrder f with
  | .member, some o =>
    if !s.currentGen f then s.answerGeneration x f o.number
    else if !s.fromAbove x f then s
    else if s.relay.lastOrder = some (f.gen, o.number) then s
    else s.memberOrder f o endAt
  | .member, none => s
  | .lead, _ => s

/-- ORDER (R85). -/
def execOrder (dt : Nat) (x : SpanId) (s : State) : Result :=
  .next <| s.run dt fun t => t.takeWave x .order fun f endAt u => u.takeOrder x f endAt

/-! ## ORDER_ACK (R86, R120, R121) -/

/-- A member's open order is answered: its contribution is added and the result goes up (R86, R120). -/
def State.memberOrderAck (s : State) (m : OrderAck) (gen : Word16) : State :=
  match s.relay.openOrder with
  | none => s
  | some o =>
    if o.number = m.number then
      State.sendAck { s with relay := { s.relay with openOrder := none } } (addContribution 31 m o.own s.table.own) gen
    else s

def State.takeOrderAck (s : State) (x : SpanId) (f : Frame) : State :=
  match parseOrderAck f with
  | none => s
  | some m =>
    if s.currentGen f && s.fromBelow x f then
      match s.census.role with
      | .member => s.memberOrderAck m f.gen
      | .lead => s.leadTakesAck m
    else s

/-- ORDER_ACK (R86). -/
def execOrderAck (dt : Nat) (x : SpanId) (s : State) : Result :=
  .next <| s.run dt fun t => t.takeWave x .orderAck fun f _ u => u.takeOrderAck x f

/-- ACK_WAIT_TIMEOUT (R86). -/
def execAckWaitTimeout (dt : Nat) (s : State) : Result :=
  .next <| s.run dt fun t =>
    if t.reached (t.relay.openOrder.map fun o => o.ackEnd) then t.endOpenOrder .noAck else t

/-! ## GRANT (R87, R140) -/

/-- A member takes a GRANT that passes the filters: its own grant, the image, and the GRANT sent on (R75, R87, R140). -/
def State.memberGrant (s : State) (f : Frame) (m : GrantMsg) : State :=
  let s1 := { s with relay := { s.relay with lastGrant := some (f.gen, m.alloc) } }
  let s2 := s1.takeGrant (m.grants.getD (s.table.own - 1) 0) f.gen m.alloc
  let s3 := s2.setRecords (writeGrants m.alloc s2.table.records m.grants)
  if s3.isEndCar then s3 else s3.sendIf s3.downstream { s3.waveFrame .grant 1 f.payload with gen := f.gen }

def State.takeGrantFrame (s : State) (x : SpanId) (f : Frame) : State :=
  match s.census.role, parseGrant f s.n with
  | .member, some m =>
    if s.currentGen f && s.fromAbove x f && s.relay.lastGrant != some (f.gen, m.alloc) then s.memberGrant f m else s
  | .member, none => s
  | .lead, _ => s

/-- GRANT (R87). -/
def execGrant (dt : Nat) (x : SpanId) (s : State) : Result :=
  .next <| s.run dt fun t => t.takeWave x .grant fun f _ u => u.takeGrantFrame x f

/-! ## Rolls (R88 to R90) -/

/-- A roll is noted as the last of its kind from downstream; substitute origination of the kind stops (R88, R90). -/
def State.noteRoll (s : State) (k : RollKind) : State :=
  let w := s.relay.watch k
  s.setWatch k { w with
    lastRoll := some s.now
    dueAt := if w.substitute then none else w.dueAt
    substitute := false }

/-- The payload of a DOOR_STATE roll with the car's share combined (R124). -/
def State.combineDoorState (s : State) (r : HeldRoll) : List Byte :=
  doorStatePayload (r.contributors + 1) (r.left && s.provenLeft) (r.right && s.provenRight)
    (if s.unproven then byte s.table.own else r.firstUnproven)

/-- The door-proving code of position `p` at the lead (R76, R125). -/
def provingCode (r : HeldRoll) (ownUnproven : Bool) (p : Nat) : Byte :=
  if p = 1 then (if ownUnproven then 2 else 1)
  else if 1 + r.contributors < p then 4
  else if r.firstUnproven = 0 ∨ p < r.firstUnproven.toNat then 1
  else if p = r.firstUnproven.toNat then 2
  else 3

/-- Writes the door-proving contribution of every record from position `p` on (R76). -/
def writeProving (r : HeldRoll) (ownUnproven : Bool) : Nat → List ImageRecord → List ImageRecord
  | _, [] => []
  | p, x :: rest => { x with proving := provingCode r ownUnproven p } :: writeProving r ownUnproven (p + 1) rest

/-- The lead takes a DOOR_STATE roll as its held roll (R125). -/
def State.holdRoll (s : State) (r : HeldRoll) : State :=
  { s.setRecords (writeProving r s.unproven 1 s.table.records) with
    door := { s.door with held := some r, rollAgeEnd := some (s.now + 300 * ms), aged := false } }

def State.takeDoorState (s : State) (x : SpanId) (f : Frame) : State :=
  match parseDoorState f with
  | none => s
  | some r =>
    if s.currentGen f && s.fromBelow x f then
      match s.census.role with
      | .member =>
        let t := s.noteRoll .doorState
        t.sendIf t.upstream { t.waveFrame .doorState f.origin.toNat (t.combineDoorState r) with gen := f.gen }
      | .lead => s.holdRoll r
    else s

/-- DOOR_STATE_ROLL (R88). -/
def execDoorStateRoll (dt : Nat) (x : SpanId) (s : State) : Result :=
  .next <| s.run dt fun t => t.takeWave x .doorState fun f _ u => u.takeDoorState x f

/-- A member appends its entry, notes all demands in the image and sends the roll on (R75, R88, R134). -/
def State.memberDemand (s : State) (f : Frame) (es : List (Nat × Nat)) : State :=
  let all := es ++ [(s.table.own, s.demand)]
  let t := (s.noteRoll .demand).noteDemands all
  t.sendIf t.upstream { t.waveFrame .demand f.origin.toNat (demandPayload all) with gen := f.gen }

/-- The lead replaces its allocation list, notes the demands and allocates (R75, R137). -/
def State.leadDemand (s : State) (es : List (Nat × Nat)) : State :=
  State.allocate (State.noteDemands { s with heat := { s.heat with allocList := es } } (es ++ [(1, s.demand)]))

def State.takeDemand (s : State) (x : SpanId) (f : Frame) : State :=
  match parseDemand f with
  | none => s
  | some es =>
    if s.currentGen f && s.fromBelow x f then
      match s.census.role with
      | .member => s.memberDemand f es
      | .lead => s.leadDemand es
    else s

/-- DEMAND_ROLL (R88). -/
def execDemandRoll (dt : Nat) (x : SpanId) (s : State) : Result :=
  .next <| s.run dt fun t => t.takeWave x .demand fun f _ u => u.takeDemand x f

/-- The origination timer of a kind runs out: a roll is originated and the timer runs on by one period (R89, R90). -/
def State.originateDue (s : State) (k : RollKind) : State :=
  let w := s.relay.watch k
  match w.dueAt with
  | some t =>
    if t ≤ s.now then (s.setWatch k { w with dueAt := some (t + rollPeriod k) }).originate k else s
  | none => s

/-- ORIGINATION_TIMER (R89). -/
def execOriginationTimer (dt : Nat) (kind : RollKind) (s : State) : Result :=
  .next <| s.run dt fun t => t.originateDue kind

/-- The moment the three periods of R90 run out. -/
def RollWatch.silentFrom (w : RollWatch) (k : RollKind) : Nat := max w.watchFrom (w.lastRoll.getD 0) + 3 * rollPeriod k

/-- A member that is not the end car has taken no roll of a kind from downstream for three periods (R90). -/
def State.mustSubstitute (s : State) (k : RollKind) : Bool :=
  let w := s.relay.watch k
  s.census.role == .member && s.census.state.listed && s.relay.endCar == some false && !w.substitute &&
    decide (w.silentFrom k ≤ s.now)

/-- SUBSTITUTE_ORIGINATION (R90). -/
def execSubstituteOrigination (dt : Nat) (kind : RollKind) (s : State) : Result :=
  .next <| s.run dt fun t =>
    if t.mustSubstitute kind then
      let w := t.relay.watch kind
      (t.setWatch kind { w with dueAt := some (t.now + rollPeriod kind), substitute := true }).originate kind
    else t

end Sys2Proof.Machine
end

