-- ==== Sys2Proof/Machine/Dispatch.lean ====
section
/-!
DEFINITION. One arm per command; the meanings stand in the files of Machine/.
-/

namespace Sys2Proof.Machine

/-- The effect of a command on everything but the queue. -/
def exec (i : Instr) (s : State) : Host.Outcome State Fault Refusal :=
  match i with
  | .powerOn => Sys2Proof.Machine.execPowerOn s
  | .resetn => Sys2Proof.Machine.execResetn s
  | .memRead dt addr n => Sys2Proof.Machine.execMemRead dt addr n s
  | .memWrite dt addr data => Sys2Proof.Machine.execMemWrite dt addr data s
  | .regRead dt reg n => Sys2Proof.Machine.execRegRead dt reg n s
  | .regWriteOther dt reg data => Sys2Proof.Machine.execRegWriteOther dt reg data s
  | .portSetEcho dt data => Sys2Proof.Machine.execPortSetEcho dt data s
  | .portSetAttnPolarity dt data => Sys2Proof.Machine.execPortSetAttnPolarity dt data s
  | .portSetAttnDrive dt data => Sys2Proof.Machine.execPortSetAttnDrive dt data s
  | .misalign dt data => Sys2Proof.Machine.execMisalign dt data s
  | .resetWord dt data => Sys2Proof.Machine.execResetWord dt data s
  | .misalignedTransaction dt bytesIn bits => Sys2Proof.Machine.execMisalignedTransaction dt bytesIn bits s
  | .unknownOpcode dt bytesIn => Sys2Proof.Machine.execUnknownOpcode dt bytesIn s
  | .ignoredTransaction dt bytesIn => Sys2Proof.Machine.execIgnoredTransaction dt bytesIn s
  | .take dt => Sys2Proof.Machine.execTake dt s
  | .configure dt => Sys2Proof.Machine.execConfigure dt s
  | .spanControlEnable dt => Sys2Proof.Machine.execSpanControlEnable dt s
  | .spanControlDisable dt => Sys2Proof.Machine.execSpanControlDisable dt s
  | .spanControlRestart dt => Sys2Proof.Machine.execSpanControlRestart dt s
  | .spanControlBypass dt => Sys2Proof.Machine.execSpanControlBypass dt s
  | .spanControlUnbypass dt => Sys2Proof.Machine.execSpanControlUnbypass dt s
  | .relaySwitched dt => Sys2Proof.Machine.execRelaySwitched dt s
  | .probe dt x quiet => Sys2Proof.Machine.execProbe dt x quiet s
  | .listenWindowEnd dt x excursions => Sys2Proof.Machine.execListenWindowEnd dt x excursions s
  | .foreignProbe dt x level width => Sys2Proof.Machine.execForeignProbe dt x level width s
  | .probeAnswer dt x => Sys2Proof.Machine.execProbeAnswer dt x s
  | .frameReceived dt x line => Sys2Proof.Machine.execFrameReceived dt x line s
  | .hello dt x => Sys2Proof.Machine.execHello dt x s
  | .keepalive dt x => Sys2Proof.Machine.execKeepalive dt x s
  | .greetingHelloDue dt x => Sys2Proof.Machine.execGreetingHelloDue dt x s
  | .greetTimeout dt x => Sys2Proof.Machine.execGreetTimeout dt x s
  | .silence dt x => Sys2Proof.Machine.execSilence dt x s
  | .errors dt x => Sys2Proof.Machine.execErrors dt x s
  | .keepaliveDue dt x => Sys2Proof.Machine.execKeepaliveDue dt x s
  | .transmitAttempt dt x quiet => Sys2Proof.Machine.execTransmitAttempt dt x quiet s
  | .collision dt pin => Sys2Proof.Machine.execCollision dt pin s
  | .jamEnd dt x => Sys2Proof.Machine.execJamEnd dt x s
  | .backoffEnd dt x => Sys2Proof.Machine.execBackoffEnd dt x s
  | .frameCompleted dt x => Sys2Proof.Machine.execFrameCompleted dt x s
  | .takeLead dt => Sys2Proof.Machine.execTakeLead dt s
  | .censusStart dt => Sys2Proof.Machine.execCensusStart dt s
  | .dropLead dt => Sys2Proof.Machine.execDropLead dt s
  | .call dt x => Sys2Proof.Machine.execCall dt x s
  | .report dt x => Sys2Proof.Machine.execReport dt x s
  | .table dt x => Sys2Proof.Machine.execTable dt x s
  | .tableAck dt x => Sys2Proof.Machine.execTableAck dt x s
  | .void dt x => Sys2Proof.Machine.execVoid dt x s
  | .brk dt x => Sys2Proof.Machine.execBrk dt x s
  | .censusTimerExpired dt => Sys2Proof.Machine.execCensusTimerExpired dt s
  | .settleTimerExpired dt => Sys2Proof.Machine.execSettleTimerExpired dt s
  | .order dt x => Sys2Proof.Machine.execOrder dt x s
  | .orderAck dt x => Sys2Proof.Machine.execOrderAck dt x s
  | .ackWaitTimeout dt => Sys2Proof.Machine.execAckWaitTimeout dt s
  | .grant dt x => Sys2Proof.Machine.execGrant dt x s
  | .doorStateRoll dt x => Sys2Proof.Machine.execDoorStateRoll dt x s
  | .demandRoll dt x => Sys2Proof.Machine.execDemandRoll dt x s
  | .originationTimer dt kind => Sys2Proof.Machine.execOriginationTimer dt kind s
  | .substituteOrigination dt kind => Sys2Proof.Machine.execSubstituteOrigination dt kind s
  | .doorOrder dt => Sys2Proof.Machine.execDoorOrder dt s
  | .doorOrderTimedOut dt => Sys2Proof.Machine.execDoorOrderTimedOut dt s
  | .rollAgeTimerExpired dt => Sys2Proof.Machine.execRollAgeTimerExpired dt s
  | .doorLocalIsolate dt => Sys2Proof.Machine.execDoorLocalIsolate dt s
  | .doorLocalRestore dt => Sys2Proof.Machine.execDoorLocalRestore dt s
  | .faultClearDoor dt => Sys2Proof.Machine.execFaultClearDoor dt s
  | .faultClearHeating dt => Sys2Proof.Machine.execFaultClearHeating dt s
  | .lockLevelChanged dt k => Sys2Proof.Machine.execLockLevelChanged dt k s
  | .driveMismatch dt k => Sys2Proof.Machine.execDriveMismatch dt k s
  | .driveMismatchEnded dt k => Sys2Proof.Machine.execDriveMismatchEnded dt k s
  | .applyInstant dt => Sys2Proof.Machine.execApplyInstant dt s
  | .leaseExpired dt k => Sys2Proof.Machine.execLeaseExpired dt k s
  | .closeTimeout dt k => Sys2Proof.Machine.execCloseTimeout dt k s
  | .heatDemand dt => Sys2Proof.Machine.execHeatDemand dt s
  | .demandLeaseExpired dt => Sys2Proof.Machine.execDemandLeaseExpired dt s
  | .heatSupply dt => Sys2Proof.Machine.execHeatSupply dt s
  | .allocationTimerExpired dt => Sys2Proof.Machine.execAllocationTimerExpired dt s
  | .grantHoldExpired dt => Sys2Proof.Machine.execGrantHoldExpired dt s
  | .periodStart dt => Sys2Proof.Machine.execPeriodStart dt s
  | .windowStart dt stage => Sys2Proof.Machine.execWindowStart dt stage s
  | .windowEnd dt stage => Sys2Proof.Machine.execWindowEnd dt stage s
  | .readingCompleted dt chan block => Sys2Proof.Machine.execReadingCompleted dt chan block s
  | .lowTimerExpired dt => Sys2Proof.Machine.execLowTimerExpired dt s
  | .returnTimerExpired dt => Sys2Proof.Machine.execReturnTimerExpired dt s
  | .releaseHalfPeriod dt k => Sys2Proof.Machine.execReleaseHalfPeriod dt k s
  | .feedbackSample dt k high => Sys2Proof.Machine.execFeedbackSample dt k high s
  | .millisecondTick dt lck1 lck2 => Sys2Proof.Machine.execMillisecondTick dt lck1 lck2 s

end Sys2Proof.Machine
end

