-- ==== Sys2Proof/Safety.lean ====
section
/-!
DEFINITION. What the statements about the device are said in: the end of a step, the parts of the state a command may
touch, and the invariants of a safe run.
-/

namespace Sys2Proof.Machine

/-! ## The end of a step -/

/-- A state without what the end of a step writes: published blocks, memory, trail, tallies, the order of events and the
train door summary. -/
def State.besides (s : State) : State :=
  { s with
    choices := 0, raised := [], mem := [], pub := Published.reset, trail := { oldest := 0, next := 0, gap := 0 }
    tallies := { slot := 0, consist := 0, door := 0, heat := 0, trail := 0, fault := 0 }
    door := { s.door with summary := Summary.zero } }

/-- No event waits for the trail writer, and the image, the door board, heating board bytes 4 to 191, the readings block
and the train door summary show the state as it is (R70, R112, R126, R143, R154; log 25). -/
def State.settled (s : State) : Bool :=
  s.raised == [] && s.pub.image == s.imageBytes && s.pub.door == s.doorBytes && s.pub.heat == s.heatBytes &&
    s.pub.readings == s.readingsBytes && s.door.summary == s.summaryNow

/-- The event of the train door summary that a step ending in `u` raises, if any (R128). -/
def State.summaryEvents (u : State) : List Event :=
  (State.recompute { u with raised := [] }).raised.map fun r => r.event

/-- A list of events as the trail writer has taken them (R170). -/
def State.logged (u : State) (es : List Event) : State := es.foldl State.writeEvent u

/-- `t` is `u` at the end of a step in which the blocks raised the events `groups`: the trail takes them with the summary's
event in some order in which those of each group stand together, in the group's own order, and so do all those of the door
unit, the summary's among them; the published blocks follow the state; all else is as in `u` (R170; log 7, 25). -/
structure Settles (u : State) (groups : List (List Event)) (t : State) : Prop where
  rest : t.besides = u.besides
  settled : t.settled = true
  trail : ∃ l : List Event, l.Perm (groups.flatten ++ u.summaryEvents) ∧ (∀ g ∈ groups, g <:+: l) ∧
    l.filter Event.ofDoorUnit <:+: l ∧ t.mem = (u.logged l).mem ∧ t.trail = (u.logged l).trail ∧ t.tallies.trail = (u.logged l).tallies.trail
  slotTally : t.tallies.slot = u.tallies.slot
  faultTally : t.tallies.fault = u.tallies.fault
  firing : t.pub.fire = u.pub.fire

/-- A command answers a state that `Settles` describes. -/
def Answers (c : Instr) (s : State) (u : State) (groups : List (List Event)) : Prop :=
  ∃ t, exec c s = .next t ∧ Settles u groups t


/-! ## The read-out (R155) -/

/-- The port reads each row's bytes at its offset from `base`: the rows are those of a block's table in the spec. -/
def shows (s : State) (base : Nat) (rows : List (Nat × List Byte)) : Prop :=
  ∀ row ∈ rows, ∀ i : Nat, i < row.2.length → s.readByte (base + row.1 + i) = byteAt row.2 i

/-- The summary block (R161, R170); what it shows right after a reset is log 74. -/
def summaryRows (s : State) : List (Nat × List Byte) :=
  [(0, [if s.port.running then 1 else 0]), (1, [if s.port.resetCause = .powerOn then 1 else 2]), (2, [s.port.notes.byte]),
    (3, [byte s.differing]), (4, le32 s.msCount), (8, le32 s.settings.identity), (12, [byte s.settings.kind]),
    (13, [if s.settings.kind = 1 then byte s.settings.cabEnd else 0]), (14, [0, 0]), (16, le16 s.tallies.slot),
    (18, le16 s.tallies.consist), (20, le16 s.tallies.door), (22, le16 s.tallies.heat), (24, le16 s.tallies.trail),
    (26, le16 s.tallies.fault), (28, [0, 0, 0, 0]), (32, le32 s.trail.oldest), (36, le32 s.trail.next),
    (40, le16 (word16 s.trail.gap)), (42, [byte (s.trail.next - s.trail.oldest).toNat]), (43, List.replicate 21 0)]

/-- A span block (R23, R41). -/
def spanRows (relay : RelayState) (u : Span) : List (Nat × List Byte) :=
  [(0, [u.state.code]), (1, [boolByte u.enable]), (2, [relay.code]), (3, [u.lastCause.code]), (4, le16 (word16 u.delay)),
    (6, [u.lastClass.code]), (7, [byte u.runCount]), (8, le16 u.restartCount), (10, [byte u.bucket]),
    (11, [byte u.history.length]), (12, le16 (word16 (u.history.getD 0 0))), (14, le16 (word16 (u.history.getD 1 0))),
    (16, le16 (word16 (u.history.getD 2 0))), (18, le16 (word16 (u.history.getD 3 0))),
    (20, le32 ((u.partner.map fun p => p.identity).getD 0)), (24, [(u.partner.map fun p => p.endCode).getD 0]),
    (25, [(u.partner.map fun p => p.kind).getD 0]), (26, le16 ((u.partner.map fun p => p.gen).getD 0)), (28, le32 u.heard),
    (56, le32 u.accepted), (60, le32 u.sent), (64, le16 u.rejDelimiter), (66, le16 u.rejShort), (68, le16 u.rejLengthOver),
    (70, le16 u.rejLengthMismatch), (72, le16 u.rejCrc), (74, le16 u.unknownKind), (76, le16 u.overruns), (78, le16 u.drops),
    (80, le16 u.collisions), (82, le16 u.sendFails), (84, [byte u.depth]), (85, [byte u.rxq.length]),
    (86, [byte (u.classCount 0), byte (u.classCount 1), byte (u.classCount 2), byte (u.classCount 3)]),
    (90, [(u.cur.map fun f => f.frame.kind.code).getD 0]), (91, [byte u.attempt]), (92, [u.lastReject.code]),
    (93, List.replicate 35 0)]

/-- An echo entry of a span block (R23). -/
def echoRow (e : Excursion) : List Byte := le16 e.arrival ++ le16 e.width ++ [if e.polarity = .same then 0 else 1, 0]

/-- The header of the consist image (R69, R70). -/
def imageRows (s : State) : List (Nat × List Byte) :=
  let code (x : Option SpanId) : Byte := (x.map endCode).getD 0
  [(0, [s.census.state.code]), (1, [if s.census.role = .lead then 1 else 0]), (2, [byte s.table.records.length]),
    (3, [byte s.table.own]), (4, le16 s.table.gen), (6, le16 s.table.number), (8, le32 s.table.signature),
    (12, le32 s.table.lead), (16, le32 s.pub.imageCounter), (20, [code s.front]), (21, [code s.upstream]),
    (22, [code s.downstream]), (23, [byte s.census.retry]),
    (24, le16 (if s.census.role = .lead then s.census.number else (s.census.ctx.map fun c => c.number).getD 0)),
    (26, le32 (if s.census.role = .lead then s.settings.identity else (s.census.ctx.map fun c => c.lead).getD 0)),
    (30, [0, 0])]

/-- The image record of position `p` (R72, R74). -/
def recordRows (p : Nat) (r : ImageRecord) : List (Nat × List Byte) :=
  [(0, le32 r.car.identity), (4, [r.car.kind]), (5, [r.car.frontEnd]), (6, [r.car.doorSides]), (7, [r.car.flags]),
    (8, le16 r.car.demand), (10, le16 r.car.capacity), (12, le16 r.car.frontDelay), (14, le16 r.car.lastGen), (16, [byte p]),
    (17, [r.left]), (18, [r.right]), (19, [r.proving]), (20, le16 r.demand), (22, le16 r.grant), (24, le16 r.grantAlloc),
    (26, List.replicate 6 0)]

/-- The head of the door board (R111). -/
def doorRows (s : State) : List (Nat × List Byte) :=
  [(0, le32 s.pub.doorCounter), (4, [byte s.settings.doorSides]), (5, [byte s.settings.releaseFrequency]),
    (6, [byte s.settings.closeOnFault]), (7, [boolByte s.mon.auxLow])]

/-- The block of a door side that is present (R111). -/
def sideRows (set : Settings) (d : Side) : List (Nat × List Byte) :=
  let stamp (e : Option Nat) : Word32 := (e.map fun t => word32 (t / 2000000)).getD 0
  let bits (c : Causes) : Byte := boolByte c.mismatch + 2 * boolByte c.closeTimeout + 4 * boolByte c.lockLost
  [(0, [d.state.code]), (1, [boolByte (d.state == .released)]),
    (2, [boolByte (d.state == .closing || (d.state == .fault && set.closeOnFault == 1))]), (3, [boolByte d.lock]),
    (4, [boolByte (d.state != .released && d.lock)]), (5, [bits d.live]), (6, [bits d.stored]), (7, [bits d.masked]),
    (8, [(d.pend.map fun o => o.action.code).getD 0]), (9, [(d.pend.map fun o => o.number).getD 0]),
    (10, [(d.pend.map fun o => o.lease).getD 0]), (11, [boolByte ((d.pend.map fun o => o.late).getD false)]),
    (12, le16 ((d.pend.map fun o => o.gen).getD 0)), (14, le32 (stamp (d.pend.map fun o => o.applyAt))),
    (18, le32 (stamp d.leaseEnd)), (22, le32 (stamp d.closeEnd)), (26, [(d.lastVerdict.map Verdict.code).getD 0]),
    (27, [(d.lastAction.map Action.code).getD 0 ||| ((d.lastSkip.map Skip.code).getD 0 <<< (4 : Nat))])]

/-- The order handling of a lead (R127). -/
def leadRows (s : State) : List (Nat × List Byte) :=
  let d := s.door
  let order (f : Order → Byte) : Byte := (d.outstanding.map fun o => f o.order).getD 0
  [(64, [1]), (65, [boolByte d.summary.left]), (66, [boolByte d.summary.right]), (67, [d.summary.leftReason]),
    (68, [d.summary.rightReason]), (69, [if d.held = none then 0 else if d.aged then 2 else 1]),
    (70, [(d.held.map fun h => byte (h.contributors + 1)).getD 0]), (71, [d.summary.firstUnproven]),
    (72, [(d.held.map fun h => h.origin).getD 0]), (73, [byte s.table.records.length]),
    (74, le16 ((d.held.map fun h => h.gen).getD 0)), (76, [d.lastNumber]), (77, [order fun o => o.number]),
    (78, [order fun o => o.action.code]), (79, [order fun o => o.trainSide]), (80, [order fun o => o.first]),
    (81, [order fun o => o.last]), (82, [byte d.inFlight.length]), (83, [d.lastDone.number]), (84, [d.lastDone.outcome]),
    (85, d.lastDone.counts), (93, List.replicate 35 0)]

/-- The heating board but for its firing bytes (R142). -/
def heatRows (s : State) : List (Nat × List Byte) :=
  let stamp (e : Option Nat) : Word32 := (e.map fun t => word32 (t / 2000000)).getD 0
  let h := s.heat
  let a := h.lastAlloc
  [(0, le32 s.pub.heatCounter), (4, [h.cap.code]), (5, [h.source.code]), (6, le16 (word16 s.cap)), (8, le16 (word16 s.demand)),
    (10, le16 (word16 s.capacity)), (12, [byte h.onTimes.s0, byte h.onTimes.s1, byte h.onTimes.s2, byte h.onTimes.s3]),
    (16, le32 (stamp h.leaseEnd)), (20, le16 (word16 h.lastGrant.value)), (22, le16 h.lastGrant.alloc),
    (24, le16 h.lastGrant.gen), (26, le32 (stamp h.holdEnd)), (30, le16 (word16 s.settings.ceiling)),
    (32, [if s.census.role = .lead then 1 else 0]), (33, [boolByte h.supply.on]), (34, le16 (word16 h.supply.limit)),
    (36, le16 (word16 h.supply.shed)), (38, le16 (word16 h.supply.cut)), (40, le16 (word16 a.lineV)),
    (42, le16 (word16 a.leff)), (44, le16 a.number), (46, le16 (word16 a.level)), (48, le32 (word32 a.sumDemand)),
    (52, le16 (word16 a.sumGrant)), (54, [byte a.shares.length]), (55, [byte a.remainder]), (56, List.replicate 8 0)]

/-- The firing bytes of the heating board (R151). -/
def fireRows (f : Fire) : List (Nat × List Byte) :=
  [(192, le32 f.count), (196, [byte f.position]), (197, [byte f.overdraw]), (198, le16 (word16 f.cap)),
    (200, le16 (word16 f.demand)), (202, [byte f.scaled.s0, byte f.scaled.s1, byte f.scaled.s2, byte f.scaled.s3]),
    (206, [byte f.phases.s0, byte f.phases.s1, byte f.phases.s2, byte f.phases.s3]), (210, le16 (word16 f.expected)),
    (212, le16 (word16 f.lastExpected)), (214, le16 (word16 f.lastMeasured)), (216, le16 (word16 f.lastReadings)),
    (218, [f.lastJudgement.code]), (219, [boolByte f.cut]), (220, List.replicate 36 0)]

/-- The readings block (R154). -/
def readingsRows (s : State) : List (Nat × List Byte) :=
  let m := s.mon
  let t := s.settings.auxThreshold
  [(0, le32 s.pub.readingsCounter), (4, le16 (word16 m.lineV.code)), (6, le16 (word16 m.lineV.reading)),
    (8, le16 (word16 m.carI.code)), (10, le16 (word16 m.carI.reading)), (12, le16 (word16 m.auxV.code)),
    (14, le16 (word16 m.auxV.reading)), (16, [boolByte m.auxLow]), (17, [byte s.settings.averaging]),
    (18, le16 (word16 s.settings.lineFull)), (20, le16 (word16 s.settings.carFull)), (22, le16 (word16 s.settings.auxFull)),
    (24, le16 (word16 t)), (26, le16 (word16 (t + t / 20))), (28, le32 m.lineV.completions), (32, le32 m.carI.completions),
    (36, le32 m.auxV.completions), (40, le32 m.auxStamp), (44, List.replicate 20 0)]

/-! ## Port and requests -/

/-- The state after a REG_WRITE of `data` to register `reg`, before the register acts: zeros follow the echo on SDO, the
echoed notes are cleared and OVERLENGTH is raised for more than 64 bytes (R156, R157, R159). -/
def afterRegWrite (s : State) (dt : Nat) (data : List Byte) : State :=
  let cleared : Notes := if s.port.setting.getLsbD 0 then s.port.notes else Notes.clear
  { s.advance dt with port := { s.port with
      sdo := s.echoBytes ++ List.replicate data.length 0
      notes := if 64 < data.length then { cleared with overlength := true } else cleared } }

/-! ## Spans -/

/-- The three result bytes of every SPAN_CONTROL completion (R22). -/
def spanCodes (s : State) : List Byte := [s.spanA.state.code, s.spanB.state.code, s.bypass.relay.code]

/-- What ENABLE leaves of a selected span: its enable set, and an OFF span PROBING when the part is RUNNING and the relay
OPEN, its first probe due after a jitter draw mod 8 milliseconds (R6, R11, R22). -/
def enabled (s : State) (now : Nat) (u : Span) : Span :=
  if u.state = .off ∧ s.port.running = true ∧ s.bypass.relay = .opened then
    { u with
      enable := true, state := .probing, runCount := 0, runRef := 0, lfsr := lfsrDraw u.lfsr, deafUntil := now
      probeDue := some (now + (lfsrDraw u.lfsr).toNat % 8 * 2000000) }
  else { u with enable := true }

/-- A span that has been cleared by a restart, an entry to HELD or an entry to OFF: both queues and the bucket empty, no
partner, no heard identity, no delay history, span delay and run count 0, nothing driven (R11, R19, R20); no listen window
and no answer waits, for a RESTART in PROBING or SENSED by the model's choice (log 72). -/
def Span.cleared (u : Span) : Prop :=
  u.txq = [] ∧ u.cur = none ∧ u.rxq = [] ∧ u.bucket = 0 ∧ u.partner = none ∧ u.heard = 0 ∧ u.history = [] ∧ u.delay = 0 ∧
    u.runCount = 0 ∧ u.drive = .idle ∧ u.window = none ∧ u.answers = [] ∧ u.greetEnd = none ∧ u.silenceEnd = none ∧
    u.backoffEnd = none

/-- `v` is `u` restarted at `now` with a cause: PROBING, cleared, the restart count one higher, the first probe due after
a jitter draw, the enable kept (R6, R19). -/
def restarted (now : Nat) (cause : Cause) (u v : Span) : Prop :=
  v.state = .probing ∧ v.cleared ∧ v.lastCause = cause ∧ v.restartCount = u.restartCount + 1 ∧ v.lastClass = .none ∧
    v.lfsr = lfsrDraw u.lfsr ∧ v.probeDue = some (now + (lfsrDraw u.lfsr).toNat % 8 * 2000000) ∧ v.enable = u.enable

/-- `v` is `u` gone to OFF with a cause: cleared, the register and the restart count kept (R11). -/
def turnedOff (cause : Cause) (u v : Span) : Prop :=
  v.state = .off ∧ v.cleared ∧ v.lastCause = cause ∧ v.restartCount = u.restartCount ∧ v.lfsr = u.lfsr ∧ v.probeDue = none

/-- `v` is `u` gone to HELD for its own identity: as after a restart but with no probe scheduled (R20). -/
def heldFor (u v : Span) : Prop :=
  v.state = .held ∧ v.cleared ∧ v.lastCause = .selfLoop ∧ v.restartCount = u.restartCount + 1 ∧ v.lfsr = u.lfsr ∧
    v.probeDue = none ∧ v.enable = u.enable

/-- R9: the classification of a probe from its excursions, in order of arrival: ANSWERED when one has width 1800 to 2200 and
arrival 4000 to 12 000, else by the first one, else NOTHING. -/
def classOfEchoes (es : List Excursion) : ProbeClass :=
  if es.any (fun e => decide (1800 ≤ e.width.toNat) && decide (e.width.toNat ≤ 2200) && decide (4000 ≤ e.arrival.toNat) &&
      decide (e.arrival.toNat ≤ 12000)) then .answered
  else match es with
    | [] => .nothing
    | e :: _ =>
      if e.width.toNat < 800 ∨ 1200 < e.width.toNat then .noisy
      else if e.polarity = .inverted then .shorted
      else .opened

/-- The HELLO or KEEPALIVE of a span unit as it joins the queue; its fields are filled at each attempt (R15, R35). -/
def queuedUnit (kind : FrameKind) : TxFrame :=
  { frame := { kind := kind, late := false, conflict := false, origin := 0, hop := 0, gen := 0, delay := 0, payload := [] }
    tag := .plain }

/-- The partner record a HELLO gives (R14). -/
def partnerOf (m : HelloMsg) : Partner := { identity := m.identity, endCode := m.endCode, kind := m.kind, gen := m.gen }

/-- A span come UP at `now` with the sender of `m` as its partner and the delay frozen (R10, R14, R16). -/
def cameUp (now delay : Nat) (m : HelloMsg) (v : Span) : Prop :=
  v.state = .up ∧ v.partner = some (partnerOf m) ∧ v.bucket = 0 ∧ v.silenceEnd = some (now + 40000000) ∧ v.idleFrom = now ∧
    v.greetEnd = none ∧ v.helloDue = none ∧ v.delay = delay

/-- What a received frame of a known kind does to a span: one more accepted, one out of the error bucket, and the silence
timer afresh while UP (R18, R28, R29). -/
def accepted (now : Nat) (u : Span) : Span :=
  { u with
    accepted := u.accepted + 1, bucket := u.bucket - 1, busyUntil := max u.busyUntil now
    silenceEnd := if u.state = .up then some (now + 40000000) else u.silenceEnd }

/-! ## The census -/

/-- The frame waits in the transmit queue of span `x` as a census or wave frame the block does not watch (R32). -/
def waits (t : State) (x : SpanId) (f : Frame) : Prop := { frame := f, tag := .plain } ∈ (t.span x).txq

/-- Span `x` is UP and its queue has room for the four frames a step may offer it. -/
def canSend (s : State) (x : SpanId) : Prop := (s.span x).state = .up ∧ (s.span x).depth ≤ 4

/-- A census frame of the car at `position` (R24, R48). -/
def censusFrameAt (kind : FrameKind) (position : Nat) (gen : Word16) (payload : List Byte) : Frame :=
  { kind := kind, late := false, conflict := false, origin := byte position, hop := byte position, gen := gen, delay := 0
    payload := payload }

/-- A REPORT of the car at `position`, the CONFLICT flag set with the answer CONFLICT (R48). -/
def reportAt (position : Nat) (number : Word16) (lead : Word32) (answer : Answer) (records : List CarRecord) : Frame :=
  { censusFrameAt .report position 0 (reportPayload number lead answer records) with conflict := answer == .conflict }

/-- The trail of `t` holds an event of the step from `s` on (R170). -/
def recordedIn (s t : State) (e : Event) : Prop :=
  ∃ j : Nat, j < (t.trail.next - s.trail.next).toNat ∧
    t.mem.readList (trailAddress (s.trail.next + word32 j)) 16 = e.record (s.trail.next + word32 j) t.msCount

/-- The trail of `t` holds events of the step from `s` on one after the other, with consecutive sequence numbers (R170). -/
def recordedRun (s t : State) (es : List Event) : Prop :=
  ∃ j : Nat, j + es.length ≤ (t.trail.next - s.trail.next).toNat ∧
    ∀ (i : Nat) (e : Event), es[i]? = some e →
      t.mem.readList (trailAddress (s.trail.next + word32 (j + i))) 16 = e.record (s.trail.next + word32 (j + i)) t.msCount

/-- The trail of `t` holds the events `es` of the step from `s` on within a run of consecutive records that are all the door
unit's: its two sides and the train summary are one block (00 "Blocks", R170). -/
def recordedTogether (s t : State) (es : List Event) : Prop :=
  ∃ l : List Event, recordedRun s t l ∧ (∀ e ∈ es, e ∈ l) ∧ ∀ e ∈ l, e.ofDoorUnit = true

/-- The trail has room for every event of a step. -/
def trailRoom (s : State) : Prop := s.trail.held ≤ 64

/-- A slot holds a finished answer (R165, R168). -/
def answered (t : State) (k : Nat) (outcome : SlotOutcome) (detail : Byte) (results : List Byte) : Prop :=
  t.slotState k = 3 ∧ t.mem.readList (slotBase k + 4) 2 = [outcome.code, detail] ∧
    t.mem.readList (slotBase k + 32) results.length = results

/-- The census of the lead `s` has failed in `t` (R45, R59, R66, R67): UNCENSUSED, no census timer, a VOID on the train span
if it is UP, the census slot ABORTED with the reason, CENSUS_FAILED, and the settle timer with the next retry count for a
reason that is retried, with auto-census on and fewer than three retries. -/
def censusFails (s t : State) (now : Nat) (number : Word16) (slot : Option Nat) (reason : FailReason) (position : Byte) :
    Prop :=
  t.census.role = .lead ∧ t.census.state = .uncensused ∧ t.census.timerEnd = none ∧ t.census.slot = none ∧
    t.census.number = number ∧ t.relay = Relay.empty ∧
    (canSend s s.trainSpan → waits t s.trainSpan (censusFrameAt .void 1 t.table.gen
      (voidPayload number s.settings.identity reason.code))) ∧
    (∀ k : Nat, slot = some k → k < 16 →
      answered t k .aborted reason.code (le16 number ++ [0] ++ le16 t.table.gen ++ [position, 0])) ∧
    recordedIn s t { kind := 7, source := 3, position := byte t.table.own, detail := reason.code
                     value := number ++ (position.setWidth 16 : Word16) } ∧
    (reason = .downstreamSilent ∨ reason = .ackTimeout ∨ reason = .tableRefused ∨ reason = .spanLost →
      s.settings.autoCensus = 1 → s.census.retry < 3 →
      t.census.settleEnd = some (now + 1000000000) ∧ t.census.retry = s.census.retry + 1) ∧
    (¬(reason = .downstreamSilent ∨ reason = .ackTimeout ∨ reason = .tableRefused ∨ reason = .spanLost) ∨
      s.settings.autoCensus ≠ 1 ∨ 3 ≤ s.census.retry → t.census.retry = s.census.retry)

/-- The lead `s` has started a census in `t` (R46, R47): with its cab-end span UP it fails with LEAD_NOT_AT_END; else with its
train span UP it is CALLING for 2000 ms with a CALL on that span; else it is VALID with a table of itself alone. -/
def censusStarts (s t : State) (now : Nat) (slot : Option Nat) (retry : Nat) : Prop :=
  let number := nextNumber s.census.number
  t.census.role = .lead ∧ t.census.number = number ∧
    (s.isUp s.cabSpan = true → t.census.state = .uncensused ∧ t.census.slot = none ∧ t.census.retry = retry ∧
      (∀ k : Nat, slot = some k → k < 16 →
        answered t k .aborted 1 (le16 number ++ [0] ++ le16 s.table.gen ++ [0, 0]))) ∧
    (s.isUp s.cabSpan = false → s.isUp s.trainSpan = true →
      t.census.state = .calling ∧ t.census.timerEnd = some (now + 4000000000) ∧ t.census.slot = slot ∧
        t.census.settleEnd = none ∧ t.census.retry = retry ∧ t.table = s.table ∧
        (canSend s s.trainSpan → waits t s.trainSpan (censusFrameAt .call 1 0 (callPayload number s.settings.identity)))) ∧
    (s.isUp s.cabSpan = false → s.isUp s.trainSpan = false →
      t.census.state = .valid ∧ t.census.retry = 0 ∧ t.census.slot = none ∧ t.table.own = 1 ∧
        t.table.gen = nextNumber s.table.gen ∧ t.table.number = number ∧ t.table.lead = s.settings.identity ∧
        t.table.records.map (fun r => r.car) = [s.leadRecord] ∧ t.table.signature = crc32 s.leadRecord.encode ∧
        (∀ k : Nat, slot = some k → k < 16 →
          answered t k .ok 0 (le16 number ++ [1] ++ le16 t.table.gen ++ [0, 5])))

/-- What `reviewEnd` has left in every state that a run reaches: the relay knows whether the car is the end car, and is empty
outside VALID and STALE (R81, R84; log 40). -/
def endKnown (s : State) : Prop :=
  (s.census.role = .member → s.census.state.listed = true → s.relay.endCar = some s.isEndCar) ∧
  (s.census.role = .lead ∨ s.census.state.listed = false → s.relay = Relay.empty)

/-! ## Waves -/

/-- A wave frame of the car at position `own` (R82). -/
def waveFrameAt (kind : FrameKind) (origin own : Nat) (gen : Word16) (payload : List Byte) : Frame :=
  { kind := kind, late := false, conflict := false, origin := byte origin, hop := byte own, gen := gen, delay := 0
    payload := payload }

/-- An ORDER_ACK of the car at position `own` (R82, R120). -/
def orderAckAt (own : Nat) (gen : Word16) (m : OrderAck) : Frame :=
  waveFrameAt .orderAck m.origin.toNat own gen (orderAckPayload m)

/-- The commands that can take span `x` into or out of UP (R14, R16, R18, R22). -/
def linkCommand (c : Instr) (dt : Nat) (x : SpanId) : Prop :=
  c = .hello dt x ∨ c = .keepalive dt x ∨ c = .silence dt x ∨ c = .errors dt x ∨ c = .spanControlDisable dt ∨
    c = .spanControlRestart dt ∨ c = .spanControlBypass dt

/-- The CONSIST_STALE event of the car's own span event on span `x` (R67). -/
def ownStale (s : State) (x : SpanId) (cause : Byte) : Event :=
  { kind := 8, source := 3, position := byte s.table.own, detail := byte s.table.own
    value := (cause ++ endCode x ++ s.table.gen : Word32) }

/-- The BREAK a member sends for its own span event on span `x` (R48, R63). -/
def ownBreak (s : State) (x : SpanId) (cause : Byte) : Frame :=
  censusFrameAt .brk s.censusPosition s.table.gen
    (breakPayload { number := s.table.number, lead := s.table.lead, position := byte s.table.own, lostEnd := endCode x,
                    cause := cause })

/-- What a span event on span `x` makes of a lead outside a census (R64, R65): VALID becomes STALE with CONSIST_STALE, and
with auto-census on the settle timer starts at 500 ms with retry count 0. -/
def leadGoesStale (s t : State) (now : Nat) (x : SpanId) (cause : Byte) : Prop :=
  t.census.role = .lead ∧ t.census.number = s.census.number ∧ t.table = s.table ∧
    (s.census.state = .valid → t.census.state = .stale ∧ recordedIn s t (ownStale s x cause)) ∧
    (s.census.state ≠ .valid → t.census.state = s.census.state) ∧
    (s.settings.autoCensus = 1 → t.census.settleEnd = some (now + 1000000000) ∧ t.census.retry = 0) ∧
    (s.settings.autoCensus ≠ 1 → t.census.settleEnd = s.census.settleEnd ∧ t.census.retry = s.census.retry)

/-- A count raised by 1 that stops at `top` (R120). -/
def oneMore (top : Nat) (b : Byte) : Byte := byte (min top (b.toNat + 1))

/-- An acknowledgement with a car's contribution added: reached and the class's own count one higher, the late count for a
late order, and a refusing car the first refusing one (R120). -/
def withCar (top : Nat) (m : OrderAck) (c : Contribution) (position : Nat) : OrderAck :=
  { m with
    reached := oneMore top m.reached
    applied := if c.cls = .applied then oneMore top m.applied else m.applied
    notAddressed := if c.cls = .notAddressed then oneMore top m.notAddressed else m.notAddressed
    refused := if c.cls = .refused then oneMore top m.refused else m.refused
    late := if c.late then oneMore top m.late else m.late
    firstRefused := if c.cls = .refused then byte position else m.firstRefused }

/-- An acknowledgement of one car alone, with a stop reason (R85, R86, R120). -/
def ackOfOne (number stop : Byte) (c : Contribution) (position : Nat) : OrderAck :=
  { number := number, reached := 1, applied := if c.cls = .applied then 1 else 0
    notAddressed := if c.cls = .notAddressed then 1 else 0, refused := if c.cls = .refused then 1 else 0
    late := if c.late then 1 else 0, firstRefused := if c.cls = .refused then byte position else 0, stop := stop
    origin := byte position }

/-- The sides an order addresses at a car: its position within the range, and the train side the side faces (R78, R118). -/
def addressed (s : State) (o : Order) (position : Nat) (k : SideId) : Prop :=
  o.first.toNat ≤ position ∧ position ≤ o.last.toNat ∧
    ∃ f : SpanId, s.front = some f ∧
      (o.trainSide = 1 ∧ k = (match f with | .a => .two | .b => .one) ∨
        o.trainSide = 2 ∧ k = (match f with | .a => .one | .b => .two) ∨
        o.trainSide ≠ 1 ∧ o.trainSide ≠ 2)

/-- The verdict of a side on an order handed to it (R103). -/
def verdictOn (s : State) (k : SideId) (a : Action) : Verdict :=
  match (s.side k).state with
  | .absent => .notAddressed
  | .isolated => .notAddressed
  | .fault => .refusedFault
  | _ =>
    if a = .release ∧ s.census.state = .stale then .refusedStale
    else if a = .release ∧ s.mon.auxLow = true then .refusedAux
    else .taken

/-- What an order handed to a car leaves of a side when its apply instant is still to come: untouched unless addressed, else
its verdict, and the order pending if it is taken, in place of any other (R103, R104). -/
def handedSide (s : State) (p : PendingOrder) (hit : Prop) (k : SideId) (d : Side) : Prop :=
  (¬hit → d = s.side k) ∧
  (hit → d = { s.side k with
    lastVerdict := some (verdictOn s k p.action)
    pend := if verdictOn s k p.action = .taken then some p else (s.side k).pend })

/-- A car's contribution: refused when a side handed the order refuses it, else applied when one takes it; it holds the verdict
of each side handed the order, 0 for one that is not (R119, R121). -/
def contributionOf (s : State) (o : Order) (position : Nat) (late : Bool) (c : Contribution) : Prop :=
  let v (k : SideId) : Verdict := verdictOn s k o.action
  let refuses (k : SideId) : Prop := addressed s o position k ∧ (v k = .refusedFault ∨ v k = .refusedStale ∨ v k = .refusedAux)
  let takes (k : SideId) : Prop := addressed s o position k ∧ v k = .taken
  c.late = late ∧
    ((refuses .one ∨ refuses .two) → c.cls = .refused) ∧
    (¬(refuses .one ∨ refuses .two) → (takes .one ∨ takes .two) → c.cls = .applied) ∧
    (¬(refuses .one ∨ refuses .two) → ¬(takes .one ∨ takes .two) → c.cls = .notAddressed) ∧
    (addressed s o position .one → c.verdict1 = (v .one).code) ∧ (¬addressed s o position .one → c.verdict1 = 0) ∧
    (addressed s o position .two → c.verdict2 = (v .two).code) ∧ (¬addressed s o position .two → c.verdict2 = 0)

/-- The share of this car in a DOOR_STATE roll from below: one contributor more, each train side proven only if it is proven
here too, and this car the first unproven one when a side of it is unproven (R123, R124). -/
def combinedRoll (s : State) (h : HeldRoll) : List Byte :=
  [byte (h.contributors + 1), boolByte (h.left && s.provenLeft), boolByte (h.right && s.provenRight),
    if s.provenLeft && s.provenRight then h.firstUnproven else byte s.table.own]

/-- The roll a car originates of a kind: its own share alone (R89, R124, R134). -/
def ownRoll (s : State) : RollKind → Frame
  | .doorState => waveFrameAt .doorState s.table.own s.table.own s.table.gen
      [1, boolByte s.provenLeft, boolByte s.provenRight, if s.provenLeft && s.provenRight then 0 else byte s.table.own]
  | .demand => waveFrameAt .demand s.table.own s.table.own s.table.gen
      ([1, 0, byte s.table.own, 0] ++ be16 (word16 s.demand))

/-! ## Doors -/

/-- The DOOR_STATE event of a side (R113). -/
def doorEvent (s : State) (k : SideId) (new old : DoorState) (cause number : Byte) : Event :=
  { kind := 10, source := (match k with | .one => 5 | .two => 6), position := byte s.table.own, detail := new.code
    value := ((0 : Byte) ++ number ++ cause ++ old.code : Word32) }

/-- A side at rest, its release output low and its lease and close timers stopped (R96). -/
def atRest (d : Side) (new : DoorState) : Side := { d with state := new, leaseEnd := none, closeEnd := none, relHigh := false }

/-- CLOSED with the debounced lock level true, UNLOCKED otherwise (R95, R106, R107, R108). -/
def lockedState (d : Side) : DoorState := if d.lock then .closed else .unlocked

/-- A fault cause has become live at side `k` (R101): it is live and stored; one that was not stored raises FAULT_TALLY and
DOOR_FAULT; unmasked, it takes a side that is not ABSENT, ISOLATED or in FAULT into FAULT, where the release output is low,
both timers are stopped and the pending order is empty; masked, CLOSE_TIMEOUT takes CLOSING and LOCK_LOST takes CLOSED into
UNLOCKED, and else the side stays. Where DOOR_FAULT and DOOR_STATE are both raised, they stand in that order with consecutive
sequence numbers (R113, R170). -/
def causeArose (s t : State) (k : SideId) (f : FaultCause) : Prop :=
  let d := s.side k
  let e := t.side k
  let masked := d.masked.get f
  let fault : Event :=
    { kind := 11, source := (match k with | .one => 5 | .two => 6), position := byte s.table.own, detail := f.code
      value := (boolByte masked).setWidth 32 }
  let entered (new : DoorState) : Prop :=
    let event := doorEvent s k new d.state f.doorCause.code 0
    recordedIn s t event ∧ (d.stored.get f = false → recordedRun s t [fault, event])
  e.live.get f = true ∧ e.stored.get f = true ∧ e.masked = d.masked ∧
    (d.stored.get f = true → t.tallies.fault = s.tallies.fault) ∧
    (d.stored.get f = false → t.tallies.fault = s.tallies.fault + 1 ∧ recordedIn s t fault) ∧
    (d.state = .absent ∨ d.state = .isolated ∨ d.state = .fault → e.state = d.state) ∧
    (d.state ≠ .absent → d.state ≠ .isolated → d.state ≠ .fault →
      (masked = false → e.state = .fault ∧ e.relHigh = false ∧ e.leaseEnd = none ∧ e.closeEnd = none ∧ e.pend = none ∧
        entered .fault) ∧
      (masked = true → (f = .closeTimeout ∧ d.state = .closing) ∨ (f = .lockLost ∧ d.state = .closed) →
        e.state = .unlocked ∧ e.pend = d.pend ∧ entered .unlocked) ∧
      (masked = true → ¬((f = .closeTimeout ∧ d.state = .closing) ∨ (f = .lockLost ∧ d.state = .closed)) →
        e.state = d.state))

/-- The first failing check of a RELEASE at its apply instant (R105). -/
def failsCheck (s : State) (d : Side) (gen : Word16) : Option Skip :=
  if s.census.state ≠ .valid then some .census
  else if gen ≠ s.table.gen then some .generation
  else if d.state = .absent ∨ d.state = .isolated ∨ d.state = .fault then some .sideState
  else if s.mon.auxLow then some .auxLow
  else none

/-- The lease codes: 0.5, 1, 2 and 5 s (6.6). -/
def leaseOf (code : Byte) : Nat :=
  if code = 0 then 1000000000 else if code = 1 then 2000000000 else if code = 2 then 4000000000 else 10000000000

/-- What a side's pending order does at its instant `i` (R105, R106): a RELEASE that fails a check is skipped with its first
reason; a RELEASE releases CLOSED, CLOSING and UNLOCKED, its output starting high, and restarts the lease of a RELEASED side
without a restart of the wave; a WITHDRAW ends a release; a CLOSE takes RELEASED and UNLOCKED to CLOSING, and on to CLOSED with
the lock level true; in the other states the side stays. -/
def orderApplied (s t : State) (now i : Nat) (k : SideId) (o : PendingOrder) : Prop :=
  let d := s.side k
  let e := t.side k
  e.pend = none ∧
    (∀ why : Skip, o.action = .release → failsCheck s d o.gen = some why →
      e.state = d.state ∧ e.lastSkip = some why ∧ e.leaseEnd = d.leaseEnd ∧ e.relHigh = d.relHigh ∧
        recordedIn s t { kind := 12, source := (match k with | .one => 5 | .two => 6), position := byte s.table.own
                         detail := o.number, value := ((0 : Word16) ++ o.action.code ++ why.code : Word32) }) ∧
    (o.action = .release → failsCheck s d o.gen = none →
      e.state = .released ∧ e.lastAction = some .release ∧ e.leaseEnd = some (i + leaseOf o.lease) ∧ e.closeEnd = (if
        d.state = .released then d.closeEnd else none) ∧
      (d.state = .released → e.relHigh = d.relHigh ∧ e.halfStart = d.halfStart) ∧
      (d.state ≠ .released → e.relHigh = true ∧ e.halfStart = now ∧ e.sampled = false ∧
        recordedIn s t (doorEvent s k .released d.state 2 o.number))) ∧
    (o.action = .withdraw → e.lastAction = some .withdraw ∧
      (d.state = .released → e.state = lockedState d ∧ e.relHigh = false ∧ e.leaseEnd = none ∧
        recordedIn s t (doorEvent s k (lockedState d) .released 2 o.number)) ∧
      (d.state ≠ .released → e.state = d.state)) ∧
    (o.action = .close → e.lastAction = some .close ∧
      (d.state = .released ∨ d.state = .unlocked → e.relHigh = false ∧ e.leaseEnd = none ∧
        recordedIn s t (doorEvent s k .closing d.state 2 o.number) ∧
        (d.lock = false → e.state = .closing ∧ e.closeEnd = some (now + s.settings.closeTimeout * 2000000000)) ∧
        (d.lock = true → e.state = .closed ∧ e.closeEnd = none)) ∧
      (d.state ≠ .released → d.state ≠ .unlocked → e.state = d.state))

/-- What an order handed to a car with apply instant `p.applyAt` leaves of a side (R103 to R106): an instant still to come, or
a verdict against it, as in `handedSide`; with the instant reached, an order that is taken is applied at once. -/
def sideAfterOrder (s t : State) (now : Nat) (p : PendingOrder) (hit : Prop) (k : SideId) : Prop :=
  (now < p.applyAt ∨ ¬hit ∨ verdictOn s k p.action ≠ .taken → handedSide s p hit k (t.side k)) ∧
    (p.applyAt ≤ now → hit → verdictOn s k p.action = .taken → trailRoom s →
      (t.side k).lastVerdict = some .taken ∧ orderApplied s t now p.applyAt k p)

/-- The result bytes of a DOOR_ORDER slot that was taken (R121). -/
def doorResults (o : Outstanding) (m : OrderAck) : List Byte :=
  [o.order.number, m.reached, m.applied, m.notAddressed, m.refused, m.late, m.firstRefused, m.stop, m.origin, byte o.n,
    o.order.last, (match o.own with | some c => c.verdict1 ||| (c.verdict2 <<< (4 : Nat)) | none => 0)] ++ le16 o.gen

/-- The outstanding order of `s` has ended in `t` with an outcome and the counts `m` (R121, R122, R127). -/
def orderEnded (t : State) (o : Outstanding) (m : OrderAck) (outcome : SlotOutcome) (detail : Byte) : Prop :=
  t.door.outstanding = none ∧ t.door.ackEnd = none ∧
    (o.slot < 16 → answered t o.slot outcome detail (doorResults o m)) ∧
    t.door.lastDone = { number := o.order.number, outcome := outcome.code,
                        counts := [m.reached, m.applied, m.notAddressed, m.refused, m.late, m.firstRefused, m.stop, m.origin] }

/-- The counts of the lead alone with a stop reason, zero while its own contribution has not been formed (R122). -/
def leadAlone (o : Outstanding) (stop origin : Byte) : OrderAck :=
  match o.own with
  | some c => { ackOfOne o.order.number stop c 1 with origin := origin }
  | none => { number := o.order.number, reached := 0, applied := 0, notAddressed := 0, refused := 0, late := 0
              firstRefused := 0, stop := stop, origin := origin }

/-! ## Heating and firing -/

/-- The sum over the stages of rating times on-time (R130, R146). -/
def weighted (ratings onTimes : Stages Nat) : Nat :=
  ratings.s0 * onTimes.s0 + ratings.s1 * onTimes.s1 + ratings.s2 * onTimes.s2 + ratings.s3 * onTimes.s3

/-- The lead `s` has made an allocation in `t` from the list of a roll (R137 to R140, R75): the next number, the division of
the effective limit, its own grant, every record's grant with the number, and a GRANT on the train span in a consist of
several cars. The remainder of a division whose limit covers the demands is the model's choice (log 73). -/
def allocatedIn (s t : State) (supply : Supply) (list : List (Nat × Nat)) : Prop :=
  let n := s.table.records.length
  let number : Word16 := if s.heat.allocNumber = 65535 then 1 else s.heat.allocNumber + 1
  let d := divide (effectiveLimit supply s.mon.lineV.reading) (allocEntries n s.demand list)
  let grants := (List.range n).map fun i => grantAt d.shares (i + 1)
  t.heat.allocNumber = number ∧
    t.heat.lastGrant = { value := grantAt d.shares 1, gen := s.table.gen, alloc := number } ∧
    t.heat.lastAlloc.shares = d.shares ∧ t.heat.lastAlloc.number = number ∧ t.heat.lastAlloc.level = d.level ∧
    t.heat.lastAlloc.remainder = d.remainder ∧
    (s.heat.cap = .granted ∨ s.heat.cap = .fallback → t.heat.cap = .granted ∧ t.cap = grantAt d.shares 1) ∧
    t.table.records.map (fun q => (q.grant, q.grantAlloc)) = grants.map (fun g => (word16 g, number)) ∧
    (1 < n → canSend s s.trainSpan → waits t s.trainSpan (waveFrameAt .grant 1 s.table.own s.table.gen
      (grantPayload number grants)))

/-- The HEAT_STATE event of a change of cap state (R144). -/
def heatEvent (s : State) (new old : CapState) (cause : Byte) (cap : Nat) : Event :=
  { kind := 14, source := 8, position := byte s.table.own, detail := new.code
    value := (word16 cap ++ cause ++ old.code : Word32) }

/-- The judgement of a period that has ended (R149): made in GRANTED and FALLBACK when it had a reading, an overdraw when the
mean of its readings exceeds the expected current by more than its eighth and 20. -/
def judged (s : State) : Prop := (s.heat.cap = .granted ∨ s.heat.cap = .fallback) ∧ s.fire.readings ≠ 0

def overdrew (s : State) : Prop := s.fire.expected + s.fire.expected / 8 + 20 < s.fire.sum / s.fire.readings

/-! ## The parts of the state and the commands that touch them -/

/-- The parts of `State`: its fields, the door unit in four parts, each tally with the block it counts for. -/
inductive Part
  | now | clock | choices | pending | mem | pub | trail | port | settings | req | slotTally | faultTally | bypass | spanA
  | spanB | census | table | relay | side1 | side2 | doorLead | summary | heat | fire | mon
deriving DecidableEq, Repr

/-- A part of `t` is as in `s`. -/
def Part.kept (s t : State) : Part → Prop
  | .now => t.now = s.now
  | .clock => t.tickDue = s.tickDue ∧ t.msCount = s.msCount
  | .choices => t.choices = s.choices
  | .pending => t.pending = s.pending
  | .mem => t.mem = s.mem
  | .pub => t.pub = s.pub ∧ t.tallies.consist = s.tallies.consist ∧ t.tallies.door = s.tallies.door ∧
      t.tallies.heat = s.tallies.heat
  | .trail => t.trail = s.trail ∧ t.tallies.trail = s.tallies.trail
  | .port => t.port = s.port
  | .settings => t.settings = s.settings
  | .req => t.req = s.req
  | .slotTally => t.tallies.slot = s.tallies.slot
  | .faultTally => t.tallies.fault = s.tallies.fault
  | .bypass => t.bypass = s.bypass
  | .spanA => t.spanA = s.spanA
  | .spanB => t.spanB = s.spanB
  | .census => t.census = s.census
  | .table => t.table = s.table
  | .relay => t.relay = s.relay
  | .side1 => t.door.side1 = s.door.side1
  | .side2 => t.door.side2 = s.door.side2
  | .doorLead => t.door = { s.door with side1 := t.door.side1, side2 := t.door.side2, summary := t.door.summary }
  | .summary => t.door.summary = s.door.summary
  | .heat => t.heat = s.heat
  | .fire => t.fire = s.fire
  | .mon => t.mon = s.mon

def spanPart : SpanId → Part
  | .a => .spanA
  | .b => .spanB

def sidePart : SideId → Part
  | .one => .side1
  | .two => .side2

/-- What a trail event touches (R170). -/
def eventParts : List Part := [.choices, .mem, .trail]

/-- What the completion of a request touches (R167, R168). -/
def requestParts : List Part := [.req, .mem, .slotTally]

/-- What the census engine touches, through the frames it offers and the blocks it tells (chapter 3). -/
def censusParts : List Part :=
  [.spanA, .spanB, .census, .table, .relay, .doorLead, .summary, .heat, .slotTally, .pub] ++ eventParts

/-- What a span that comes up or leaves UP touches: the engine, and the orders told lost (R21, R40, R91). -/
def linkParts : List Part := [.side1, .side2] ++ censusParts

/-- What the wave relay touches with the frames it offers (chapter 5). -/
def relayParts : List Part := [.spanA, .spanB, .relay] ++ eventParts

/-- What a door-side change shows in (R112, R113, R126). -/
def sideParts : List Part := [.summary, .pub] ++ eventParts

/-- Everything but the waiting commands and the counter of free choices: what a reset touches (R162). -/
def resetParts : List Part :=
  [.now, .clock, .mem, .pub, .trail, .port, .settings, .req, .slotTally, .faultTally, .bypass, .spanA, .spanB, .census,
    .table, .relay, .side1, .side2, .doorLead, .summary, .heat, .fire, .mon]

/-- The parts a command may touch; `now` apart, every other part is kept. -/
def touches : Instr → List Part
  | .powerOn => resetParts
  | .resetn => resetParts
  | .memRead _ _ _ => [.port]
  | .memWrite _ _ _ => [.port, .mem, .req, .trail]
  | .regRead _ _ _ => [.port]
  | .regWriteOther _ _ _ => [.port]
  | .portSetEcho _ _ => [.port]
  | .portSetAttnPolarity _ _ => [.port]
  | .portSetAttnDrive _ _ => [.port]
  | .misalign _ _ => [.port]
  | .resetWord _ _ => resetParts
  | .misalignedTransaction _ _ _ => [.port]
  | .unknownOpcode _ _ => [.port]
  | .ignoredTransaction _ _ => [.port]
  | .take _ => requestParts
  | .configure _ =>
    [.port, .settings, .bypass, .spanA, .spanB, .side1, .side2, .heat, .fire, .mon] ++ sideParts ++ requestParts
  | .spanControlEnable _ => [.spanA, .spanB] ++ requestParts
  | .spanControlDisable _ => linkParts ++ requestParts
  | .spanControlRestart _ => linkParts ++ requestParts
  | .spanControlBypass _ => .bypass :: linkParts ++ requestParts
  | .spanControlUnbypass _ => .bypass :: requestParts
  | .relaySwitched _ => [.bypass, .spanA, .spanB, .mem, .slotTally]
  | .probe _ x _ => [spanPart x]
  | .listenWindowEnd _ x _ => spanPart x :: eventParts
  | .foreignProbe _ x _ _ => [spanPart x]
  | .probeAnswer _ x => [spanPart x]
  | .frameReceived _ x _ => spanPart x :: eventParts
  | .hello _ _ => linkParts
  | .keepalive _ _ => linkParts
  | .greetingHelloDue _ x => spanPart x :: eventParts
  | .greetTimeout _ x => [spanPart x]
  | .silence _ _ => linkParts
  | .errors _ _ => linkParts
  | .keepaliveDue _ x => spanPart x :: eventParts
  | .transmitAttempt _ x _ => [spanPart x]
  | .collision _ pin => [spanPart pin.span]
  | .jamEnd _ _ => [.side1, .side2, .doorLead, .slotTally] ++ relayParts ++ sideParts
  | .backoffEnd _ x => [spanPart x]
  | .frameCompleted _ x => [spanPart x, .side1, .side2, .doorLead, .slotTally] ++ sideParts
  | .takeLead _ => .req :: censusParts
  | .censusStart _ => .req :: censusParts
  | .dropLead _ => .req :: censusParts
  | .call _ _ => censusParts
  | .report _ _ => censusParts
  | .table _ _ => censusParts
  | .tableAck _ _ => censusParts
  | .void _ _ => censusParts
  | .brk _ _ => censusParts
  | .censusTimerExpired _ => censusParts
  | .settleTimerExpired _ => censusParts
  | .order _ _ => [.side1, .side2, .pub] ++ relayParts
  | .orderAck _ _ => [.doorLead, .slotTally, .pub] ++ relayParts
  | .ackWaitTimeout _ => relayParts
  | .grant _ _ => [.heat, .table, .pub] ++ relayParts
  | .doorStateRoll _ _ => [.table, .doorLead, .summary, .pub] ++ relayParts
  | .demandRoll _ _ => [.heat, .table, .pub] ++ relayParts
  | .originationTimer _ _ => [.table, .pub] ++ relayParts
  | .substituteOrigination _ _ => [.table, .pub] ++ relayParts
  | .doorOrder _ => [.spanA, .spanB, .side1, .side2, .doorLead] ++ sideParts ++ requestParts
  | .doorOrderTimedOut _ => [.doorLead, .mem, .slotTally, .pub]
  | .rollAgeTimerExpired _ => .doorLead :: sideParts
  | .doorLocalIsolate _ => [.side1, .side2] ++ sideParts ++ requestParts
  | .doorLocalRestore _ => [.side1, .side2] ++ sideParts ++ requestParts
  | .faultClearDoor _ => [.side1, .side2] ++ sideParts ++ requestParts
  | .faultClearHeating _ => [.heat, .fire, .pub] ++ eventParts ++ requestParts
  | .lockLevelChanged _ k => [sidePart k, .faultTally] ++ sideParts
  | .driveMismatch _ k => [sidePart k, .faultTally] ++ sideParts
  | .driveMismatchEnded _ k => [sidePart k, .pub]
  | .applyInstant _ => [.side1, .side2] ++ sideParts
  | .leaseExpired _ k => sidePart k :: sideParts
  | .closeTimeout _ k => [sidePart k, .faultTally] ++ sideParts
  | .heatDemand _ => [.heat, .pub] ++ requestParts
  | .demandLeaseExpired _ => [.heat, .pub]
  | .heatSupply _ => [.spanA, .spanB, .heat, .table, .pub] ++ eventParts ++ requestParts
  | .allocationTimerExpired _ => [.spanA, .spanB, .heat, .table, .pub] ++ eventParts
  | .grantHoldExpired _ => [.heat, .pub] ++ eventParts
  | .periodStart _ => [.heat, .fire, .faultTally, .pub] ++ eventParts
  | .windowStart _ _ => [.fire]
  | .windowEnd _ _ => [.fire]
  | .readingCompleted _ _ _ => [.mon, .fire, .pub]
  | .lowTimerExpired _ => [.mon, .side1, .side2] ++ sideParts
  | .returnTimerExpired _ => [.mon, .pub] ++ eventParts
  | .releaseHalfPeriod _ k => [sidePart k]
  | .feedbackSample _ k _ => [sidePart k, .faultTally] ++ sideParts
  | .millisecondTick _ _ _ => [.clock, .side1, .side2]

/-- The commands that write the exchange memory from outside or reset it. -/
def fromPort : Instr → Bool
  | .powerOn => true
  | .resetn => true
  | .memWrite _ _ _ => true
  | .resetWord _ _ => true
  | _ => false

/-! ## Invariants -/

/-- The slots that a request unit, an owning block or the engine holds TAKEN: handed requests, a waiting BYPASS, the census
slot and the outstanding order (R4, R45, R114, R167). -/
def State.holders (s : State) : List Nat :=
  s.req.handed.map (fun r => r.slot) ++ s.bypass.waiter.toList ++ s.census.slot.toList ++
    (s.door.outstanding.map fun o => o.slot).toList

/-- Every slot is in one of four states; the post queue holds exactly the POSTED slots, each once, and every TAKEN slot has
exactly one holder, which will complete it (R165, R167, R168). The last three clauses say who may hold a slot. -/
def State.slotsSound (s : State) : Prop :=
  s.mem.wf = true ∧ s.req.queue.Nodup ∧ s.holders.Nodup ∧
    (∀ k ∈ s.req.queue, k < 16) ∧ (∀ k ∈ s.holders, k < 16) ∧
    (∀ k : Nat, k < 16 → (s.slotState k).toNat ≤ 3 ∧ (s.slotState k = 1 ↔ k ∈ s.req.queue) ∧
      (s.slotState k = 2 ↔ k ∈ s.holders)) ∧
    (s.census.slot.isSome = true → s.census.state.busy = true) ∧
    (s.census.state.busy = true → s.census.role = .lead) ∧
    (s.bypass.waiter.isSome = true → s.bypass.relay = .switching)

/-- The trail holds its records in order: the record of each held sequence number carries that number at its place in the
ring, at most 128 are held, and events are only counted lost while 128 are (R170, R171). -/
def State.trailSound (s : State) : Prop :=
  s.trail.held ≤ 128 ∧ s.trail.gap ≤ 65535 ∧ (0 < s.trail.gap → s.trail.held = 128) ∧
    ∀ i : Nat, i < s.trail.held →
      s.mem.readList (trailAddress (s.trail.oldest + word32 i)) 4 = le32 (s.trail.oldest + word32 i)

/-- The state of a door side agrees with its outputs, timers, lock level, causes and pending order (R96 to R104). -/
def Side.sound (d : Side) : Prop :=
  (d.relHigh = true → d.state = .released) ∧
    (d.leaseEnd.isSome = true ↔ d.state = .released) ∧
    (d.closeEnd.isSome = true ↔ d.state = .closing) ∧
    (d.state = .unlocked ∨ d.state = .closing → d.lock = false) ∧
    (d.state = .closed → d.lock = true) ∧
    (d.state = .absent → d.live = Causes.none ∧ d.stored = Causes.none) ∧
    (d.pend.isSome = true → d.state ≠ .absent ∧ d.state ≠ .isolated ∧ d.state ≠ .fault) ∧
    (∀ f : FaultCause, d.live.get f = true → d.stored.get f = true) ∧
    (d.state ≠ .absent → d.state ≠ .isolated →
      (d.state = .fault ↔ ∃ f : FaultCause, d.stored.get f = true ∧ d.masked.get f = false)) ∧
    (d.live.closeTimeout = true ∨ d.live.lockLost = true →
      d.lock = false ∧ d.state ≠ .released ∧ d.state ≠ .closing ∧ d.state ≠ .isolated) ∧
    (d.mismatch ≤ 4 ∧ (d.live.mismatch = true ↔ d.mismatch = 4)) ∧ d.lockRun ≤ 50

/-- Both sides are sound; a side is ABSENT before CONFIGURE, and after it exactly when the settings leave it out; in AUX LOW
no side is RELEASED (R95, R108). -/
def State.doorsSound (s : State) : Prop :=
  s.door.side1.sound ∧ s.door.side2.sound ∧
    (s.door.side1.state = .absent ↔ s.port.running = false ∨ (s.settings.doorSides ≠ 1 ∧ s.settings.doorSides ≠ 3)) ∧
    (s.door.side2.state = .absent ↔ s.port.running = false ∨ (s.settings.doorSides ≠ 2 ∧ s.settings.doorSides ≠ 3)) ∧
    (s.mon.auxLow = true → s.door.side1.state ≠ .released ∧ s.door.side2.state ≠ .released)

/-- A frame or its jam is on the line (R36 to R38). -/
def Drive.sending : Drive → Bool
  | .frame _ _ => true
  | .jam _ _ => true
  | _ => false

/-- A span unit agrees with its state: what runs, what it holds and what it drives in each (1.4, R5, R10, R11, R30, R32,
R36). -/
def Span.sound (u : Span) : Prop :=
  (u.rxq.length ≤ 4 ∧ u.depth ≤ 8 ∧ u.bucket ≤ 255 ∧ u.history.length ≤ 4 ∧ (∀ d ∈ u.history, d ≤ 4000) ∧
    u.delay ≤ 4000 ∧ u.echo.length = 4 ∧ u.lfsr ≠ 0) ∧
    (u.state.sends = false → u.txq = [] ∧ u.cur = none ∧ u.backoffEnd = none ∧ u.heard = 0) ∧
    (u.state = .off ∨ u.state = .held → u.rxq = [] ∧ u.drive = .idle ∧ u.history = []) ∧
    (u.probeDue.isSome = true ↔ u.state.searching = true) ∧
    (u.window.isSome = true ∨ u.answers ≠ [] → u.state.searching = true) ∧
    (u.greetEnd.isSome = true ↔ u.state = .greeting) ∧ (u.helloDue.isSome = true ↔ u.state = .greeting) ∧
    (u.silenceEnd.isSome = true ↔ u.state = .up) ∧ (u.partner.isSome = true ↔ u.state = .up) ∧
    ((u.state = .probing → u.runCount = 0) ∧ (u.state = .sensed → u.runCount = 1 ∨ u.runCount = 2)) ∧
    (u.drive.sending = true → u.state.sends = true ∧ u.cur.isSome = true) ∧
    (u.cur = none → u.attempt = 0) ∧ u.attempt ≤ 8 ∧ (u.attempt = 8 → u.drive.sending = true)

/-- Both spans are sound; they are OFF while the relay is not OPEN; the relay agrees with its drive and its timer; before
CONFIGURE it is CLOSED and only CONFIGURE is handed on (R3, R11, R163). -/
def State.spansSound (s : State) : Prop :=
  s.spanA.sound ∧ s.spanB.sound ∧
    (s.bypass.relay ≠ .opened → s.spanA.state = .off ∧ s.spanB.state = .off) ∧
    (s.bypass.doneAt.isSome = true ↔ s.bypass.relay = .switching) ∧
    (s.bypass.relay = .opened → s.bypass.drive = true) ∧ (s.bypass.relay = .closed → s.bypass.drive = false) ∧
    (s.port.running = false → s.bypass.relay = .closed ∧ ∀ r ∈ s.req.handed, r.kind = .configure)

/-- The record at the car's own position carries its own identity (R55, R57, R69). -/
def State.ownRecord (s : State) : Prop :=
  1 ≤ s.table.own ∧ s.table.own ≤ s.table.records.length ∧ s.table.records.length ≤ 32 ∧
    ∃ r : ImageRecord, s.table.records[s.table.own - 1]? = some r ∧ r.car.identity = s.settings.identity

/-- The census engine, the image and the relay agree: which states each role has, which timers run in them, what the image
holds in VALID, STALE and DISTRIBUTING, the range of the context, the emptiness of the engine before CONFIGURE, and the
end-car status the relay works by (R42, R44, R52, R65, R66, R69, R81, R84, R129; log 40). -/
def State.consistSound (s : State) : Prop :=
  (s.port.running = false → s.census.role = .member ∧ s.census.state = .uncensused ∧ s.census.ctx = none) ∧
    (s.census.role = .lead → s.settings.kind = 1 ∧ s.census.ctx = none ∧ s.census.state.takingPart = false) ∧
    (s.census.role = .member → s.census.state.busy = false ∧ s.census.settleEnd = none ∧ s.census.retry = 0) ∧
    (s.census.timerEnd.isSome = true ↔ s.census.state.busy = true ∨ s.census.state.takingPart = true) ∧
    (s.census.state.takingPart = true → s.census.ctx.isSome = true) ∧
    (s.census.settleEnd.isSome = true → s.census.state.busy = false) ∧ s.census.retry ≤ 3 ∧
    (∀ c : Context, s.census.ctx = some c →
      2 ≤ c.position ∧ c.position ≤ 32 ∧ badIdentity c.lead = false ∧ c.lead ≠ s.settings.identity) ∧
    (s.census.state.listed = true ∨ s.census.state = .distributing →
      s.ownRecord ∧ (s.census.role = .lead → s.table.own = 1)) ∧
    (s.heat.allocEnd.isSome = true → s.census.role = .lead ∧ s.census.state.listed = true ∧ s.table.records.length = 1) ∧
    endKnown s

/-- The heating share unit, the firing unit and the line monitor agree: the cap state with CONFIGURE and the hold timer, no
window and no demand in FAULTED, the cap at most 4000, and an expected current that never exceeds the period's cap (R129,
R138, R141, R145, R146, R148, R149). -/
def State.heatSound (s : State) : Prop :=
  (s.heat.cap = .stopped ↔ s.port.running = false) ∧
    (s.fire.periodStart.isSome = true ↔ s.port.running = true) ∧ s.mon.running = s.port.running ∧
    (s.port.running = true → settingsFault s.settings = none) ∧
    (s.heat.holdEnd.isSome = true ↔ s.heat.cap = .granted) ∧
    s.heat.lastGrant.value ≤ 4000 ∧ s.cap ≤ 4000 ∧
    (s.heat.cap = .faulted ∨ s.heat.cap = .stopped → s.fire.starts = Stages.all none ∧ s.fire.ends = Stages.all none) ∧
    s.fire.overdraw ≤ 2 ∧ s.fire.expected ≤ s.fire.cap

end Sys2Proof.Machine
end

