-- ==== Sys2Proof/Certificates/Slice0/Obligations.lean ====
section
/-!
DEFINITION. The statements about the device. Each docstring names the rules of spec/ its statement rests on; the terms they
are said in stand in Sys2Proof/Safety.lean.
-/

open Sys2Proof Sys2Proof.Machine

/-! ## The queue, resets and the serial port (chapter 10) -/

/-- A step takes the command at the front of the queue and carries it out on the state with the queue's rest; on an empty
queue the block idles (log 4). -/
def Obligations.StepTakesFront : Prop :=
  (∀ (c : Instr) (rest : List Instr) (s : State),
    Sys2Proof.Machine.step { s with pending := c :: rest } = Sys2Proof.Machine.exec c { s with pending := rest }) ∧
  ∀ s : State, s.pending = [] → Sys2Proof.Machine.step s = .next s

/-- R162: power-on and RESETN give every block its reset values. R155, R160, R162: a RESET_WORD write that begins with 0xA5,
0x3C resets every block; the scratch area keeps its contents and every other stored byte is 0 (what the summary block then
shows: log 74).

The model's choice: the waiting commands and the counter of free choices outlive a reset (log 4), and the record of the bytes on
SDO a port reset (log 35). -/
def Obligations.ResetsGiveResetValues : Prop :=
  (∀ s : State,
     exec .powerOn s = .next { State.reset with pending := s.pending, choices := s.choices } ∧
     exec .resetn s = .next { State.reset with pending := s.pending, choices := s.choices }) ∧
  ∀ (s : State) (dt : Nat) (rest : List Byte), s.port.transfer = none → ms ≤ s.now + dt →
    ∃ t : State, exec (.resetWord dt ⟨0xA5 :: 0x3C :: rest, none⟩) s = .next t ∧
      t = { State.reset with
        pending := s.pending, choices := s.choices, mem := t.mem
        port := { State.reset.port with resetCause := .portReset, sdo := s.echoBytes ++ List.replicate (rest.length + 2) 0 } } ∧
      ∀ a : Nat, t.mem.read a = if 0x4000 ≤ a then s.mem.read a else 0

/-- R156, R159, R160: a read shifts out the echo and then memory bytes, wrapping from 0x7FFF to 0x0000, or register
bytes and zeros; it clears the echoed notes while echo is on and changes nothing else.

R158: a misaligned transaction is discarded whole and counted, the count stopping at 255; its echoed notes stay. R156: a
transaction with any other opcode shifts out its echo and zeros, and clears the notes it echoed; one that ends within its
header has no effect, and taking it as a form of UNKNOWN_OPCODE is the model's choice (log 22), as the record of SDO is (35).

R156, R159: a transaction given in pieces shifts out each byte as it stands when its piece comes, and has, but for the notes
it clears, the effect of the whole at its end (the pieces are the model's form, log 20); the header names its row. -/
def Obligations.ReadsAndDiscardedTransactions : Prop :=
  (∀ (s : State) (dt n : Nat) (addr : Word16), s.settled = true → s.port.transfer = none → ms ≤ s.now + dt →
     let cleared : Notes := if s.port.setting.getLsbD 0 then s.port.notes else Notes.clear
     exec (.memRead dt addr ⟨n, none⟩) s = .next { s.advance dt with port := { s.port with
       sdo := s.echoBytes ++ (List.range n).map (fun i => s.readByte ((addr.toNat + i) % 0x8000)), notes := cleared } } ∧
     exec (.regRead dt addr ⟨n, none⟩) s = .next { s.advance dt with port := { s.port with
       sdo := s.echoBytes ++ (List.range n).map (fun i => byteAt (s.register addr) i), notes := cleared } } ∧
     s.register 0 = [0x4C, 0x44, 0x31, 0x40, 0x01] ∧ s.register 1 = [s.port.setting] ∧
     s.register 2 = [byte s.port.misalign] ∧ s.register 3 = [0, 0] ∧
     (3 < addr.toNat → s.register addr = [])) ∧
  (∀ (s : State) (dt bits : Nat) (bytesIn : List Byte), s.settled = true → s.port.transfer = none → ms ≤ s.now + dt →
    (1 ≤ bits → bits ≤ 7 → exec (.misalignedTransaction dt ⟨bytesIn, none⟩ bits) s =
      .next { s.advance dt with port := { s.port with
        sdo := s.shiftOut bytesIn 0 bytesIn.length, misalign := min 255 (s.port.misalign + 1) } }) ∧
    (3 ≤ bytesIn.length → knownOpcode (bytesIn.headD 0) = false → exec (.unknownOpcode dt ⟨bytesIn, none⟩) s =
      .next { s.advance dt with port := { s.port with
        sdo := s.echoBytes ++ List.replicate (bytesIn.length - 3) 0
        notes := if s.port.setting.getLsbD 0 then s.port.notes else Notes.clear } }) ∧
    (bytesIn.length < 3 → exec (.unknownOpcode dt ⟨bytesIn, none⟩) s =
      .next { s.advance dt with port := { s.port with sdo := s.echoBytes.take bytesIn.length } })) ∧
  (∀ (c : Instr) (s : State) (dt done : Nat) (bytesIn : List Byte) (held : Option Nat), s.settled = true → c.wf = true →
    (c.transaction = some (dt, bytesIn, held) ∨ ∃ bits : Nat, 1 ≤ bits ∧ bits ≤ 7 ∧
      c = .misalignedTransaction dt ⟨bytesIn, held⟩ bits) →
    (s.port.transfer = none ∧ done = 0 ∧ ms ≤ s.now + dt) ∨
      s.port.transfer = some { bytesIn := bytesIn.take done, ignored := false } →
    (∀ k : Nat, held = some k → done ≤ k → k ≤ bytesIn.length →
      exec c s = .next { s.advance dt with port := { s.port with
        sdo := s.port.sdo.take done ++ s.shiftOut bytesIn done k
        transfer := some { bytesIn := bytesIn.take k, ignored := false } } }) ∧
    (held = none → done ≤ bytesIn.length → ms ≤ s.now + dt →
      ∃ t whole : State, exec c s = .next t ∧ exec c { s with port := { s.port with transfer := none } } = .next whole ∧
        t = { whole with port := { whole.port with sdo := t.port.sdo, notes := t.port.notes } } ∧
        t.port.sdo = s.port.sdo.take done ++ s.shiftOut bytesIn done bytesIn.length ∧ t.port.transfer = none)) ∧
  ∀ (c : Instr) (s : State) (dt : Nat) (bytesIn : List Byte) (held : Option Nat), c.wf = true →
    c.transaction = some (dt, bytesIn, held) → exec (transactionOf dt bytesIn held) s = exec c s

/-- R160, R158: a REG_WRITE stores the first byte in PORT_SET, sets the misalignment count to 0 in MISALIGN whatever its
data, and is dropped in IDENT and in unassigned registers; RESET_WORD ignores any other value. That each of the three PORT_SET
rows writes the whole byte (log 19), and that more than 64 bytes raise OVERLENGTH in a REG_WRITE too (log 21), is the model's
choice.

R162: a transaction whose CSN falls in the millisecond after a reset shifts out zeros and has no effect, also when it runs on
past that millisecond; IGNORED_TRANSACTION is that case. -/
def Obligations.RegisterWritesAct : Prop :=
  (∀ (s : State) (dt : Nat) (reg : Word16) (data : List Byte), s.settled = true → s.port.transfer = none →
     ms ≤ s.now + dt →
     let u := afterRegWrite s dt data
     let stored : State := { u with port := { u.port with setting := data.headD s.port.setting } }
     exec (.portSetEcho dt ⟨data, none⟩) s = .next stored ∧
     exec (.portSetAttnPolarity dt ⟨data, none⟩) s = .next stored ∧
     exec (.portSetAttnDrive dt ⟨data, none⟩) s = .next stored ∧
     exec (.misalign dt ⟨data, none⟩) s = .next { u with port := { u.port with misalign := 0 } } ∧
     (writableRegister reg = false → exec (.regWriteOther dt reg ⟨data, none⟩) s = .next u) ∧
     (data.take 2 ≠ [0xA5, 0x3C] → exec (.resetWord dt ⟨data, none⟩) s = .next u)) ∧
  ∀ (c : Instr) (s : State) (dt done : Nat) (bytesIn : List Byte) (held : Option Nat), s.settled = true → c.wf = true →
    (c.transaction = some (dt, bytesIn, held) ∨ c = .ignoredTransaction dt ⟨bytesIn, held⟩ ∨
      ∃ bits : Nat, 1 ≤ bits ∧ bits ≤ 7 ∧ c = .misalignedTransaction dt ⟨bytesIn, held⟩ bits) →
    (s.port.transfer = none ∧ done = 0 ∧ s.now + dt < ms) ∨
      s.port.transfer = some { bytesIn := bytesIn.take done, ignored := true } →
    (held = none → done ≤ bytesIn.length → exec c s = .next { s.advance dt with port := { s.port with
      sdo := s.port.sdo.take done ++ List.replicate (bytesIn.length - done) 0, transfer := none } }) ∧
    (∀ k : Nat, held = some k → done ≤ k → k ≤ bytesIn.length → exec c s = .next { s.advance dt with port := { s.port with
      sdo := s.port.sdo.take done ++ List.replicate (k - done) 0
      transfer := some { bytesIn := bytesIn.take k, ignored := true } } })

/-- R157: a gathered byte is stored in a port-written area, and in a slot (its state byte apart) while the
slot is FREE or POSTED; one aimed at a TAKEN or DONE slot or at a device-written area is dropped with OWNED_WRITE; an
address that no gathered byte aims at keeps its byte, but for a TRAIL_GAP record (R171). Step 3, R166: a state byte of the
write is decided by the slot guard after all other bytes were judged, so that one write can fill a FREE slot and post it. -/
def Obligations.MemWriteJudgesBytes : Prop :=
  ∀ (s : State) (dt : Nat) (addr : Word16) (data : List Byte), s.mem.wf = true → s.settled = true →
    s.port.transfer = none → ms ≤ s.now + dt →
    ∃ t : State, exec (.memWrite dt addr ⟨data, none⟩) s = .next t ∧
      (∀ i : Nat, i < 64 → i < data.length →
        let a := (addr.toNat + i) % 0x8000
        match areaOf a with
        | .settings => t.mem.read a = byteAt data i
        | .marks => t.mem.read a = byteAt data i
        | .scratch => t.mem.read a = byteAt data i
        | .unassigned => t.mem.read a = s.mem.read a
        | .slot k off =>
          (off ≠ 0 →
            if s.slotState k = 0 ∨ s.slotState k = 1 then t.mem.read a = byteAt data i
            else t.mem.read a = s.mem.read a ∧ t.port.notes.ownedWrite = true) ∧
          (off = 0 →
            let held := s.slotState k
            let b := byteAt data i
            if b = held then t.slotState k = held ∧ t.req = s.req
            else if held = 0 ∧ b = 1 then t.slotState k = 1 ∧ t.req = { s.req with queue := s.req.queue ++ [k] }
            else if held = 1 ∧ b = 0 then
              t.slotState k = 0 ∧ t.req = { s.req with queue := s.req.queue.filter fun j => j != k }
            else if held = 3 ∧ b = 0 then t.slotState k = 0 ∧ t.req = s.req
            else t.slotState k = held ∧ t.req = s.req ∧ t.port.notes.slotGuard = true)
        | .trail => (s.trail.gap = 0 → t.mem.read a = s.mem.read a) ∧ t.port.notes.ownedWrite = true
        | _ => t.mem.read a = s.mem.read a ∧ t.port.notes.ownedWrite = true) ∧
      (64 < data.length → t.port.notes.overlength = true) ∧
      ((∀ k i : Nat, k < 16 → i < 64 → i < data.length → slotBase k ≠ (addr.toNat + i) % 0x8000) → t.req = s.req) ∧
      ∀ a : Nat, (∀ i : Nat, i < 64 → i < data.length → a ≠ (addr.toNat + i) % 0x8000) →
        (areaOf a = .trail → s.trail.gap = 0) → t.mem.read a = s.mem.read a

/-- R166: the slot guard's table, and the post queue of R167 with it: a post joins at the tail, a withdrawal leaves. -/
def Obligations.SlotGuardTable : Prop :=
  ∀ (s : State) (dt k : Nat) (b : Byte), k < 16 → s.settled = true → s.port.transfer = none →
    ms ≤ s.now + dt →
    let cleared : Notes := if s.port.setting.getLsbD 0 then s.port.notes else Notes.clear
    let u : State := { s.advance dt with port := { s.port with sdo := s.echoBytes ++ [0], notes := cleared } }
    let held := s.slotState k
    let answer := exec (.memWrite dt (word16 (slotBase k)) ⟨[b], none⟩) s
    (b = held → answer = .next u) ∧
    (held = 0 ∧ b = 1 → answer =
      .next { u with mem := s.mem.write (slotBase k) 1, req := { s.req with queue := s.req.queue ++ [k] } }) ∧
    (held = 1 ∧ b = 0 → answer =
      .next { u with mem := s.mem.write (slotBase k) 0, req := { s.req with queue := s.req.queue.filter (fun j => j != k) } }) ∧
    (held = 3 ∧ b = 0 → answer = .next { u with mem := s.mem.write (slotBase k) 0 }) ∧
    (b ≠ held ∧ ¬(held = 0 ∧ b = 1) ∧ ¬(held = 1 ∧ b = 0) ∧ ¬(held = 3 ∧ b = 0) → answer =
      .next { u with port := { u.port with notes := { cleared with slotGuard := true } } })

/-- R155, R161, R170, R23, R41, R69, R70, R74, R111, R127, R142, R151, R154: what the port reads in each block the device
writes is the state, at the offsets of the blocks' tables, with the codes of R3, R9, R19, R27, R48, R69, R96, R103, R105 and
R141 and of those tables; an unassigned address reads 0. That the summary block shows O, N and the reset cause right after a
reset too is the model's reading (log 74).

R159, R160, R169: while echo is on the header carries the part state, the number of tallies that differ from their marks and the
port notes, and zeros while it is off. ATTN is active while a tally differs from its mark; the pin shows it with the polarity
and the drive of PORT_SET. -/
def Obligations.ReadOutEchoAndAttnShowState : Prop :=
  (∀ s : State, s.settled = true →
     shows s 0x0000 (summaryRows s) ∧
     (∀ x : SpanId, (s.span x).history.length ≤ 4 → (s.span x).echo.length = 4 →
       let base := match x with | .a => 0x0C00 | .b => 0x0C80
       shows s base (spanRows s.bypass.relay (s.span x)) ∧
       ∀ (i : Nat) (e : Excursion), (s.span x).echo[i]? = some e → shows s base [(32 + 6 * i, echoRow e)]) ∧
     shows s 0x0600 (imageRows s) ∧
     (∀ (i : Nat) (r : ImageRecord), i < 32 → s.table.records[i]? = some r →
       shows s (0x0620 + 32 * i) (recordRows (i + 1) r)) ∧
     (∀ i : Nat, i < 32 → s.table.records.length ≤ i → shows s (0x0620 + 32 * i) [(0, List.replicate 32 0)]) ∧
     shows s 0x0D00 (doorRows s) ∧
     (∀ k : SideId, let base := match k with | .one => 0x0D08 | .two => 0x0D24
       ((s.side k).state ≠ .absent → shows s base (sideRows s.settings (s.side k))) ∧
       ((s.side k).state = .absent → shows s base [(0, List.replicate 28 0)])) ∧
     (s.census.role = .lead → s.door.lastDone.counts.length = 8 → shows s 0x0D00 (leadRows s)) ∧
     (s.census.role = .member → shows s 0x0D00 [(64, List.replicate 64 0)]) ∧
     shows s 0x0E00 (heatRows s) ∧
     (∀ p : Nat, 1 ≤ p → p ≤ 32 → shows s 0x0E00 [(60 + 4 * p,
       match s.heat.lastAlloc.shares.find? (fun x => x.position == p) with
       | some x => le16 (word16 x.demand) ++ le16 (word16 x.grant)
       | none => [0, 0, 0, 0])]) ∧
     (s.pub.fire = s.fire.board → shows s 0x0E00 (fireRows s.fire)) ∧
     shows s 0x0F00 (readingsRows s) ∧
     ∀ a : Nat, areaOf a = .unassigned → s.readByte a = 0) ∧
  ([SpanState.off, .probing, .sensed, .greeting, .up, .held].map SpanState.code = [0, 1, 2, 3, 4, 5] ∧
     [RelayState.closed, .opened, .switching].map RelayState.code = [0, 1, 2] ∧
     [ProbeClass.none, .answered, .shorted, .opened, .noisy, .nothing].map ProbeClass.code = [0, 1, 2, 3, 4, 5] ∧
     [Rejection.none, .delimiter, .short, .lengthOver, .lengthMismatch, .crc].map Rejection.code = [0, 1, 2, 3, 4, 5] ∧
     [CensusState.uncensused, .calling, .distributing, .enlisted, .awaitTable, .valid, .stale].map CensusState.code =
       [0, 1, 2, 3, 4, 5, 6] ∧
     [DoorState.absent, .closed, .released, .closing, .unlocked, .isolated, .fault].map DoorState.code =
       [0, 1, 2, 3, 4, 5, 6] ∧
     [Action.release, .withdraw, .close].map Action.code = [1, 2, 3] ∧
     [Cause.none, .silence, .errors, .partnerChanged, .partnerRestarted, .hostRestart, .disabled, .bypassed, .selfLoop,
       .greetTimeout].map Cause.code = [0, 1, 2, 3, 4, 5, 6, 7, 8, 9] ∧ joinedCode = 10 ∧
     [Verdict.taken, .notAddressed, .refusedFault, .refusedStale, .refusedAux].map Verdict.code = [1, 2, 3, 4, 5] ∧
     [Skip.census, .generation, .sideState, .auxLow, .discarded].map Skip.code = [1, 2, 3, 4, 5] ∧
     [CapState.stopped, .granted, .fallback, .faulted].map CapState.code = [0, 1, 2, 3] ∧
     [DemandSource.none, .request, .standby].map DemandSource.code = [0, 1, 2] ∧
     [Judgement.none, .within, .overdraw, .notJudged].map Judgement.code = [0, 1, 2, 3]) ∧
  ∀ s : State,
    let mark (i : Nat) : Word16 := s.readByte (0x0501 + 2 * i) ++ s.readByte (0x0500 + 2 * i)
    let differs (w : Word16) (i : Nat) : Nat := if w = mark i then 0 else 1
    let count := differs s.tallies.slot 0 + differs s.tallies.consist 1 + differs s.tallies.door 2 +
      differs s.tallies.heat 3 + differs s.tallies.trail 4 + differs s.tallies.fault 5
    let n := s.port.notes
    s.differing = count ∧
    n.byte = boolByte n.ownedWrite + 2 * boolByte n.slotGuard + 4 * boolByte n.overlength + 8 * boolByte n.badRelease ∧
    s.echoBytes = (if s.port.setting.getLsbD 0 then [0, 0, 0]
      else [if s.port.running then 1 else 0, byte count, n.byte]) ∧
    s.attnActive = decide (0 < count) ∧
    s.attnPin = (match s.port.setting.getLsbD 2, s.attnActive == s.port.setting.getLsbD 1 with
      | true, true => .high
      | true, false => .low
      | false, true => .released
      | false, false => .low)

/-! ## Requests and the trail (chapter 11) -/

/-- R167: a take removes the head of the post queue; an unknown kind completes UNKNOWN_KIND, a known kind other than
CONFIGURE in an unconfigured part REFUSED_STATE, and every other request is TAKEN and handed on as it stood.

R168: the kind codes are 1 to 10 in the order of its table, and 0 and 11 to 255 are unknown; the outcome codes are 1 to 10. A
completion writes outcome, detail and all 32 result bytes and sets the state byte to DONE, leaves every other byte of memory as
it was, and SLOT_TALLY rises by 1. -/
def Obligations.TakeRoutesHeadAndCompletionAnswers : Prop :=
  (∀ (s : State) (dt k : Nat) (rest : List Nat), s.settled = true → s.req.queue = k :: rest →
     let u : State := { s.advance dt with req := { s.req with queue := rest } }
     let code := s.mem.read (slotBase k + 1)
     let params := s.mem.readList (slotBase k + 6) 26
     let answer := exec (.take dt) s
     (requestKindOf code = none → answer = .next (u.complete k .unknownKind 0 [])) ∧
     ∀ kind : RequestKind, requestKindOf code = some kind →
       (s.port.running = false → kind ≠ .configure → answer = .next (u.complete k .refusedState 0 [])) ∧
       (s.port.running = true ∨ kind = .configure → answer = .next { u with
         mem := s.mem.write (slotBase k) 2
         req := { queue := rest, handed := s.req.handed ++ [{ slot := k, kind := kind, params := params }] } })) ∧
  ([1, 2, 3, 4, 5, 6, 7, 8, 9, 10].map requestKindOf =
     [some RequestKind.configure, some .spanControl, some .takeLead, some .dropLead, some .censusStart, some .doorOrder,
      some .doorLocal, some .heatDemand, some .heatSupply, some .faultClear] ∧
   (∀ b : Byte, b = 0 ∨ 11 ≤ b.toNat → requestKindOf b = none) ∧
   [SlotOutcome.ok, .partially, .refusedState, .refusedRole, .refusedRange, .refusedBusy, .timedOut, .aborted, .superseded,
     .unknownKind].map SlotOutcome.code = [1, 2, 3, 4, 5, 6, 7, 8, 9, 10]) ∧
  ∀ (s : State) (k : Nat) (o : SlotOutcome) (detail : Byte) (results : List Byte), s.mem.wf = true →
    let t := s.complete k o detail results
    t.mem.read (slotBase k) = 3 ∧ t.mem.read (slotBase k + 4) = o.code ∧ t.mem.read (slotBase k + 5) = detail ∧
    (∀ i : Nat, i < 32 → t.mem.read (slotBase k + 32 + i) = byteAt results i) ∧
    (∀ a : Nat, a ≠ slotBase k → a ≠ slotBase k + 4 → a ≠ slotBase k + 5 →
      ¬(slotBase k + 32 ≤ a ∧ a < slotBase k + 64) → t.mem.read a = s.mem.read a) ∧
    t.mem.wf = true ∧ t = { s with mem := t.mem, tallies := { s.tallies with slot := s.tallies.slot + 1 } }

/-- R170: with fewer than 128 records held the trail writer fills the record at 0x2000 + 16 × (N mod 128), raises N and
TRAIL_TALLY by 1; with 128 held it only counts the loss, up to 65 535.

R171: a release sequence within the held range becomes the sequence before the oldest record; room beside lost events
takes a TRAIL_GAP record with the gap count; a sequence outside the range raises BAD_RELEASE and changes nothing. -/
def Obligations.TrailRecordsAndFrees : Prop :=
  (∀ (s : State) (e : Event), s.mem.wf = true →
     let t := s.writeEvent e
     let base := 0x2000 + 16 * (s.trail.next.toNat % 128)
     ((s.trail.next - s.trail.oldest).toNat < 128 →
       t.mem.readList base 16 =
         le32 s.trail.next ++ [e.kind, e.source, e.position, e.detail] ++ le32 e.value ++ le32 s.msCount ∧
       (∀ a : Nat, ¬(base ≤ a ∧ a < base + 16) → t.mem.read a = s.mem.read a) ∧
       t = { s with
         mem := t.mem, trail := { s.trail with next := s.trail.next + 1 }
         tallies := { s.tallies with trail := s.tallies.trail + 1 } }) ∧
     (128 ≤ (s.trail.next - s.trail.oldest).toNat →
       t = { s with trail := { s.trail with gap := min 65535 (s.trail.gap + 1) } })) ∧
  ∀ (s : State) (dt : Nat) (seq : Word32), s.mem.wf = true → s.settled = true →
    s.port.transfer = none → ms ≤ s.now + dt → seq ≠ s.releaseSequence →
    ∃ t : State, exec (.memWrite dt 0x050C ⟨le32 seq, none⟩) s = .next t ∧ t.releaseSequence = seq ∧
      ((s.trail.next - s.trail.oldest).toNat < (seq - (s.trail.oldest - 1)).toNat →
        t.trail = s.trail ∧ t.port.notes.badRelease = true) ∧
      ((seq - (s.trail.oldest - 1)).toNat ≤ (s.trail.next - s.trail.oldest).toNat →
        t.trail.oldest = seq + 1 ∧
        ((128 ≤ (s.trail.next - (seq + 1)).toNat ∨ s.trail.gap = 0) →
          t.trail.next = s.trail.next ∧ t.trail.gap = s.trail.gap ∧ t.tallies.trail = s.tallies.trail) ∧
        ((s.trail.next - (seq + 1)).toNat < 128 → 0 < s.trail.gap →
          t.trail.next = s.trail.next + 1 ∧ t.trail.gap = 0 ∧ t.tallies.trail = s.tallies.trail + 1 ∧
          t.mem.readList (trailAddress s.trail.next) 16 =
            le32 s.trail.next ++ [19, 12, 0, 0] ++ le32 (word32 s.trail.gap) ++ le32 s.msCount))

/-! ## CONFIGURE (chapter 10) -/

/-- R163: CONFIGURE in a RUNNING part completes REFUSED_STATE; in an unconfigured part the first field outside its values
completes it REFUSED_RANGE with that field's offset, and the part stays unconfigured.

R164: adoption puts the settings in force, starts the relay toward OPEN and seeds both registers (R3, R5, R11),
starts the present door sides by their lock levels (R95), enters FALLBACK on the standby on-times (R129, R141), starts the
first firing period (R145) and the line monitor (R152), leaves the census and the relay as they were, and completes OK. The
trail takes CONFIGURED, the HEAT_STATE of the cap state and, in one run of records of the door unit, the DOOR_STATEs of the
present sides (R113, R144, R164, R170).
The model's choice: each stage rating is a field with an offset of its own (log 77), the release generator of a present side
runs from the adoption (log 31), a refusal shows no result bytes
(log 43), and the detail of an OK and of a REFUSED_STATE is 0 (R163 gives the latter; log 52 the former). -/
def Obligations.ConfigureAdoptsOrRefuses : Prop :=
  (∀ (s : State) (dt : Nat) (r : Request) (rest : List Request), s.settled = true →
     takeRequest (fun r => r.kind == .configure) s.req.handed = (some r, rest) →
     let u : State := { s.advance dt with req := { s.req with handed := rest } }
     (s.port.running = true → exec (.configure dt) s = .next (u.complete r.slot .refusedState 0 [])) ∧
     (s.port.running = false → ∀ offset : Nat, settingsFault (parseSettings (s.mem.readList 0x0040 40)) = some offset →
       exec (.configure dt) s = .next (u.complete r.slot .refusedRange (byte offset) []))) ∧
  ∀ (s : State) (dt : Nat) (r : Request) (rest : List Request), s.settled = true →
    takeRequest (fun r => r.kind == .configure) s.req.handed = (some r, rest) → s.port.running = false →
    s.mem.wf = true → r.slot < 16 →
    let new := parseSettings (s.mem.readList 0x0040 40)
    settingsFault new = none →
    let low : Word16 := new.identity.setWidth 16
    let started (present : Bool) (mask : Byte) (d e : Side) : Prop :=
      if present then
        e.state = (if d.lock then .closed else .unlocked) ∧ e.lock = d.lock ∧ e.halfStart = s.now + dt ∧ e.relHigh = false ∧
          e.masked = { mismatch := false, closeTimeout := mask.getLsbD 0, lockLost := !mask.getLsbD 1 }
      else e = d
    let moved (present : Bool) (k : SideId) : List Event :=
      if present then [doorEvent s k (lockedState (s.side k)) (s.side k).state 1 0] else []
    ∃ t : State, exec (.configure dt) s = .next t ∧
      t.port.running = true ∧ t.settings = new ∧
      t.bypass = { s.bypass with relay := .switching, drive := true, doneAt := some (s.now + dt + 20000000) } ∧
      t.spanA = { s.spanA with lfsr := lfsrSeed (low ^^^ 0x5A5A), enable := new.spanEnables.getLsbD 0 } ∧
      t.spanB = { s.spanB with lfsr := lfsrSeed (low ^^^ 0xA5A5), enable := new.spanEnables.getLsbD 1 } ∧
      started (new.doorSides == 1 || new.doorSides == 3) new.mask1 s.door.side1 t.door.side1 ∧
      started (new.doorSides == 2 || new.doorSides == 3) new.mask2 s.door.side2 t.door.side2 ∧
      t.heat.cap = .fallback ∧ t.heat.source = .standby ∧ t.heat.onTimes = new.standby ∧ t.cap = new.ceiling ∧
      t.fire.periodStart = some (s.now + dt) ∧ t.fire.count = s.fire.count + 1 ∧
      t.mon.running = true ∧ t.mon.auxLow = false ∧ t.census = s.census ∧ t.relay = s.relay ∧ t.table = s.table ∧
      t.slotState r.slot = 3 ∧ t.mem.readList (slotBase r.slot + 4) 2 = [1, 0] ∧
      t.mem.readList (slotBase r.slot + 32) 3 = [1, new.spanEnables, 2] ∧
      (trailRoom s →
        recordedIn s t { kind := 18, source := 11, position := 0, detail := byte new.kind, value := new.identity } ∧
        (s.heat.cap ≠ .fallback → recordedIn s t (heatEvent s .fallback s.heat.cap 1 new.ceiling)) ∧
        recordedTogether s t
          (moved (new.doorSides == 1 || new.doorSides == 3) .one ++ moved (new.doorSides == 2 || new.doorSides == 3) .two))

/-! ## Spans (chapter 1) -/

/-- R22: ENABLE acts on the selected spans, 1 A, 2 B, 3 both, and completes OK with the span states and the relay state; a
selector outside 1 to 3 completes REFUSED_RANGE.

R22, R11, R19: DISABLE clears the enable of each selected span and takes it to OFF unless it is there; RESTART restarts
each selected span, or is refused when one of them is OFF; the slot completes with both span states and the relay's. That an
action outside 1 to 5 is refused by the row ENABLE (log 18), that the detail byte is 0 (log 52), and that a RESTART in
PROBING or SENSED closes the listen window, drops the waiting answers and cuts a pulse being driven (log 72) is the model's
choice. -/
def Obligations.SpanControlActs : Prop :=
  (∀ (s : State) (dt : Nat) (r : Request) (rest : List Request), s.settled = true →
     takeRequest (fun r => r.spanAction 1) s.req.handed = (some r, rest) →
     let u : State := { s.advance dt with req := { s.req with handed := rest } }
     let sel := r.param 1
     let v : State := { u with
       spanA := if sel = 1 ∨ sel = 3 then enabled s (s.now + dt) s.spanA else s.spanA
       spanB := if sel = 2 ∨ sel = 3 then enabled s (s.now + dt) s.spanB else s.spanB }
     (r.param 0 = 1 → (sel = 1 ∨ sel = 2 ∨ sel = 3) →
       exec (.spanControlEnable dt) s = .next (v.complete r.slot .ok 0 (spanCodes v))) ∧
     (r.param 0 ≠ 1 ∨ ¬(sel = 1 ∨ sel = 2 ∨ sel = 3) →
       exec (.spanControlEnable dt) s = .next (u.complete r.slot .refusedRange 0 (spanCodes u)))) ∧
  (∀ (r : Request) (a : Byte), r.spanAction a = true ↔ r.kind = .spanControl ∧
    ((1 ≤ a.toNat ∧ a.toNat ≤ 5 ∧ r.param 0 = a) ∨
      (a = 1 ∧ ¬(1 ≤ (r.param 0).toNat ∧ (r.param 0).toNat ≤ 5)))) ∧
  ∀ (s : State) (dt : Nat) (r : Request) (rest : List Request), s.settled = true → s.mem.wf = true → r.slot < 16 →
    let sel := r.param 1
    let isSelected (x : SpanId) : Prop := match x with
      | .a => sel = 1 ∨ sel = 3
      | .b => sel = 2 ∨ sel = 3
    (sel = 1 ∨ sel = 2 ∨ sel = 3) →
    (takeRequest (fun r => r.spanAction 2) s.req.handed = (some r, rest) →
      ∃ t : State, exec (.spanControlDisable dt) s = .next t ∧ t.slotState r.slot = 3 ∧
        t.mem.readList (slotBase r.slot + 4) 2 = [1, 0] ∧ t.mem.readList (slotBase r.slot + 32) 3 = spanCodes t ∧
        ∀ x : SpanId,
          (isSelected x → (t.span x).enable = false ∧
            ((s.span x).state = .off → (t.span x).state = .off) ∧
            ((s.span x).state ≠ .off → turnedOff .disabled (s.span x) (t.span x))) ∧
          (¬isSelected x → (t.span x).state = (s.span x).state ∧ (t.span x).enable = (s.span x).enable)) ∧
    (takeRequest (fun r => r.spanAction 3) s.req.handed = (some r, rest) →
      ((∃ x : SpanId, isSelected x ∧ (s.span x).state = .off) →
        exec (.spanControlRestart dt) s = .next (State.complete { s.advance dt with req := { s.req with handed := rest } }
          r.slot .refusedState 0 (spanCodes s))) ∧
      ((∀ x : SpanId, isSelected x → (s.span x).state ≠ .off) →
        ∃ t : State, exec (.spanControlRestart dt) s = .next t ∧ t.slotState r.slot = 3 ∧
          t.mem.readList (slotBase r.slot + 4) 2 = [1, 0] ∧ t.mem.readList (slotBase r.slot + 32) 3 = spanCodes t ∧
          ∀ x : SpanId,
            (isSelected x → restarted (s.now + dt) .hostRestart (s.span x) (t.span x)) ∧
            (¬isSelected x → (t.span x).state = (s.span x).state)))

/-- R4, R3: BYPASS from OPEN puts the relay to SWITCHING for 10 ms with the drive off, takes every span to OFF with cause
BYPASSED at that moment and leaves its slot waiting; UNBYPASS from CLOSED puts it to SWITCHING with the drive on; in the
state asked for, the slot completes OK at once, and in SWITCHING it completes REFUSED_BUSY, and nothing else changes.

R3, R4, R11: when the 10 ms have run out the relay is OPEN with the drive on and CLOSED with it off; on OPEN every
enabled span that is OFF enters PROBING in a RUNNING part; a slot that waited completes OK. The detail byte 0 is the model's
choice (log 52). -/
def Obligations.RelayFollowsControl : Prop :=
  (∀ (s : State) (dt : Nat) (r : Request) (rest : List Request), s.settled = true →
     let u : State := { s.advance dt with req := { s.req with handed := rest } }
     (takeRequest (fun r => r.spanAction 4) s.req.handed = (some r, rest) →
       (s.bypass.relay = .opened → ∃ t : State, exec (.spanControlBypass dt) s = .next t ∧
         t.bypass = { relay := .switching, drive := false, doneAt := some (s.now + dt + 20000000), waiter := some r.slot } ∧
         ∀ x : SpanId, (t.span x).state = .off ∧
           ((s.span x).state ≠ .off → turnedOff .bypassed (s.span x) (t.span x))) ∧
       (s.bypass.relay = .closed → exec (.spanControlBypass dt) s = .next (u.complete r.slot .ok 0 (spanCodes s))) ∧
       (s.bypass.relay = .switching → exec (.spanControlBypass dt) s = .next (u.complete r.slot .refusedBusy 0 (spanCodes s)))) ∧
     (takeRequest (fun r => r.spanAction 5) s.req.handed = (some r, rest) →
       (s.bypass.relay = .opened → exec (.spanControlUnbypass dt) s = .next (u.complete r.slot .ok 0 (spanCodes s))) ∧
       (s.bypass.relay = .closed → exec (.spanControlUnbypass dt) s = .next { u with
         bypass := { relay := .switching, drive := true, doneAt := some (s.now + dt + 20000000), waiter := some r.slot } }) ∧
       (s.bypass.relay = .switching → exec (.spanControlUnbypass dt) s = .next (u.complete r.slot .refusedBusy 0 (spanCodes s))))) ∧
  ∀ (s : State) (dt e : Nat), s.settled = true → s.bypass.doneAt = some e → e ≤ s.now + dt →
    let relay : RelayState := if s.bypass.drive then .opened else .closed
    let started (u : Span) : Span :=
      if u.enable = true ∧ u.state = .off ∧ s.port.running = true ∧ s.bypass.drive = true then
        { u with
          state := .probing, runCount := 0, runRef := 0, lfsr := lfsrDraw u.lfsr, deafUntil := s.now + dt
          probeDue := some (s.now + dt + (lfsrDraw u.lfsr).toNat % 8 * 2000000) }
      else u
    let v : State := { s.advance dt with
      bypass := { relay := relay, drive := s.bypass.drive, doneAt := none, waiter := none }
      spanA := started s.spanA, spanB := started s.spanB }
    (s.bypass.waiter = none → exec (.relaySwitched dt) s = .next v) ∧
    ∀ k : Nat, s.bypass.waiter = some k → exec (.relaySwitched dt) s = .next (v.complete k .ok 0 (spanCodes v))

/-- R6, R7: a probe that is due is sent once the line has been quiet for 8 µs and no answer is being driven; its listen
window opens and the next probe falls due 10 ms plus a jitter draw after it. R8: a foreign probe, a positive pulse of 800
to 1200 units outside the span's own windows, is answered 4000 units after its leading edge; that only the leading edge is
held against an answer being driven is the model's choice (log 56). -/
def Obligations.ProbesAndAnswers : Prop :=
  ∀ (s : State) (dt : Nat) (x : SpanId), s.settled = true → (s.span x).state = .probing ∨ (s.span x).state = .sensed →
    let u := s.span x
    let now := s.now + dt
    (∀ due quiet : Nat, u.probeDue = some due → due ≤ now → 16000 ≤ quiet → u.busyUntil + 16000 ≤ now →
      u.answering now = false →
      exec (.probe dt x quiet) s = .next ((s.advance dt).setSpan x { u with
        drive := .probe now, window := some now, busyUntil := now + 1000, lfsr := lfsrDraw u.lfsr
        probeDue := some (now + 20000000 + (lfsrDraw u.lfsr).toNat % 8 * 2000000) })) ∧
    (∀ width : Nat, 800 ≤ width → width ≤ 1200 → (∀ w : Nat, u.window = some w → w + 13000 ≤ now) →
      u.answering now = false →
      exec (.foreignProbe dt x .positive width) s = .next ((s.advance dt).setSpan x { u with
        answers := u.answers ++ [now + 4000], busyUntil := max u.busyUntil (now + width) })) ∧
    (∀ (a : Nat) (later : List Nat), u.answers = a :: later → a ≤ now →
      exec (.probeAnswer dt x) s = .next ((s.advance dt).setSpan x { u with
        drive := .answer a, answers := later, busyUntil := max u.busyUntil (a + 2000), deafUntil := a + 2000 }))

/-- R7, R9, R12: at the end of a listen window the first four excursions are classified and copied into the span block; in
PROBING any class but ANSWERED leaves the span there, in SENSED it returns it to PROBING with run count 0.

R9, R10, R12: an ANSWERED probe joins its delay sample, clamped to 4000, to a history of at most four, and the span
delay is the mean of the last R samples rounded half up; PROBING becomes SENSED with run count 1; in SENSED an arrival
within 40 units of the reference counts on, GREETING being entered at 3, and any other starts again at 1. -/
def Obligations.ListenWindowsClassify : Prop :=
  (∀ (s : State) (dt w : Nat) (x : SpanId) (es : List Excursion), s.settled = true →
     (s.span x).state = .probing ∨ (s.span x).state = .sensed →
     (s.span x).window = some w → w + 13000 ≤ s.now + dt → (Instr.listenWindowEnd dt x es).wf = true →
     classOfEchoes (es.take 4) ≠ .answered →
     let u := s.span x
     let shown := es.take 4 ++ List.replicate (4 - es.length) { arrival := 65535, width := 0, polarity := .same }
     exec (.listenWindowEnd dt x es) s = .next ((s.advance dt).setSpan x { u with
       window := none, echo := shown, lastClass := classOfEchoes (es.take 4), state := .probing
       runCount := if u.state = .probing then u.runCount else 0
       runRef := if u.state = .probing then u.runRef else 0 })) ∧
  ∀ (s : State) (dt w : Nat) (x : SpanId) (es before after : List Excursion) (e : Excursion), s.settled = true →
    (s.span x).state = .probing ∨ (s.span x).state = .sensed →
    (s.span x).window = some w → w + 13000 ≤ s.now + dt → (Instr.listenWindowEnd dt x es).wf = true →
    es.take 4 = before ++ e :: after → classOfEchoes before ≠ .answered →
    1800 ≤ e.width.toNat → e.width.toNat ≤ 2200 → 4000 ≤ e.arrival.toNat → e.arrival.toNat ≤ 12000 →
    let u := s.span x
    let t := e.arrival.toNat
    let joined := u.history ++ [min 4000 ((t - 4000 + 1) / 2)]
    let history := joined.drop (joined.length - 4)
    let last := history.drop (history.length - s.settings.probeRepeat)
    let near : Prop := t ≤ u.runRef + 40 ∧ u.runRef ≤ t + 40
    ∃ v : State, exec (.listenWindowEnd dt x es) s = .next v ∧
      (v.span x).history = history ∧ (v.span x).delay = (2 * last.sum + last.length) / (2 * last.length) ∧
      (v.span x).lastClass = .answered ∧ (v.span x).window = none ∧
      (u.state = .probing → (v.span x).state = .sensed ∧ (v.span x).runCount = 1 ∧ (v.span x).runRef = t) ∧
      (u.state = .sensed → ¬near → (v.span x).state = .sensed ∧ (v.span x).runCount = 1 ∧ (v.span x).runRef = t) ∧
      (u.state = .sensed → near → u.runCount ≠ 2 →
        (v.span x).state = .sensed ∧ (v.span x).runCount = u.runCount + 1 ∧ (v.span x).runRef = u.runRef) ∧
      (u.state = .sensed → near → u.runCount = 2 →
        (v.span x).state = .greeting ∧ (v.span x).heard = 0 ∧ (v.span x).probeDue = none ∧ (v.span x).answers = [] ∧
        (v.span x).greetEnd = some (s.now + dt + 200000000) ∧ (v.span x).helloDue = some (s.now + dt + 4000000))

/-- R13, R14, R20: a valid HELLO taken in GREETING, or in PROBING or SENSED with a delay sample, takes the span to HELD when
it carries the car identity, brings it UP with the sender as partner when it names the car, and else is heard in GREETING;
without a sample, PROBING and SENSED discard a HELLO of another car. -/
def Obligations.HelloDrivesGreeting : Prop :=
  ∀ (s : State) (dt : Nat) (x : SpanId) (r : RxFrame) (rest : List RxFrame) (m : HelloMsg), s.settled = true →
    takeFor .spanUnit (s.span x).rxq = (some r, rest) → r.frame.kind = .hello → parseHello r.frame = some m →
    (s.span x).state = .probing ∨ (s.span x).state = .sensed ∨ (s.span x).state = .greeting →
    let u := s.span x
    let own := s.settings.identity
    ∃ t : State, exec (.hello dt x) s = .next t ∧
      (m.identity = own → heldFor u (t.span x)) ∧
      (m.identity ≠ own → u.state ≠ .greeting → u.history = [] → t = (s.advance dt).setSpan x { u with rxq := rest }) ∧
      (m.identity ≠ own → u.state = .greeting ∨ u.history ≠ [] → m.heard = own →
        cameUp (s.now + dt) u.delay m (t.span x)) ∧
      (m.identity ≠ own → u.state = .greeting ∨ u.history ≠ [] → m.heard ≠ own →
        (t.span x).state = .greeting ∧ (t.span x).heard = m.identity ∧ (t.span x).delay = u.delay ∧
        (u.state ≠ .greeting → (t.span x).greetEnd = some (s.now + dt + 200000000) ∧ (t.span x).probeDue = none) ∧
        (u.state = .greeting → (t.span x).greetEnd = u.greetEnd))

/-- R14, R16, R21: coming UP at a member outside a census enqueues one HELLO and raises SPAN_UP with the partner's end and
identity; nothing else changes.

R19, R21, R54: at a member outside a census a lost UP span leaves nothing but the restarted span and the SPAN_DOWN event
with the cause and the lost partner's identity. -/
def Obligations.SpanEventsReported : Prop :=
  (∀ (s : State) (dt : Nat) (x : SpanId) (r : RxFrame) (rest : List RxFrame) (m : HelloMsg), s.settled = true →
     takeFor .spanUnit (s.span x).rxq = (some r, rest) → r.frame.kind = .hello → parseHello r.frame = some m →
     (s.span x).state = .greeting → (s.span x).depth < 8 → m.identity ≠ s.settings.identity → m.heard = s.settings.identity →
     s.census.role = .member → s.census.state = .uncensused →
     let u := s.span x
     Answers (.hello dt x) s
       ((s.advance dt).setSpan x { u with
         rxq := rest, state := .up, partner := some (partnerOf m), bucket := 0, greetEnd := none, helloDue := none
         silenceEnd := some (s.now + dt + 40000000), idleFrom := s.now + dt, txq := u.txq ++ [queuedUnit .hello] })
       [[{ kind := 1, source := endCode x, position := byte s.table.own, detail := m.endCode, value := m.identity }]]) ∧
  ∀ (s : State) (dt e : Nat) (x : SpanId) (p : Partner), s.settled = true →
    (s.span x).state = .up → (s.span x).partner = some p → (s.span x).silenceEnd = some e → e ≤ s.now + dt →
    (∀ f ∈ (s.span x).cur.toList ++ (s.span x).txq, f.tag = .plain) →
    s.census.role = .member → s.census.state = .uncensused →
    ∃ v : Span, restarted (s.now + dt) .silence (s.span x) v ∧
      Answers (.silence dt x) s ((s.advance dt).setSpan x v)
        [[{ kind := 2, source := endCode x, position := byte s.table.own, detail := 1, value := p.identity }]]

/-- R16, R18: the checks of a valid HELLO in an UP span, in order: the car's own identity HELD, another identity, end or kind
a restart with PARTNER_CHANGED, a heard field that is not the car identity a restart with PARTNER_RESTARTED; otherwise the
partner generation is updated and the HELLO answered unless one completed within the 10 ms before, exactly 10 ms not counted
among them (the model's choice, log 46).

R18: a valid KEEPALIVE of the partner updates the partner generation and one of another car restarts the span with
PARTNER_CHANGED; R14, R18: outside UP, and when it is not valid, it is discarded. -/
def Obligations.UpSpanWatchesPartner : Prop :=
  (∀ (s : State) (dt : Nat) (x : SpanId) (r : RxFrame) (rest : List RxFrame) (m : HelloMsg) (p : Partner), s.settled = true →
     takeFor .spanUnit (s.span x).rxq = (some r, rest) → r.frame.kind = .hello → parseHello r.frame = some m →
     (s.span x).state = .up → (s.span x).partner = some p →
     let u := s.span x
     let own := s.settings.identity
     let same : Prop := m.identity = p.identity ∧ m.endCode = p.endCode ∧ m.kind = p.kind
     let recent : Prop := ∃ e : Nat, u.lastHello = some e ∧ s.now + dt < e + 20000000
     ∃ t : State, exec (.hello dt x) s = .next t ∧
       (m.identity = own → heldFor u (t.span x)) ∧
       (m.identity ≠ own → ¬same → restarted (s.now + dt) .partnerChanged u (t.span x)) ∧
       (m.identity ≠ own → same → m.heard ≠ own → restarted (s.now + dt) .partnerRestarted u (t.span x)) ∧
       (m.identity ≠ own → same → m.heard = own → (recent ∨ u.depth < 8) →
         t = (s.advance dt).setSpan x { u with rxq := rest, partner := some { p with gen := m.gen }, txq := (t.span x).txq } ∧
         (recent → (t.span x).txq = u.txq) ∧ (¬recent → (t.span x).txq = u.txq ++ [queuedUnit .hello]))) ∧
  ∀ (s : State) (dt : Nat) (x : SpanId) (r : RxFrame) (rest : List RxFrame), s.settled = true →
    takeFor .spanUnit (s.span x).rxq = (some r, rest) → r.frame.kind = .keepalive →
    let u := s.span x
    ∃ t : State, exec (.keepalive dt x) s = .next t ∧
      (∀ (p : Partner) (m : Word32 × Word16), u.state = .up → u.partner = some p → parseKeepalive r.frame = some m →
        (m.1 = p.identity → t = (s.advance dt).setSpan x { u with rxq := rest, partner := some { p with gen := m.2 } }) ∧
        (m.1 ≠ p.identity → restarted (s.now + dt) .partnerChanged u (t.span x))) ∧
      (u.state ≠ .up ∨ parseKeepalive r.frame = none → t = (s.advance dt).setSpan x { u with rxq := rest })

/-- R14, R18, R19: a GREETING span whose greeting timer has run out, and an UP span whose silence timer has run out or whose
error bucket has reached 32, restarts with cause GREET_TIMEOUT, SILENCE or ERRORS.

R14, R17, R32: in GREETING a HELLO that falls due joins the queue unless one is still in it, and the next falls due 2 ms
later; an UP span with an empty queue, nothing in transmission and 5 ms since its last completed frame or its entry to UP
enqueues a KEEPALIVE. -/
def Obligations.TimersRestartSpansAndQueueFrames : Prop :=
  (∀ (s : State) (dt e : Nat) (x : SpanId), s.settled = true →
     let u := s.span x
     (u.state = .greeting → u.greetEnd = some e → e ≤ s.now + dt →
       ∃ v : Span, exec (.greetTimeout dt x) s = .next ((s.advance dt).setSpan x v) ∧
         restarted (s.now + dt) .greetTimeout u v) ∧
     (u.state = .up → u.silenceEnd = some e → e ≤ s.now + dt →
       ∃ t : State, exec (.silence dt x) s = .next t ∧ restarted (s.now + dt) .silence u (t.span x)) ∧
     (u.state = .up → 32 ≤ u.bucket →
       ∃ t : State, exec (.errors dt x) s = .next t ∧ restarted (s.now + dt) .errors u (t.span x))) ∧
  ∀ (s : State) (dt due : Nat) (x : SpanId), s.settled = true →
    let u := s.span x
    (u.state = .greeting → u.helloDue = some due → due ≤ s.now + dt → u.depth < 8 →
      exec (.greetingHelloDue dt x) s = .next ((s.advance dt).setSpan x { u with
        helloDue := some (due + 4000000)
        txq := if (u.cur.toList ++ u.txq).any (fun f => f.frame.kind == .hello) then u.txq
          else u.txq ++ [queuedUnit .hello] })) ∧
    (u.state = .up → u.txq = [] → u.cur = none → u.idleFrom + 10000000 ≤ s.now + dt →
      exec (.keepaliveDue dt x) s = .next ((s.advance dt).setSpan x { u with txq := [queuedUnit .keepalive] }))

/-- R54, R63, R64, R86: a downstream span that leaves UP makes an ENLISTED member report SILENT upstream and become UNCENSUSED;
a member in VALID or STALE sends a BREAK with the cause upstream and is STALE, its open order ends with SPAN_END, and it becomes
the end car, with the first roll of each kind. An upstream span that leaves UP makes a member in ENLISTED, AWAIT_TABLE, VALID
or STALE UNCENSUSED, in the last two with a VOID of reason CUT downstream; AWAIT_TABLE after an END it relayed, also for the
downstream span. A downstream span that comes UP makes VALID STALE with a BREAK of cause JOINED.

R60, R64, R65: at a lead in CALLING or DISTRIBUTING the census fails with SPAN_LOST when the train span leaves UP and with
LEAD_NOT_AT_END when the cab-end span comes UP; in its other states any span event makes VALID STALE and starts the settle
timer with auto-census on. The sending order of ORDER_ACK, BREAK and rolls is the model's choice (log 59) and not stated; the
position a member's BREAK and VOID carry is that of its context, also outside a running census (the model's choice, log 64). -/
def Obligations.CensusTakesSpanEvents : Prop :=
  ∀ (c : Instr) (s t : State) (dt : Nat) (x : SpanId), s.settled = true → s.slotsSound → s.spansSound → endKnown s →
    trailRoom s → linkCommand c dt x → exec c s = .next t →
    let y := otherSpan x
    let now := s.now + dt
    (s.isUp y = true → t.isUp y = true) →
    (s.isUp x = true → t.isUp x = false →
      let cause := (t.span x).lastCause.code
      (s.census.role = .member →
        (∀ k : Context, s.census.ctx = some k →
          (s.census.state = .enlisted → t.census.state = .uncensused ∧ t.census.timerEnd = none ∧ t.census.ctx = some k ∧
            (k.upstream = y → canSend s y → waits t y (reportAt k.position k.number k.lead .silent []))) ∧
          (s.census.state = .awaitTable →
            (k.upstream = x ∨ s.census.relayed = true →
              t.census.state = .uncensused ∧ t.census.timerEnd = none ∧ t.census.ctx = some k) ∧
            (k.upstream = y → s.census.relayed = false → t.census = s.census))) ∧
        (s.census.state = .uncensused → t.census = s.census) ∧
        (s.census.state = .valid ∨ s.census.state = .stale →
          (s.downstream = some x → canSend s y →
            t.census.state = .stale ∧ t.table.gen = s.table.gen ∧ waits t y (ownBreak s x cause) ∧
            (s.census.state = .valid → recordedIn s t (ownStale s x cause)) ∧ t.relay.openOrder = none ∧
            (∀ o : OpenOrder, s.relay.openOrder = some o →
              waits t y (orderAckAt s.table.own o.gen (ackOfOne o.number 2 o.own s.table.own))) ∧
            t.relay.endCar = some true ∧
            (s.isEndCar = false → (∀ f ∈ (s.span x).cur.toList ++ (s.span x).txq, ∀ n : Byte, f.tag ≠ .leadOrder n) →
              waits t y (ownRoll s .doorState) ∧ waits t y (ownRoll s .demand))) ∧
          (s.upstream = some x → t.census.state = .uncensused ∧ t.census.role = .member ∧ t.relay = Relay.empty ∧
            t.table = s.table ∧
            (canSend s y → waits t y (censusFrameAt .void s.censusPosition s.table.gen
              (voidPayload s.table.number s.table.lead 10)))))) ∧
      (s.census.role = .lead →
        (s.census.state = .calling ∨ s.census.state = .distributing →
          (x = s.trainSpan → censusFails (s.setSpan x (t.span x)) t now s.census.number s.census.slot .spanLost 0) ∧
          (x = s.cabSpan → t.census = s.census)) ∧
        (s.census.state ≠ .calling → s.census.state ≠ .distributing → leadGoesStale s t now x cause))) ∧
    (s.isUp x = false → t.isUp x = true →
      (s.census.role = .member →
        ((s.census.state = .valid ∨ s.census.state = .stale) → s.downstream = some x → canSend s y →
          t.census.state = .stale ∧ t.table = s.table ∧ waits t y (ownBreak s x 10) ∧
          (s.census.state = .valid → recordedIn s t (ownStale s x 10)) ∧ t.relay.endCar = some t.isEndCar) ∧
        (¬((s.census.state = .valid ∨ s.census.state = .stale) ∧ s.downstream = some x) → t.census = s.census)) ∧
      (s.census.role = .lead →
        (s.census.state = .calling ∨ s.census.state = .distributing →
          (x = s.cabSpan → censusFails s t now s.census.number s.census.slot .leadNotAtEnd 0) ∧
          (x = s.trainSpan → t.census = s.census)) ∧
        (s.census.state ≠ .calling → s.census.state ≠ .distributing → leadGoesStale s t now x 10)))

/-! ## Frames and line access (chapter 2) -/

/-- R1, R2, R24 to R28: a frame coded on the line with its delimiters and its CRC is decoded to its bytes, passes the receive
checks and gives the same frame again, whichever driven level it starts with. That a delimiter's 2 µs stretch begins with a
transition is the model's choice (log 14). -/
def Obligations.FrameSurvivesTheLine : Prop :=
  ∀ (f : Frame) (first : Level), f.payload.length ≤ 544 → first ≠ .quiet →
    decodeLine (codeFrame first f.encode ++ [.quiet]) = .frame f.encode ∧ rejection f.encode = none ∧
    parseFrame f.encode = some f ∧ (codeFrame first f.encode).length = 2 * (136 + 8 * f.payload.length)

/-- R27 to R31: a frame that passes the receive checks joins the receive queue, or is lost with RX_OVERRUN when the queue
holds four; one of an unknown kind is only counted; a rejected one puts 4 into the error bucket, which stops at 255, and
raises the count of its reason by 1 and no other count; in OFF and HELD, and while the span drives its line, nothing is
received.

R1, R27: of a line activity the part seen before `deafUntil`, where the own drive ended or the span left OFF or HELD, is not
decoded; an activity that began no earlier is decoded whole. That a frame of which a part was missed is not in progress, the
rest being searched for a start delimiter, is the model's choice (log 71). That an UP span whose bucket reaches 32 stays UP
until the command ERRORS is taken is the model's choice too (log 6). -/
def Obligations.ReceptionChecksAndQueues : Prop :=
  ∀ (s : State) (dt : Nat) (x : SpanId) (line : List Level), s.settled = true →
    let u := s.span x
    let now := s.now + dt
    let answer := exec (.frameReceived dt x line) s
    let active : Nat := (line.reverse.dropWhile fun l => l == .quiet).length
    let seen : List Level := line.drop (active - (now - u.deafUntil) / 1000)
    let heard : Span := { u with busyUntil := max u.busyUntil now }
    let one (why reason : Rejection) : Word16 := if why = reason then 1 else 0
    let spoilt (why : Rejection) : Span :=
      { heard with
        bucket := min 255 (u.bucket + 4), lastReject := why
        rejDelimiter := u.rejDelimiter + one why .delimiter
        rejShort := u.rejShort + one why .short
        rejLengthOver := u.rejLengthOver + one why .lengthOver
        rejLengthMismatch := u.rejLengthMismatch + one why .lengthMismatch
        rejCrc := u.rejCrc + one why .crc }
    (u.deafUntil + 1000 * active ≤ now → seen = line) ∧
    ((u.state = .off ∨ u.state = .held ∨ u.driving now = true) → answer = .next (s.advance dt)) ∧
    (u.state ≠ .off → u.state ≠ .held → u.driving now = false →
      (decodeLine seen = .none → answer = .next ((s.advance dt).setSpan x heard)) ∧
      (decodeLine seen = .violated → answer = .next ((s.advance dt).setSpan x (spoilt .delimiter))) ∧
      (∀ (bytes : List Byte) (why : Rejection), decodeLine seen = .frame bytes → rejection bytes = some why →
        answer = .next ((s.advance dt).setSpan x (spoilt why))) ∧
      (∀ bytes : List Byte, decodeLine seen = .frame bytes → rejection bytes = none →
        (parseFrame bytes = none →
          answer = .next ((s.advance dt).setSpan x { heard with unknownKind := u.unknownKind + 1 })) ∧
        (∀ f : Frame, parseFrame bytes = some f →
          (u.rxq.length < 4 → answer = .next ((s.advance dt).setSpan x { accepted now u with
            rxq := u.rxq ++ [{ frame := f, endAt := now }] })) ∧
          (4 ≤ u.rxq.length → Answers (.frameReceived dt x line) s
            ((s.advance dt).setSpan x { accepted now u with overruns := u.overruns + 1 })
            [[{ kind := 4, source := endCode x, position := byte s.table.own, detail := f.kind.code,
                value := (u.overruns + 1).setWidth 32 }]]))))

/-- R32: a frame for a span that is not UP is discarded unless it is the span unit's own; a queue of fewer than eight takes it
at its end. R33: a full queue makes room for a better class by dropping the youngest frame of its worst class, and drops the
offered frame otherwise; each drop counts and raises QUEUE_DROP with the discarded kind and the count. -/
def Obligations.TransmitQueueTakesOrDrops : Prop :=
  ∀ (s : State) (x : SpanId) (f : TxFrame),
    let u := s.span x
    let r := s.offer x f
    let dropping (q : List TxFrame) (kind : FrameKind) : State :=
      { s.setSpan x { u with txq := q, drops := u.drops + 1 } with
        raised := s.raised ++ [{
          group := (endCode x).toNat
          event := { kind := 3, source := endCode x, position := byte s.table.own, detail := kind.code
                     value := (u.drops + 1).setWidth 32 } }] }
    (f.frame.kind.consumer ≠ .spanUnit → u.state ≠ .up → r = (s, .discarded)) ∧
    (f.frame.kind.consumer = .spanUnit ∨ u.state = .up →
      (u.depth < 8 → r = (s.setSpan x { u with txq := u.txq ++ [f] }, .joined)) ∧
      (8 ≤ u.depth →
        (∀ (g : TxFrame) (before after : List TxFrame), u.txq = before ++ g :: after →
          (∀ h ∈ u.txq, h.frame.kind.txClass ≤ g.frame.kind.txClass) →
          (∀ h ∈ after, h.frame.kind.txClass < g.frame.kind.txClass) → f.frame.kind.txClass < g.frame.kind.txClass →
          r = (dropping (before ++ after ++ [f]) g.frame.kind, .joined)) ∧
        ((∀ h ∈ u.txq, h.frame.kind.txClass ≤ f.frame.kind.txClass) → r = (dropping u.txq f.frame.kind, .dropped))))

/-- R34, R36: on a line quiet for 8 µs, with nothing driven and no backoff wait, a span in GREETING or UP attempts its
current frame, or takes the oldest frame of the best class from its queue as its current one; the frame is filled and driven
from now on.

R15, R35, R93: the fields filled at an attempt: a HELLO and a KEEPALIVE carry the car's identity and image generation of
that moment; a forwarded ORDER its delay less the gap since its reception, less 1840 units and the span delay, or LATE when
that falls below 0; every other frame goes as it was offered. -/
def Obligations.AttemptFillsAndDrivesBestFrame : Prop :=
  (∀ (s : State) (dt quiet : Nat) (x : SpanId), s.settled = true →
     (s.span x).state = .greeting ∨ (s.span x).state = .up → 16000 ≤ quiet → (s.span x).busyUntil + 16000 ≤ s.now + dt →
     (s.span x).lineFree (s.now + dt) = true → (∀ e : Nat, (s.span x).backoffEnd = some e → e ≤ s.now + dt) →
     let u := s.span x
     let filled (f : TxFrame) : Frame := (s.advance dt).fillFrame x f
     (∀ f : TxFrame, u.cur = some f → exec (.transmitAttempt dt x quiet) s = .next ((s.advance dt).setSpan x { u with
       cur := some { f with frame := filled f }, attempt := u.attempt + 1, backoffEnd := none
       drive := .frame (s.now + dt) (filled f).encode })) ∧
     (∀ (f : TxFrame) (before after : List TxFrame), u.cur = none → u.txq = before ++ f :: after →
       (∀ h ∈ u.txq, f.frame.kind.txClass ≤ h.frame.kind.txClass) →
       (∀ h ∈ before, f.frame.kind.txClass < h.frame.kind.txClass) →
       exec (.transmitAttempt dt x quiet) s = .next ((s.advance dt).setSpan x { u with
         txq := before ++ after, cur := some { f with frame := filled f }, attempt := u.attempt + 1, backoffEnd := none
         drive := .frame (s.now + dt) (filled f).encode }))) ∧
  ∀ (s : State) (x : SpanId) (f : TxFrame),
    let g := s.fillFrame x f
    let gap (rxEnd : Nat) : Nat := (s.now - rxEnd) / 200
    let sd : Nat := ((s.span x).delay + 100) / 200
    (f.frame.kind = .hello → g.gen = s.table.gen ∧ g.payload = be32 s.settings.identity ++
      [endCode x, byte s.settings.kind] ++ be16 s.table.gen ++ be32 (s.span x).heardNow) ∧
    (f.frame.kind = .keepalive → g.gen = s.table.gen ∧ g.payload = be32 s.settings.identity ++ be16 s.table.gen) ∧
    (f.frame.kind ≠ .hello → f.frame.kind ≠ .keepalive →
      (∀ (gen : Word16) (n : Byte) (rxEnd dr : Nat), f.tag = .forwarded gen n rxEnd dr false →
        (gap rxEnd + 1840 + sd ≤ dr →
          g = { f.frame with delay := word32 (dr - gap rxEnd - 1840 - sd), late := false }) ∧
        (dr < gap rxEnd + 1840 + sd → g = { f.frame with delay := 0, late := true })) ∧
      (∀ (gen : Word16) (n : Byte) (rxEnd dr : Nat), f.tag = .forwarded gen n rxEnd dr true →
        g = { f.frame with delay := 0, late := true }) ∧
      ((∀ (gen : Word16) (n : Byte) (rxEnd dr : Nat) (late : Bool), f.tag ≠ .forwarded gen n rxEnd dr late) → g = f.frame))

/-- R37: a sample 0.25 µs or 0.75 µs into a cell that differs from the driven level stops the frame and starts a jam; one that
agrees does nothing. R38, R39: 8 µs on the jam
ends, and an attempt before the 8th backs off for a draw mod 16 times 32 µs counted from the end of the jam; the end of the wait
lets the span try again; the 8th failed attempt gives the frame up with SEND_FAILED, and R86: the give-up of the ORDER a member
sent on ends its open order with FORWARD_LOST.

The model's choice: the jam starts at the sample instant, its first cell with a transition from the level driven (log 36, read
from R1 and R38), a draw at the end of the 8th jam too, with the give-up (log 15), and an UP span whose bucket a give-up takes
to 32 stays UP until the command ERRORS is taken (log 6).

R17, R35, R41: at the end of its line time the current frame is complete: the line is released, the frame leaves the queue and
counts as sent, and the keep-alive watch and, for a HELLO, the 10 ms of R16 count from that end. -/
def Obligations.AttemptsEnd : Prop :=
  (∀ (s : State) (dt start : Nat) (x : SpanId), s.settled = true →
     let u := s.span x
     let now := s.now + dt
     (∀ (bytes : List Byte) (sample : Level) (h : Nat), u.drive = .frame start bytes → now = start + 1000 * h + 500 →
       h < 48 + 16 * bytes.length →
       (sample ≠ (s.advance dt).transmitLevel x → ∃ (t : State) (onFirst : Bool), exec (.collision dt ⟨x, sample⟩) s = .next t ∧
         t = (s.advance dt).setSpan x { u with drive := .jam now onFirst, collisions := u.collisions + 1 } ∧
         t.transmitLevel x = Level.flip ((s.advance dt).transmitLevel x)) ∧
       (sample = (s.advance dt).transmitLevel x → exec (.collision dt ⟨x, sample⟩) s = .next (s.advance dt))) ∧
     (∀ onFirst : Bool, u.drive = .jam start onFirst → start + 16000 ≤ now → ∀ f : TxFrame, u.cur = some f →
       (u.attempt < 8 → exec (.jamEnd dt x) s = .next ((s.advance dt).setSpan x { u with
         drive := .idle, busyUntil := start + 16000, deafUntil := start + 16000, lfsr := lfsrDraw u.lfsr
         backoffEnd := some (start + 16000 + (lfsrDraw u.lfsr).toNat % 16 * 64000) })) ∧
       (8 ≤ u.attempt →
         let v : State := (s.advance dt).setSpan x { u with
           drive := .idle, busyUntil := start + 16000, deafUntil := start + 16000, lfsr := lfsrDraw u.lfsr, cur := none, attempt := 0
           sendFails := u.sendFails + 1, bucket := min 255 (u.bucket + 4) }
         let event : Event :=
           { kind := 5, source := endCode x, position := byte s.table.own, detail := f.frame.kind.code
             value := (u.sendFails + 1).setWidth 32 }
         (f.tag = .plain → Answers (.jamEnd dt x) s v [[event]]) ∧
         (∀ (gen : Word16) (n : Byte) (rxEnd dr : Nat) (late : Bool), f.tag = .forwarded gen n rxEnd dr late →
           ((∀ o : OpenOrder, s.relay.openOrder = some o → ¬(o.gen = gen ∧ o.number = n)) →
             Answers (.jamEnd dt x) s v [[event]]) ∧
           (∀ (o : OpenOrder) (up : SpanId), s.relay.openOrder = some o → o.gen = gen → o.number = n → s.upstream = some up →
             up ≠ x → canSend s up → s.mem.wf = true → trailRoom s →
             ∃ t : State, exec (.jamEnd dt x) s = .next t ∧ t.span x = v.span x ∧ recordedIn s t event ∧
               t.relay = { s.relay with openOrder := none } ∧
               waits t up (orderAckAt s.table.own gen (ackOfOne n 4 o.own s.table.own)))))) ∧
     (∀ e : Nat, u.backoffEnd = some e → e ≤ now →
       exec (.backoffEnd dt x) s = .next ((s.advance dt).setSpan x { u with backoffEnd := none }))) ∧
  ∀ (s : State) (dt start : Nat) (x : SpanId) (bytes : List Byte) (f : TxFrame), s.settled = true →
    (s.span x).drive = .frame start bytes → (s.span x).cur = some f → (∀ n : Byte, f.tag ≠ .leadOrder n) →
    start + (24 + 8 * bytes.length) * 2000 ≤ s.now + dt →
    let u := s.span x
    let endAt := start + (24 + 8 * bytes.length) * 2000
    exec (.frameCompleted dt x) s = .next ((s.advance dt).setSpan x { u with
      drive := .idle, busyUntil := endAt, deafUntil := endAt, cur := none, attempt := 0, sent := u.sent + 1, idleFrom := endAt
      lastHello := if f.frame.kind = .hello then some endAt else u.lastHello })

/-! ## The census (chapter 3) -/

/-- R44, R45: a TRAILER refuses TAKE_LEAD with REFUSED_ROLE, a member refuses CENSUS_START so, and a car that is ENLISTED,
AWAIT_TABLE, CALLING or DISTRIBUTING refuses with REFUSED_BUSY; otherwise TAKE_LEAD and CENSUS_START start a census with
their slot, a member becoming lead with an empty context and retry count 0.

R61: a member refuses DROP_LEAD; a lead sends a VOID with reason LEAD_DROPPED on its train span, becomes an UNCENSUSED
member without a context, stops its timers, ends a running census with CENSUS_FAILED and its slot ABORTED, keeps its image
records, and completes OK. The model's choice: a lead keeps its retry count at TAKE_LEAD (log 29), a refusal shows no result
bytes (log 43), the slot of the census that DROP_LEAD ends shows the state UNCENSUSED (log 50), details no rule gives are 0 (log
52), the VOID carries position 1 also while no census runs (log 64), and the kept records keep their door-proving codes (log
75). -/
def Obligations.CensusRequestsAct : Prop :=
  (∀ (s : State) (dt : Nat) (r : Request) (rest : List Request), s.settled = true → endKnown s → s.mem.wf = true →
     let u : State := { s.advance dt with req := { s.req with handed := rest } }
     let engaged : Prop := s.census.state = .enlisted ∨ s.census.state = .awaitTable ∨ s.census.state = .calling ∨
       s.census.state = .distributing
     (takeRequest (fun r => r.kind == .takeLead) s.req.handed = (some r, rest) →
       (s.settings.kind ≠ 1 → exec (.takeLead dt) s = .next (u.complete r.slot .refusedRole 0 [])) ∧
       (s.settings.kind = 1 → engaged → exec (.takeLead dt) s = .next (u.complete r.slot .refusedBusy 0 [])) ∧
       (s.settings.kind = 1 → ¬engaged → ∃ t : State, exec (.takeLead dt) s = .next t ∧
         censusStarts s t (s.now + dt) (some r.slot) (if s.census.role = .member then 0 else s.census.retry) ∧
         (s.census.role = .member → t.census.ctx = none))) ∧
     (takeRequest (fun r => r.kind == .censusStart) s.req.handed = (some r, rest) →
       (s.census.role = .member → exec (.censusStart dt) s = .next (u.complete r.slot .refusedRole 0 [])) ∧
       (s.census.role = .lead → s.census.state = .calling ∨ s.census.state = .distributing →
         exec (.censusStart dt) s = .next (u.complete r.slot .refusedBusy 0 [])) ∧
       (s.census.role = .lead → s.census.state ≠ .calling → s.census.state ≠ .distributing →
         ∃ t : State, exec (.censusStart dt) s = .next t ∧ censusStarts s t (s.now + dt) (some r.slot) 0))) ∧
  ∀ (s : State) (dt : Nat) (r : Request) (rest : List Request), s.settled = true → s.mem.wf = true → trailRoom s →
    takeRequest (fun r => r.kind == .dropLead) s.req.handed = (some r, rest) →
    let u : State := { s.advance dt with req := { s.req with handed := rest } }
    (s.census.role = .member → exec (.dropLead dt) s = .next (u.complete r.slot .refusedRole 0 [])) ∧
    (s.census.role = .lead → r.slot < 16 → s.census.slot ≠ some r.slot →
      ∃ t : State, exec (.dropLead dt) s = .next t ∧
        t.census.role = .member ∧ t.census.state = .uncensused ∧ t.census.ctx = none ∧ t.census.timerEnd = none ∧
        t.census.settleEnd = none ∧ t.census.retry = 0 ∧ t.table = s.table ∧ answered t r.slot .ok 0 [] ∧
        (canSend s s.trainSpan → waits t s.trainSpan (censusFrameAt .void 1 s.table.gen
          (voidPayload s.census.number s.settings.identity 9))) ∧
        (s.census.state = .calling ∨ s.census.state = .distributing →
          recordedIn s t { kind := 7, source := 3, position := byte s.table.own, detail := 9
                           value := s.census.number ++ (0 : Word16) } ∧
          ∀ k : Nat, s.census.slot = some k → k < 16 →
            answered t k .aborted 9 (le16 s.census.number ++ [0] ++ le16 s.table.gen ++ [0, 0])))

/-- R65, R42: when the settle timer of a lead outside a census runs out it starts a census without a slot; when the census
timer runs out, CALLING fails with DOWNSTREAM_SILENT, DISTRIBUTING with ACK_TIMEOUT (R56, R58), ENLISTED reports SILENT
upstream, and ENLISTED and AWAIT_TABLE become UNCENSUSED (R54). -/
def Obligations.CensusTimersAct : Prop :=
  ∀ (s : State) (dt e : Nat), s.settled = true → endKnown s → s.mem.wf = true → trailRoom s →
    (s.census.settleEnd = some e → e ≤ s.now + dt → s.census.role = .lead → s.census.state ≠ .calling →
      s.census.state ≠ .distributing →
      ∃ t : State, exec (.settleTimerExpired dt) s = .next t ∧ censusStarts s t (s.now + dt) none s.census.retry) ∧
    (s.census.timerEnd = some e → e ≤ s.now + dt →
      (s.census.role = .lead → s.census.state = .calling → ∃ t : State, exec (.censusTimerExpired dt) s = .next t ∧
        censusFails s t (s.now + dt) s.census.number s.census.slot .downstreamSilent 0) ∧
      (s.census.role = .lead → s.census.state = .distributing → ∃ t : State, exec (.censusTimerExpired dt) s = .next t ∧
        censusFails s t (s.now + dt) s.census.number s.census.slot .ackTimeout 0) ∧
      (∀ c : Context, s.census.role = .member → s.census.ctx = some c →
        s.census.state = .enlisted ∨ s.census.state = .awaitTable →
        ∃ t : State, exec (.censusTimerExpired dt) s = .next t ∧ t.census.state = .uncensused ∧ t.census.timerEnd = none ∧
          t.census.ctx = some c ∧
          (s.census.state = .enlisted → canSend s c.upstream →
            waits t c.upstream (reportAt c.position c.number c.lead .silent []))))

/-- R50, R51, R52: a member discards a CALL of its own identity and one that is not newer from the lead of its context; a
CALL of another lead finds a conflict in ENLISTED and AWAIT_TABLE; every other CALL is adopted: the car takes the next
position with the arrival span upstream, and calls on (ENLISTED), reports TOO_LONG at position 32, or reports END with its own
record (AWAIT_TABLE). R53: a lead answers a foreign CALL with CONFLICT, and a running census fails. That the answer of a lead
carries position 1 also while no census runs is the model's choice (log 64). -/
def Obligations.CallIsAdoptedOrAnswered : Prop :=
  ∀ (s : State) (dt : Nat) (x : SpanId) (r : RxFrame) (rest : List RxFrame) (m : CallMsg), s.settled = true →
    endKnown s → s.mem.wf = true → trailRoom s →
    takeFor .census (s.span x).rxq = (some r, rest) → r.frame.kind = .call → parseCall r.frame = some m →
    canSend s x →
    let u := (s.advance dt).setSpan x { s.span x with rxq := rest }
    let y := otherSpan x
    let now := s.now + dt
    let engaged : Prop := s.census.state = .enlisted ∨ s.census.state = .awaitTable
    let distance (c : Context) : Nat := (m.number - c.number).toNat
    (m.lead = s.settings.identity → exec (.call dt x) s = .next u) ∧
    (s.census.role = .member → m.lead ≠ s.settings.identity →
      (∀ c : Context, s.census.ctx = some c → c.lead = m.lead → distance c = 0 ∨ 32768 < distance c →
        exec (.call dt x) s = .next u) ∧
      (∀ c : Context, s.census.ctx = some c → c.lead ≠ m.lead → engaged → canSend s c.upstream →
        ∃ t : State, exec (.call dt x) s = .next t ∧ t.census.state = .uncensused ∧ t.census.ctx = some c ∧
          waits t x (reportAt c.position m.number m.lead .conflict []) ∧
          waits t c.upstream (reportAt c.position c.number c.lead .conflict []) ∧
          recordedIn s t { kind := 9, source := 3, position := byte s.table.own, detail := 2, value := m.lead }) ∧
      (s.census.ctx = none ∨
          (∃ c : Context, s.census.ctx = some c ∧ c.lead = m.lead ∧ 1 ≤ distance c ∧ distance c ≤ 32767) ∨
          (∃ c : Context, s.census.ctx = some c ∧ c.lead ≠ m.lead ∧ ¬engaged) →
        let c : Context := { lead := m.lead, number := m.number, position := m.hop + 1, upstream := x }
        ∃ t : State, exec (.call dt x) s = .next t ∧ t.census.ctx = some c ∧ t.census.lastVoid = none ∧
          t.census.ackForwarded = false ∧ t.relay = Relay.empty ∧
          ((s.span y).state = .up → m.hop + 1 ≤ 31 → t.census.state = .enlisted ∧ t.census.timerEnd = some (now + 3000000000) ∧
            (canSend s y → waits t y (censusFrameAt .call (m.hop + 1) 0 (callPayload m.number m.lead)))) ∧
          ((s.span y).state = .up → 31 < m.hop + 1 → t.census.state = .uncensused ∧
            waits t x (reportAt (m.hop + 1) m.number m.lead .tooLong [])) ∧
          ((s.span y).state ≠ .up → t.census.state = .awaitTable ∧ t.census.timerEnd = some (now + 4000000000) ∧
            waits t x (reportAt (m.hop + 1) m.number m.lead .ended [s.memberRecord c])))) ∧
    (s.census.role = .lead → m.lead ≠ s.settings.identity →
      ∃ t : State, exec (.call dt x) s = .next t ∧ waits t x (reportAt 1 m.number m.lead .conflict []) ∧
        recordedIn s t { kind := 9, source := 3, position := byte s.table.own, detail := 1, value := m.lead } ∧
        (s.census.state = .calling ∨ s.census.state = .distributing →
          t.census.state = .uncensused ∧ t.census.slot = none ∧
          ∀ k : Nat, s.census.slot = some k → k < 16 →
            answered t k .aborted 2 (le16 s.census.number ++ [0] ++ le16 s.table.gen ++ [0, 0])) ∧
        (s.census.state ≠ .calling → s.census.state ≠ .distributing → t.census = s.census))

/-- R54: an ENLISTED member puts its own record in front of a REPORT of its census and sends it up, waiting for the table
after END and leaving the census after any other answer. R56: a lead in CALLING fails on CONFLICT, TOO_LONG and SILENT and on
a repeated identity, and otherwise writes the table, of the next generation, and distributes it. That a failed census names the
REPORT's origin position also for DUPLICATE_IDENTITY is the model's choice (log 49). -/
def Obligations.ReportIsRelayedOrDecided : Prop :=
  ∀ (s : State) (dt : Nat) (x : SpanId) (r : RxFrame) (rest : List RxFrame) (m : ReportMsg), s.settled = true →
    endKnown s → s.mem.wf = true → trailRoom s → (s.span x).state = .up →
    takeFor .census (s.span x).rxq = (some r, rest) → r.frame.kind = .report → parseReport r.frame = some m →
    (∀ c : Context, s.census.role = .member → s.census.state = .enlisted → s.census.ctx = some c → x = otherSpan c.upstream →
      m.number = c.number → m.lead = c.lead → m.records.length < 31 → canSend s c.upstream →
      ∃ t : State, exec (.report dt x) s = .next t ∧
        waits t c.upstream { reportAt c.position m.number m.lead m.answer (s.memberRecord c :: m.records) with
          origin := m.origin } ∧
        (m.answer = .ended → t.census.state = .awaitTable ∧ t.census.timerEnd = some (s.now + dt + 4000000000)) ∧
        (m.answer ≠ .ended → t.census.state = .uncensused ∧ t.census.timerEnd = none)) ∧
    (s.census.role = .lead → s.census.state = .calling → x = s.trainSpan → m.lead = s.settings.identity →
      m.number = s.census.number → (s.span x).depth ≤ 4 →
      let records := s.leadRecord :: m.records
      let fails (reason : FailReason) : Prop := ∃ t : State, exec (.report dt x) s = .next t ∧
        censusFails s t (s.now + dt) s.census.number s.census.slot reason m.origin
      (m.answer = .conflict → fails .leadConflict) ∧ (m.answer = .tooLong → fails .tooManyCars) ∧
      (m.answer = .silent → fails .downstreamSilent) ∧
      (m.answer = .ended → ¬(records.map (fun q => q.identity)).Nodup → fails .duplicateIdentity) ∧
      (m.answer = .ended → (records.map (fun q => q.identity)).Nodup →
        ∃ t : State, exec (.report dt x) s = .next t ∧ t.census.state = .distributing ∧
          t.census.timerEnd = some (s.now + dt + 3000000000) ∧ t.table.own = 1 ∧
          t.table.gen = nextNumber (word16 (records.foldl (fun g q => max g q.lastGen.toNat) s.table.gen.toNat)) ∧
          t.table.number = s.census.number ∧ t.table.lead = s.settings.identity ∧
          t.table.signature = crc32 (records.flatMap CarRecord.encode) ∧ t.table.records.map (fun q => q.car) = records ∧
          waits t x (censusFrameAt .table 1 t.table.gen
            (tablePayload s.census.number s.settings.identity t.table.signature records))))

/-- R57: a member in AWAIT_TABLE adopts the TABLE of its census when the record at its position is its own with its front end
and the signature holds: VALID at the header's generation, the TABLE sent on below position n and a TABLE_ACK sent up at
position n, where a downstream span that is UP then makes it STALE; a table that fails is refused and the car UNCENSUSED, as is
one that comes in any other state but VALID at that generation. R89: at position n it becomes the end car and sends the first
roll of each kind. R141: a table of another generation takes GRANTED to FALLBACK.

STALE after the adoption's own BREAK (log 27), the refusal in every other state, ENLISTED included (log 44), the adoption of a
table of generation 0 (log 58), the context position in what a member sends outside a running census, as origin and hop of its
refusal (log 64), and GRANTED left as it is by a table of the generation held (log 68) are the model's choice; so is the sending
order of TABLE_ACK, BREAK and rolls (log 65), which is not stated. -/
def Obligations.TableIsAdoptedOrRefused : Prop :=
  ∀ (s : State) (dt : Nat) (x : SpanId) (r : RxFrame) (rest : List RxFrame) (m : TableMsg) (c : Context), s.settled = true →
    endKnown s → canSend s x → takeFor .census (s.span x).rxq = (some r, rest) → r.frame.kind = .table →
    parseTable r.frame = some m → s.census.role = .member → s.census.ctx = some c → x = c.upstream → m.lead = c.lead →
    m.number = c.number →
    let y := otherSpan x
    let passes : Prop := ∃ q : CarRecord, 1 ≤ c.position ∧ m.records[c.position - 1]? = some q ∧
      q.identity = s.settings.identity ∧ q.frontEnd = endCode x ∧ crc32 (m.records.flatMap CarRecord.encode) = m.signature
    let ack (good bad first : Byte) : Frame :=
      censusFrameAt .tableAck c.position 0 (tableAckPayload c.number c.lead good bad first)
    let refused : Prop := ∃ t : State, exec (.table dt x) s = .next t ∧ t.census.state = .uncensused ∧ t.table = s.table ∧
      waits t x (ack 0 1 (byte c.position))
    (s.census.state = .awaitTable → passes →
      ∃ t : State, exec (.table dt x) s = .next t ∧ t.table.own = c.position ∧ t.table.gen = r.frame.gen ∧
        t.table.number = m.number ∧ t.table.lead = m.lead ∧ t.table.signature = m.signature ∧
        t.table.records.map (fun q => q.car) = m.records ∧ t.census.timerEnd = none ∧
        t.heat.cap = (if s.heat.cap = .granted ∧ r.frame.gen ≠ s.table.gen then .fallback else s.heat.cap) ∧
        (c.position < m.records.length → t.census.state = .valid ∧
          (canSend s y → waits t y (censusFrameAt .table c.position m.gen r.frame.payload))) ∧
        (c.position = m.records.length → waits t x (ack 1 0 0) ∧ t.relay.endCar = some true ∧
          waits t x (ownRoll t .doorState) ∧ waits t x (ownRoll t .demand) ∧
          ((s.span y).state ≠ .up → t.census.state = .valid) ∧
          ((s.span y).state = .up → t.census.state = .stale ∧ waits t x (censusFrameAt .brk c.position r.frame.gen
            (breakPayload { number := m.number, lead := m.lead, position := byte c.position, lostEnd := endCode y,
                            cause := 10 }))))) ∧
    (s.census.state = .awaitTable → 1 ≤ c.position → ¬passes → refused) ∧
    (s.census.state = .valid → s.table.gen = r.frame.gen →
      exec (.table dt x) s = .next ((s.advance dt).setSpan x { s.span x with rxq := rest })) ∧
    (s.census.state ≠ .awaitTable → ¬(s.census.state = .valid ∧ s.table.gen = r.frame.gen) → refused)

/-- R58: a member that has not forwarded one in this census adds itself to a TABLE_ACK of its context, as acknowledging when
it holds the table and as refusing otherwise, and sends it up once; a lead in DISTRIBUTING becomes VALID with CENSUS_DONE when
every other car acknowledges, and otherwise fails with TABLE_REFUSED. That a member judges by census number and lead whether it
holds the table (log 45), that it relays in every census state, UNCENSUSED included, with the context position as its hop
(log 64) and that a count above 31 is brought down to 31 (log 66) is the model's choice. -/
def Obligations.TableAckIsCounted : Prop :=
  ∀ (s : State) (dt : Nat) (x : SpanId) (r : RxFrame) (rest : List RxFrame) (m : TableAckMsg), s.settled = true →
    endKnown s → s.mem.wf = true → trailRoom s → (s.span x).state = .up →
    takeFor .census (s.span x).rxq = (some r, rest) → r.frame.kind = .tableAck → parseTableAck r.frame = some m →
    (∀ c : Context, s.census.role = .member → s.census.ctx = some c → x = otherSpan c.upstream → m.lead = c.lead →
      m.number = c.number →
      (s.census.ackForwarded = true →
        exec (.tableAck dt x) s = .next ((s.advance dt).setSpan x { s.span x with rxq := rest })) ∧
      (s.census.ackForwarded = false → canSend s c.upstream →
        let holds : Prop := (s.census.state = .valid ∨ s.census.state = .stale) ∧ s.table.number = c.number ∧
          s.table.lead = c.lead
        ∃ t : State, exec (.tableAck dt x) s = .next t ∧ t.census = { s.census with ackForwarded := true } ∧
          (holds → waits t c.upstream { censusFrameAt .tableAck c.position 0
            (tableAckPayload c.number c.lead (byte (min 31 (m.acks.toNat + 1))) m.refusals m.first) with
            origin := m.origin }) ∧
          (¬holds → waits t c.upstream { censusFrameAt .tableAck c.position 0
            (tableAckPayload c.number c.lead m.acks (byte (min 31 (m.refusals.toNat + 1))) (byte c.position)) with
            origin := m.origin }))) ∧
    (s.census.role = .lead → s.census.state = .distributing → x = s.trainSpan → m.lead = s.settings.identity →
      m.number = s.census.number → (s.span x).depth ≤ 4 →
      (m.acks.toNat + 1 = s.table.records.length → m.refusals = 0 →
        ∃ t : State, exec (.tableAck dt x) s = .next t ∧ t.census.state = .valid ∧ t.census.retry = 0 ∧
          t.census.timerEnd = none ∧ t.census.slot = none ∧ t.table = s.table ∧
          recordedIn s t { kind := 6, source := 3, position := byte s.table.own, detail := byte s.table.records.length
                           value := s.census.number ++ s.table.gen } ∧
          ∀ k : Nat, s.census.slot = some k → k < 16 → answered t k .ok 0
            (le16 s.census.number ++ [byte s.table.records.length] ++ le16 s.table.gen ++ [0, 5])) ∧
      (¬(m.acks.toNat + 1 = s.table.records.length ∧ m.refusals = 0) →
        ∃ t : State, exec (.tableAck dt x) s = .next t ∧
          censusFails s t (s.now + dt) s.census.number s.census.slot .tableRefused m.first))

/-- R62: a member takes a VOID of its context's lead on its upstream span unless it repeats the last one taken: UNCENSUSED
whatever its state, the VOID sent on down, context and image kept. R64, R60, R65: a BREAK from downstream turns VALID into
STALE with CONSIST_STALE and goes on up at a member; at a lead it starts the settle timer with auto-census on, fails a
DISTRIBUTING census with SPAN_LOST, and is discarded in CALLING. That a relayed frame carries the position of the context also
outside a running census is the model's choice (log 64). -/
def Obligations.VoidClearsAndBreakStales : Prop :=
  ∀ (s : State) (dt : Nat) (x : SpanId) (r : RxFrame) (rest : List RxFrame), s.settled = true →
    endKnown s → s.mem.wf = true → trailRoom s → canSend s x →
    takeFor .census (s.span x).rxq = (some r, rest) →
    let u := (s.advance dt).setSpan x { s.span x with rxq := rest }
    let y := otherSpan x
    (∀ (m : VoidMark) (c : Context), r.frame.kind = .void → parseVoid r.frame = some m → s.census.role = .member →
      s.census.ctx = some c → x = c.upstream → m.lead = c.lead →
      (s.census.lastVoid = some m → exec (.void dt x) s = .next u) ∧
      (s.census.lastVoid ≠ some m → ∃ t : State, exec (.void dt x) s = .next t ∧ t.census.state = .uncensused ∧
        t.census.timerEnd = none ∧ t.census.lastVoid = some m ∧ t.census.ctx = some c ∧ t.census.role = .member ∧
        t.table = s.table ∧
        (canSend s y → waits t y (censusFrameAt .void c.position s.table.gen r.frame.payload)))) ∧
    (∀ m : BreakMsg, r.frame.kind = .brk → parseBreak r.frame = some m →
      let stale : Event := { kind := 8, source := 3, position := byte s.table.own, detail := m.position
                             value := (m.cause ++ m.lostEnd ++ s.table.gen : Word32) }
      (∀ up : SpanId, s.census.role = .member → s.census.state = .valid ∨ s.census.state = .stale →
        s.downstream = some x → s.upstream = some up → m.lead = s.table.lead → canSend s up →
        ∃ t : State, exec (.brk dt x) s = .next t ∧ t.census.state = .stale ∧ t.table = s.table ∧
          waits t up (censusFrameAt .brk s.censusPosition s.table.gen r.frame.payload) ∧
          (s.census.state = .valid → recordedIn s t stale)) ∧
      (s.census.role = .lead → x = s.trainSpan → m.lead = s.settings.identity →
        (s.census.state = .valid ∨ s.census.state = .stale → ∃ t : State, exec (.brk dt x) s = .next t ∧
          t.census.state = .stale ∧ t.table = s.table ∧ (s.census.state = .valid → recordedIn s t stale) ∧
          (s.settings.autoCensus = 1 → t.census.settleEnd = some (s.now + dt + 1000000000) ∧ t.census.retry = 0)) ∧
        (s.census.state = .distributing → ∃ t : State, exec (.brk dt x) s = .next t ∧
          censusFails s t (s.now + dt) s.census.number s.census.slot .spanLost 0) ∧
        (s.census.state = .calling → exec (.brk dt x) s = .next u)))

/-! ## Waves (chapter 5) and what the door and heating units put into them (chapters 7 and 8) -/

/-- R83, R85, R92: a member answers an ORDER of another generation with GENERATION and takes it no further; one from the wrong
direction, and a repeat of the last, are discarded. An ORDER that passes is handed to the addressed sides with its apply
instant, Dr units after the end of its frame or that end itself when LATE, and applied at once when that instant has been
reached (R104); the end car acknowledges with END or SPAN_END, any other car sends the ORDER on and waits 600 − 15 × p ms for
the acknowledgement. -/
def Obligations.OrderIsDecidedAndSentOn : Prop :=
  ∀ (s : State) (dt : Nat) (x : SpanId) (r : RxFrame) (rest : List RxFrame) (o : Order), s.settled = true → s.mem.wf = true →
    trailRoom s → takeFor .relay (s.span x).rxq = (some r, rest) → r.frame.kind = .order → parseOrder r.frame = some o →
    canSend s x → s.census.role = .member → s.census.state = .valid ∨ s.census.state = .stale →
    let f := r.frame
    let u := (s.advance dt).setSpan x { s.span x with rxq := rest }
    let own := s.table.own
    let applyAt := if f.late then r.endAt else r.endAt + f.delay.toNat * 200
    let p : PendingOrder := { action := o.action, number := o.number, lease := o.lease, gen := f.gen, applyAt := applyAt
                              late := f.late }
    (f.gen ≠ s.table.gen → exec (.order dt x) s = .next (u.setSpan x { u.span x with txq := (u.span x).txq ++
      [{ frame := { kind := .orderAck, late := false, conflict := false, origin := f.hop + 1, hop := f.hop + 1, gen := f.gen
                    delay := 0, payload := [o.number, 0, 0, 0, 0, 0, 0, 3] }, tag := .plain }] })) ∧
    (f.gen = s.table.gen → s.upstream ≠ some x ∨ f.hop.toNat + 1 ≠ own ∨ s.relay.lastOrder = some (f.gen, o.number) →
      exec (.order dt x) s = .next u) ∧
    (f.gen = s.table.gen → s.upstream = some x → f.hop.toNat + 1 = own → s.relay.lastOrder ≠ some (f.gen, o.number) →
      ∃ (t : State) (c : Contribution), exec (.order dt x) s = .next t ∧ t.relay.lastOrder = some (f.gen, o.number) ∧
        contributionOf s o own f.late c ∧
        (∀ k : SideId, sideAfterOrder s t (s.now + dt) p (addressed s o own k) k) ∧
        (s.isEndCar = true → t.relay.openOrder = none ∧
          waits t x (orderAckAt own f.gen (ackOfOne o.number (if own = s.table.records.length then 1 else 2) c own))) ∧
        (∀ y : SpanId, s.isEndCar = false → s.downstream = some y → y ≠ x → canSend s y →
          t.relay.openOrder = some { gen := f.gen, number := o.number, own := c
                                     ackEnd := s.now + dt + (600 - 15 * own) * 2000000 } ∧
          { frame := { waveFrameAt .order 1 own f.gen f.payload with delay := f.delay, late := f.late }
            tag := .forwarded f.gen o.number r.endAt (if f.late then 0 else f.delay.toNat) f.late } ∈ (t.span y).txq)) ∧
    (f.gen = s.table.gen → s.upstream = some x → f.hop.toNat + 1 = own → s.relay.lastOrder ≠ some (f.gen, o.number) →
      f.late = true → ∃ t : State, exec (.order dt x) s = .next t ∧
        recordedIn s t { kind := 13, source := 4, position := byte own, detail := o.number, value := f.gen.setWidth 32 })

/-- R86, R120: a member adds its contribution to the ORDER_ACK of its open order and sends it up with origin and stop reason
unchanged; one of another order is discarded; when the ack wait runs out the car sends its own contribution with NO_ACK. The
open order is then empty. That an ORDER_ACK with counts above 31 is valid, and a count that is raised is then brought down to
31, is the model's choice (log 66). -/
def Obligations.OpenOrderIsAnswered : Prop :=
  ∀ (s : State) (dt : Nat) (x up : SpanId) (o : OpenOrder), s.settled = true → s.census.role = .member →
    s.census.state = .valid ∨ s.census.state = .stale → s.relay.openOrder = some o → s.upstream = some up → canSend s up →
    (∀ (r : RxFrame) (rest : List RxFrame) (m : OrderAck), takeFor .relay (s.span x).rxq = (some r, rest) →
      r.frame.kind = .orderAck → parseOrderAck r.frame = some m → (s.span x).state = .up → r.frame.gen = s.table.gen →
      s.downstream = some x → r.frame.hop.toNat = s.table.own + 1 →
      (m.number = o.number → ∃ t : State, exec (.orderAck dt x) s = .next t ∧ t.relay = { s.relay with openOrder := none } ∧
        waits t up (orderAckAt s.table.own r.frame.gen (withCar 31 m o.own s.table.own))) ∧
      (m.number ≠ o.number → exec (.orderAck dt x) s = .next ((s.advance dt).setSpan x { s.span x with rxq := rest }))) ∧
    (o.ackEnd ≤ s.now + dt → ∃ t : State, exec (.ackWaitTimeout dt) s = .next t ∧
      t.relay = { s.relay with openOrder := none } ∧
      waits t up (orderAckAt s.table.own o.gen (ackOfOne o.number 5 o.own s.table.own)))

/-- R83, R87, R140, R75: a member takes a GRANT of its generation from the car above unless it repeats the last: its own grant
is recorded and, unless FAULTED, starts the 5 s hold in GRANTED; every record of the image takes its grant and the allocation
number; a car that is not the end car sends the GRANT on unchanged. -/
def Obligations.GrantIsTakenAndSentOn : Prop :=
  ∀ (s : State) (dt : Nat) (x : SpanId) (r : RxFrame) (rest : List RxFrame) (m : GrantMsg), s.settled = true →
    takeFor .relay (s.span x).rxq = (some r, rest) → r.frame.kind = .grant → (s.span x).state = .up →
    parseGrant r.frame s.table.records.length = some m → s.census.role = .member →
    s.census.state = .valid ∨ s.census.state = .stale →
    let f := r.frame
    let passes : Prop := f.gen = s.table.gen ∧ s.upstream = some x ∧ f.hop.toNat + 1 = s.table.own ∧
      s.relay.lastGrant ≠ some (f.gen, m.alloc)
    (¬passes → exec (.grant dt x) s = .next ((s.advance dt).setSpan x { s.span x with rxq := rest })) ∧
    (passes → ∃ t : State, exec (.grant dt x) s = .next t ∧ t.relay = { s.relay with lastGrant := some (f.gen, m.alloc) } ∧
      t.heat.lastGrant = { value := m.grants.getD (s.table.own - 1) 0, gen := f.gen, alloc := m.alloc } ∧
      (s.heat.cap = .granted ∨ s.heat.cap = .fallback →
        t.heat.cap = .granted ∧ t.heat.holdEnd = some (s.now + dt + 10000000000)) ∧
      (s.heat.cap = .faulted → t.heat.cap = .faulted) ∧
      t.table.records.map (fun q => (q.car, q.demand, q.grant, q.grantAlloc)) =
        List.zipWith (fun q g => (q.car, q.demand, word16 g, m.alloc)) s.table.records m.grants ∧
      (∀ y : SpanId, s.isEndCar = false → s.downstream = some y → canSend s y →
        waits t y (waveFrameAt .grant 1 s.table.own f.gen f.payload)) ∧
      (s.isEndCar = true → t.spanA.txq = s.spanA.txq ∧ t.spanB.txq = s.spanB.txq))

/-- R83, R88, R124, R134: a member takes a roll of its generation from the car below, notes the moment, ends substitution of
that kind, and sends the roll up with its own share combined, a DEMAND roll's entries also going into its image; R125, R76: the
lead holds a DOOR_STATE roll for 300 ms and writes every record's door-proving code.

R89, R90: an origination timer that has run out sends a roll of the car's own share upstream and runs on by one period,
100 ms for DOOR_STATE and 1000 ms for DEMAND; a member that is not the end car and has taken no roll of a kind from below for
three periods originates one in substitution and starts the timer. That a roll of no contributor or entry is invalid and one
of more than 31 is not is the model's choice (log 62). -/
def Obligations.RollsAreOriginatedAndCombined : Prop :=
  (∀ (s : State) (dt : Nat) (x : SpanId) (r : RxFrame) (rest : List RxFrame), s.settled = true →
     takeFor .relay (s.span x).rxq = (some r, rest) → (s.span x).state = .up →
     s.census.state = .valid ∨ s.census.state = .stale → r.frame.gen = s.table.gen → s.downstream = some x →
     r.frame.hop.toNat = s.table.own + 1 →
     let noted (w v : RollWatch) : Prop := v = { w with
       lastRoll := some (s.now + dt), dueAt := if w.substitute then none else w.dueAt, substitute := false }
     (∀ (up : SpanId) (h : HeldRoll), r.frame.kind = .doorState → parseDoorState r.frame = some h →
       s.census.role = .member → s.upstream = some up → canSend s up →
       ∃ t : State, exec (.doorStateRoll dt x) s = .next t ∧ noted s.relay.doorWatch t.relay.doorWatch ∧
         t.relay.demandWatch = s.relay.demandWatch ∧
         waits t up (waveFrameAt .doorState r.frame.origin.toNat s.table.own s.table.gen (combinedRoll s h))) ∧
     (∀ h : HeldRoll, r.frame.kind = .doorState → parseDoorState r.frame = some h → s.census.role = .lead →
       s.table.own = 1 → ∃ t : State, exec (.doorStateRoll dt x) s = .next t ∧ t.door.held = some h ∧
         t.door.rollAgeEnd = some (s.now + dt + 600000000) ∧ t.door.aged = false ∧
         t.table.records.length = s.table.records.length ∧
         ∀ (i : Nat) (q : ImageRecord), t.table.records[i]? = some q → q.proving =
           (if i = 0 then (if s.provenLeft && s.provenRight then 1 else 2)
            else if h.contributors < i then 4
            else if h.firstUnproven = 0 ∨ i + 1 < h.firstUnproven.toNat then 1
            else if i + 1 = h.firstUnproven.toNat then 2
            else 3)) ∧
     (∀ (up : SpanId) (es : List (Nat × Nat)), r.frame.kind = .demand → parseDemand r.frame = some es →
       s.census.role = .member → s.upstream = some up → canSend s up →
       ∃ t : State, exec (.demandRoll dt x) s = .next t ∧ noted s.relay.demandWatch t.relay.demandWatch ∧
         t.relay.doorWatch = s.relay.doorWatch ∧
         t.table.records.map (fun q => q.car) = s.table.records.map (fun q => q.car) ∧
         (∀ (i d : Nat) (q : ImageRecord), (es ++ [(s.table.own, s.demand)]).Pairwise (fun a b => a.1 ≠ b.1) →
           (i + 1, d) ∈ es ++ [(s.table.own, s.demand)] → t.table.records[i]? = some q → q.demand = word16 d) ∧
         waits t up (waveFrameAt .demand r.frame.origin.toNat s.table.own s.table.gen
           (demandPayload (es ++ [(s.table.own, s.demand)]))))) ∧
  ∀ (s : State) (dt : Nat) (kind : RollKind) (up : SpanId), s.settled = true → s.upstream = some up → canSend s up →
    let period : Nat := match kind with
      | .doorState => 200000000
      | .demand => 2000000000
    let w := s.relay.watch kind
    (∀ due : Nat, w.dueAt = some due → due ≤ s.now + dt → ∃ t : State, exec (.originationTimer dt kind) s = .next t ∧
      t.relay = s.relay.setWatch kind { w with dueAt := some (due + period) } ∧ waits t up (ownRoll s kind)) ∧
    (s.census.role = .member → s.census.state = .valid ∨ s.census.state = .stale → s.relay.endCar = some false →
      w.substitute = false → w.watchFrom + 3 * period ≤ s.now + dt →
      (∀ last : Nat, w.lastRoll = some last → last + 3 * period ≤ s.now + dt) →
      ∃ t : State, exec (.substituteOrigination dt kind) s = .next t ∧
        t.relay = s.relay.setWatch kind { w with dueAt := some (s.now + dt + period), substitute := true } ∧
        waits t up (ownRoll s kind))

/-! ## Door sides (chapter 6) -/

/-- R161, R97: the millisecond count rises by 1 and wraps, and each lock input is sampled: a sample that shows the debounced
level ends the run, another lengthens it; that a run of 50 stands until the level change is taken is the model's choice (log 6).

R97: a change of the debounced lock level that is due is taken: on true the live status of CLOSE_TIMEOUT and LOCK_LOST
ends and CLOSING and UNLOCKED become CLOSED; on false, LOCK_LOST arises in CLOSED and no other state is left.

R100, R107: a lease that runs out takes a RELEASED side to CLOSED or UNLOCKED by its debounced lock level with its output
low; a close timer that runs out makes CLOSE_TIMEOUT arise. -/
def Obligations.TicksLockLevelsAndTimersMoveSides : Prop :=
  (∀ (s : State) (dt : Nat) (l1 l2 : Bool), s.settled = true → s.tickDue ≤ s.now + dt →
     let run (d : Side) (level : Bool) : Nat :=
       if 50 ≤ d.lockRun then d.lockRun else if level = d.lock then 0 else d.lockRun + 1
     exec (.millisecondTick dt l1 l2) s = .next { s.advance dt with
       msCount := s.msCount + 1, tickDue := s.tickDue + 2000000
       door := { s.door with
         side1 := { s.door.side1 with lockRun := run s.door.side1 l1 }
         side2 := { s.door.side2 with lockRun := run s.door.side2 l2 } } }) ∧
  (∀ (s : State) (dt : Nat) (k : SideId), s.settled = true → s.mem.wf = true → trailRoom s → 50 ≤ (s.side k).lockRun →
     let d := s.side k
     (d.lock = false →
       let e : Side := { d with lock := true, lockRun := 0, live := { d.live with closeTimeout := false, lockLost := false } }
       (d.state = .closing ∨ d.state = .unlocked → Answers (.lockLevelChanged dt k) s
         ((s.advance dt).setSide k (atRest e .closed)) [[doorEvent s k .closed d.state 4 0]]) ∧
       (d.state ≠ .closing → d.state ≠ .unlocked → Answers (.lockLevelChanged dt k) s ((s.advance dt).setSide k e) [])) ∧
     (d.lock = true →
       (d.state ≠ .closed → Answers (.lockLevelChanged dt k) s
         ((s.advance dt).setSide k { d with lock := false, lockRun := 0 }) []) ∧
       (d.state = .closed → ∃ t : State, exec (.lockLevelChanged dt k) s = .next t ∧ (t.side k).lock = false ∧
         (t.side k).lockRun = 0 ∧ causeArose s t k .lockLost))) ∧
  ∀ (s : State) (dt e : Nat) (k : SideId), s.settled = true → s.mem.wf = true → trailRoom s → e ≤ s.now + dt →
    let d := s.side k
    (d.state = .released → d.leaseEnd = some e → Answers (.leaseExpired dt k) s
      ((s.advance dt).setSide k (atRest d (lockedState d))) [[doorEvent s k (lockedState d) .released 3 0]]) ∧
    (d.state = .closing → d.closeEnd = some e → d.lock = false → ∃ t : State, exec (.closeTimeout dt k) s = .next t ∧
      causeArose s t k .closeTimeout)

/-- R98, R99: at a half-period boundary the output of a RELEASED side alternates and any other stays low. A feedback sample
in the middle of a half-period that agrees with the commanded level ends the mismatch run and the live status of
DRIVE_MISMATCH; one that differs lengthens the run, and the fourth in a row makes DRIVE_MISMATCH live. The rows DRIVE_MISMATCH
and DRIVE_MISMATCH_ENDED are the sample that brings the run to 4 and the one that agrees (log 32). -/
def Obligations.ReleaseOutputIsWatched : Prop :=
  ∀ (s : State) (dt : Nat) (k : SideId) (high : Bool), s.settled = true → s.mem.wf = true → trailRoom s →
    (s.side k).state ≠ .absent →
    let d := s.side k
    let half : Nat := if s.settings.releaseFrequency = 1 then 2000000 else if s.settings.releaseFrequency = 2 then 1000000
      else 500000
    (d.halfStart + half ≤ s.now + dt → Answers (.releaseHalfPeriod dt k) s ((s.advance dt).setSide k { d with
      halfStart := d.halfStart + half, sampled := false
      relHigh := if d.state = .released then !d.relHigh else false }) []) ∧
    (d.sampled = false → d.halfStart + half / 2 ≤ s.now + dt →
      let agreed : State := (s.advance dt).setSide k { d with
        sampled := true, mismatch := 0, live := { d.live with mismatch := false } }
      (high = d.relHigh → Answers (.feedbackSample dt k high) s agreed []) ∧
      Answers (.driveMismatchEnded dt k) s agreed [] ∧
      (high ≠ d.relHigh → d.mismatch ≠ 3 → Answers (.feedbackSample dt k high) s ((s.advance dt).setSide k { d with
        sampled := true, mismatch := min 4 (d.mismatch + 1) }) []) ∧
      (d.mismatch = 3 → ∀ c : Instr, (c = .driveMismatch dt k ∨ c = .feedbackSample dt k (!d.relHigh)) →
        ∃ t : State, exec c s = .next t ∧ (t.side k).mismatch = 4 ∧ (t.side k).sampled = true ∧ causeArose s t k .mismatch))

/-- R104, R105, R106: at the earliest apply instant that has come, each side whose pending order has that instant takes it,
and a side with a later one keeps it. -/
def Obligations.PendingOrdersApply : Prop :=
  ∀ (s : State) (dt i : Nat), s.settled = true → s.mem.wf = true → trailRoom s → i ≤ s.now + dt →
    (∃ (k : SideId) (o : PendingOrder), (s.side k).pend = some o ∧ o.applyAt = i) →
    (∀ (k : SideId) (o : PendingOrder), (s.side k).pend = some o → i ≤ o.applyAt) →
    ∃ t : State, exec (.applyInstant dt) s = .next t ∧ t.census = s.census ∧ t.mon = s.mon ∧
      ∀ k : SideId,
        (∀ o : PendingOrder, (s.side k).pend = some o → o.applyAt = i → orderApplied s t (s.now + dt) i k o) ∧
        ((∀ o : PendingOrder, (s.side k).pend = some o → o.applyAt ≠ i) → t.side k = s.side k)

/-- R110: DOOR_LOCAL with an action outside 1 and 2 or a selector outside 1 to 3 is REFUSED_RANGE and with an ABSENT selected
side REFUSED_STATE, touching neither side; ISOLATE takes each selected side to ISOLATED with its pending order empty, and
RESTORE takes an ISOLATED one to FAULT for an unmasked cause live or stored, else to CLOSED or UNLOCKED, and leaves any other;
the slot completes OK with both state codes. The model's choice: an action outside 1 and 2 is refused by the row ISOLATE (log
18), a pending order that ISOLATE empties shows as DISCARDED (log 42), a refusal shows no result bytes (log 43), and the detail
is 0 (log 52). -/
def Obligations.DoorLocalIsolatesRestores : Prop :=
  ∀ (s : State) (dt : Nat) (r : Request) (rest : List Request), s.settled = true → s.mem.wf = true → r.slot < 16 →
    let u : State := { s.advance dt with req := { s.req with handed := rest } }
    let sel := r.param 1
    let isSelected (k : SideId) : Prop := match k with
      | .one => sel = 1 ∨ sel = 3
      | .two => sel = 2 ∨ sel = 3
    let good : Prop := (r.param 0 = 1 ∨ r.param 0 = 2) ∧ (sel = 1 ∨ sel = 2 ∨ sel = 3)
    let absent : Prop := ∃ k : SideId, isSelected k ∧ (s.side k).state = .absent
    let done (t : State) : Prop := t.slotState r.slot = 3 ∧ t.mem.readList (slotBase r.slot + 4) 2 = [1, 0] ∧
      t.mem.readList (slotBase r.slot + 32) 2 = [t.door.side1.state.code, t.door.side2.state.code]
    (∀ (q : Request) (a : Byte), q.doorAction a = true ↔ q.kind = .doorLocal ∧
      ((1 ≤ a.toNat ∧ a.toNat ≤ 2 ∧ q.param 0 = a) ∨
        (a = 1 ∧ ¬(1 ≤ (q.param 0).toNat ∧ (q.param 0).toNat ≤ 2)))) ∧
    (takeRequest (fun r => r.doorAction 1) s.req.handed = (some r, rest) →
      (¬good → exec (.doorLocalIsolate dt) s = .next (u.complete r.slot .refusedRange 0 [])) ∧
      (good → absent → exec (.doorLocalIsolate dt) s = .next (u.complete r.slot .refusedState 0 [])) ∧
      (good → ¬absent → ∃ t : State, exec (.doorLocalIsolate dt) s = .next t ∧ done t ∧ ∀ k : SideId,
        (¬isSelected k → t.side k = s.side k) ∧
        (isSelected k → (s.side k).state = .isolated → t.side k = s.side k) ∧
        (isSelected k → (s.side k).state ≠ .isolated → t.side k = { atRest (s.side k) .isolated with
          live := { (s.side k).live with closeTimeout := false, lockLost := false }, pend := none
          lastSkip := if (s.side k).pend = none then (s.side k).lastSkip else some .discarded }))) ∧
    (takeRequest (fun r => r.doorAction 2) s.req.handed = (some r, rest) →
      (¬good → exec (.doorLocalRestore dt) s = .next (u.complete r.slot .refusedRange 0 [])) ∧
      (good → absent → exec (.doorLocalRestore dt) s = .next (u.complete r.slot .refusedState 0 [])) ∧
      (good → ¬absent → ∃ t : State, exec (.doorLocalRestore dt) s = .next t ∧ done t ∧ ∀ k : SideId,
        let d := s.side k
        let unmasked (f : FaultCause) : Prop := (d.live.get f = true ∨ d.stored.get f = true) ∧ d.masked.get f = false
        (¬isSelected k ∨ d.state ≠ .isolated → t.side k = d) ∧
        (isSelected k → d.state = .isolated → d.pend = none →
          ((∃ f : FaultCause, unmasked f) → t.side k = atRest d .fault) ∧
          ((∀ f : FaultCause, ¬unmasked f) → t.side k = atRest d (lockedState d)))))

/-- R102: FAULT_CLEAR of a side clears the stored status of the named causes, all three for 0, when none is live; a FAULT side
with no unmasked cause left stored goes to CLOSED or UNLOCKED; it is refused with bits 3 to 7 set, at an ABSENT side, and while
a cause is live, and any target but 1 and 2 is out of range here. Result bytes are the side's state, live and stored causes.
That a target out of range shows no result bytes (log 43) and that the detail is 0 (log 52) is the model's choice. -/
def Obligations.FaultClearDoorClearsStored : Prop :=
  ∀ (s : State) (dt : Nat) (r : Request) (rest : List Request), s.settled = true → s.mem.wf = true → r.slot < 16 →
    takeRequest (fun r => r.kind == .faultClear && r.param 0 != 3) s.req.handed = (some r, rest) →
    let u : State := { s.advance dt with req := { s.req with handed := rest } }
    let named := r.param 1
    let cleared (c : Causes) : Causes :=
      { mismatch := c.mismatch && !(named == 0 || named.getLsbD 0)
        closeTimeout := c.closeTimeout && !(named == 0 || named.getLsbD 1)
        lockLost := c.lockLost && !(named == 0 || named.getLsbD 2) }
    (r.param 0 ≠ 1 → r.param 0 ≠ 2 → exec (.faultClearDoor dt) s = .next (u.complete r.slot .refusedRange 0 [])) ∧
    ∀ k : SideId, r.param 0 = (match k with | .one => 1 | .two => 2) →
      let d := s.side k
      let shown : List Byte := [d.state.code, d.live.byte, d.stored.byte]
      (8 ≤ named.toNat → exec (.faultClearDoor dt) s = .next (u.complete r.slot .refusedRange 0 shown)) ∧
      (named.toNat < 8 → d.state = .absent ∨ d.live.mismatch = true ∨ d.live.closeTimeout = true ∨ d.live.lockLost = true →
        exec (.faultClearDoor dt) s = .next (u.complete r.slot .refusedState 0 shown)) ∧
      (named.toNat < 8 → d.state ≠ .absent → d.live = Causes.none →
        ∃ t : State, exec (.faultClearDoor dt) s = .next t ∧ (t.side k).stored = cleared d.stored ∧
          (t.side k).live = d.live ∧ t.slotState r.slot = 3 ∧ t.mem.readList (slotBase r.slot + 4) 2 = [1, 0] ∧
          t.mem.readList (slotBase r.slot + 32) 3 = [(t.side k).state.code, (t.side k).live.byte, (t.side k).stored.byte] ∧
          (d.state = .fault → (∀ f : FaultCause, (cleared d.stored).get f = true → d.masked.get f = true) →
            (t.side k).state = lockedState d) ∧
          (d.state ≠ .fault ∨ (∃ f : FaultCause, (cleared d.stored).get f = true ∧ d.masked.get f = false) →
            (t.side k).state = d.state))

/-! ## Train door orders (chapter 7) -/

/-- R115: the checks of a DOOR_ORDER in order: a member REFUSED_ROLE; a parameter out of range REFUSED_RANGE with its offset; a
census state that does not allow the action REFUSED_STATE with its code; a first position above n and a last below the first
REFUSED_RANGE. R116: an order that passes takes the next number and replaces an outstanding one, which ends SUPERSEDED; in a
consist of several cars it is outstanding for 1000 ms, in flight, and its ORDER waits on the train span with D0 = delay × 10 000
(R91); a lead alone decides at once and completes OK, with a delay of 0 its sides taking the order in the same step (R104).

R116, R122: an ORDER that is discarded because the train span is not UP, or dropped from a full queue of class-0 frames, leaves
the orders in flight at once: the lead hands it to its own sides with the apply instant D0 after that moment and completes
PARTIAL with its contribution alone, with SPAN_END or FORWARD_LOST. That a refusal shows no result bytes is the model's choice
(log 43). -/
def Obligations.DoorOrderIsCheckedAndSent : Prop :=
  ∀ (s : State) (dt : Nat) (r : Request) (rest : List Request), s.settled = true → s.mem.wf = true →
    takeRequest (fun r => r.kind == .doorOrder) s.req.handed = (some r, rest) →
    let u : State := { s.advance dt with req := { s.req with handed := rest } }
    let n := s.table.records.length
    let refused (o : SlotOutcome) (detail : Byte) : Prop :=
      exec (.doorOrder dt) s = .next (u.complete r.slot o detail [])
    let allowed : Prop := s.census.state = .valid ∨ (s.census.state = .stale ∧ r.param 0 ≠ 1)
    (s.census.role = .member → refused .refusedRole 0) ∧
    (s.census.role = .lead →
      (∀ offset : Nat, doorOrderFault r.params = some offset → refused .refusedRange (byte offset)) ∧
      (doorOrderFault r.params = none → ¬allowed → refused .refusedState s.census.state.code) ∧
      (doorOrderFault r.params = none → allowed → n < (r.param 2).toNat → refused .refusedRange 2) ∧
      (doorOrderFault r.params = none → allowed → (r.param 2).toNat ≤ n → (r.param 3).toNat < (r.param 2).toNat →
        refused .refusedRange 3) ∧
      (∀ a : Action, doorOrderFault r.params = none → allowed → (r.param 2).toNat ≤ n →
        (r.param 2).toNat ≤ (r.param 3).toNat → actionOf (r.param 0) = some a →
        let number : Byte := if s.door.lastNumber = 255 then 1 else s.door.lastNumber + 1
        let o : Order := { number := number, action := a, trainSide := r.param 1, first := r.param 2
                           last := byte (min (r.param 3).toNat n), lease := r.param 4 }
        let d0 := (getLe16 r.params 6).toNat * 10000
        let pending : PendingOrder :=
          { action := a, number := number, lease := r.param 4, gen := s.table.gen, applyAt := s.now + dt + d0 * 200, late := false }
        let frame : Frame := { waveFrameAt .order 1 s.table.own s.table.gen
          [number, a.code, r.param 1, r.param 2, o.last, r.param 4] with delay := word32 d0 }
        ∃ t : State, exec (.doorOrder dt) s = .next t ∧ t.door.lastNumber = number ∧
          (∀ old : Outstanding, s.door.outstanding = some old → old.slot < 16 → old.slot ≠ r.slot →
            answered t old.slot .superseded 0 (doorResults old (leadAlone old 0 0))) ∧
          (n ≠ 1 → canSend s s.trainSpan →
            t.door.outstanding = some { slot := r.slot, order := o, d0 := d0, gen := s.table.gen, n := n, own := none
                                        waiting := none } ∧
            t.door.ackEnd = some (s.now + dt + 2000000000) ∧
            t.door.inFlight = s.door.inFlight ++ [{ order := o, d0 := d0, gen := s.table.gen }] ∧
            { frame := frame, tag := .leadOrder number } ∈ (t.span s.trainSpan).txq ∧
            t.door.side1 = s.door.side1 ∧ t.door.side2 = s.door.side2) ∧
          (∀ stop : Byte, n ≠ 1 → (∀ f ∈ s.door.inFlight, f.order.number ≠ number) →
            (s.isUp s.trainSpan = false ∧ stop = 2) ∨
              (s.isUp s.trainSpan = true ∧ 8 ≤ (s.span s.trainSpan).depth ∧
                (∀ f ∈ (s.span s.trainSpan).txq, f.frame.kind.txClass = 0) ∧ stop = 4) →
            t.door.inFlight = s.door.inFlight ∧ (t.span s.trainSpan).txq = (s.span s.trainSpan).txq ∧
            ∃ c : Contribution, contributionOf s o 1 false c ∧
              (∀ k : SideId, sideAfterOrder s t (s.now + dt) pending (addressed s o 1 k) k) ∧
              let done : Outstanding := { slot := r.slot, order := o, d0 := d0, gen := s.table.gen, n := n, own := some c
                                          waiting := none }
              orderEnded t done (leadAlone done stop 1) .partially stop) ∧
          (n = 1 →
            ∃ c : Contribution, contributionOf s o 1 false c ∧
              (∀ k : SideId, sideAfterOrder s t (s.now + dt) pending (addressed s o 1 k) k) ∧
              ∃ done : Outstanding, done.slot = r.slot ∧ done.order = o ∧ done.gen = s.table.gen ∧ done.n = 1 ∧
                done.own = some c ∧ orderEnded t done (leadAlone done 1 1) .ok 1)))

/-- R91, R116, R118: when the lead's own ORDER has completed, it hands the order to its own sides with the apply instant of car
2: the start of the attempt plus 1840 units, the train span's delay in units and D0; the contribution goes into the outstanding
order, and a waiting ORDER_ACK is then taken. When the span gives the ORDER up, the instant is D0 after that moment, and the
order completes PARTIAL with FORWARD_LOST (R122). An instant already reached applies the order at once (R104). The model's
choice: the give-up comes at the end of the 8th jam (log 15), its PARTIAL drops an ORDER_ACK that waited (log 26), a total
above n is PARTIAL (log 61), and a count above 31 that is raised is brought down to 32 (log 66). -/
def Obligations.LeadTakesItsOwnOrder : Prop :=
  ∀ (s : State) (dt start : Nat) (f : TxFrame) (o : Outstanding), s.settled = true → s.mem.wf = true → trailRoom s →
    s.census.role = .lead → s.door.outstanding = some o → o.own = none → 1 < o.n →
    s.door.inFlight = [{ order := o.order, d0 := o.d0, gen := o.gen }] → f.tag = .leadOrder o.order.number →
    (s.span s.trainSpan).cur = some f →
    let u := s.span s.trainSpan
    let pendingAt (i : Nat) : PendingOrder :=
      { action := o.order.action, number := o.order.number, lease := o.order.lease, gen := o.gen, applyAt := i, late := false }
    (∀ bytes : List Byte, u.drive = .frame start bytes → start + (24 + 8 * bytes.length) * 2000 ≤ s.now + dt →
      let i := start + (1840 + (u.delay + 100) / 200 + o.d0) * 200
      ∃ (t : State) (c : Contribution), exec (.frameCompleted dt s.trainSpan) s = .next t ∧ t.door.inFlight = [] ∧
        (t.span s.trainSpan).sent = u.sent + 1 ∧ (t.span s.trainSpan).cur = none ∧
        contributionOf s o.order 1 false c ∧
        (∀ k : SideId, sideAfterOrder s t (s.now + dt) (pendingAt i) (addressed s o.order 1 k) k) ∧
        (o.waiting = none → t.door.outstanding = some { o with own := some c }) ∧
        (∀ m : OrderAck, o.waiting = some m → m.number = o.order.number →
          let total := withCar 32 m c 1
          orderEnded t { o with own := some c } total
            (if total.reached.toNat = o.n then .ok else .partially) m.stop)) ∧
    (∀ onFirst : Bool, u.drive = .jam start onFirst → start + 16000 ≤ s.now + dt → 8 ≤ u.attempt →
      ∃ (t : State) (c : Contribution), exec (.jamEnd dt s.trainSpan) s = .next t ∧ t.door.inFlight = [] ∧
        contributionOf s o.order 1 false c ∧
        (∀ k : SideId, sideAfterOrder s t (s.now + dt) (pendingAt (s.now + dt + o.d0 * 200)) (addressed s o.order 1 k) k) ∧
        orderEnded t { o with own := some c } (leadAlone { o with own := some c } 4 1) .partially 4)

/-- R120, R121, R122: an ORDER_ACK for the outstanding order completes it, OK when every car is counted and PARTIAL otherwise,
with the stop reason as detail and the counts with the lead's own as results; one that comes before the lead's own contribution
waits, and one of another order is discarded; after 1000 ms the order ends TIMED_OUT with the lead's contribution alone.

R114, R122: the order ends ABORTED with the census state code after the change, with the lead's contribution alone, when
DROP_LEAD is taken and when a census that the lead starts takes it to CALLING, or to UNCENSUSED with its cab-end span UP. R116,
R122: when the train span leaves UP with the ORDER in its queue or being sent, the order ends PARTIAL with SPAN_END and the
contribution the lead then forms, with the census state before or after that event; with a delay above 0 its sides hold it.

The model's choice: the ack wait runs on while an ORDER_ACK waits and a loss drops the one that waits (log 26), a total above n
is PARTIAL (log 61), counts above 31 are taken and brought down to 32 (log 66), and the discarded ORDER and the SPAN_DOWN report
are taken in either order (log 9). -/
def Obligations.OutstandingOrderEnds : Prop :=
  ∀ (s : State) (dt : Nat) (o : Outstanding), s.settled = true → s.mem.wf = true → s.census.role = .lead →
    s.door.outstanding = some o →
    (∀ (x : SpanId) (r : RxFrame) (rest : List RxFrame) (m : OrderAck), takeFor .relay (s.span x).rxq = (some r, rest) →
      r.frame.kind = .orderAck → parseOrderAck r.frame = some m → (s.span x).state = .up →
      s.census.state = .valid ∨ s.census.state = .stale → r.frame.gen = s.table.gen → s.downstream = some x →
      r.frame.hop.toNat = s.table.own + 1 →
      let u := (s.advance dt).setSpan x { s.span x with rxq := rest }
      (m.number ≠ o.order.number → exec (.orderAck dt x) s = .next u) ∧
      (∀ c : Contribution, m.number = o.order.number → o.own = some c →
        let total := withCar 32 m c 1
        ∃ t : State, exec (.orderAck dt x) s = .next t ∧
          orderEnded t o total (if total.reached.toNat = o.n then .ok else .partially) m.stop) ∧
      (m.number = o.order.number → o.own = none → o.waiting = none →
        exec (.orderAck dt x) s = .next { u with door := { s.door with outstanding := some { o with waiting := some m } } })) ∧
    (∀ e : Nat, s.door.ackEnd = some e → e ≤ s.now + dt → ∃ t : State, exec (.doorOrderTimedOut dt) s = .next t ∧
      orderEnded t o (leadAlone o 5 1) .timedOut 5) ∧
    (let listed : Prop := s.census.state = .valid ∨ s.census.state = .stale
     let aborted (c : Instr) (code : Byte) : Prop :=
       ∃ t : State, exec c s = .next t ∧ orderEnded t o (leadAlone o 0 0) .aborted code
     let starts (c : Instr) : Prop :=
       (s.isUp s.cabSpan = true → aborted c 0) ∧ (s.isUp s.cabSpan = false → s.isUp s.trainSpan = true → aborted c 1)
     (∀ (r : Request) (rest : List Request), r.slot ≠ o.slot →
       (takeRequest (fun r => r.kind == .dropLead) s.req.handed = (some r, rest) → s.census.slot ≠ some o.slot →
         aborted (.dropLead dt) 0) ∧
       (takeRequest (fun r => r.kind == .censusStart) s.req.handed = (some r, rest) → listed → starts (.censusStart dt)) ∧
       (takeRequest (fun r => r.kind == .takeLead) s.req.handed = (some r, rest) → s.settings.kind = 1 → listed →
         starts (.takeLead dt))) ∧
     (∀ e : Nat, s.census.settleEnd = some e → e ≤ s.now + dt → listed → starts (.settleTimerExpired dt)) ∧
     (∀ (c : Instr) (t : State) (f : TxFrame), linkCommand c dt s.trainSpan → exec c s = .next t →
       s.isUp s.trainSpan = true → t.isUp s.trainSpan = false → listed →
       f ∈ (s.span s.trainSpan).cur.toList ++ (s.span s.trainSpan).txq → f.tag = .leadOrder o.order.number → o.own = none →
       s.door.inFlight = [{ order := o.order, d0 := o.d0, gen := o.gen }] → (∀ q ∈ s.req.handed, q.slot ≠ o.slot) →
       ∃ (v : CensusState) (c : Contribution), (v = s.census.state ∨ v = .stale) ∧
         let seen : State := { s with census := { s.census with state := v } }
         let taken : Outstanding := { o with own := some c }
         let pending : PendingOrder :=
           { action := o.order.action, number := o.order.number, lease := o.order.lease, gen := o.gen
             applyAt := s.now + dt + o.d0 * 200, late := false }
         contributionOf seen o.order 1 false c ∧ t.door.inFlight = [] ∧
         (0 < o.d0 → ∀ k : SideId, handedSide seen pending (addressed seen o.order 1 k) k (t.side k)) ∧
         orderEnded t taken (leadAlone taken 2 1) .partially 2))

/-- R125, R126: when the 300 ms of the held roll run out it has aged, and no train side of a consist of several cars is proven
any longer; the summary of the lead shows a train side proven only for a fresh roll of every other car that shows it proven,
with the lead's own side proven too, and the sides of a lead alone by themselves; a member's summary is zero (R127). -/
def Obligations.SummaryNeedsFreshWholeRoll : Prop :=
  (∀ (s : State) (dt e : Nat), s.settled = true → s.door.rollAgeEnd = some e → e ≤ s.now + dt →
    Answers (.rollAgeTimerExpired dt) s { s.advance dt with door := { s.door with aged := true, rollAgeEnd := none } } []) ∧
  (∀ s : State, s.settled = true → s.census.role = .lead →
    ¬((s.census.state = .valid ∨ s.census.state = .stale) ∧ s.table.records.length = 1) →
    (s.door.summary.left = true ↔ ∃ h : HeldRoll, s.door.held = some h ∧ s.door.aged = false ∧
      h.contributors + 1 = s.table.records.length ∧ h.left = true ∧ s.provenLeft = true) ∧
    (s.door.summary.right = true ↔ ∃ h : HeldRoll, s.door.held = some h ∧ s.door.aged = false ∧
      h.contributors + 1 = s.table.records.length ∧ h.right = true ∧ s.provenRight = true)) ∧
  (∀ s : State, s.settled = true → s.census.role = .lead → s.census.state = .valid ∨ s.census.state = .stale →
    s.table.records.length = 1 → s.door.summary.left = s.provenLeft ∧ s.door.summary.right = s.provenRight) ∧
  (∀ s : State, s.settled = true → s.census.role = .member → s.door.summary = Summary.zero)

/-! ## Heating share (chapter 8) -/

/-- R130, R131: HEAT_DEMAND puts its four on-times in force with source REQUEST for 10 s and completes OK with the demand, the
cap state, the cap and the capacity; R132: when the 10 s run out the standby on-times stand again. The demand is
(Σ rating × on-time + 255) div 256, and 0 while STOPPED or FAULTED.

R141, R144, R150: in GRANTED a grant hold that runs out gives FALLBACK; FAULT_CLEAR of the heating in FAULTED clears the
overdraw count and gives FALLBACK, and is REFUSED_STATE with the cap state code in any other; each change raises HEAT_STATE
with the cap that then holds. Details of an OK are 0 (the model's choice, log 52). -/
def Obligations.DemandAndCapStates : Prop :=
  ((∀ (s : State) (dt : Nat) (r : Request) (rest : List Request), s.settled = true → s.mem.wf = true → r.slot < 16 →
     takeRequest (fun r => r.kind == .heatDemand) s.req.handed = (some r, rest) →
     let on : Stages Nat :=
       { s0 := (r.param 0).toNat, s1 := (r.param 1).toNat, s2 := (r.param 2).toNat, s3 := (r.param 3).toNat }
     ∃ t : State, exec (.heatDemand dt) s = .next t ∧
       t.heat = { s.heat with source := .request, onTimes := on, leaseEnd := some (s.now + dt + 20000000000) } ∧
       answered t r.slot .ok 0 (le16 (word16 t.demand) ++ [t.heat.cap.code] ++ le16 (word16 t.cap) ++
         le16 (word16 t.capacity))) ∧
   (∀ (s : State) (dt e : Nat), s.settled = true → s.heat.leaseEnd = some e → e ≤ s.now + dt →
     Answers (.demandLeaseExpired dt) s { s.advance dt with heat := { s.heat with
       source := .standby, onTimes := s.settings.standby, leaseEnd := none } } []) ∧
   ∀ s : State, s.demand =
     (if s.heat.cap = .stopped ∨ s.heat.cap = .faulted then 0 else (weighted s.settings.ratings s.heat.onTimes + 255) / 256)) ∧
  ∀ (s : State) (dt : Nat), s.settled = true → s.mem.wf = true →
    (∀ e : Nat, s.heat.cap = .granted → s.heat.holdEnd = some e → e ≤ s.now + dt → Answers (.grantHoldExpired dt) s
      { s.advance dt with heat := { s.heat with cap := .fallback, holdEnd := none } }
      [[heatEvent s .fallback .granted 3 s.settings.ceiling]]) ∧
    (∀ (r : Request) (rest : List Request),
      takeRequest (fun r => r.kind == .faultClear && r.param 0 == 3) s.req.handed = (some r, rest) →
      let u : State := { s.advance dt with req := { s.req with handed := rest } }
      (s.heat.cap = .faulted → Answers (.faultClearHeating dt) s
        (State.complete { u with heat := { s.heat with cap := .fallback, holdEnd := none }
                                 fire := { s.fire with overdraw := 0 } }
          r.slot .ok 0 ([2] ++ le16 (word16 s.settings.ceiling) ++ [0]))
        [[heatEvent s .fallback .faulted 6 s.settings.ceiling]]) ∧
      (s.heat.cap ≠ .faulted → exec (.faultClearHeating dt) s = .next (u.complete r.slot .refusedState s.heat.cap.code
        ([s.heat.cap.code] ++ le16 (word16 s.cap) ++ [byte s.fire.overdraw]))))

/-- R135, R137: HEAT_SUPPLY is REFUSED_RANGE for a flag above 1 (detail 0) or a shed threshold not above the cut threshold
(detail 4); otherwise the supply record stands, a lead in VALID or STALE allocates, and the slot completes OK with the
effective limit, the allocation number and whether it allocated. R137: the allocation timer of a single-car lead allocates
and runs on by 1 s; a DEMAND roll at the lead replaces the list and allocates. That a refusal shows no result bytes (log 43) and
that the detail of an OK is 0 (log 52) is the model's choice, and so are remainder 0 of an allocation whose limit covers the
demands (log 73), detail 0 where both checks fail (log 67) and the DEMAND
roll of no entry discarded, of more than 31 taken (log 62). -/
def Obligations.SupplyAndRollsAllocate : Prop :=
  ∀ (s : State) (dt : Nat), s.settled = true → s.mem.wf = true → s.heat.cap ≠ .stopped →
    (∀ (r : Request) (rest : List Request), takeRequest (fun r => r.kind == .heatSupply) s.req.handed = (some r, rest) →
      r.slot < 16 →
      let u : State := { s.advance dt with req := { s.req with handed := rest } }
      let shed := (getLe16 r.params 4).toNat
      let cut := (getLe16 r.params 6).toNat
      let supply : Supply := { on := r.param 0 == 1, limit := (getLe16 r.params 2).toNat, shed := shed, cut := cut }
      let leads : Prop := s.census.role = .lead ∧ (s.census.state = .valid ∨ s.census.state = .stale)
      (1 < (r.param 0).toNat → exec (.heatSupply dt) s = .next (u.complete r.slot .refusedRange 0 [])) ∧
      ((r.param 0).toNat ≤ 1 → shed ≤ cut → exec (.heatSupply dt) s = .next (u.complete r.slot .refusedRange 4 [])) ∧
      ((r.param 0).toNat ≤ 1 → cut < shed → ∃ t : State, exec (.heatSupply dt) s = .next t ∧ t.heat.supply = supply ∧
        (leads → allocatedIn s t supply s.heat.allocList ∧
          answered t r.slot .ok 0 (le16 (word16 t.leff) ++ le16 t.heat.allocNumber ++ [1])) ∧
        (¬leads → t.heat.allocNumber = s.heat.allocNumber ∧ t.table = s.table ∧
          answered t r.slot .ok 0 (le16 (word16 t.leff) ++ le16 t.heat.allocNumber ++ [0])))) ∧
    (∀ e : Nat, s.heat.allocEnd = some e → e ≤ s.now + dt → ∃ t : State, exec (.allocationTimerExpired dt) s = .next t ∧
      allocatedIn s t s.heat.supply s.heat.allocList ∧ t.heat.allocEnd = some (e + 2000000000)) ∧
    (∀ (x : SpanId) (r : RxFrame) (rest : List RxFrame) (es : List (Nat × Nat)),
      takeFor .relay (s.span x).rxq = (some r, rest) → r.frame.kind = .demand → parseDemand r.frame = some es →
      (s.span x).state = .up → s.census.role = .lead → s.census.state = .valid ∨ s.census.state = .stale →
      r.frame.gen = s.table.gen → s.downstream = some x → r.frame.hop.toNat = s.table.own + 1 →
      ∃ t : State, exec (.demandRoll dt x) s = .next t ∧ t.heat.allocList = es ∧
        allocatedIn s t s.heat.supply es)

/-- R136: the effective limit is 0 with the supply off, the limit at and above the shed threshold, 0 at and below the cut
threshold, and between them the limit in proportion to the line voltage above the cut threshold, rounded down.

R138: the grants of a division are at most the demands clamped to 4000 and add up to the smaller of the limit and the sum
of those demands; when they do not all fit, the water level is the largest whole number at which they would, every grant is the
demand or the level, or one more than the level for the first entries above it, as many as the remainder has dA. R137: the
entries stand in ascending position. -/
def Obligations.AllocationDividesLimit : Prop :=
  (∀ (p : Supply) (v : Nat), p.cut < p.shed →
     (p.on = false → effectiveLimit p v = 0) ∧
     (p.on = true → p.shed ≤ v → effectiveLimit p v = p.limit) ∧
     (p.on = true → v ≤ p.cut → effectiveLimit p v = 0) ∧
     (p.on = true → p.cut < v → v < p.shed → effectiveLimit p v = p.limit * (v - p.cut) / (p.shed - p.cut) ∧
       effectiveLimit p v ≤ p.limit)) ∧
  (∀ (n own : Nat) (list : List (Nat × Nat)), (allocEntries n own list).Pairwise (fun a b => a.1 ≤ b.1) ∧
     ∀ e : Nat × Nat, e ∈ allocEntries n own list ↔ (e = (1, own) ∨ e ∈ list) ∧ 1 ≤ e.1 ∧ e.1 ≤ n) ∧
  ∀ (leff : Nat) (entries : List (Nat × Nat)),
    let d := divide leff entries
    let total := (entries.map fun e => min e.2 4000).sum
    (d.shares.map fun x => x.grant).sum = min leff total ∧
    d.shares.map (fun x => (x.position, x.demand)) = entries.map (fun e => (e.1, min e.2 4000)) ∧
    (∀ x ∈ d.shares, x.grant ≤ x.demand) ∧
    (∀ p : Nat, (∀ e ∈ entries, e.1 ≠ p) → grantAt d.shares p = 0) ∧
    (total ≤ leff → ∀ x ∈ d.shares, x.grant = x.demand) ∧
    (leff < total →
      (entries.map fun e => min (min e.2 4000) d.level).sum ≤ leff ∧
      (∀ level : Nat, (entries.map fun e => min (min e.2 4000) level).sum ≤ leff → level ≤ d.level) ∧
      (∀ x ∈ d.shares, x.grant = min x.demand d.level ∨ (d.level < x.demand ∧ x.grant = d.level + 1)) ∧
      d.remainder = leff - (entries.map fun e => min (min e.2 4000) d.level).sum ∧
      ((d.shares.filter fun x => decide (d.level < x.demand)).map fun x => x.grant) =
        List.replicate d.remainder (d.level + 1) ++
          List.replicate ((d.shares.filter fun x => decide (d.level < x.demand)).length - d.remainder) d.level)

/-! ## Firing and the line monitor (chapter 9) -/

/-- R146, R147, R149: a period start judges the period that ended: an overdraw raises the count, a period within clears it, one
that is not judged leaves it, and the third in a row is the fault, which ends every window, raises FAULT_TALLY, leaves the cap
state FAULTED and records HEAT_FAULT and HEAT_STATE one after the other (R170). Otherwise the new period takes cap and demand,
scales each on-time to k × c div d when the demand exceeds the cap, expects Σ rating × scaled on-time div 256, and opens a
window for each stage with a scaled on-time at the slot of its phase ((p − 1) × 23 + stage × 64) mod 256.

R147: a window begins at its slot and lasts as many slots of 4 ms as the stage's scaled on-time; a window of the period before
that is still open ends there with the output on; the end of the window turns the stage's output off, or passes into the next
window when that one follows without a gap. The model's choice: a longer tail is cut there too (log 39), a period without
readings is not judged (log 47), bytes 212 to 218 show also a period that ended in FAULTED (log 70), the outputs-cut flag is
that of the period start that found the fault (log 48), and a window that ends at a period start not yet taken ends after it
(log 53). -/
def Obligations.PeriodsScaleAndOpenWindows : Prop :=
  (∀ (s : State) (dt start : Nat), s.settled = true → s.mem.wf = true → trailRoom s → s.fire.periodStart = some start →
     start + 2048000000 ≤ s.now + dt →
     let next := start + 2048000000
     let count := s.fire.overdraw + 1
     let p := if s.census.state = .valid ∨ s.census.state = .stale then s.table.own else 1
     let scale (k : Nat) : Nat := if s.demand = 0 then 0 else if s.demand ≤ s.cap then k else k * s.cap / s.demand
     let on := s.heat.onTimes
     let scaled : Stages Nat := { s0 := scale on.s0, s1 := scale on.s1, s2 := scale on.s2, s3 := scale on.s3 }
     let opens (k stage : Nat) : Option Nat :=
       if 0 < k then some (next + ((p - 1) * 23 + stage * 64) % 256 * 8000000) else none
     ∃ t : State, exec (.periodStart dt) s = .next t ∧ t.fire.periodStart = some next ∧ t.fire.count = s.fire.count + 1 ∧
       t.fire.sum = 0 ∧ t.fire.readings = 0 ∧ t.fire.lastExpected = s.fire.expected ∧
       t.fire.lastMeasured = s.fire.sum / s.fire.readings ∧ t.pub.fire = t.fire.board ∧
       (¬judged s → t.fire.overdraw = s.fire.overdraw ∧ t.fire.lastJudgement = .notJudged) ∧
       (judged s → ¬overdrew s → t.fire.overdraw = 0 ∧ t.fire.lastJudgement = .within) ∧
       (judged s → overdrew s → count < 3 → t.fire.overdraw = count ∧ t.fire.lastJudgement = .overdraw) ∧
       (judged s → overdrew s → 3 ≤ count → t.heat.cap = .faulted ∧ t.tallies.fault = s.tallies.fault + 1 ∧
         t.fire.overdraw = 0 ∧ t.fire.cut = true ∧ t.fire.starts = Stages.all none ∧ t.fire.ends = Stages.all none ∧
         recordedRun s t [
           { kind := 15, source := 9, position := byte s.table.own, detail := 3
             value := (word16 (s.fire.sum / s.fire.readings) ++ word16 s.fire.expected : Word32) },
           heatEvent s .faulted s.heat.cap 5 0]) ∧
       (¬(judged s ∧ overdrew s ∧ 3 ≤ count) → t.heat = s.heat ∧ t.fire.cap = s.cap ∧ t.fire.demand = s.demand ∧
         t.fire.scaled = scaled ∧ t.fire.expected = weighted s.settings.ratings scaled / 256 ∧
         t.fire.starts = { s0 := opens scaled.s0 0, s1 := opens scaled.s1 1, s2 := opens scaled.s2 2, s3 := opens scaled.s3 3 } ∧
         t.fire.ends = s.fire.ends ∧ t.fire.cut = false)) ∧
  ∀ (s : State) (dt a : Nat) (stage : Fin 4), s.settled = true → a ≤ s.now + dt →
    (s.fire.starts.get stage = some a → exec (.windowStart dt stage) s = .next { s.advance dt with fire := { s.fire with
      starts := s.fire.starts.set stage none
      ends := s.fire.ends.set stage (some (a + s.fire.scaled.get stage * 8000000)) } }) ∧
    (s.fire.ends.get stage = some a →
      let owed : Prop := ∃ p : Nat, s.fire.periodStart = some p ∧ p + 2048000000 ≤ a
      (owed → exec (.windowEnd dt stage) s = .next (s.advance dt)) ∧
      (¬owed → (∀ b : Nat, s.fire.starts.get stage = some b → a < b) → exec (.windowEnd dt stage) s =
        .next { s.advance dt with fire := { s.fire with ends := s.fire.ends.set stage none } }) ∧
      (∀ b : Nat, ¬owed → s.fire.starts.get stage = some b → b ≤ a → exec (.windowEnd dt stage) s =
        .next { s.advance dt with fire := { s.fire with
          starts := s.fire.starts.set stage none
          ends := s.fire.ends.set stage (some (b + s.fire.scaled.get stage * 8000000)) } })) ∧
    s.heaterOutput stage = (s.fire.ends.get stage).isSome

/-- R152, R149, R153: a block of A samples gives its channel the code sum × 16 div A and the reading code × full scale div 65
520, one more completion, and the next block A samples of 375 µs later; a CARI reading joins the running period's sum; an AUXV
reading below the threshold in OK starts the 20 ms low timer unless it runs, one at or above stops it, and in LOW one at or
above T + T div 20 starts the 100 ms return timer unless it runs, one below stops it.

R153, R108: when the low timer runs out in OK the AUX state turns LOW with AUX_LOW, and each RELEASED side is withdrawn with its
output low, the DOOR_STATEs of both standing in one run of records of the door unit (R170); when the return timer runs out in
LOW it turns OK with AUX_OK; both stop the timers and stamp the change. That the stamp
follows the elapsed time, also before the tick of that moment is taken, is the model's choice (log 76). -/
def Obligations.ReadingsDriveAuxState : Prop :=
  (∀ (s : State) (dt : Nat) (block : List (BitVec 12)), s.settled = true → s.mon.running = true →
     block.length = s.settings.averaging →
     let now := s.now + dt
     let code := (block.map fun v => v.toNat).sum * 16 / block.length
     let taken (c : Channel) (full : Nat) : Channel :=
       { code := code, reading := code * full / 65520, completions := c.completions + 1
         nextDue := c.nextDue + s.settings.averaging * 750000 }
     let lineV := taken s.mon.lineV s.settings.lineFull
     let carI := taken s.mon.carI s.settings.carFull
     let auxV := taken s.mon.auxV s.settings.auxFull
     let limit := s.settings.auxThreshold
     (s.mon.lineV.nextDue ≤ now →
       Answers (.readingCompleted dt .linev block) s { s.advance dt with mon := { s.mon with lineV := lineV } } []) ∧
     (s.mon.carI.nextDue ≤ now →
       Answers (.readingCompleted dt .cari block) s { s.advance dt with
         mon := { s.mon with carI := carI }
         fire := if s.fire.periodStart = none then s.fire
           else { s.fire with sum := s.fire.sum + carI.reading, readings := s.fire.readings + 1 } } []) ∧
     (s.mon.auxV.nextDue ≤ now →
       (s.mon.auxLow = false → Answers (.readingCompleted dt .auxv block) s { s.advance dt with mon := { s.mon with
         auxV := auxV
         lowEnd := if limit ≤ auxV.reading then none
           else if s.mon.lowEnd = none then some (now + 40000000) else s.mon.lowEnd } } []) ∧
       (s.mon.auxLow = true → Answers (.readingCompleted dt .auxv block) s { s.advance dt with mon := { s.mon with
         auxV := auxV
         returnEnd := if auxV.reading < limit + limit / 20 then none
           else if s.mon.returnEnd = none then some (now + 200000000) else s.mon.returnEnd } } []))) ∧
  ∀ (s : State) (dt e : Nat), s.settled = true → s.mem.wf = true → trailRoom s → e ≤ s.now + dt →
    let turned (low : Bool) : Monitor :=
      { s.mon with auxLow := low, lowEnd := none, returnEnd := none, auxStamp := word32 ((s.now + dt) / 2000000) }
    let event (kind : Byte) : Event :=
      { kind := kind, source := 10, position := byte s.table.own, detail := 0, value := word32 s.mon.auxV.reading }
    let withdrawn (k : SideId) : List Event :=
      if (s.side k).state = .released then [doorEvent s k (lockedState (s.side k)) .released 7 0] else []
    (s.mon.auxLow = false → s.mon.lowEnd = some e → ∃ t : State, exec (.lowTimerExpired dt) s = .next t ∧
      t.mon = turned true ∧ recordedIn s t (event 16) ∧ recordedTogether s t (withdrawn .one ++ withdrawn .two) ∧ ∀ k : SideId,
        ((s.side k).state ≠ .released → t.side k = s.side k) ∧
        ((s.side k).state = .released → t.side k = atRest (s.side k) (lockedState (s.side k)))) ∧
    (s.mon.auxLow = true → s.mon.returnEnd = some e → Answers (.returnTimerExpired dt) s
      { s.advance dt with mon := turned false } [[event 17]])

/-! ## The whole device -/

/-- A command leaves every part of the state as it was but the time and the parts it is said to touch, in a state at the end
of a step; the waiting commands are never touched. -/
def Obligations.CommandsTouchOnlyTheirParts : Prop :=
  ∀ (c : Instr) (s t : State) (p : Part), s.settled = true → exec c s = .next t → p ≠ .now → p ∉ touches c → p.kept s t

/-- R155, R165, R168, R170: no command but a reset and a MEM_WRITE changes a byte of the settings, marks or scratch areas or an
unassigned byte; in a slot, only the state byte, outcome, detail and results change, and nothing in a FREE or DONE slot; in the
trail, only the records written in the step; and the memory keeps its canonical form. -/
def Obligations.MemoryChangesOnlyInSlotsAndTrail : Prop :=
  ∀ (c : Instr) (s t : State), s.slotsSound → fromPort c = false → exec c s = .next t →
    (∀ a : Nat, a < 0x0100 ∨ (0x0500 ≤ a ∧ a < 0x2000) ∨ 0x2800 ≤ a → t.mem.read a = s.mem.read a) ∧
    (∀ k off : Nat, k < 16 → off < 64 →
      (1 ≤ off ∧ off ≤ 3) ∨ (6 ≤ off ∧ off < 32) ∨ s.slotState k = 0 ∨ s.slotState k = 3 →
      t.mem.read (slotBase k + off) = s.mem.read (slotBase k + off)) ∧
    (∀ a : Nat, 0x2000 ≤ a → a < 0x2800 →
      (∀ j : Nat, j < (t.trail.next - s.trail.next).toNat →
        ¬(trailAddress (s.trail.next + word32 j) ≤ a ∧ a < trailAddress (s.trail.next + word32 j) + 16)) →
      t.mem.read a = s.mem.read a) ∧
    t.mem.wf = true

/-- R70, R71, R112, R143, R154: every command leaves the published blocks showing the state, the memory in its canonical form
and no event unwritten; and outside a reset each rewrite raises its block's counter by 2, CONSIST_TALLY with each rewrite of the
image, DOOR_TALLY with each of the door board, and HEAT_TALLY with each of the heating board that changes a field of R143: cap
state, source, cap, demand, on-times, last grant, lead or supply. A step makes at most four rewrites of the image and of the
heating board, so that no counter or tally comes round to its value while its block changes. One rewrite per block and step,
with the splits of image and heating board, is the model's choice (log 25). -/
def Obligations.EveryCommandPublishes : Prop :=
  ∀ (c : Instr) (s t : State), exec c s = .next t →
    t.settled = true ∧ (s.mem.wf = true → t.mem.wf = true) ∧
    (fromPort c = false →
      (∃ k : Nat, k ≤ 4 ∧ t.pub.imageCounter = s.pub.imageCounter + 2 * word32 k ∧
        t.tallies.consist = s.tallies.consist + word16 k ∧ (t.pub.image ≠ s.pub.image → 0 < k)) ∧
      t.pub.doorCounter = s.pub.doorCounter + (if t.pub.door = s.pub.door then 0 else 2) ∧
      t.tallies.door = s.tallies.door + (if t.pub.door = s.pub.door then 0 else 1) ∧
      (∃ k : Nat, k ≤ 4 ∧ t.pub.heatCounter = s.pub.heatCounter + 2 * word32 k ∧
        (t.pub.heat ≠ s.pub.heat ∨ t.pub.fire ≠ s.pub.fire → 0 < k)) ∧
      (s.settled = true →
        let kept : Prop := ∀ off ∈ [4, 5, 6, 7, 8, 9, 12, 13, 14, 15, 20, 21, 32, 33, 34, 35, 36, 37, 38, 39],
          t.readByte (0x0E00 + off) = s.readByte (0x0E00 + off)
        ((∀ dt : Nat, c ≠ .periodStart dt) →
          (kept → t.tallies.heat = s.tallies.heat) ∧ (¬kept → t.tallies.heat = s.tallies.heat + 1)) ∧
        ∃ k : Nat, k ≤ 2 ∧ t.tallies.heat = s.tallies.heat + word16 k ∧ (¬kept → 0 < k)) ∧
      t.pub.readingsCounter = s.pub.readingsCounter + (if t.pub.readings = s.pub.readings then 0 else 2))

/-- R165, R167, R168: every step keeps each POSTED slot once in the post queue and each TAKEN slot with exactly one holder. -/
def Obligations.SlotsStaySound : Prop :=
  ∀ s t : State, s.slotsSound → Sys2Proof.Machine.step s = .next t → t.slotsSound

/-- R170, R171: every step keeps at most 128 trail records, in order and in their places, and losses only while 128 are held. -/
def Obligations.TrailStaysSound : Prop :=
  ∀ s t : State, s.slotsSound → s.trailSound → Sys2Proof.Machine.step s = .next t → t.trailSound

/-- R95 to R108: every step keeps the state of each door side in agreement with its output, timers, lock level, fault causes and
pending order, and no side RELEASED in AUX LOW. -/
def Obligations.DoorSidesStaySound : Prop :=
  ∀ s t : State, s.doorsSound → Sys2Proof.Machine.step s = .next t → t.doorsSound

/-- R103, R105: a door side becomes RELEASED only in a step that begins in census state VALID and AUX OK, from CLOSED, CLOSING
or UNLOCKED, and with a lease running. -/
def Obligations.ReleaseNeedsValidAndAux : Prop :=
  ∀ (s t : State) (k : SideId), Sys2Proof.Machine.step s = .next t → (s.side k).state ≠ .released →
    (t.side k).state = .released →
    s.census.state = .valid ∧ s.mon.auxLow = false ∧ (t.side k).leaseEnd.isSome = true ∧
      ((s.side k).state = .closed ∨ (s.side k).state = .closing ∨ (s.side k).state = .unlocked)

/-- R3, R5, R10, R11, R30, R32, R36: every step keeps each span unit in agreement with its state, its queues and buffers within
their bounds, the register away from 0, and both spans OFF while the relay is not OPEN. -/
def Obligations.SpansStaySound : Prop :=
  ∀ s t : State, s.spansSound → Sys2Proof.Machine.step s = .next t → t.spansSound

/-- R42, R52, R65, R66, R69, R81, R84, R129: every step keeps role, census state, timers, context, image and wave relay in
agreement, the car's own identity at its own position among them. -/
def Obligations.ConsistStaysSound : Prop :=
  ∀ s t : State, s.spansSound → s.consistSound → Sys2Proof.Machine.step s = .next t → t.consistSound

/-- R129, R138, R141, R146, R148, R149: every step keeps the cap at most 4000, the expected current of a period at most its cap,
and no heater window in FAULTED. -/
def Obligations.HeatingStaysSound : Prop :=
  ∀ s t : State, s.heatSound → Sys2Proof.Machine.step s = .next t → t.heatSound

/-- R162: the state after a reset meets every invariant. -/
def Obligations.ResetMeetsInvariants : Prop :=
  State.reset.settled = true ∧ State.reset.slotsSound ∧ State.reset.trailSound ∧ State.reset.doorsSound ∧
    State.reset.spansSound ∧ State.reset.consistSound ∧ State.reset.heatSound
end

