-- ==== Sys2Proof/Laws/State.lean ====
section
/-!
SUPPORT. What each small update of `State` leaves of each field, one lemma per field per update, so that no later proof
unfolds a record update.
-/

namespace Sys2Proof.Machine

/-! ## `State.advance` -/

@[simp] theorem advance_now (s : State) (dt : Nat) : (s.advance dt).now = s.now + dt := rfl
@[simp] theorem advance_tickDue (s : State) (dt : Nat) : (s.advance dt).tickDue = s.tickDue := rfl
@[simp] theorem advance_msCount (s : State) (dt : Nat) : (s.advance dt).msCount = s.msCount := rfl
@[simp] theorem advance_choices (s : State) (dt : Nat) : (s.advance dt).choices = s.choices := rfl
@[simp] theorem advance_raised (s : State) (dt : Nat) : (s.advance dt).raised = s.raised := rfl
@[simp] theorem advance_pending (s : State) (dt : Nat) : (s.advance dt).pending = s.pending := rfl
@[simp] theorem advance_mem (s : State) (dt : Nat) : (s.advance dt).mem = s.mem := rfl
@[simp] theorem advance_pub (s : State) (dt : Nat) : (s.advance dt).pub = s.pub := rfl
@[simp] theorem advance_port (s : State) (dt : Nat) : (s.advance dt).port = s.port := rfl
@[simp] theorem advance_settings (s : State) (dt : Nat) : (s.advance dt).settings = s.settings := rfl
@[simp] theorem advance_req (s : State) (dt : Nat) : (s.advance dt).req = s.req := rfl
@[simp] theorem advance_tallies (s : State) (dt : Nat) : (s.advance dt).tallies = s.tallies := rfl
@[simp] theorem advance_trail (s : State) (dt : Nat) : (s.advance dt).trail = s.trail := rfl
@[simp] theorem advance_bypass (s : State) (dt : Nat) : (s.advance dt).bypass = s.bypass := rfl
@[simp] theorem advance_spanA (s : State) (dt : Nat) : (s.advance dt).spanA = s.spanA := rfl
@[simp] theorem advance_spanB (s : State) (dt : Nat) : (s.advance dt).spanB = s.spanB := rfl
@[simp] theorem advance_census (s : State) (dt : Nat) : (s.advance dt).census = s.census := rfl
@[simp] theorem advance_table (s : State) (dt : Nat) : (s.advance dt).table = s.table := rfl
@[simp] theorem advance_relay (s : State) (dt : Nat) : (s.advance dt).relay = s.relay := rfl
@[simp] theorem advance_door (s : State) (dt : Nat) : (s.advance dt).door = s.door := rfl
@[simp] theorem advance_heat (s : State) (dt : Nat) : (s.advance dt).heat = s.heat := rfl
@[simp] theorem advance_fire (s : State) (dt : Nat) : (s.advance dt).fire = s.fire := rfl
@[simp] theorem advance_mon (s : State) (dt : Nat) : (s.advance dt).mon = s.mon := rfl

/-! ## `State.setSlotState` -/

@[simp] theorem setSlotState_now (s : State) (k : Nat) (b : Byte) : (s.setSlotState k b).now = s.now := rfl
@[simp] theorem setSlotState_tickDue (s : State) (k : Nat) (b : Byte) : (s.setSlotState k b).tickDue = s.tickDue := rfl
@[simp] theorem setSlotState_msCount (s : State) (k : Nat) (b : Byte) : (s.setSlotState k b).msCount = s.msCount := rfl
@[simp] theorem setSlotState_choices (s : State) (k : Nat) (b : Byte) : (s.setSlotState k b).choices = s.choices := rfl
@[simp] theorem setSlotState_raised (s : State) (k : Nat) (b : Byte) : (s.setSlotState k b).raised = s.raised := rfl
@[simp] theorem setSlotState_pending (s : State) (k : Nat) (b : Byte) : (s.setSlotState k b).pending = s.pending := rfl
@[simp] theorem setSlotState_mem (s : State) (k : Nat) (b : Byte) : (s.setSlotState k b).mem = s.mem.write (slotBase k) b := rfl
@[simp] theorem setSlotState_pub (s : State) (k : Nat) (b : Byte) : (s.setSlotState k b).pub = s.pub := rfl
@[simp] theorem setSlotState_port (s : State) (k : Nat) (b : Byte) : (s.setSlotState k b).port = s.port := rfl
@[simp] theorem setSlotState_settings (s : State) (k : Nat) (b : Byte) : (s.setSlotState k b).settings = s.settings := rfl
@[simp] theorem setSlotState_req (s : State) (k : Nat) (b : Byte) : (s.setSlotState k b).req = s.req := rfl
@[simp] theorem setSlotState_tallies (s : State) (k : Nat) (b : Byte) : (s.setSlotState k b).tallies = s.tallies := rfl
@[simp] theorem setSlotState_trail (s : State) (k : Nat) (b : Byte) : (s.setSlotState k b).trail = s.trail := rfl
@[simp] theorem setSlotState_bypass (s : State) (k : Nat) (b : Byte) : (s.setSlotState k b).bypass = s.bypass := rfl
@[simp] theorem setSlotState_spanA (s : State) (k : Nat) (b : Byte) : (s.setSlotState k b).spanA = s.spanA := rfl
@[simp] theorem setSlotState_spanB (s : State) (k : Nat) (b : Byte) : (s.setSlotState k b).spanB = s.spanB := rfl
@[simp] theorem setSlotState_census (s : State) (k : Nat) (b : Byte) : (s.setSlotState k b).census = s.census := rfl
@[simp] theorem setSlotState_table (s : State) (k : Nat) (b : Byte) : (s.setSlotState k b).table = s.table := rfl
@[simp] theorem setSlotState_relay (s : State) (k : Nat) (b : Byte) : (s.setSlotState k b).relay = s.relay := rfl
@[simp] theorem setSlotState_door (s : State) (k : Nat) (b : Byte) : (s.setSlotState k b).door = s.door := rfl
@[simp] theorem setSlotState_heat (s : State) (k : Nat) (b : Byte) : (s.setSlotState k b).heat = s.heat := rfl
@[simp] theorem setSlotState_fire (s : State) (k : Nat) (b : Byte) : (s.setSlotState k b).fire = s.fire := rfl
@[simp] theorem setSlotState_mon (s : State) (k : Nat) (b : Byte) : (s.setSlotState k b).mon = s.mon := rfl

/-! ## `State.raise` -/

@[simp] theorem raise_now (s : State) (g : Nat) (e : Event) : (s.raise g e).now = s.now := rfl
@[simp] theorem raise_tickDue (s : State) (g : Nat) (e : Event) : (s.raise g e).tickDue = s.tickDue := rfl
@[simp] theorem raise_msCount (s : State) (g : Nat) (e : Event) : (s.raise g e).msCount = s.msCount := rfl
@[simp] theorem raise_choices (s : State) (g : Nat) (e : Event) : (s.raise g e).choices = s.choices := rfl
@[simp] theorem raise_raised (s : State) (g : Nat) (e : Event) : (s.raise g e).raised = s.raised ++ [{ group := g, event := e }] := rfl
@[simp] theorem raise_pending (s : State) (g : Nat) (e : Event) : (s.raise g e).pending = s.pending := rfl
@[simp] theorem raise_mem (s : State) (g : Nat) (e : Event) : (s.raise g e).mem = s.mem := rfl
@[simp] theorem raise_pub (s : State) (g : Nat) (e : Event) : (s.raise g e).pub = s.pub := rfl
@[simp] theorem raise_port (s : State) (g : Nat) (e : Event) : (s.raise g e).port = s.port := rfl
@[simp] theorem raise_settings (s : State) (g : Nat) (e : Event) : (s.raise g e).settings = s.settings := rfl
@[simp] theorem raise_req (s : State) (g : Nat) (e : Event) : (s.raise g e).req = s.req := rfl
@[simp] theorem raise_tallies (s : State) (g : Nat) (e : Event) : (s.raise g e).tallies = s.tallies := rfl
@[simp] theorem raise_trail (s : State) (g : Nat) (e : Event) : (s.raise g e).trail = s.trail := rfl
@[simp] theorem raise_bypass (s : State) (g : Nat) (e : Event) : (s.raise g e).bypass = s.bypass := rfl
@[simp] theorem raise_spanA (s : State) (g : Nat) (e : Event) : (s.raise g e).spanA = s.spanA := rfl
@[simp] theorem raise_spanB (s : State) (g : Nat) (e : Event) : (s.raise g e).spanB = s.spanB := rfl
@[simp] theorem raise_census (s : State) (g : Nat) (e : Event) : (s.raise g e).census = s.census := rfl
@[simp] theorem raise_table (s : State) (g : Nat) (e : Event) : (s.raise g e).table = s.table := rfl
@[simp] theorem raise_relay (s : State) (g : Nat) (e : Event) : (s.raise g e).relay = s.relay := rfl
@[simp] theorem raise_door (s : State) (g : Nat) (e : Event) : (s.raise g e).door = s.door := rfl
@[simp] theorem raise_heat (s : State) (g : Nat) (e : Event) : (s.raise g e).heat = s.heat := rfl
@[simp] theorem raise_fire (s : State) (g : Nat) (e : Event) : (s.raise g e).fire = s.fire := rfl
@[simp] theorem raise_mon (s : State) (g : Nat) (e : Event) : (s.raise g e).mon = s.mon := rfl

/-! ## `State.setNotes` -/

@[simp] theorem setNotes_now (s : State) (n : Notes) : (s.setNotes n).now = s.now := rfl
@[simp] theorem setNotes_tickDue (s : State) (n : Notes) : (s.setNotes n).tickDue = s.tickDue := rfl
@[simp] theorem setNotes_msCount (s : State) (n : Notes) : (s.setNotes n).msCount = s.msCount := rfl
@[simp] theorem setNotes_choices (s : State) (n : Notes) : (s.setNotes n).choices = s.choices := rfl
@[simp] theorem setNotes_raised (s : State) (n : Notes) : (s.setNotes n).raised = s.raised := rfl
@[simp] theorem setNotes_pending (s : State) (n : Notes) : (s.setNotes n).pending = s.pending := rfl
@[simp] theorem setNotes_mem (s : State) (n : Notes) : (s.setNotes n).mem = s.mem := rfl
@[simp] theorem setNotes_pub (s : State) (n : Notes) : (s.setNotes n).pub = s.pub := rfl
@[simp] theorem setNotes_port (s : State) (n : Notes) : (s.setNotes n).port = { s.port with notes := n } := rfl
@[simp] theorem setNotes_settings (s : State) (n : Notes) : (s.setNotes n).settings = s.settings := rfl
@[simp] theorem setNotes_req (s : State) (n : Notes) : (s.setNotes n).req = s.req := rfl
@[simp] theorem setNotes_tallies (s : State) (n : Notes) : (s.setNotes n).tallies = s.tallies := rfl
@[simp] theorem setNotes_trail (s : State) (n : Notes) : (s.setNotes n).trail = s.trail := rfl
@[simp] theorem setNotes_bypass (s : State) (n : Notes) : (s.setNotes n).bypass = s.bypass := rfl
@[simp] theorem setNotes_spanA (s : State) (n : Notes) : (s.setNotes n).spanA = s.spanA := rfl
@[simp] theorem setNotes_spanB (s : State) (n : Notes) : (s.setNotes n).spanB = s.spanB := rfl
@[simp] theorem setNotes_census (s : State) (n : Notes) : (s.setNotes n).census = s.census := rfl
@[simp] theorem setNotes_table (s : State) (n : Notes) : (s.setNotes n).table = s.table := rfl
@[simp] theorem setNotes_relay (s : State) (n : Notes) : (s.setNotes n).relay = s.relay := rfl
@[simp] theorem setNotes_door (s : State) (n : Notes) : (s.setNotes n).door = s.door := rfl
@[simp] theorem setNotes_heat (s : State) (n : Notes) : (s.setNotes n).heat = s.heat := rfl
@[simp] theorem setNotes_fire (s : State) (n : Notes) : (s.setNotes n).fire = s.fire := rfl
@[simp] theorem setNotes_mon (s : State) (n : Notes) : (s.setNotes n).mon = s.mon := rfl

/-! ## `State.setCensus` -/

@[simp] theorem setCensus_now (s : State) (c : Census) : (s.setCensus c).now = s.now := rfl
@[simp] theorem setCensus_tickDue (s : State) (c : Census) : (s.setCensus c).tickDue = s.tickDue := rfl
@[simp] theorem setCensus_msCount (s : State) (c : Census) : (s.setCensus c).msCount = s.msCount := rfl
@[simp] theorem setCensus_choices (s : State) (c : Census) : (s.setCensus c).choices = s.choices := rfl
@[simp] theorem setCensus_raised (s : State) (c : Census) : (s.setCensus c).raised = s.raised := rfl
@[simp] theorem setCensus_pending (s : State) (c : Census) : (s.setCensus c).pending = s.pending := rfl
@[simp] theorem setCensus_mem (s : State) (c : Census) : (s.setCensus c).mem = s.mem := rfl
@[simp] theorem setCensus_pub (s : State) (c : Census) : (s.setCensus c).pub = s.pub := rfl
@[simp] theorem setCensus_port (s : State) (c : Census) : (s.setCensus c).port = s.port := rfl
@[simp] theorem setCensus_settings (s : State) (c : Census) : (s.setCensus c).settings = s.settings := rfl
@[simp] theorem setCensus_req (s : State) (c : Census) : (s.setCensus c).req = s.req := rfl
@[simp] theorem setCensus_tallies (s : State) (c : Census) : (s.setCensus c).tallies = s.tallies := rfl
@[simp] theorem setCensus_trail (s : State) (c : Census) : (s.setCensus c).trail = s.trail := rfl
@[simp] theorem setCensus_bypass (s : State) (c : Census) : (s.setCensus c).bypass = s.bypass := rfl
@[simp] theorem setCensus_spanA (s : State) (c : Census) : (s.setCensus c).spanA = s.spanA := rfl
@[simp] theorem setCensus_spanB (s : State) (c : Census) : (s.setCensus c).spanB = s.spanB := rfl
@[simp] theorem setCensus_census (s : State) (c : Census) : (s.setCensus c).census = c := rfl
@[simp] theorem setCensus_table (s : State) (c : Census) : (s.setCensus c).table = s.table := rfl
@[simp] theorem setCensus_relay (s : State) (c : Census) : (s.setCensus c).relay = s.relay := rfl
@[simp] theorem setCensus_door (s : State) (c : Census) : (s.setCensus c).door = s.door := rfl
@[simp] theorem setCensus_heat (s : State) (c : Census) : (s.setCensus c).heat = s.heat := rfl
@[simp] theorem setCensus_fire (s : State) (c : Census) : (s.setCensus c).fire = s.fire := rfl
@[simp] theorem setCensus_mon (s : State) (c : Census) : (s.setCensus c).mon = s.mon := rfl

/-! ## `State.setRecords` -/

@[simp] theorem setRecords_now (s : State) (rs : List ImageRecord) : (s.setRecords rs).now = s.now := rfl
@[simp] theorem setRecords_tickDue (s : State) (rs : List ImageRecord) : (s.setRecords rs).tickDue = s.tickDue := rfl
@[simp] theorem setRecords_msCount (s : State) (rs : List ImageRecord) : (s.setRecords rs).msCount = s.msCount := rfl
@[simp] theorem setRecords_choices (s : State) (rs : List ImageRecord) : (s.setRecords rs).choices = s.choices := rfl
@[simp] theorem setRecords_raised (s : State) (rs : List ImageRecord) : (s.setRecords rs).raised = s.raised := rfl
@[simp] theorem setRecords_pending (s : State) (rs : List ImageRecord) : (s.setRecords rs).pending = s.pending := rfl
@[simp] theorem setRecords_mem (s : State) (rs : List ImageRecord) : (s.setRecords rs).mem = s.mem := rfl
@[simp] theorem setRecords_pub (s : State) (rs : List ImageRecord) : (s.setRecords rs).pub = s.pub := rfl
@[simp] theorem setRecords_port (s : State) (rs : List ImageRecord) : (s.setRecords rs).port = s.port := rfl
@[simp] theorem setRecords_settings (s : State) (rs : List ImageRecord) : (s.setRecords rs).settings = s.settings := rfl
@[simp] theorem setRecords_req (s : State) (rs : List ImageRecord) : (s.setRecords rs).req = s.req := rfl
@[simp] theorem setRecords_tallies (s : State) (rs : List ImageRecord) : (s.setRecords rs).tallies = s.tallies := rfl
@[simp] theorem setRecords_trail (s : State) (rs : List ImageRecord) : (s.setRecords rs).trail = s.trail := rfl
@[simp] theorem setRecords_bypass (s : State) (rs : List ImageRecord) : (s.setRecords rs).bypass = s.bypass := rfl
@[simp] theorem setRecords_spanA (s : State) (rs : List ImageRecord) : (s.setRecords rs).spanA = s.spanA := rfl
@[simp] theorem setRecords_spanB (s : State) (rs : List ImageRecord) : (s.setRecords rs).spanB = s.spanB := rfl
@[simp] theorem setRecords_census (s : State) (rs : List ImageRecord) : (s.setRecords rs).census = s.census := rfl
@[simp] theorem setRecords_table (s : State) (rs : List ImageRecord) : (s.setRecords rs).table = { s.table with records := rs } := rfl
@[simp] theorem setRecords_relay (s : State) (rs : List ImageRecord) : (s.setRecords rs).relay = s.relay := rfl
@[simp] theorem setRecords_door (s : State) (rs : List ImageRecord) : (s.setRecords rs).door = s.door := rfl
@[simp] theorem setRecords_heat (s : State) (rs : List ImageRecord) : (s.setRecords rs).heat = s.heat := rfl
@[simp] theorem setRecords_fire (s : State) (rs : List ImageRecord) : (s.setRecords rs).fire = s.fire := rfl
@[simp] theorem setRecords_mon (s : State) (rs : List ImageRecord) : (s.setRecords rs).mon = s.mon := rfl

/-! ## `State.setWatch` -/

@[simp] theorem setWatch_now (s : State) (k : RollKind) (w : RollWatch) : (s.setWatch k w).now = s.now := rfl
@[simp] theorem setWatch_tickDue (s : State) (k : RollKind) (w : RollWatch) : (s.setWatch k w).tickDue = s.tickDue := rfl
@[simp] theorem setWatch_msCount (s : State) (k : RollKind) (w : RollWatch) : (s.setWatch k w).msCount = s.msCount := rfl
@[simp] theorem setWatch_choices (s : State) (k : RollKind) (w : RollWatch) : (s.setWatch k w).choices = s.choices := rfl
@[simp] theorem setWatch_raised (s : State) (k : RollKind) (w : RollWatch) : (s.setWatch k w).raised = s.raised := rfl
@[simp] theorem setWatch_pending (s : State) (k : RollKind) (w : RollWatch) : (s.setWatch k w).pending = s.pending := rfl
@[simp] theorem setWatch_mem (s : State) (k : RollKind) (w : RollWatch) : (s.setWatch k w).mem = s.mem := rfl
@[simp] theorem setWatch_pub (s : State) (k : RollKind) (w : RollWatch) : (s.setWatch k w).pub = s.pub := rfl
@[simp] theorem setWatch_port (s : State) (k : RollKind) (w : RollWatch) : (s.setWatch k w).port = s.port := rfl
@[simp] theorem setWatch_settings (s : State) (k : RollKind) (w : RollWatch) : (s.setWatch k w).settings = s.settings := rfl
@[simp] theorem setWatch_req (s : State) (k : RollKind) (w : RollWatch) : (s.setWatch k w).req = s.req := rfl
@[simp] theorem setWatch_tallies (s : State) (k : RollKind) (w : RollWatch) : (s.setWatch k w).tallies = s.tallies := rfl
@[simp] theorem setWatch_trail (s : State) (k : RollKind) (w : RollWatch) : (s.setWatch k w).trail = s.trail := rfl
@[simp] theorem setWatch_bypass (s : State) (k : RollKind) (w : RollWatch) : (s.setWatch k w).bypass = s.bypass := rfl
@[simp] theorem setWatch_spanA (s : State) (k : RollKind) (w : RollWatch) : (s.setWatch k w).spanA = s.spanA := rfl
@[simp] theorem setWatch_spanB (s : State) (k : RollKind) (w : RollWatch) : (s.setWatch k w).spanB = s.spanB := rfl
@[simp] theorem setWatch_census (s : State) (k : RollKind) (w : RollWatch) : (s.setWatch k w).census = s.census := rfl
@[simp] theorem setWatch_table (s : State) (k : RollKind) (w : RollWatch) : (s.setWatch k w).table = s.table := rfl
@[simp] theorem setWatch_relay (s : State) (k : RollKind) (w : RollWatch) : (s.setWatch k w).relay = s.relay.setWatch k w := rfl
@[simp] theorem setWatch_door (s : State) (k : RollKind) (w : RollWatch) : (s.setWatch k w).door = s.door := rfl
@[simp] theorem setWatch_heat (s : State) (k : RollKind) (w : RollWatch) : (s.setWatch k w).heat = s.heat := rfl
@[simp] theorem setWatch_fire (s : State) (k : RollKind) (w : RollWatch) : (s.setWatch k w).fire = s.fire := rfl
@[simp] theorem setWatch_mon (s : State) (k : RollKind) (w : RollWatch) : (s.setWatch k w).mon = s.mon := rfl

/-! ## `State.clearAllocations` -/

@[simp] theorem clearAllocations_now (s : State) : (s.clearAllocations).now = s.now := rfl
@[simp] theorem clearAllocations_tickDue (s : State) : (s.clearAllocations).tickDue = s.tickDue := rfl
@[simp] theorem clearAllocations_msCount (s : State) : (s.clearAllocations).msCount = s.msCount := rfl
@[simp] theorem clearAllocations_choices (s : State) : (s.clearAllocations).choices = s.choices := rfl
@[simp] theorem clearAllocations_raised (s : State) : (s.clearAllocations).raised = s.raised := rfl
@[simp] theorem clearAllocations_pending (s : State) : (s.clearAllocations).pending = s.pending := rfl
@[simp] theorem clearAllocations_mem (s : State) : (s.clearAllocations).mem = s.mem := rfl
@[simp] theorem clearAllocations_pub (s : State) : (s.clearAllocations).pub = s.pub := rfl
@[simp] theorem clearAllocations_port (s : State) : (s.clearAllocations).port = s.port := rfl
@[simp] theorem clearAllocations_settings (s : State) : (s.clearAllocations).settings = s.settings := rfl
@[simp] theorem clearAllocations_req (s : State) : (s.clearAllocations).req = s.req := rfl
@[simp] theorem clearAllocations_tallies (s : State) : (s.clearAllocations).tallies = s.tallies := rfl
@[simp] theorem clearAllocations_trail (s : State) : (s.clearAllocations).trail = s.trail := rfl
@[simp] theorem clearAllocations_bypass (s : State) : (s.clearAllocations).bypass = s.bypass := rfl
@[simp] theorem clearAllocations_spanA (s : State) : (s.clearAllocations).spanA = s.spanA := rfl
@[simp] theorem clearAllocations_spanB (s : State) : (s.clearAllocations).spanB = s.spanB := rfl
@[simp] theorem clearAllocations_census (s : State) : (s.clearAllocations).census = s.census := rfl
@[simp] theorem clearAllocations_table (s : State) : (s.clearAllocations).table = s.table := rfl
@[simp] theorem clearAllocations_relay (s : State) : (s.clearAllocations).relay = s.relay := rfl
@[simp] theorem clearAllocations_door (s : State) : (s.clearAllocations).door = s.door := rfl
@[simp] theorem clearAllocations_heat (s : State) : (s.clearAllocations).heat = { s.heat with allocList := [], allocEnd := none } := rfl
@[simp] theorem clearAllocations_fire (s : State) : (s.clearAllocations).fire = s.fire := rfl
@[simp] theorem clearAllocations_mon (s : State) : (s.clearAllocations).mon = s.mon := rfl

/-! ## `State.dropHeldRoll` -/

@[simp] theorem dropHeldRoll_now (s : State) : (s.dropHeldRoll).now = s.now := rfl
@[simp] theorem dropHeldRoll_tickDue (s : State) : (s.dropHeldRoll).tickDue = s.tickDue := rfl
@[simp] theorem dropHeldRoll_msCount (s : State) : (s.dropHeldRoll).msCount = s.msCount := rfl
@[simp] theorem dropHeldRoll_choices (s : State) : (s.dropHeldRoll).choices = s.choices := rfl
@[simp] theorem dropHeldRoll_raised (s : State) : (s.dropHeldRoll).raised = s.raised := rfl
@[simp] theorem dropHeldRoll_pending (s : State) : (s.dropHeldRoll).pending = s.pending := rfl
@[simp] theorem dropHeldRoll_mem (s : State) : (s.dropHeldRoll).mem = s.mem := rfl
@[simp] theorem dropHeldRoll_pub (s : State) : (s.dropHeldRoll).pub = s.pub := rfl
@[simp] theorem dropHeldRoll_port (s : State) : (s.dropHeldRoll).port = s.port := rfl
@[simp] theorem dropHeldRoll_settings (s : State) : (s.dropHeldRoll).settings = s.settings := rfl
@[simp] theorem dropHeldRoll_req (s : State) : (s.dropHeldRoll).req = s.req := rfl
@[simp] theorem dropHeldRoll_tallies (s : State) : (s.dropHeldRoll).tallies = s.tallies := rfl
@[simp] theorem dropHeldRoll_trail (s : State) : (s.dropHeldRoll).trail = s.trail := rfl
@[simp] theorem dropHeldRoll_bypass (s : State) : (s.dropHeldRoll).bypass = s.bypass := rfl
@[simp] theorem dropHeldRoll_spanA (s : State) : (s.dropHeldRoll).spanA = s.spanA := rfl
@[simp] theorem dropHeldRoll_spanB (s : State) : (s.dropHeldRoll).spanB = s.spanB := rfl
@[simp] theorem dropHeldRoll_census (s : State) : (s.dropHeldRoll).census = s.census := rfl
@[simp] theorem dropHeldRoll_table (s : State) : (s.dropHeldRoll).table = s.table := rfl
@[simp] theorem dropHeldRoll_relay (s : State) : (s.dropHeldRoll).relay = s.relay := rfl
@[simp] theorem dropHeldRoll_door (s : State) : (s.dropHeldRoll).door = { s.door with held := none, rollAgeEnd := none, aged := false } := rfl
@[simp] theorem dropHeldRoll_heat (s : State) : (s.dropHeldRoll).heat = s.heat := rfl
@[simp] theorem dropHeldRoll_fire (s : State) : (s.dropHeldRoll).fire = s.fire := rfl
@[simp] theorem dropHeldRoll_mon (s : State) : (s.dropHeldRoll).mon = s.mon := rfl

/-! ## `State.complete` -/

@[simp] theorem complete_now (s : State) (k : Nat) (o : SlotOutcome) (d : Byte) (r : List Byte) : (s.complete k o d r).now = s.now := rfl
@[simp] theorem complete_tickDue (s : State) (k : Nat) (o : SlotOutcome) (d : Byte) (r : List Byte) : (s.complete k o d r).tickDue = s.tickDue := rfl
@[simp] theorem complete_msCount (s : State) (k : Nat) (o : SlotOutcome) (d : Byte) (r : List Byte) : (s.complete k o d r).msCount = s.msCount := rfl
@[simp] theorem complete_choices (s : State) (k : Nat) (o : SlotOutcome) (d : Byte) (r : List Byte) : (s.complete k o d r).choices = s.choices := rfl
@[simp] theorem complete_raised (s : State) (k : Nat) (o : SlotOutcome) (d : Byte) (r : List Byte) : (s.complete k o d r).raised = s.raised := rfl
@[simp] theorem complete_pending (s : State) (k : Nat) (o : SlotOutcome) (d : Byte) (r : List Byte) : (s.complete k o d r).pending = s.pending := rfl
@[simp] theorem complete_pub (s : State) (k : Nat) (o : SlotOutcome) (d : Byte) (r : List Byte) : (s.complete k o d r).pub = s.pub := rfl
@[simp] theorem complete_port (s : State) (k : Nat) (o : SlotOutcome) (d : Byte) (r : List Byte) : (s.complete k o d r).port = s.port := rfl
@[simp] theorem complete_settings (s : State) (k : Nat) (o : SlotOutcome) (d : Byte) (r : List Byte) : (s.complete k o d r).settings = s.settings := rfl
@[simp] theorem complete_req (s : State) (k : Nat) (o : SlotOutcome) (d : Byte) (r : List Byte) : (s.complete k o d r).req = s.req := rfl
@[simp] theorem complete_tallies (s : State) (k : Nat) (o : SlotOutcome) (d : Byte) (r : List Byte) : (s.complete k o d r).tallies = { s.tallies with slot := s.tallies.slot + 1 } := rfl
@[simp] theorem complete_trail (s : State) (k : Nat) (o : SlotOutcome) (d : Byte) (r : List Byte) : (s.complete k o d r).trail = s.trail := rfl
@[simp] theorem complete_bypass (s : State) (k : Nat) (o : SlotOutcome) (d : Byte) (r : List Byte) : (s.complete k o d r).bypass = s.bypass := rfl
@[simp] theorem complete_spanA (s : State) (k : Nat) (o : SlotOutcome) (d : Byte) (r : List Byte) : (s.complete k o d r).spanA = s.spanA := rfl
@[simp] theorem complete_spanB (s : State) (k : Nat) (o : SlotOutcome) (d : Byte) (r : List Byte) : (s.complete k o d r).spanB = s.spanB := rfl
@[simp] theorem complete_census (s : State) (k : Nat) (o : SlotOutcome) (d : Byte) (r : List Byte) : (s.complete k o d r).census = s.census := rfl
@[simp] theorem complete_table (s : State) (k : Nat) (o : SlotOutcome) (d : Byte) (r : List Byte) : (s.complete k o d r).table = s.table := rfl
@[simp] theorem complete_relay (s : State) (k : Nat) (o : SlotOutcome) (d : Byte) (r : List Byte) : (s.complete k o d r).relay = s.relay := rfl
@[simp] theorem complete_door (s : State) (k : Nat) (o : SlotOutcome) (d : Byte) (r : List Byte) : (s.complete k o d r).door = s.door := rfl
@[simp] theorem complete_heat (s : State) (k : Nat) (o : SlotOutcome) (d : Byte) (r : List Byte) : (s.complete k o d r).heat = s.heat := rfl
@[simp] theorem complete_fire (s : State) (k : Nat) (o : SlotOutcome) (d : Byte) (r : List Byte) : (s.complete k o d r).fire = s.fire := rfl
@[simp] theorem complete_mon (s : State) (k : Nat) (o : SlotOutcome) (d : Byte) (r : List Byte) : (s.complete k o d r).mon = s.mon := rfl

/-! ## `State.setSpan` -/

@[simp] theorem setSpan_now (s : State) (x : SpanId) (u : Span) : (s.setSpan x u).now = s.now := by cases x <;> rfl
@[simp] theorem setSpan_tickDue (s : State) (x : SpanId) (u : Span) : (s.setSpan x u).tickDue = s.tickDue := by cases x <;> rfl
@[simp] theorem setSpan_msCount (s : State) (x : SpanId) (u : Span) : (s.setSpan x u).msCount = s.msCount := by cases x <;> rfl
@[simp] theorem setSpan_choices (s : State) (x : SpanId) (u : Span) : (s.setSpan x u).choices = s.choices := by cases x <;> rfl
@[simp] theorem setSpan_raised (s : State) (x : SpanId) (u : Span) : (s.setSpan x u).raised = s.raised := by cases x <;> rfl
@[simp] theorem setSpan_pending (s : State) (x : SpanId) (u : Span) : (s.setSpan x u).pending = s.pending := by cases x <;> rfl
@[simp] theorem setSpan_mem (s : State) (x : SpanId) (u : Span) : (s.setSpan x u).mem = s.mem := by cases x <;> rfl
@[simp] theorem setSpan_pub (s : State) (x : SpanId) (u : Span) : (s.setSpan x u).pub = s.pub := by cases x <;> rfl
@[simp] theorem setSpan_port (s : State) (x : SpanId) (u : Span) : (s.setSpan x u).port = s.port := by cases x <;> rfl
@[simp] theorem setSpan_settings (s : State) (x : SpanId) (u : Span) : (s.setSpan x u).settings = s.settings := by cases x <;> rfl
@[simp] theorem setSpan_req (s : State) (x : SpanId) (u : Span) : (s.setSpan x u).req = s.req := by cases x <;> rfl
@[simp] theorem setSpan_tallies (s : State) (x : SpanId) (u : Span) : (s.setSpan x u).tallies = s.tallies := by cases x <;> rfl
@[simp] theorem setSpan_trail (s : State) (x : SpanId) (u : Span) : (s.setSpan x u).trail = s.trail := by cases x <;> rfl
@[simp] theorem setSpan_bypass (s : State) (x : SpanId) (u : Span) : (s.setSpan x u).bypass = s.bypass := by cases x <;> rfl
@[simp] theorem setSpan_census (s : State) (x : SpanId) (u : Span) : (s.setSpan x u).census = s.census := by cases x <;> rfl
@[simp] theorem setSpan_table (s : State) (x : SpanId) (u : Span) : (s.setSpan x u).table = s.table := by cases x <;> rfl
@[simp] theorem setSpan_relay (s : State) (x : SpanId) (u : Span) : (s.setSpan x u).relay = s.relay := by cases x <;> rfl
@[simp] theorem setSpan_door (s : State) (x : SpanId) (u : Span) : (s.setSpan x u).door = s.door := by cases x <;> rfl
@[simp] theorem setSpan_heat (s : State) (x : SpanId) (u : Span) : (s.setSpan x u).heat = s.heat := by cases x <;> rfl
@[simp] theorem setSpan_fire (s : State) (x : SpanId) (u : Span) : (s.setSpan x u).fire = s.fire := by cases x <;> rfl
@[simp] theorem setSpan_mon (s : State) (x : SpanId) (u : Span) : (s.setSpan x u).mon = s.mon := by cases x <;> rfl

/-! ## `State.setSide` -/

@[simp] theorem setSide_now (s : State) (k : SideId) (d : Side) : (s.setSide k d).now = s.now := by cases k <;> rfl
@[simp] theorem setSide_tickDue (s : State) (k : SideId) (d : Side) : (s.setSide k d).tickDue = s.tickDue := by cases k <;> rfl
@[simp] theorem setSide_msCount (s : State) (k : SideId) (d : Side) : (s.setSide k d).msCount = s.msCount := by cases k <;> rfl
@[simp] theorem setSide_choices (s : State) (k : SideId) (d : Side) : (s.setSide k d).choices = s.choices := by cases k <;> rfl
@[simp] theorem setSide_raised (s : State) (k : SideId) (d : Side) : (s.setSide k d).raised = s.raised := by cases k <;> rfl
@[simp] theorem setSide_pending (s : State) (k : SideId) (d : Side) : (s.setSide k d).pending = s.pending := by cases k <;> rfl
@[simp] theorem setSide_mem (s : State) (k : SideId) (d : Side) : (s.setSide k d).mem = s.mem := by cases k <;> rfl
@[simp] theorem setSide_pub (s : State) (k : SideId) (d : Side) : (s.setSide k d).pub = s.pub := by cases k <;> rfl
@[simp] theorem setSide_port (s : State) (k : SideId) (d : Side) : (s.setSide k d).port = s.port := by cases k <;> rfl
@[simp] theorem setSide_settings (s : State) (k : SideId) (d : Side) : (s.setSide k d).settings = s.settings := by cases k <;> rfl
@[simp] theorem setSide_req (s : State) (k : SideId) (d : Side) : (s.setSide k d).req = s.req := by cases k <;> rfl
@[simp] theorem setSide_tallies (s : State) (k : SideId) (d : Side) : (s.setSide k d).tallies = s.tallies := by cases k <;> rfl
@[simp] theorem setSide_trail (s : State) (k : SideId) (d : Side) : (s.setSide k d).trail = s.trail := by cases k <;> rfl
@[simp] theorem setSide_bypass (s : State) (k : SideId) (d : Side) : (s.setSide k d).bypass = s.bypass := by cases k <;> rfl
@[simp] theorem setSide_spanA (s : State) (k : SideId) (d : Side) : (s.setSide k d).spanA = s.spanA := by cases k <;> rfl
@[simp] theorem setSide_spanB (s : State) (k : SideId) (d : Side) : (s.setSide k d).spanB = s.spanB := by cases k <;> rfl
@[simp] theorem setSide_census (s : State) (k : SideId) (d : Side) : (s.setSide k d).census = s.census := by cases k <;> rfl
@[simp] theorem setSide_table (s : State) (k : SideId) (d : Side) : (s.setSide k d).table = s.table := by cases k <;> rfl
@[simp] theorem setSide_relay (s : State) (k : SideId) (d : Side) : (s.setSide k d).relay = s.relay := by cases k <;> rfl
@[simp] theorem setSide_heat (s : State) (k : SideId) (d : Side) : (s.setSide k d).heat = s.heat := by cases k <;> rfl
@[simp] theorem setSide_fire (s : State) (k : SideId) (d : Side) : (s.setSide k d).fire = s.fire := by cases k <;> rfl
@[simp] theorem setSide_mon (s : State) (k : SideId) (d : Side) : (s.setSide k d).mon = s.mon := by cases k <;> rfl

/-! ## Spans and sides by name -/

@[simp] theorem span_a (s : State) : s.span .a = s.spanA := rfl

@[simp] theorem span_b (s : State) : s.span .b = s.spanB := rfl

@[simp] theorem side_one (s : State) : s.side .one = s.door.side1 := rfl

@[simp] theorem side_two (s : State) : s.side .two = s.door.side2 := rfl

@[simp] theorem setSpan_span (s : State) (x : SpanId) (u : Span) : (s.setSpan x u).span x = u := by cases x <;> rfl

theorem setSpan_span_ne (s : State) (x y : SpanId) (u : Span) (h : y ≠ x) : (s.setSpan x u).span y = s.span y := by
  cases x <;> cases y <;> first | rfl | exact absurd rfl h

@[simp] theorem setSpan_other (s : State) (x : SpanId) (u : Span) : (s.setSpan x u).span (otherSpan x) = s.span (otherSpan x) := by
  cases x <;> rfl

@[simp] theorem setSpan_setSpan (s : State) (x : SpanId) (u v : Span) : (s.setSpan x u).setSpan x v = s.setSpan x v := by
  cases x <;> rfl

@[simp] theorem setSpan_same (s : State) (x : SpanId) : s.setSpan x (s.span x) = s := by cases x <;> rfl

@[simp] theorem setSide_side (s : State) (k : SideId) (d : Side) : (s.setSide k d).side k = d := by cases k <;> rfl

theorem setSide_side_ne (s : State) (k j : SideId) (d : Side) (h : j ≠ k) : (s.setSide k d).side j = s.side j := by
  cases k <;> cases j <;> first | rfl | exact absurd rfl h

@[simp] theorem setSide_setSide (s : State) (k : SideId) (d e : Side) : (s.setSide k d).setSide k e = s.setSide k e := by
  cases k <;> rfl

@[simp] theorem setSide_same (s : State) (k : SideId) : s.setSide k (s.side k) = s := by cases k <;> rfl

/-- The door unit's fields but the two sides. -/
theorem setSide_doorLead (s : State) (k : SideId) (d : Side) :
    (s.setSide k d).door = { s.door with side1 := (s.setSide k d).door.side1, side2 := (s.setSide k d).door.side2 } := by
  cases k <;> rfl

@[simp] theorem advance_span (s : State) (dt : Nat) (x : SpanId) : (s.advance dt).span x = s.span x := by cases x <;> rfl

@[simp] theorem advance_side (s : State) (dt : Nat) (k : SideId) : (s.advance dt).side k = s.side k := by cases k <;> rfl

@[simp] theorem raise_span (s : State) (g : Nat) (e : Event) (x : SpanId) : (s.raise g e).span x = s.span x := by cases x <;> rfl

@[simp] theorem raise_side (s : State) (g : Nat) (e : Event) (k : SideId) : (s.raise g e).side k = s.side k := by cases k <;> rfl

@[simp] theorem setSpan_side (s : State) (x : SpanId) (u : Span) (k : SideId) : (s.setSpan x u).side k = s.side k := by
  cases x <;> cases k <;> rfl

@[simp] theorem setSide_span (s : State) (k : SideId) (d : Side) (x : SpanId) : (s.setSide k d).span x = s.span x := by
  cases x <;> cases k <;> rfl

@[simp] theorem setCensus_span (s : State) (c : Census) (x : SpanId) : (s.setCensus c).span x = s.span x := by cases x <;> rfl

@[simp] theorem setCensus_side (s : State) (c : Census) (k : SideId) : (s.setCensus c).side k = s.side k := by cases k <;> rfl

@[simp] theorem complete_span (s : State) (k : Nat) (o : SlotOutcome) (d : Byte) (r : List Byte) (x : SpanId) :
    (s.complete k o d r).span x = s.span x := by cases x <;> rfl

@[simp] theorem complete_side (s : State) (k : Nat) (o : SlotOutcome) (d : Byte) (r : List Byte) (j : SideId) :
    (s.complete k o d r).side j = s.side j := by cases j <;> rfl

@[simp] theorem Stages.get_set {α : Type} (v : Stages α) (i : Fin 4) (a : α) : (v.set i a).get i = a := by
  match i with
  | 0 => rfl
  | 1 => rfl
  | 2 => rfl
  | 3 => rfl

@[simp] theorem Relay.watch_setWatch (r : Relay) (k : RollKind) (w : RollWatch) : (r.setWatch k w).watch k = w := by cases k <;> rfl

end Sys2Proof.Machine
end

