-- ==== Sys2Proof/Laws/Memory.lean ====
section
/-!
SUPPORT. The exchange memory (R155): reads after writes, and that every memory operation keeps the canonical form.
-/

namespace Sys2Proof.Machine

/-! ## The canonical form -/

theorem Memory.wf_cons {k : Nat} {v : Byte} {m : Memory} :
    Memory.wf ((k, v) :: m) = true ↔ v ≠ 0 ∧ (∀ c ∈ m, k < c.1) ∧ m.wf = true := by
  induction m generalizing k v with
  | nil => simp [Memory.wf]
  | cons p m ih =>
    obtain ⟨k', v'⟩ := p
    rw [show Memory.wf ((k, v) :: (k', v') :: m) = (v != 0 && decide (k < k') && Memory.wf ((k', v') :: m)) from rfl]
    simp only [Bool.and_eq_true, bne_iff_ne, ne_eq, decide_eq_true_eq, List.mem_cons, forall_eq_or_imp]
    constructor
    · rintro ⟨⟨hv, hk⟩, hw⟩
      refine ⟨hv, ⟨hk, fun c hc => ?_⟩, hw⟩
      have := (ih.mp hw).2.1 c hc
      omega
    · rintro ⟨hv, ⟨hk, _⟩, hw⟩
      exact ⟨⟨hv, hk⟩, hw⟩

/-- An address that no entry lists reads 0. -/
theorem Memory.read_unlisted (b : Nat) : ∀ m : Memory, (∀ c ∈ m, c.1 ≠ b) → m.read b = 0
  | [], _ => rfl
  | (k, v) :: m, h => by
    have h1 : ¬ k = b := h (k, v) (List.mem_cons_self ..)
    simp only [Memory.read, h1, if_false]
    exact Memory.read_unlisted b m fun c hc => h c (List.mem_cons_of_mem _ hc)

/-- The addresses listed after a write. -/
theorem Memory.mem_write (a : Nat) (v : Byte) : ∀ (m : Memory) (c : Host.Cell), c ∈ m.write a v → c ∈ m ∨ c = (a, v)
  | [], c, h => by
    simp only [Memory.write] at h
    split at h
    · cases h
    · exact Or.inr (by simpa using h)
  | (k, w) :: m, c, h => by
    simp only [Memory.write] at h
    split at h
    · split at h
      · exact Or.inl h
      · rcases List.mem_cons.mp h with h | h
        · exact Or.inr h
        · exact Or.inl h
    · split at h
      · split at h
        · exact Or.inl (List.mem_cons_of_mem _ h)
        · rcases List.mem_cons.mp h with h | h
          · exact Or.inr h
          · exact Or.inl (List.mem_cons_of_mem _ h)
      · rcases List.mem_cons.mp h with h | h
        · exact Or.inl (h ▸ List.mem_cons_self ..)
        · rcases Memory.mem_write a v m c h with h | h
          · exact Or.inl (List.mem_cons_of_mem _ h)
          · exact Or.inr h

/-- A write keeps the canonical form. -/
theorem Memory.wf_write (a : Nat) (v : Byte) : ∀ m : Memory, m.wf = true → (m.write a v).wf = true
  | [], _ => by
    unfold Memory.write
    split
    · rfl
    · simpa [Memory.wf] using ‹¬ v = 0›
  | (k, w) :: m, h => by
    obtain ⟨hw, hk, hm⟩ := Memory.wf_cons.mp h
    unfold Memory.write
    split
    · rename_i hlt
      split
      · exact h
      · refine Memory.wf_cons.mpr ⟨‹¬ v = 0›, fun c hc => ?_, h⟩
        rcases List.mem_cons.mp hc with rfl | hc
        · exact hlt
        · have := hk c hc; omega
    · split
      · rename_i ha
        split
        · exact hm
        · exact Memory.wf_cons.mpr ⟨‹¬ v = 0›, fun c hc => ha ▸ hk c hc, hm⟩
      · refine Memory.wf_cons.mpr ⟨hw, fun c hc => ?_, Memory.wf_write a v m hm⟩
        rcases Memory.mem_write a v m c hc with hc | rfl
        · exact hk c hc
        · show k < a; omega

/-- A read after a write. -/
theorem Memory.read_write (a b : Nat) (v : Byte) : ∀ m : Memory, m.wf = true →
    (m.write a v).read b = if b = a then v else m.read b
  | [], _ => by
    unfold Memory.write
    split
    · rename_i hv; split <;> simp [Memory.read, hv]
    · by_cases h : b = a
      · simp [Memory.read, h]
      · have : ¬ a = b := fun e => h e.symm
        simp [Memory.read, h, this]
  | (k, w) :: m, hwf => by
    obtain ⟨hw, hk, hm⟩ := Memory.wf_cons.mp hwf
    have low : ∀ c : Nat, c ≤ k → Memory.read m c = 0 := fun c hc =>
      Memory.read_unlisted c m fun d hd => by have := hk d hd; omega
    unfold Memory.write
    by_cases hba : b = a
    · subst hba
      rw [if_pos rfl]
      split
      · split
        · rename_i hlt hv
          have : ¬ k = b := by omega
          simp [Memory.read, this, hv, low b (by omega)]
        · simp [Memory.read]
      · split
        · rename_i hkb
          split
          · rename_i hv; rw [hv]; exact low b (by omega)
          · simp [Memory.read]
        · have : ¬ k = b := by omega
          simp [Memory.read, this, Memory.read_write b b v m hm]
    · rw [if_neg hba]
      have hab : ¬ a = b := fun e => hba e.symm
      split
      · split
        · rfl
        · simp [Memory.read, hab]
      · split
        · rename_i hak
          have hkb : ¬ k = b := by omega
          split
          · simp [Memory.read, hkb]
          · simp [Memory.read, hab, hkb]
        · by_cases hkb : k = b
          · simp [Memory.read, hkb]
          · simp [Memory.read, hkb, Memory.read_write a b v m hm, hba]

/-- A write of the byte that is there changes nothing. -/
theorem Memory.write_read (a : Nat) : ∀ m : Memory, m.wf = true → m.write a (m.read a) = m
  | [], _ => by simp [Memory.read, Memory.write]
  | (k, w) :: m, hwf => by
    obtain ⟨hw, hk, hm⟩ := Memory.wf_cons.mp hwf
    rw [show Memory.read ((k, w) :: m) a = if k = a then w else Memory.read m a from rfl]
    unfold Memory.write
    by_cases h1 : a < k
    · have h0 : Memory.read m a = 0 := Memory.read_unlisted a m fun d hd => by have := hk d hd; omega
      rw [if_neg (show ¬ k = a by omega), if_pos h1, if_pos h0]
    · by_cases h2 : a = k
      · rw [if_pos h2.symm, if_neg h1, if_pos h2, if_neg hw, h2]
      · rw [if_neg (show ¬ k = a by omega), if_neg h1, if_neg h2, Memory.write_read a m hm]

/-- Two memories in canonical form that read the same everywhere are equal. -/
theorem Memory.ext_read : ∀ m n : Memory, m.wf = true → n.wf = true → (∀ a : Nat, m.read a = n.read a) → m = n
  | [], [], _, _, _ => rfl
  | [], (k, w) :: n, _, hn, h => by
    have := h k
    simp [Memory.read] at this
    exact absurd this.symm (Memory.wf_cons.mp hn).1
  | (k, w) :: m, [], hm, _, h => by
    have := h k
    simp [Memory.read] at this
    exact absurd this (Memory.wf_cons.mp hm).1
  | (k, w) :: m, (k', w') :: n, hm, hn, h => by
    obtain ⟨hw, hk, hmw⟩ := Memory.wf_cons.mp hm
    obtain ⟨hw', hk', hnw⟩ := Memory.wf_cons.mp hn
    have low : ∀ c : Nat, c ≤ k → Memory.read m c = 0 := fun c hc =>
      Memory.read_unlisted c m fun d hd => by have := hk d hd; omega
    have low' : ∀ c : Nat, c ≤ k' → Memory.read n c = 0 := fun c hc =>
      Memory.read_unlisted c n fun d hd => by have := hk' d hd; omega
    have e : k = k' := by
      rcases Nat.lt_trichotomy k k' with hlt | he | hlt
      · have h1 := h k
        have : ¬ k' = k := by omega
        simp [Memory.read, this, low' k (by omega)] at h1
        exact absurd h1 hw
      · exact he
      · have h1 := h k'
        have : ¬ k = k' := by omega
        simp [Memory.read, this, low k' (by omega)] at h1
        exact absurd h1.symm hw'
    subst e
    have ew : w = w' := by simpa [Memory.read] using h k
    subst ew
    congr 1
    refine Memory.ext_read m n hmw hnw fun a => ?_
    by_cases ha : k = a
    · subst ha; rw [low k (by omega), low' k (by omega)]
    · simpa [Memory.read, ha] using h a

/-! ## Lists of bytes -/

theorem Memory.wf_writeList : ∀ (bs : List Byte) (m : Memory) (a : Nat), m.wf = true → (m.writeList a bs).wf = true
  | [], _, _, h => h
  | b :: bs, m, a, h => Memory.wf_writeList bs (m.write a b) (a + 1) (Memory.wf_write a b m h)

/-- A read after a list of bytes was written. -/
theorem Memory.read_writeList (c : Nat) : ∀ (bs : List Byte) (m : Memory) (a : Nat), m.wf = true →
    (m.writeList a bs).read c = if a ≤ c ∧ c < a + bs.length then byteAt bs (c - a) else m.read c
  | [], m, a, _ => by
    rw [if_neg (by simp only [List.length_nil]; omega)]
    rfl
  | b :: bs, m, a, h => by
    rw [Memory.writeList, Memory.read_writeList c bs _ _ (Memory.wf_write a b m h), Memory.read_write a c b m h]
    by_cases h1 : c = a
    · subst h1
      have h2 : ¬ (c + 1 ≤ c ∧ c < c + 1 + bs.length) := by omega
      rw [if_neg h2, if_pos rfl, if_pos (by simp only [List.length_cons]; omega), Nat.sub_self]
      rfl
    · by_cases h2 : a + 1 ≤ c ∧ c < a + 1 + bs.length
      · have h3 : a ≤ c ∧ c < a + (b :: bs).length := by simp only [List.length_cons]; omega
        rw [if_pos h2, if_pos h3]
        obtain ⟨d, rfl⟩ : ∃ d, c = a + 1 + d := ⟨c - (a + 1), by omega⟩
        have e1 : a + 1 + d - (a + 1) = d := by omega
        have e2 : a + 1 + d - a = d + 1 := by omega
        rw [e1, e2]
        rfl
      · have h3 : ¬ (a ≤ c ∧ c < a + (b :: bs).length) := by simp only [List.length_cons]; omega
        rw [if_neg h2, if_neg h3, if_neg h1]

@[simp] theorem Memory.length_readList (m : Memory) (a n : Nat) : (m.readList a n).length = n := by
  simp [Memory.readList]

theorem Memory.readList_congr {m m' : Memory} {a n : Nat} (h : ∀ c : Nat, a ≤ c → c < a + n → m.read c = m'.read c) :
    m.readList a n = m'.readList a n := by
  refine List.map_congr_left fun i hi => h (a + i) (by omega) ?_
  have := List.mem_range.mp hi
  omega

/-- The list that was written is read back. -/
theorem Memory.readList_writeList (bs : List Byte) (m : Memory) (a : Nat) (h : m.wf = true) :
    (m.writeList a bs).readList a bs.length = bs := by
  refine List.ext_getElem (by simp) fun i h1 h2 => ?_
  have h3 : a ≤ a + i ∧ a + i < a + bs.length := by omega
  simp [Memory.readList, Memory.read_writeList (a + i) bs m a h, h2, byteAt]

/-! ## The operations of the state that write memory -/

theorem setSlotState_wf (s : State) (k : Nat) (b : Byte) (h : s.mem.wf = true) : (s.setSlotState k b).mem.wf = true :=
  Memory.wf_write _ _ _ h

@[simp] theorem length_resultBytes (l : List Byte) : (resultBytes l).length = 32 := by
  simp [resultBytes]

theorem complete_wf (s : State) (k : Nat) (o : SlotOutcome) (d : Byte) (r : List Byte) (h : s.mem.wf = true) :
    (s.complete k o d r).mem.wf = true :=
  Memory.wf_write _ _ _ (Memory.wf_writeList _ _ _ (Memory.wf_writeList _ _ _ h))

/-- The memory after a completion, byte by byte (R168). -/
theorem complete_read (s : State) (k : Nat) (o : SlotOutcome) (d : Byte) (r : List Byte) (h : s.mem.wf = true) (a : Nat) :
    (s.complete k o d r).mem.read a =
      if a = slotBase k then 3
      else if slotBase k + 32 ≤ a ∧ a < slotBase k + 64 then byteAt (resultBytes r) (a - (slotBase k + 32))
      else if a = slotBase k + 4 then o.code
      else if a = slotBase k + 5 then d
      else s.mem.read a := by
  unfold State.complete
  simp only
  rw [Memory.read_write _ _ _ _ (Memory.wf_writeList _ _ _ (Memory.wf_writeList _ _ _ h)),
    Memory.read_writeList _ _ _ _ (Memory.wf_writeList _ _ _ h), Memory.read_writeList _ _ _ _ h, length_resultBytes]
  generalize slotBase k = b
  rw [show b + 32 + 32 = b + 64 from rfl, show b + 4 + [o.code, d].length = b + 6 from rfl]
  by_cases h0 : a = b
  · simp only [h0, if_true, slotDone]
  · by_cases h1 : b + 32 ≤ a ∧ a < b + 64
    · simp only [h0, h1, if_false, if_true, and_self]
    · simp only [h0, h1, if_false]
      by_cases h2 : a = b + 4
      · subst h2
        rw [if_pos (by omega), if_pos rfl, Nat.sub_self]
        rfl
      · by_cases h3 : a = b + 5
        · subst h3
          rw [if_pos (by omega), if_neg h2, if_pos rfl, show b + 5 - (b + 4) = 1 by omega]
          rfl
        · rw [if_neg (by omega), if_neg h2, if_neg h3]

theorem writeEvent_wf (s : State) (e : Event) (h : s.mem.wf = true) : (s.writeEvent e).mem.wf = true := by
  unfold State.writeEvent
  split
  · exact Memory.wf_writeList _ _ _ h
  · exact h

theorem logged_wf (es : List Event) : ∀ s : State, s.mem.wf = true → (s.logged es).mem.wf = true := by
  induction es with
  | nil => exact fun _ h => h
  | cons e es ih => exact fun s h => ih (s.writeEvent e) (writeEvent_wf s e h)

/-- The trail writer writes one record's 16 bytes and no other byte (R170). -/
theorem writeEvent_read (s : State) (e : Event) (h : s.mem.wf = true) (a : Nat) :
    (s.writeEvent e).mem.read a =
      if s.trail.held < 128 ∧ trailAddress s.trail.next ≤ a ∧ a < trailAddress s.trail.next + 16 then
        byteAt (e.record s.trail.next s.msCount) (a - trailAddress s.trail.next)
      else s.mem.read a := by
  have hl : (e.record s.trail.next s.msCount).length = 16 := rfl
  unfold State.writeEvent
  split
  · rename_i hh
    simp only [hh, true_and]
    rw [Memory.read_writeList _ _ _ _ h, hl]
  · rename_i hh
    simp [hh]

theorem reset_mem_wf : State.reset.mem.wf = true := rfl

end Sys2Proof.Machine
end

