-- ==== Sys2Proof/Laws/Settle.lean ====
section
/-!
SUPPORT. What the end of a step does: the order in which the trail writer takes the events (R170), and the published
blocks. Later proofs cite `settle_settles` and `run_settles` instead of unfolding `State.settle`.
-/

namespace Sys2Proof.Machine

theorem groupEvents_all (k g : Nat) (l : List Raised) (h : ∀ x ∈ l, x.group = g) :
    groupEvents k l = if g = k then l.map (fun r => r.event) else [] := by
  unfold groupEvents
  split
  · rename_i hk; rw [List.filter_eq_self.mpr fun x hx => by simp [h x hx, hk]]
  · rename_i hk; simpa using fun x hx => by simpa [h x hx] using hk

/-- Taking a group out leaves the events of every other group. -/
theorem groupEvents_without (k g : Nat) (l : List Raised) (h : g ≠ k) :
    groupEvents k (l.filter fun x => x.group != g) = groupEvents k l := by
  unfold groupEvents
  rw [List.filter_filter]
  congr 1
  refine List.filter_congr fun x _ => ?_
  by_cases hx : x.group = k
  · simpa [hx] using fun e : k = g => h e.symm
  · simp [hx]

theorem eventOrder_perm : ∀ (fuel c : Nat) (l : List Raised),
    (eventOrder fuel c l).Perm (l.map fun r => r.event)
  | 0, c, l => by simp [eventOrder]
  | fuel + 1, c, [] => by simp [eventOrder]
  | fuel + 1, c, r :: rest => by
    unfold eventOrder
    split
    · exact List.Perm.refl _
    · refine ((eventOrder_perm fuel (c + 1) _).append_left _).trans ?_
      rw [groupEvents, ← List.map_append]
      exact (List.filter_append_perm (fun x : Raised => x.group == _) (r :: rest)).map _

/-- The events of a group stand together in the order of writing, as they were raised (R170). -/
theorem eventOrder_group (k : Nat) : ∀ (fuel c : Nat) (l : List Raised), l.length ≤ fuel →
    groupEvents k l <:+: eventOrder fuel c l
  | 0, c, l, h => by simp [List.length_eq_zero_iff.mp (Nat.le_zero.mp h), eventOrder, groupEvents]
  | fuel + 1, c, [], _ => by simp [eventOrder, groupEvents]
  | fuel + 1, c, r :: rest, h => by
    unfold eventOrder
    split
    · rename_i hall
      rw [groupEvents_all k r.group (r :: rest) (by simpa [List.all_eq_true] using hall)]
      split
      · exact List.infix_rfl
      · exact List.nil_infix
    · let x := (r :: rest).getD (Config.choice c % (rest.length + 1)) r
      have hx : x ∈ r :: rest := by
        have hi : Config.choice c % (rest.length + 1) < (r :: rest).length := Nat.mod_lt _ (by simp)
        simp only [x, List.getD_eq_getElem _ _ hi, List.getElem_mem]
      by_cases hk : x.group = k
      · rw [← hk]; exact List.infix_append_of_infix_left List.infix_rfl
      · have hl : ((r :: rest).filter fun y => y.group != x.group).length < (r :: rest).length :=
          List.length_filter_lt_length_iff_exists.mpr ⟨x, hx, by simp⟩
        have ih := eventOrder_group k fuel (c + 1) ((r :: rest).filter fun y => y.group != x.group) (by omega)
        rw [groupEvents_without k x.group _ hk] at ih
        exact List.infix_append_of_infix_right ih

theorem drawTogether_perm {α : Type} (p : α → Bool) : ∀ l : List α, (drawTogether p l).Perm l
  | [] => .refl _
  | x :: l => by
    unfold drawTogether
    split
    · exact (List.filter_append_perm p l).cons x
    · exact (drawTogether_perm p l).cons x

/-- The elements drawn together stand one after the other. -/
theorem drawTogether_filter {α : Type} (p : α → Bool) : ∀ l : List α,
    (drawTogether p l).filter p <:+: drawTogether p l
  | [] => List.infix_rfl
  | x :: l => by
    unfold drawTogether
    split
    · rename_i hx
      have : l.filter (fun y => !p y && p y) = [] := by simp
      rw [List.filter_append, List.filter_filter, List.filter_congr (q := fun y => !p y && p y)
        (fun y _ => Bool.and_comm ..), this, List.append_nil, List.filter_cons_of_pos hx, List.filter_filter]
      simpa using (List.prefix_append (x :: l.filter p) _).isInfix
    · rename_i hx
      rw [List.filter_cons_of_neg hx]
      exact List.infix_cons (drawTogether_filter p l)

theorem drawTogether_prefix {α : Type} (p : α → Bool) (g : List α) (hg : ∀ e ∈ g, p e = false) : ∀ l : List α,
    g <+: l → g <+: drawTogether p l := by
  induction g with
  | nil => exact fun _ _ => List.nil_prefix
  | cons y g ih =>
    intro l h
    cases l with
    | nil => simp at h
    | cons x l =>
      obtain ⟨rfl, ht⟩ := List.cons_prefix_cons.mp h
      have hy : p y = false := hg y (by simp)
      simpa [drawTogether, hy] using ih (fun e he => hg e (List.mem_cons_of_mem _ he)) l ht

/-- A group of which all or none is drawn together stays together. -/
theorem drawTogether_infix {α : Type} (p : α → Bool) (g : List α) (b : Bool) (hg : ∀ e ∈ g, p e = b) : ∀ l : List α,
    g <:+: l → g <:+: drawTogether p l
  | [], h => h
  | x :: l, h => by
    have hf := h.filter (fun y => p y == b)
    rw [List.filter_eq_self.mpr fun e he => by simp [hg e he]] at hf
    by_cases hx : p x = true
    · rw [drawTogether, if_pos hx]
      cases b with
      | true => exact List.infix_append_of_infix_left (by simpa [hx] using hf)
      | false => exact List.infix_append_of_infix_right (by simpa [hx] using hf)
    · rw [drawTogether, if_neg hx]
      rcases List.infix_cons_iff.mp h with hp | hi
      · cases g with
        | nil => exact List.nil_infix
        | cons y g =>
          obtain ⟨rfl, ht⟩ := List.cons_prefix_cons.mp hp
          have hb : b = false := by rw [← hg y (by simp)]; simpa using hx
          subst hb
          exact (List.cons_prefix_cons.mpr
            ⟨rfl, drawTogether_prefix p g (fun e he => hg e (List.mem_cons_of_mem _ he)) l ht⟩).isInfix
      · exact List.infix_cons (drawTogether_infix p g b hg l hi)

/-- What the order of writing is: all the events raised, each group in its own order and together, and the door unit's
events together (R170). -/
theorem writingOrder_perm (s : State) : s.writingOrder.Perm (s.raised.map fun r => r.event) :=
  (drawTogether_perm _ _).trans (eventOrder_perm ..)

theorem writingOrder_group (s : State) (k : Nat) (g : List Event) (b : Bool) (hg : g <:+: groupEvents k s.raised)
    (hb : ∀ e ∈ g, e.ofDoorUnit = b) : g <:+: s.writingOrder :=
  drawTogether_infix _ g b hb _ (hg.trans (eventOrder_group k _ _ _ le_rfl))

theorem writingOrder_door (s : State) : s.writingOrder.filter Event.ofDoorUnit <:+: s.writingOrder :=
  drawTogether_filter ..

/-! ## What the end of a step leaves -/

theorem writeEvent_besides (s : State) (e : Event) : (s.writeEvent e).besides = s.besides := by
  unfold State.writeEvent; split <;> rfl

theorem logged_besides (es : List Event) : ∀ s : State, (s.logged es).besides = s.besides := by
  induction es with
  | nil => intro s; rfl
  | cons e es ih => intro s; exact (ih (s.writeEvent e)).trans (writeEvent_besides s e)

theorem writeEvent_rest (s : State) (e : Event) : (s.writeEvent e).pub = s.pub ∧
    (s.writeEvent e).door.summary = s.door.summary ∧ (s.writeEvent e).raised = s.raised ∧
    (s.writeEvent e).tallies.slot = s.tallies.slot ∧ (s.writeEvent e).tallies.fault = s.tallies.fault := by
  unfold State.writeEvent; split <;> exact ⟨rfl, rfl, rfl, rfl, rfl⟩

theorem logged_rest (es : List Event) : ∀ s : State, (s.logged es).pub = s.pub ∧
    (s.logged es).door.summary = s.door.summary ∧ (s.logged es).raised = s.raised ∧
    (s.logged es).tallies.slot = s.tallies.slot ∧ (s.logged es).tallies.fault = s.tallies.fault := by
  induction es with
  | nil => intro s; exact ⟨rfl, rfl, rfl, rfl, rfl⟩
  | cons e es ih =>
    intro s
    obtain ⟨a, b, c, d, f⟩ := ih (s.writeEvent e)
    obtain ⟨a', b', c', d', f'⟩ := writeEvent_rest s e
    exact ⟨a.trans a', b.trans b', c.trans c', d.trans d', f.trans f'⟩

/-- The trail writer reads the memory, its own items, TRAIL_TALLY and the millisecond count. -/
theorem logged_congr (es : List Event) : ∀ s u : State, s.mem = u.mem → s.trail = u.trail →
    s.tallies.trail = u.tallies.trail → s.msCount = u.msCount →
    (s.logged es).mem = (u.logged es).mem ∧ (s.logged es).trail = (u.logged es).trail ∧
      (s.logged es).tallies.trail = (u.logged es).tallies.trail := by
  induction es with
  | nil => intro s u h1 h2 h3 _; exact ⟨h1, h2, h3⟩
  | cons e es ih =>
    intro s u h1 h2 h3 h4
    refine ih (s.writeEvent e) (u.writeEvent e) ?_ ?_ ?_ ?_
    · simp only [State.writeEvent, h1, h2, h4]; split <;> simp
    · simp only [State.writeEvent, h2, h4]; split <;> simp
    · simp only [State.writeEvent, h2, h3, h4]; split <;> simp [h3]
    · simp only [State.writeEvent]; split <;> split <;> simp [h4]

theorem recompute_besides (s : State) : ({ s.recompute with raised := [] } : State).besides = s.besides := by
  unfold State.recompute; simp only; split <;> rfl

theorem recompute_rest (s : State) : s.recompute.mem = s.mem ∧ s.recompute.trail = s.trail ∧ s.recompute.tallies = s.tallies ∧
    s.recompute.pub = s.pub ∧ s.recompute.choices = s.choices ∧ s.recompute.msCount = s.msCount ∧
    s.recompute.door.summary = s.summaryNow := by
  unfold State.recompute; simp only; split <;> exact ⟨rfl, rfl, rfl, rfl, rfl, rfl, rfl⟩

theorem recompute_raised (s : State) : (s.recompute.raised.map fun r => r.event) =
    (s.raised.map fun r => r.event) ++ s.summaryEvents := by
  have h : ({ s with raised := [] } : State).summaryNow = s.summaryNow := rfl
  unfold State.summaryEvents State.recompute
  simp only [h]
  split <;> simp [State.raise]

theorem recompute_group (k : Nat) (s : State) : groupEvents k s.raised <:+: groupEvents k s.recompute.raised := by
  unfold State.recompute
  simp only
  split
  · simp only [State.raise, groupEvents, List.filter_append, List.map_append]
    exact List.infix_append_of_infix_left List.infix_rfl
  · exact List.infix_rfl

theorem publishImage_keeps (s : State) : s.publishImage.besides = s.besides ∧ s.publishImage.mem = s.mem ∧
    s.publishImage.trail = s.trail ∧ s.publishImage.tallies.trail = s.tallies.trail ∧
    s.publishImage.tallies.slot = s.tallies.slot ∧ s.publishImage.tallies.fault = s.tallies.fault ∧
    s.publishImage.raised = s.raised ∧ s.publishImage.door = s.door ∧ s.publishImage.pub.image = s.imageBytes ∧
    s.publishImage.pub.door = s.pub.door ∧ s.publishImage.pub.heat = s.pub.heat ∧
    s.publishImage.pub.readings = s.pub.readings ∧ s.publishImage.pub.fire = s.pub.fire := by
  unfold State.publishImage
  split
  · rename_i h; simp [h]
  · exact ⟨rfl, rfl, rfl, rfl, rfl, rfl, rfl, rfl, rfl, rfl, rfl, rfl, rfl⟩

theorem publishDoor_keeps (s : State) : s.publishDoor.besides = s.besides ∧ s.publishDoor.mem = s.mem ∧
    s.publishDoor.trail = s.trail ∧ s.publishDoor.tallies.trail = s.tallies.trail ∧
    s.publishDoor.tallies.slot = s.tallies.slot ∧ s.publishDoor.tallies.fault = s.tallies.fault ∧
    s.publishDoor.raised = s.raised ∧ s.publishDoor.door = s.door ∧ s.publishDoor.pub.door = s.doorBytes ∧
    s.publishDoor.pub.image = s.pub.image ∧ s.publishDoor.pub.heat = s.pub.heat ∧
    s.publishDoor.pub.readings = s.pub.readings ∧ s.publishDoor.pub.fire = s.pub.fire := by
  unfold State.publishDoor
  split
  · rename_i h; simp [h]
  · exact ⟨rfl, rfl, rfl, rfl, rfl, rfl, rfl, rfl, rfl, rfl, rfl, rfl, rfl⟩

theorem publishHeat_keeps (s : State) : s.publishHeat.besides = s.besides ∧ s.publishHeat.mem = s.mem ∧
    s.publishHeat.trail = s.trail ∧ s.publishHeat.tallies.trail = s.tallies.trail ∧
    s.publishHeat.tallies.slot = s.tallies.slot ∧ s.publishHeat.tallies.fault = s.tallies.fault ∧
    s.publishHeat.raised = s.raised ∧ s.publishHeat.door = s.door ∧ s.publishHeat.pub.heat = s.heatBytes ∧
    s.publishHeat.pub.image = s.pub.image ∧ s.publishHeat.pub.door = s.pub.door ∧
    s.publishHeat.pub.readings = s.pub.readings ∧ s.publishHeat.pub.fire = s.pub.fire := by
  unfold State.publishHeat
  generalize s.heatBytes = b
  generalize (if heatTallyBytes b = heatTallyBytes s.pub.heat then s.tallies.heat else s.tallies.heat + 1) = w
  split
  · rename_i h; simp [h]
  · exact ⟨rfl, rfl, rfl, rfl, rfl, rfl, rfl, rfl, rfl, rfl, rfl, rfl, rfl⟩

theorem publishReadings_keeps (s : State) : s.publishReadings.besides = s.besides ∧ s.publishReadings.mem = s.mem ∧
    s.publishReadings.trail = s.trail ∧ s.publishReadings.tallies = s.tallies ∧
    s.publishReadings.raised = s.raised ∧ s.publishReadings.door = s.door ∧
    s.publishReadings.pub.readings = s.readingsBytes ∧ s.publishReadings.pub.image = s.pub.image ∧
    s.publishReadings.pub.door = s.pub.door ∧ s.publishReadings.pub.heat = s.pub.heat ∧
    s.publishReadings.pub.fire = s.pub.fire := by
  unfold State.publishReadings
  split
  · rename_i h; simp [h]
  · exact ⟨rfl, rfl, rfl, rfl, rfl, rfl, rfl, rfl, rfl, rfl, rfl⟩

/-- The views read nothing that the end of a step writes, but the summary in the door board. -/
theorem imageBytes_besides (s : State) : s.imageBytes = s.besides.imageBytes := rfl

theorem heatBytes_besides (s : State) : s.heatBytes = s.besides.heatBytes := rfl

theorem readingsBytes_besides (s : State) : s.readingsBytes = s.besides.readingsBytes := rfl

theorem summaryNow_besides (s : State) : s.summaryNow = s.besides.summaryNow := rfl

theorem doorBytes_besides (s : State) : s.doorBytes =
    ({ s.besides with door := { s.besides.door with summary := s.door.summary } } : State).doorBytes := rfl

theorem flush_keeps (s : State) :
    s.flush.besides = ({ s with raised := [] } : State).besides ∧ s.flush.raised = [] ∧
    s.flush.mem = (s.logged s.writingOrder).mem ∧ s.flush.trail = (s.logged s.writingOrder).trail ∧
    s.flush.tallies.trail = (s.logged s.writingOrder).tallies.trail ∧ s.flush.tallies.slot = s.tallies.slot ∧
    s.flush.tallies.fault = s.tallies.fault ∧ s.flush.pub = s.pub ∧ s.flush.door.summary = s.door.summary := by
  have hb := logged_besides s.writingOrder { s with raised := [] }
  have hr := logged_rest s.writingOrder { s with raised := [] }
  have hc := logged_congr s.writingOrder { s with raised := [] } s rfl rfl rfl rfl
  have hf : s.flush =
      { ({ s with raised := [] } : State).logged s.writingOrder with choices := s.choices + s.raised.length } := rfl
  rw [hf]
  exact ⟨hb, hr.2.2.1, hc.1, hc.2.1, hc.2.2, hr.2.2.2.1, hr.2.2.2.2, hr.1, hr.2.1⟩

/-- The end of a step writes the published blocks, the memory, the trail, the tallies and the door summary, nothing else. -/
theorem settle_besides (v : State) : v.settle.besides = v.besides := by
  have f1 := (flush_keeps v.recompute).1
  unfold State.settle
  rw [(publishReadings_keeps _).1, (publishHeat_keeps _).1, (publishDoor_keeps _).1, (publishImage_keeps _).1, f1,
    recompute_besides]

theorem besides_span (v : State) (x : SpanId) : v.besides.span x = v.span x := by cases x <;> rfl

@[simp] theorem settle_span (v : State) (x : SpanId) : v.settle.span x = v.span x := by
  rw [← besides_span v.settle, settle_besides, besides_span]

/-- The end of a step, whatever the state: `Settles` holds of the events raised, group by group, where each group is the
door unit's or none of its events is. -/
theorem settle_settles (v : State) (groups : List (List Event)) (hp : groups.flatten.Perm (v.raised.map fun r => r.event))
    (hg : ∀ g ∈ groups, (∃ k, g <:+: groupEvents k v.raised) ∧ ∃ b, ∀ e ∈ g, e.ofDoorUnit = b) :
    Settles { v with raised := [] } groups v.settle := by
  obtain ⟨f1, f2, f3, f4, f5, f6, f7, f8, f9⟩ := flush_keeps v.recompute
  obtain ⟨r1, r2, r3, r4, r5, r6, r7⟩ := recompute_rest v
  have i := publishImage_keeps v.recompute.flush
  have d := publishDoor_keeps v.recompute.flush.publishImage
  have h := publishHeat_keeps v.recompute.flush.publishImage.publishDoor
  have m := publishReadings_keeps v.recompute.flush.publishImage.publishDoor.publishHeat
  have hs : v.settle = v.recompute.flush.publishImage.publishDoor.publishHeat.publishReadings := rfl
  have hb : v.settle.besides = v.besides := settle_besides v
  have hd : v.settle.door.summary = v.summaryNow := by
    rw [hs, m.2.2.2.2.2.1, h.2.2.2.2.2.2.2.1, d.2.2.2.2.2.2.2.1, i.2.2.2.2.2.2.2.1, f9, r7]
  have hc := logged_congr v.recompute.writingOrder v.recompute { v with raised := [] } r1 r2 (by rw [r3]) r6
  constructor
  · exact hb
  · have e1 : v.settle.raised = [] := by
      rw [hs, m.2.2.2.2.1, h.2.2.2.2.2.2.1, d.2.2.2.2.2.2.1, i.2.2.2.2.2.2.1, f2]
    have e2 : v.settle.pub.image = v.settle.imageBytes := by
      rw [imageBytes_besides, hb, hs, m.2.2.2.2.2.2.2.1, h.2.2.2.2.2.2.2.2.2.1, d.2.2.2.2.2.2.2.2.2.1,
        i.2.2.2.2.2.2.2.2.1, imageBytes_besides, f1, recompute_besides]
    have e3 : v.settle.pub.door = v.settle.doorBytes := by
      rw [doorBytes_besides, hb, hd, hs, m.2.2.2.2.2.2.2.2.1, h.2.2.2.2.2.2.2.2.2.2.1, d.2.2.2.2.2.2.2.2.1,
        doorBytes_besides, i.1, i.2.2.2.2.2.2.2.1, f9, r7, f1, recompute_besides]
    have e4 : v.settle.pub.heat = v.settle.heatBytes := by
      rw [heatBytes_besides, hb, hs, m.2.2.2.2.2.2.2.2.2.1, h.2.2.2.2.2.2.2.2.1, heatBytes_besides, d.1, i.1, f1,
        recompute_besides]
    have e5 : v.settle.pub.readings = v.settle.readingsBytes := by
      rw [readingsBytes_besides, hb, hs, m.2.2.2.2.2.2.1, readingsBytes_besides, h.1, d.1, i.1, f1, recompute_besides]
    have e6 : v.settle.door.summary = v.settle.summaryNow := by
      rw [hd, summaryNow_besides v.settle, hb]; rfl
    simp [State.settled, e1, e2, e3, e4, e5, e6]
  · refine ⟨v.recompute.writingOrder, ?_, ?_, writingOrder_door _, ?_, ?_, ?_⟩
    · have h1 := writingOrder_perm v.recompute
      rw [recompute_raised] at h1
      exact h1.trans (hp.symm.append_right _)
    · intro g hgm
      obtain ⟨⟨k, hk⟩, b, hb⟩ := hg g hgm
      exact writingOrder_group v.recompute k g b (hk.trans (recompute_group k v)) hb
    · rw [hs, m.2.1, h.2.1, d.2.1, i.2.1, f3, hc.1]
    · rw [hs, m.2.2.1, h.2.2.1, d.2.2.1, i.2.2.1, f4, hc.2.1]
    · rw [hs, m.2.2.2.1, h.2.2.2.1, d.2.2.2.1, i.2.2.2.1, f5, hc.2.2]
  · rw [hs, m.2.2.2.1, h.2.2.2.2.1, d.2.2.2.2.1, i.2.2.2.2.1, f6, r3]
  · rw [hs, m.2.2.2.1, h.2.2.2.2.2.1, d.2.2.2.2.2.1, i.2.2.2.2.2.1, f7, r3]
  · rw [hs, m.2.2.2.2.2.2.2.2.2.2, h.2.2.2.2.2.2.2.2.2.2.2.2, d.2.2.2.2.2.2.2.2.2.2.2.2, i.2.2.2.2.2.2.2.2.2.2.2.2, f8, r4]

/-- A command that raises no event. -/
theorem run_settles (dt : Nat) (f : State → State) (s : State) (h : (f (s.advance dt)).raised = []) :
    Settles (f (s.advance dt)) [] (s.run dt f) := by
  have := settle_settles (f (s.advance dt)) [] (by simp [h]) (by simp)
  simpa [State.run, ← h] using this

/-- A command whose events belong to one group, the door unit's or another block's. -/
theorem run_settles_group (dt : Nat) (f : State → State) (s : State) (k : Nat) (es : List Event) (b : Bool)
    (h : (f (s.advance dt)).raised = es.map fun e => { group := k, event := e }) (hb : ∀ e ∈ es, e.ofDoorUnit = b) :
    Settles { f (s.advance dt) with raised := [] } [es] (s.run dt f) := by
  refine settle_settles (f (s.advance dt)) [es] ?_ ?_
  · simp [h, List.map_map, Function.comp_def]
  · intro g hg
    obtain rfl := List.mem_singleton.mp hg
    exact ⟨⟨k, by simp [h, groupEvents, List.filter_map, Function.comp_def, List.map_map]⟩, b, hb⟩

/-- A settled state is its own end of a step. -/
theorem settle_of_settled (v : State) (h : v.settled = true) : v.settle = v := by
  simp only [State.settled, Bool.and_eq_true, beq_iff_eq] at h
  obtain ⟨⟨⟨⟨⟨h1, h2⟩, h3⟩, h4⟩, h5⟩, h6⟩ := h
  have hr : v.recompute = v := by unfold State.recompute; simp [← h6]
  have hf : v.flush = v := by
    unfold State.flush
    rw [h1]
    simp only [State.writingOrder, h1, List.length_nil, eventOrder, drawTogether, List.map_nil, List.foldl_nil, Nat.add_zero]
    rw [← h1]
  have hi : v.publishImage = v := by unfold State.publishImage; simp [h2]
  have hd : v.publishDoor = v := by unfold State.publishDoor; simp [h3]
  have hh : v.publishHeat = v := by unfold State.publishHeat; simp [h4]
  have hm : v.publishReadings = v := by unfold State.publishReadings; simp [h5]
  simp only [State.settle, hr, hf, hi, hd, hh, hm]

/-- The end of a step is settled. -/
theorem settle_settled (v : State) : v.settle.settled = true :=
  (settle_settles v (v.raised.map fun r => [r.event])
    (by
      have : ∀ l : List Raised, (l.map fun r => [r.event]).flatten = l.map fun r => r.event := by
        intro l; induction l with
        | nil => rfl
        | cons r l ih => simp [ih]
      rw [this])
    (fun g hg => by
      obtain ⟨r, hr, rfl⟩ := List.mem_map.mp hg
      exact ⟨⟨r.group, (List.singleton_infix_iff _ _).mpr (List.mem_map.mpr ⟨r, List.mem_filter.mpr ⟨hr, by simp⟩, rfl⟩)⟩,
        r.event.ofDoorUnit, by simp⟩)).settled

/-- A command whose effect is a settled state answers it. -/
theorem run_of_settled (dt : Nat) (f : State → State) (s u : State) (h : f (s.advance dt) = u) (hu : u.settled = true) :
    s.run dt f = u := by
  unfold State.run
  rw [h, settle_of_settled u hu]

end Sys2Proof.Machine
end

