-- ==== Sys2Proof/Laws/Operations.lean ====
section
/-!
SUPPORT. What each shared operation can do, said once: requests and receive queues, the transmit queue, a door side's
entries, causes and orders, the cap state, the outstanding order, the census states, a transaction and a heater window.
-/

namespace Sys2Proof.Machine

/-! ## Requests and receive queues -/

/-- A request taken is the first one that satisfies `p`, and the others keep their order (R167). -/
theorem takeRequest_some {p : Request → Bool} {r : Request} : ∀ {l rest : List Request}, takeRequest p l = (some r, rest) →
    p r = true ∧ ∃ before after : List Request, l = before ++ r :: after ∧ rest = before ++ after ∧ ∀ q ∈ before, p q = false
  | [], _, h => by simp [takeRequest] at h
  | q :: l, rest, h => by
    unfold takeRequest at h
    split at h
    · rename_i hq
      obtain ⟨rfl, rfl⟩ : q = r ∧ l = rest := by simpa using h
      exact ⟨hq, [], l, rfl, rfl, by simp⟩
    · rename_i hq
      cases ht : takeRequest p l with
      | mk o l' =>
        simp only [ht, Prod.mk.injEq] at h
        obtain ⟨rfl, rfl⟩ := h
        obtain ⟨hp, b, a, rfl, rfl, hb⟩ := takeRequest_some ht
        refine ⟨hp, q :: b, a, rfl, rfl, fun c hc => ?_⟩
        rcases List.mem_cons.mp hc with rfl | hc
        · simpa using hq
        · exact hb c hc

theorem takeRequest_none {p : Request → Bool} : ∀ {l rest : List Request}, takeRequest p l = (none, rest) →
    rest = l ∧ ∀ q ∈ l, p q = false
  | [], _, h => by simp [takeRequest] at h; simp [h]
  | q :: l, rest, h => by
    unfold takeRequest at h
    split at h
    · simp at h
    · rename_i hq
      cases ht : takeRequest p l with
      | mk o l' =>
        simp only [ht, Prod.mk.injEq] at h
        obtain ⟨rfl, rfl⟩ := h
        obtain ⟨rfl, hb⟩ := takeRequest_none ht
        refine ⟨rfl, fun c hc => ?_⟩
        rcases List.mem_cons.mp hc with rfl | hc
        · simpa using hq
        · exact hb c hc

/-- An owner with a request of the kind serves it. -/
theorem serve_some (s : State) (p : Request → Bool) (f : Request → State → State) (r : Request) (rest : List Request)
    (h : takeRequest p s.req.handed = (some r, rest)) :
    s.serve p f = f r { s with req := { s.req with handed := rest } } := by
  unfold State.serve; rw [h]

/-- An owner without one does nothing (log 2). -/
theorem serve_none (s : State) (p : Request → Bool) (f : Request → State → State) (rest : List Request)
    (h : takeRequest p s.req.handed = (none, rest)) : s.serve p f = s := by
  unfold State.serve; rw [h]

/-- A frame taken is the first one for its consumer, and the others keep their order (R30). -/
theorem takeFor_some {c : Consumer} {r : RxFrame} : ∀ {l rest : List RxFrame}, takeFor c l = (some r, rest) →
    r.frame.kind.consumer = c ∧ ∃ before after : List RxFrame, l = before ++ r :: after ∧ rest = before ++ after
  | [], _, h => by simp [takeFor] at h
  | q :: l, rest, h => by
    unfold takeFor at h
    split at h
    · rename_i hq
      obtain ⟨rfl, rfl⟩ : q = r ∧ l = rest := by simpa using h
      exact ⟨hq, [], l, rfl, rfl⟩
    · cases ht : takeFor c l with
      | mk o l' =>
        simp only [ht, Prod.mk.injEq] at h
        obtain ⟨rfl, rfl⟩ := h
        obtain ⟨hp, b, a, rfl, rfl⟩ := takeFor_some ht
        exact ⟨hp, q :: b, a, rfl, rfl⟩

/-- A consumer takes its oldest frame when it is of the kind named. -/
theorem takeFrame_some (s : State) (x : SpanId) (kind : FrameKind) (f : RxFrame → State → State) (r : RxFrame)
    (rest : List RxFrame) (h : takeFor kind.consumer (s.span x).rxq = (some r, rest)) (hk : r.frame.kind = kind) :
    s.takeFrame x kind f = f r (s.setSpan x { s.span x with rxq := rest }) := by
  unfold State.takeFrame; simp only [h, if_pos hk]

/-! ## The transmit queue (R32, R33) -/

/-- A queue drop counts and raises QUEUE_DROP (R33). -/
theorem queueDrop_eq (s : State) (x : SpanId) (kind : FrameKind) : s.queueDrop x kind =
    { s.setSpan x { s.span x with drops := (s.span x).drops + 1 } with
      raised := s.raised ++ [{
        group := (spanSource x).toNat
        event := { kind := 3, source := spanSource x, position := byte s.table.own, detail := kind.code
                   value := ((s.span x).drops + 1).setWidth 32 } }] } := by
  cases x <;> rfl

/-- An offer touches its own span and the events of the step, nothing else (R32, R33). -/
theorem offer_keeps (s : State) (x : SpanId) (f : TxFrame) :
    (s.offer x f).1 = { s.setSpan x ((s.offer x f).1.span x) with raised := (s.offer x f).1.raised } := by
  unfold State.offer
  simp only
  split
  · cases x <;> rfl
  · split
    · cases x <;> rfl
    · split
      · cases dropYoungest (worstClass (s.span x).txq) (s.span x).txq with
        | mk o q => cases o <;> cases x <;> rfl
      · cases x <;> rfl

/-- What an offer does to its span: the queue and the drop count only (R32, R33). -/
theorem offer_span (s : State) (x : SpanId) (f : TxFrame) :
    (s.offer x f).1.span x = { s.span x with txq := ((s.offer x f).1.span x).txq, drops := ((s.offer x f).1.span x).drops } := by
  unfold State.offer
  simp only
  split
  · rfl
  · split
    · cases x <;> rfl
    · split
      · cases dropYoungest (worstClass (s.span x).txq) (s.span x).txq with
        | mk o q => cases o <;> cases x <;> rfl
      · cases x <;> rfl

/-- An offer to an UP span with room: the frame joins (R32). -/
theorem offer_room (s : State) (x : SpanId) (f : TxFrame) (hu : (s.span x).state = .up) (hr : (s.span x).depth < 8) :
    s.offer x f = (s.setSpan x { s.span x with txq := (s.span x).txq ++ [f] }, .joined) := by
  unfold State.offer; simp [hu, hr]

theorem send_room (s : State) (x : SpanId) (f : Frame) (hu : (s.span x).state = .up) (hr : (s.span x).depth < 8) :
    s.send x f = s.setSpan x { s.span x with txq := (s.span x).txq ++ [{ frame := f, tag := .plain }] } := by
  unfold State.send; rw [offer_room s x _ hu hr]

/-- The youngest frame of a class is the last one of it (R33). -/
theorem dropYoungest_some {c : Nat} {g : TxFrame} : ∀ {q q' : List TxFrame}, dropYoungest c q = (some g, q') →
    g.frame.kind.txClass = c ∧ ∃ before after : List TxFrame, q = before ++ g :: after ∧ q' = before ++ after ∧
      ∀ h ∈ after, h.frame.kind.txClass ≠ c
  | [], _, h => by simp [dropYoungest] at h
  | f :: q, q', h => by
    unfold dropYoungest at h
    cases hd : dropYoungest c q with
    | mk o l =>
      cases o with
      | some g' =>
        simp only [hd, Prod.mk.injEq, Option.some.injEq] at h
        obtain ⟨rfl, rfl⟩ := h
        obtain ⟨hc, b, a, rfl, rfl, ha⟩ := dropYoungest_some hd
        exact ⟨hc, f :: b, a, rfl, rfl, ha⟩
      | none =>
        simp only [hd] at h
        split at h
        · rename_i hf
          simp only [Prod.mk.injEq, Option.some.injEq] at h
          obtain ⟨rfl, rfl⟩ := h
          exact ⟨hf, [], q, rfl, rfl, none_left hd⟩
        · simp at h
where
  none_left {c : Nat} : ∀ {q q' : List TxFrame}, dropYoungest c q = (none, q') → ∀ h ∈ q, h.frame.kind.txClass ≠ c
    | [], _, _, h, hm => by cases hm
    | f :: q, q', hd, h, hm => by
      unfold dropYoungest at hd
      cases hq : dropYoungest c q with
      | mk o l =>
        cases o with
        | some g' => simp [hq] at hd
        | none =>
          simp only [hq] at hd
          split at hd
          · simp at hd
          · rename_i hf
            rcases List.mem_cons.mp hm with rfl | hm
            · exact hf
            · exact none_left hq h hm

/-! ## Door sides -/

/-- One change of a side's state and its DOOR_STATE event (R96, R113). -/
theorem moveSide_eq (s : State) (k : SideId) (new : DoorState) (cause : DoorCause) (number : Byte) :
    s.moveSide k new cause number = (s.setSide k ((s.side k).enter new s.now s.settings.closeTimeout)).raise
      (sideSource k).toNat { kind := 10, source := sideSource k, position := byte s.table.own, detail := new.code
                             value := (number.setWidth 16 ++ cause.code ++ (s.side k).state.code : Word32) } := rfl

theorem moveSide_side (s : State) (k : SideId) (new : DoorState) (cause : DoorCause) (number : Byte) :
    (s.moveSide k new cause number).side k = (s.side k).enter new s.now s.settings.closeTimeout := by
  rw [moveSide_eq, raise_side, setSide_side]

/-- An entry keeps the lock level, the causes stored and masked, the pending order and what was last decided (R96). -/
theorem enter_keeps (d : Side) (new : DoorState) (now closeTimeout : Nat) :
    (d.enter new now closeTimeout).state = new ∧ (d.enter new now closeTimeout).lock = d.lock ∧
      (d.enter new now closeTimeout).stored = d.stored ∧ (d.enter new now closeTimeout).masked = d.masked ∧
      (d.enter new now closeTimeout).pend = d.pend ∧ (d.enter new now closeTimeout).leaseEnd = none ∧
      (d.enter new now closeTimeout).lastVerdict = d.lastVerdict ∧ (d.enter new now closeTimeout).lastAction = d.lastAction ∧
      (d.enter new now closeTimeout).lastSkip = d.lastSkip ∧ (d.enter new now closeTimeout).lockRun = d.lockRun ∧
      (d.enter new now closeTimeout).mismatch = d.mismatch := by
  cases new <;> exact ⟨rfl, rfl, rfl, rfl, rfl, rfl, rfl, rfl, rfl, rfl, rfl⟩

/-- A side's own fields and the events of the step are all that an entry touches. -/
theorem moveSide_keeps (s : State) (k : SideId) (new : DoorState) (cause : DoorCause) (number : Byte) :
    s.moveSide k new cause number =
      { s.setSide k ((s.moveSide k new cause number).side k) with raised := (s.moveSide k new cause number).raised } := by
  cases k <;> rfl

theorem discardPending_none (s : State) (k : SideId) (h : (s.side k).pend = none) : s.discardPending k = s := by
  unfold State.discardPending; simp only [h]

theorem discardPending_some (s : State) (k : SideId) (o : PendingOrder) (h : (s.side k).pend = some o) :
    (s.discardPending k).side k = { s.side k with pend := none, lastSkip := some .discarded } := by
  unfold State.discardPending State.skipEvent; simp only [h, raise_side, setSide_side]

/-- The entries that end in the state they name (R97, R104). -/
theorem enterSide_unlocked (s : State) (k : SideId) (new : DoorState) (cause : DoorCause) (number : Byte)
    (h : new = .closing ∨ new = .unlocked → (s.side k).lock = false) (hp : (s.side k).pend = none) :
    s.enterSide k new cause number = s.moveSide k new cause number := by
  have hl : ((s.moveSide k new cause number).side k).lock = (s.side k).lock := by
    rw [moveSide_side]; exact (enter_keeps _ _ _ _).2.1
  have hq : ((s.moveSide k new cause number).side k).pend = none := by
    rw [moveSide_side, (enter_keeps _ _ _ _).2.2.2.2.1, hp]
  unfold State.enterSide
  cases new with
  | fault => exact discardPending_none _ _ hq
  | isolated => exact discardPending_none _ _ hq
  | unlocked => simp [hl, h (Or.inr rfl)]
  | closing => simp [hl, h (Or.inl rfl)]
  | absent => rfl
  | closed => rfl
  | released => rfl

/-- UNLOCKED and CLOSING move on to CLOSED when the debounced lock level is true (R97). -/
theorem enterSide_locked (s : State) (k : SideId) (new : DoorState) (cause : DoorCause) (number : Byte)
    (h : new = .closing ∨ new = .unlocked) (hl : (s.side k).lock = true) :
    s.enterSide k new cause number = (s.moveSide k new cause number).moveSide k .closed .lock 0 := by
  have hl' : ((s.moveSide k new cause number).side k).lock = true := by
    rw [moveSide_side, (enter_keeps _ _ _ _).2.1, hl]
  unfold State.enterSide
  rcases h with rfl | rfl <;> simp [hl']

/-- A pending order that fails its check is skipped (R105). -/
theorem applyPending_skip (s : State) (k : SideId) (o : PendingOrder) (why : Skip)
    (h : (s.setSide k { s.side k with pend := none }).skipReason k o = some why) :
    (s.applyPending k o).side k = { s.side k with pend := none, lastSkip := some why } := by
  unfold State.applyPending State.skipEvent
  simp only [h, raise_side, setSide_side]

/-- A side that does not take an order keeps all but its last verdict (R103). -/
theorem handToSide_refused (s : State) (k : SideId) (o : PendingOrder) (h : s.verdict k o.action ≠ .taken) :
    s.handToSide k o = s.setSide k { s.side k with lastVerdict := some (s.verdict k o.action) } := by
  unfold State.handToSide; simp only [if_neg h]

/-- A side that takes an order whose instant is still to come holds it (R103, R104). -/
theorem handToSide_taken (s : State) (k : SideId) (o : PendingOrder) (h : s.verdict k o.action = .taken) (hi : s.now < o.applyAt) :
    s.handToSide k o = s.setSide k { s.side k with lastVerdict := some .taken, pend := some o } := by
  have : ¬ o.applyAt ≤ s.now := by omega
  unfold State.handToSide
  simp only [h, if_true, if_neg this, setSide_side, setSide_setSide]

/-! ## The outstanding order of the lead -/

/-- What the completion of the outstanding order leaves in the door unit (R121, R122, R127). -/
theorem finishOrder_door (s : State) (o : Outstanding) (m : OrderAck) (outcome : SlotOutcome) (detail : Byte) :
    (s.finishOrder o m outcome detail).door = { s.door with
      outstanding := none, ackEnd := none
      lastDone := { number := o.order.number, outcome := outcome.code
                    counts := [m.reached, m.applied, m.notAddressed, m.refused, m.late, m.firstRefused, m.stop, m.origin] } } :=
  rfl

/-- The rest of the completion is that of its slot (R168). -/
theorem finishOrder_rest (s : State) (o : Outstanding) (m : OrderAck) (outcome : SlotOutcome) (detail : Byte) :
    s.finishOrder o m outcome detail =
      { s.complete o.slot outcome detail (orderResults o m) with door := (s.finishOrder o m outcome detail).door } := rfl

/-! ## The cap state -/

/-- A move of the cap state (R141, R144). -/
theorem setCap_heat (s : State) (new : CapState) (cause : CapCause) : (s.setCap new cause).heat =
    { s.heat with cap := new, holdEnd := if new = .granted then s.heat.holdEnd else none } := by
  unfold State.setCap; simp only; split <;> rfl

/-- Only the heating share unit and the events of the step are touched. -/
theorem setCap_keeps (s : State) (new : CapState) (cause : CapCause) : s.setCap new cause =
    { s with heat := (s.setCap new cause).heat, raised := (s.setCap new cause).raised } := by
  unfold State.setCap; simp only; split <;> rfl

/-- A grant taken is the last grant; unless the car is FAULTED or STOPPED it is GRANTED for 5 s (R140, R141). -/
theorem takeGrant_heat (s : State) (value : Nat) (gen alloc : Word16) : (s.takeGrant value gen alloc).heat =
    { s.heat with
      lastGrant := { value := value, gen := gen, alloc := alloc }
      cap := if s.heat.cap = .fallback then .granted else s.heat.cap
      holdEnd := if s.heat.cap = .granted ∨ s.heat.cap = .fallback then some (s.now + 5000 * ms) else s.heat.holdEnd } := by
  unfold State.takeGrant
  cases hc : s.heat.cap with
  | stopped => simp [hc]
  | faulted => simp [hc]
  | granted => simp [hc]
  | fallback => simp [hc, setCap_heat]

theorem takeGrant_keeps (s : State) (value : Nat) (gen alloc : Word16) : s.takeGrant value gen alloc =
    { s with heat := (s.takeGrant value gen alloc).heat, raised := (s.takeGrant value gen alloc).raised } := by
  unfold State.takeGrant
  cases hc : s.heat.cap with
  | stopped => simp only [hc]
  | faulted => simp only [hc]
  | granted => simp only [hc]
  | fallback => simp only [hc]; exact setCap_keeps _ _ _

/-! ## The census states -/

/-- VALID and STALE keep the relay and the allocation list; the census timer is stopped (R42, R81, R129). -/
theorem enterCensus_listed (s : State) (c : CensusState) (h : c.listed = true) : s.enterCensus c =
    s.setCensus { s.census with state := c, timerEnd := none } := by
  unfold State.enterCensus
  cases c <;> simp_all [CensusState.listed, CensusState.busy, censusTime]

/-- A member's entry to another state empties the relay and the allocation list (R81, R129). -/
theorem enterCensus_member (s : State) (c : CensusState) (h : c.listed = false) (hr : s.census.role = .member) :
    s.enterCensus c = { s with
      census := { s.census with state := c, timerEnd := (censusTime c).map (fun d => s.now + d)
                                settleEnd := if c.busy then none else s.census.settleEnd }
      relay := Relay.empty
      heat := { s.heat with allocList := [], allocEnd := none } } := by
  unfold State.enterCensus
  simp only [h, Bool.false_eq_true, if_false, hr]
  rfl

/-- The census unit after an entry, whatever the role (R42, R65). -/
theorem enterCensus_census (s : State) (c : CensusState) : (s.enterCensus c).census =
    { s.census with state := c, timerEnd := (censusTime c).map (fun d => s.now + d)
                    settleEnd := if c.busy then none else s.census.settleEnd } := by
  unfold State.enterCensus
  simp only
  split
  · rfl
  · cases s.census.role with
    | member => rfl
    | lead =>
      simp only
      unfold State.endOutstanding
      split <;> rfl

/-! ## What the receiver heard -/

/-- An activity that began no earlier than the receiver listened is heard whole (R27). -/
theorem heardPart_whole (u : Span) (now : Nat) (line : List Level) (h : u.deafUntil + 1000 * activeLength line ≤ now) :
    u.heardPart now line = line := by
  have hz : activeLength line - (now - u.deafUntil) / 1000 = 0 := by omega
  simp [Span.heardPart, hz]

/-- Of an activity that was over when the receiver began to listen, nothing but the quiet level is heard (R27; log 71). -/
theorem heardPart_none (u : Span) (now : Nat) (line : List Level) (h : now < u.deafUntil + 1000) :
    u.heardPart now line = line.drop (activeLength line) := by
  have hz : (now - u.deafUntil) / 1000 = 0 := by omega
  simp [Span.heardPart, hz]

/-- Line activity does nothing where the receiver is idle, and else is what its heard part decodes to (R1, R27). -/
theorem receiveLine_cases (s : State) (x : SpanId) (line : List Level) :
    s.receiveLine x line =
      (let u := s.span x
      let t := s.setSpan x { u with busyUntil := max u.busyUntil s.now }
      if u.state.receives = false ∨ u.driving s.now = true then s
      else match decodeLine (u.heardPart s.now line) with
        | .none => t
        | .violated => t.rejectFrame x .delimiter
        | .frame bytes => t.receiveBytes x bytes) := rfl

/-! ## A transaction on the serial port -/

/-- The transaction open after `done` bytes goes on to byte `k` and is held there (R156, R159, R162). -/
theorem transact_held (s : State) (bytesIn : List Byte) (done k : Nat) (ignored : Bool) (effect : State → State)
    (ho : s.openTransfer = { bytesIn := bytesIn.take done, ignored := ignored }) (hd : done ≤ k) (hk : k ≤ bytesIn.length) :
    s.transact bytesIn (some k) effect = { s with port := { s.port with
      sdo := s.port.sdo.take done ++ if ignored then List.replicate (k - done) 0 else s.shiftOut bytesIn done k
      transfer := some { bytesIn := bytesIn.take k, ignored := ignored } } } := by
  have hl : (bytesIn.take done).length = done := List.length_take_of_le (hd.trans hk)
  simp [State.transact, ho, hl, shiftedTo, Nat.min_eq_left hk, hd]

/-- The transaction open after `done` bytes goes on to its end and has its effect, unless it is ignored (R156, R159, R162). -/
theorem transact_ends (s : State) (bytesIn : List Byte) (done : Nat) (ignored : Bool) (effect : State → State)
    (ho : s.openTransfer = { bytesIn := bytesIn.take done, ignored := ignored }) (hd : done ≤ bytesIn.length) :
    s.transact bytesIn none effect =
      (let t : State := { s with port := { s.port with
        sdo := s.port.sdo.take done ++
          if ignored then List.replicate (bytesIn.length - done) 0 else s.shiftOut bytesIn done bytesIn.length
        transfer := none } }
      if ignored then t else effect t) := by
  have hl : (bytesIn.take done).length = done := List.length_take_of_le hd
  simp [State.transact, ho, hl, shiftedTo, hd]

/-- With no transaction under way, one begins at its first byte, ignored in the millisecond after a reset (R162). -/
theorem openTransfer_none (s : State) (bytesIn : List Byte) (h : s.port.transfer = none) :
    s.openTransfer = { bytesIn := bytesIn.take 0, ignored := s.deaf } := by
  simp [State.openTransfer, h]

theorem openTransfer_some (s : State) (p : Transfer) (h : s.port.transfer = some p) : s.openTransfer = p := by
  simp [State.openTransfer, h]

/-! ## Heater windows -/

/-- A window whose end has come closes, passes into its successor or waits for the period start owed (R147; log 53). -/
theorem endWindow_some (s : State) (stage : Fin 4) (e : Nat) (h : s.fire.ends.get stage = some e) (he : e ≤ s.now) :
    s.endWindow stage =
      if s.periodOwed e = true then s
      else if s.followsBy stage e = true then s.openWindow stage
      else { s with fire := { s.fire with ends := s.fire.ends.set stage none } } := by
  simp [State.endWindow, h, Nat.not_lt.mpr he]

end Sys2Proof.Machine
end

