-- ==== Sys2Proof/Tests/Slice0.lean ====
section
/-!
SUPPORT. Tests: which commands are well formed, check values and worked examples of spec/ (each names its source), and for
each statement of Certificates/Slice0/Obligations.lean a witness of its hypotheses: `witness_<Name>` gives, clause by
clause, a state and operands that meet them together.
-/

namespace Sys2Proof.Tests

set_option Elab.async false

open Sys2Proof Sys2Proof.Machine

/-! ## States the tests start from -/

/-- A state with its published blocks and summary showing it, as after every command. -/
def shown (s : State) : State :=
  let u : State := { s with raised := [], door := { s.door with summary := s.summaryNow } }
  { u with pub := { u.pub with image := u.imageBytes, door := u.doorBytes, heat := u.heatBytes, readings := u.readingsBytes } }

theorem shown_settled (s : State) : (shown s).settled = true := by
  have h1 : (shown s).pub.image = (shown s).imageBytes := rfl
  have h2 : (shown s).pub.door = (shown s).doorBytes := rfl
  have h3 : (shown s).pub.heat = (shown s).heatBytes := rfl
  have h4 : (shown s).pub.readings = (shown s).readingsBytes := rfl
  have h5 : (shown s).door.summary = (shown s).summaryNow := rfl
  have h6 : (shown s).raised = [] := rfl
  simp [State.settled, h1, h2, h3, h4, h5, h6]

def settings : Settings where
  identity := 48213
  kind := 1
  cabEnd := 1
  doorSides := 3
  releaseFrequency := 2
  closeTimeout := 10
  closeOnFault := 1
  mask1 := 0
  mask2 := 0
  ratings := { s0 := 400, s1 := 400, s2 := 200, s3 := 0 }
  standby := Stages.all 0
  ceiling := 600
  averaging := 4
  probeRepeat := 2
  lineFull := 10000
  carFull := 2000
  auxFull := 1200
  auxThreshold := 770
  longSpan := 450
  autoCensus := 1
  spanEnables := 3

/-- The partner record of an UP span. -/
def partner : Partner := { identity := 51907, endCode := 1, kind := 2, gen := 7 }

/-- An UP span whose silence timer runs out now. -/
def upSpan : Span :=
  { Span.reset with
    state := .up, enable := true, delay := 263, history := [262, 266, 260], partner := some partner, lfsr := 1
    silenceEnd := some 10000000000 }

def closedSide : Side := { Side.reset with state := .closed, lock := true }

/-- A configured car 5 s after its reset: relay OPEN, both spans UP, both sides CLOSED, FALLBACK, an uncensused member. -/
def car : State :=
  { State.reset with
    now := 10000000000, tickDue := 10000000000, settings := settings
    port := { State.reset.port with running := true }
    bypass := { relay := .opened, drive := true, doneAt := none, waiter := none }
    spanA := upSpan, spanB := upSpan
    door := { Door.reset with side1 := closedSide, side2 := closedSide }
    heat := { Heat.reset with cap := .fallback, source := .standby }
    fire := { Fire.reset with periodStart := some 7952000000 }
    mon := { Monitor.reset with running := true } }

def record (identity : Word32) (frontEnd : Byte) : CarRecord where
  identity := identity
  kind := 1
  frontEnd := frontEnd
  doorSides := 3
  flags := 0
  demand := 400
  capacity := 900
  frontDelay := 0
  lastGen := 8

/-- A table of generation 8 with the car at position `own`, every front end A. -/
def table (own : Nat) (ids : List Word32) : Table where
  own := own
  gen := 8
  number := 21
  signature := 0
  lead := 40017
  records := ids.map fun i => imageRecordOf (record i 1)

/-- The lead of three cars, its cab end A, in a census state. -/
def lead (st : CensusState) : State :=
  { car with
    census := { Census.reset with role := .lead, state := st, number := 21 }
    table := { table 1 [48213, 51907, 62300] with lead := 48213 }
    spanA := { Span.reset with state := .probing, enable := true, probeDue := some 10000000000 } }

/-- A lead alone, in VALID. -/
def leadAlone : State := { lead .valid with table := { table 1 [48213] with lead := 48213 }, spanB := (lead .valid).spanA }

/-- The second of three cars, in a census state, with the lead above its span A. -/
def member (st : CensusState) : State :=
  { car with
    census := { Census.reset with state := st, ctx := some { lead := 40017, number := 21, position := 2, upstream := .a } }
    table := table 2 [40017, 48213, 51907]
    relay := if st.listed then { Relay.empty with endCar := some false } else Relay.empty }

/-- The last of two cars. -/
def endMember : State := { member .valid with table := table 2 [40017, 48213] }

/-- A frame from the neighbour at `hop`, with the generation of `table`. -/
def frame (kind : FrameKind) (hop : Byte) (payload : List Byte) : Frame :=
  { kind := kind, late := false, conflict := false, origin := hop, hop := hop, gen := 8, delay := 0, payload := payload }

/-- A frame as the receive queue holds it, its end delimiter 5 µs ago. -/
def received (f : Frame) : RxFrame := { frame := f, endAt := 9999990000 }

def withFrame (x : SpanId) (f : Frame) (s : State) : State :=
  shown (s.setSpan x { s.span x with rxq := [received f] })

def onSpan (x : SpanId) (f : Span → Span) (s : State) : State := shown (s.setSpan x (f (s.span x)))

def onSide (k : SideId) (f : Side → Side) (s : State) : State := shown (s.setSide k (f (s.side k)))

def request (kind : RequestKind) (params : List Byte) : Request := { slot := 3, kind := kind, params := params }

/-- A request in slot 3, TAKEN and handed to its owner. -/
def withRequest (kind : RequestKind) (params : List Byte) (s : State) : State :=
  shown { s with mem := s.mem.write (slotBase 3) 2, req := { queue := [], handed := [request kind params] } }

/-- The state a command answers. -/
def after (o : Result) : State :=
  match o with
  | .next t => t
  | .fault _ => State.reset
  | .refused _ => State.reset

def answersNext (o : Result) : Bool :=
  match o with
  | .next _ => true
  | .fault _ => false
  | .refused _ => false

theorem eq_next_after (o : Result) (h : answersNext o = true) : o = .next (after o) := by
  match o with
  | .next _ => rfl
  | .fault e => exact nomatch e
  | .refused (.notModelled _) => cases h

/-! ## Well-formed commands: one ill-formed term for each check -/

theorem test_wf_regWriteOther : (Instr.regWriteOther 0 1 ⟨[0], none⟩).wf = false ∧ (Instr.regWriteOther 0 2 ⟨[0], none⟩).wf = false ∧
    (Instr.regWriteOther 0 3 ⟨[0], none⟩).wf = false ∧ (Instr.regWriteOther 0 0 ⟨[0], none⟩).wf = true := by decide

theorem test_wf_misaligned : (Instr.misalignedTransaction 0 ⟨[0x0B], none⟩ 0).wf = false ∧
    (Instr.misalignedTransaction 0 ⟨[0x0B], none⟩ 8).wf = false ∧ (Instr.misalignedTransaction 0 ⟨[0x0B], none⟩ 7).wf = true := by decide

theorem test_wf_unknownOpcode : (Instr.unknownOpcode 0 ⟨[0x0B, 0, 0], none⟩).wf = false ∧
    (Instr.unknownOpcode 0 ⟨[0x0B, 0], none⟩).wf = true ∧ (Instr.unknownOpcode 0 ⟨[0x9F, 0, 0], none⟩).wf = true := by decide

theorem test_wf_excursion_arrival :
    (Instr.listenWindowEnd 0 .a [{ arrival := 13000, width := 2000, polarity := .same }]).wf = false ∧
    (Instr.listenWindowEnd 0 .a [{ arrival := 12999, width := 2000, polarity := .same }]).wf = true := by decide

theorem test_wf_excursion_width :
    (Instr.listenWindowEnd 0 .a [{ arrival := 4500, width := 65535, polarity := .same }]).wf = false := by decide

theorem test_wf_excursion_order :
    (Instr.listenWindowEnd 0 .a [{ arrival := 4500, width := 2000, polarity := .same },
      { arrival := 4400, width := 2000, polarity := .same }]).wf = false := by decide

theorem test_wf_foreignProbe : (Instr.foreignProbe 0 .a .quiet 1000).wf = false := by decide

theorem test_wf_block : (Instr.readingCompleted 0 .linev [0, 0]).wf = false ∧
    (Instr.readingCompleted 0 .linev [0]).wf = true := by decide

/-! ## Witnesses: queue, resets and port -/

theorem witness_StepTakesFront : ∃ s : State, s.pending = [] := ⟨State.reset, rfl⟩

/-- The first millisecond is over at 2 000 000 half-nanoseconds. -/
theorem witness_ResetsGiveResetValues : ∃ (s : State) (dt : Nat), s.port.transfer = none ∧ ms ≤ s.now + dt :=
  ⟨State.reset, 2000000, by decide⟩

/-- A state in which CSN has fallen and these bytes are in. -/
def under (ignored : Bool) (bytesIn : List Byte) (s : State) : State :=
  shown { s with port := { s.port with transfer := some { bytesIn := bytesIn, ignored := ignored } } }

/-- A read of two bytes from address 4, as bits on SDI. -/
def readBytes : List Byte := [0x0B, 0, 4, 0, 0]

/-- Whole transactions; then a read and a misaligned one at their first byte, inside and at their last, held on or complete. -/
theorem witness_ReadsAndDiscardedTransactions :
    (∃ (s : State) (dt : Nat) (addr : Word16), s.settled = true ∧ s.port.transfer = none ∧ ms ≤ s.now + dt ∧ 3 < addr.toNat) ∧
    (∃ (s : State) (dt bits : Nat), s.settled = true ∧ s.port.transfer = none ∧ ms ≤ s.now + dt ∧ 1 ≤ bits ∧ bits ≤ 7) ∧
    (∃ (s : State) (dt : Nat) (bytesIn : List Byte), s.settled = true ∧ s.port.transfer = none ∧ ms ≤ s.now + dt ∧
      3 ≤ bytesIn.length ∧ knownOpcode (bytesIn.headD 0) = false) ∧
    (∃ (s : State) (dt : Nat) (bytesIn : List Byte), s.settled = true ∧ s.port.transfer = none ∧ ms ≤ s.now + dt ∧
      bytesIn.length < 3) ∧
    (∀ held ∈ [some 5, none], ∀ c ∈ [Instr.memRead 0 4 ⟨2, held⟩, .misalignedTransaction 0 ⟨readBytes, held⟩ 7],
      ∃ s : State, s.settled = true ∧ c.wf = true ∧ (c.transaction = some (0, readBytes, held) ∨
        ∃ bits : Nat, 1 ≤ bits ∧ bits ≤ 7 ∧ c = .misalignedTransaction 0 ⟨readBytes, held⟩ bits) ∧
      s.port.transfer = none ∧ ms ≤ s.now ∧ readBytes.length = 5) ∧
    (∀ done ∈ [0, 2, 5], ∃ s : State, s.settled = true ∧ ms ≤ s.now ∧
      s.port.transfer = some { bytesIn := readBytes.take done, ignored := false }) ∧
    (∃ (c : Instr) (dt : Nat) (bytesIn : List Byte) (held : Option Nat), c.wf = true ∧
      c.transaction = some (dt, bytesIn, held)) := by
  refine ⟨⟨shown car, 0, 4, shown_settled _, by decide⟩, ⟨shown car, 0, 7, shown_settled _, by decide⟩,
    ⟨shown car, 0, [0x9F, 0, 0], shown_settled _, by decide⟩, ⟨shown car, 0, [0x0B, 0], shown_settled _, by decide⟩,
    fun held hh c hc => ⟨shown car, shown_settled _, ?_⟩,
    fun done _ => ⟨under false (readBytes.take done) car, shown_settled _, show ms ≤ 10000000000 by decide, rfl⟩,
    ⟨.regWriteOther 0 7 ⟨[1], none⟩, 0, [0x04, 0, 7, 1], none, by decide⟩⟩
  simp only [List.mem_cons, List.not_mem_nil, or_false] at hh hc
  rcases hh with rfl | rfl <;> rcases hc with rfl | rfl
  · exact ⟨rfl, .inl rfl, by decide⟩
  · exact ⟨rfl, .inr ⟨7, by decide, by decide, rfl⟩, by decide⟩
  · exact ⟨rfl, .inl rfl, by decide⟩
  · exact ⟨rfl, .inr ⟨7, by decide, by decide, rfl⟩, by decide⟩

theorem witness_RegisterWritesAct :
    (∃ (s : State) (dt : Nat) (reg : Word16) (data : List Byte), s.settled = true ∧ s.port.transfer = none ∧ ms ≤ s.now + dt ∧
      writableRegister reg = false ∧ data.take 2 ≠ [0xA5, 0x3C]) ∧
    (∀ held ∈ [some 5, none], ∀ c ∈ [Instr.memRead 1999999 4 ⟨2, held⟩, .ignoredTransaction 1999999 ⟨readBytes, held⟩],
      ∃ s : State, s.settled = true ∧ c.wf = true ∧ (c.transaction = some (1999999, readBytes, held) ∨
        c = .ignoredTransaction 1999999 ⟨readBytes, held⟩) ∧ s.port.transfer = none ∧ s.now + 1999999 < ms ∧
        readBytes.length = 5) ∧
    (∀ done ∈ [0, 2, 5], ∃ s : State, s.settled = true ∧
      s.port.transfer = some { bytesIn := readBytes.take done, ignored := true }) := by
  refine ⟨⟨shown car, 0, 4, [0xA5], shown_settled _, by decide⟩, fun held hh c hc => ⟨shown State.reset, shown_settled _, ?_⟩,
    fun done _ => ⟨under true (readBytes.take done) car, shown_settled _, rfl⟩⟩
  simp only [List.mem_cons, List.not_mem_nil, or_false] at hh hc
  rcases hh with rfl | rfl <;> rcases hc with rfl | rfl
  · exact ⟨rfl, .inl rfl, by decide⟩
  · exact ⟨rfl, .inr rfl, by decide⟩
  · exact ⟨rfl, .inl rfl, by decide⟩
  · exact ⟨rfl, .inr rfl, by decide⟩

/-- A write of 66 bytes, a slot that is free and one that is taken, and the trail without events lost; and a state byte of each
kind among the bytes of one write, beside each state it may meet. -/
theorem witness_MemWriteJudgesBytes :
    (∃ (s : State) (dt : Nat) (data : List Byte), s.mem.wf = true ∧ s.settled = true ∧ s.port.transfer = none ∧ ms ≤ s.now + dt ∧
      64 < data.length ∧ s.slotState 0 = 0 ∧ s.slotState 3 ≠ 0 ∧ s.slotState 3 ≠ 1 ∧ s.trail.gap = 0) ∧
    (∀ held ∈ [(0 : Byte), 1, 2, 3], ∀ b ∈ [(0 : Byte), 1, 2, 3], ∃ (s : State) (dt i : Nat) (addr : Word16) (data : List Byte),
      s.mem.wf = true ∧ s.settled = true ∧ s.port.transfer = none ∧ ms ≤ s.now + dt ∧ i < 64 ∧ i < data.length ∧
      areaOf ((addr.toNat + i) % 0x8000) = .slot 15 0 ∧ s.slotState 15 = held ∧ byteAt data i = b) ∧
    (areaOf 0x0040 = .settings ∧ areaOf 0x00FF = .settings ∧ areaOf 0x0101 = .slot 0 1 ∧ areaOf 0x04FF = .slot 15 63 ∧
      areaOf 0x0500 = .marks ∧ areaOf 0x050B = .marks ∧ areaOf 0x2000 = .trail ∧ areaOf 0x27FF = .trail ∧
      areaOf 0x4000 = .scratch ∧ areaOf 0x7FFF = .scratch ∧ areaOf 0x0000 = .summary ∧ areaOf 0x3FFF = .unassigned) := by
  refine ⟨⟨withRequest .heatDemand [] car, 0, List.replicate 66 7, by decide +kernel, shown_settled _, by decide +kernel⟩,
    fun held hh b hb => ⟨shown { car with mem := car.mem.write (slotBase 15) held }, 0, 1, word16 (slotBase 15 - 1), [7, b, 9],
      ?_, shown_settled _, ?_⟩, by decide⟩ <;> simp only [List.mem_cons, List.not_mem_nil, or_false] at hh hb
  · rcases hh with rfl | rfl | rfl | rfl <;> decide +kernel
  · rcases hh with rfl | rfl | rfl | rfl <;> rcases hb with rfl | rfl | rfl | rfl <;> decide +kernel

/-- Slot 15 in any state; the byte written is any byte. -/
theorem witness_SlotGuardTable : ∀ held : Byte, ∃ (s : State) (dt k : Nat), k < 16 ∧ s.settled = true ∧
    s.port.transfer = none ∧ ms ≤ s.now + dt ∧ s.slotState k = held := fun held =>
  ⟨shown { car with mem := car.mem.write (slotBase 15) held }, 0, 15, by decide, shown_settled _, rfl,
    show ms ≤ 10000000000 by decide, (Memory.read_write _ _ _ _ rfl).trans (if_pos rfl)⟩

/-- A lead with one side ABSENT and its firing bytes shown, and a member; UP spans with a history of four and of three samples;
an image of three records. -/
theorem witness_ReadOutEchoAndAttnShowState :
    (∃ s : State, s.settled = true ∧ (∀ x : SpanId, (s.span x).history.length ≤ 4 ∧ (s.span x).echo.length = 4) ∧
      (s.span .b).history.length = 4 ∧ ((s.span .b).echo[3]?).isSome = true ∧ s.table.records.length = 3 ∧
      s.table.records[2]? = some (imageRecordOf (record 62300 1)) ∧ (s.side .one).state ≠ .absent ∧ (s.side .two).state = .absent ∧
      s.census.role = .lead ∧ s.door.lastDone.counts.length = 8 ∧ s.pub.fire = s.fire.board) ∧
    (∃ s : State, s.settled = true ∧ s.census.role = .member) ∧ areaOf 0x0504 = .marks ∧ areaOf 0x1FFF = .unassigned := by
  refine ⟨⟨shown { lead .valid with
      spanB := { upSpan with history := [262, 266, 260, 259] }, door := { Door.reset with side1 := closedSide }
      pub := { car.pub with fire := car.fire.board } }, shown_settled _, fun x => ?_, ?_⟩,
    ⟨shown car, shown_settled _, rfl⟩, by decide⟩
  · cases x <;> decide
  · decide +kernel

/-! ## Witnesses: requests, trail and CONFIGURE -/

/-- A posted slot 0 with a kind code and first parameter; an action that its owner does not know is handed on too. -/
def posted (running : Bool) (code action : Byte) : State :=
  shown { car with
    mem := Memory.writeList [] 0x0100 [1, code, 0, 0, 0, 0, action], req := { queue := [0], handed := [] }
    port := { car.port with running := running } }

theorem witness_TakeRoutesHeadAndCompletionAnswers :
    (∃ (s : State) (k : Nat) (rest : List Nat), s.settled = true ∧ s.mem.wf = true ∧ s.req.queue = k :: rest ∧
      requestKindOf (s.mem.read (slotBase k + 1)) = none) ∧
    (∃ (s : State) (k : Nat) (rest : List Nat) (kind : RequestKind), s.settled = true ∧ s.req.queue = k :: rest ∧
      requestKindOf (s.mem.read (slotBase k + 1)) = some kind ∧ s.port.running = false ∧ kind ≠ .configure) ∧
    (∃ (s : State) (k : Nat) (rest : List Nat), s.settled = true ∧ s.req.queue = k :: rest ∧
      requestKindOf (s.mem.read (slotBase k + 1)) = some .spanControl ∧ s.port.running = true ∧
      byteAt (s.mem.readList (slotBase k + 6) 26) 0 = 6) ∧
    (∃ (s : State) (k : Nat) (rest : List Nat), s.settled = true ∧ s.req.queue = k :: rest ∧
      requestKindOf (s.mem.read (slotBase k + 1)) = some .configure ∧ s.port.running = false) :=
  ⟨⟨posted true 11 0, 0, [], shown_settled _, by decide +kernel⟩,
    ⟨posted false 10 0, 0, [], .faultClear, shown_settled _, by decide +kernel⟩,
    ⟨posted true 2 6, 0, [], shown_settled _, by decide +kernel⟩, ⟨posted false 1 0, 0, [], shown_settled _, by decide +kernel⟩⟩

/-- The trail of the example of chapter 11: 127 records held, then 128, then 128 with two events lost. -/
def trailOf (next : Word32) (gap : Nat) : State := shown { car with trail := { oldest := 1, next := next, gap := gap } }

theorem witness_TrailRecordsAndFrees :
    (∃ s : State, s.mem.wf = true ∧ (s.trail.next - s.trail.oldest).toNat = 127) ∧
    (∃ s : State, s.mem.wf = true ∧ (s.trail.next - s.trail.oldest).toNat = 128) ∧
    (∃ (s : State) (seq : Word32), s.mem.wf = true ∧ s.settled = true ∧ s.port.transfer = none ∧ ms ≤ s.now ∧
      seq ≠ s.releaseSequence ∧
      (s.trail.next - s.trail.oldest).toNat < (seq - (s.trail.oldest - 1)).toNat) ∧
    (∃ (s : State) (seq : Word32), s.mem.wf = true ∧ s.settled = true ∧ s.port.transfer = none ∧ ms ≤ s.now ∧
      seq ≠ s.releaseSequence ∧
      (seq - (s.trail.oldest - 1)).toNat ≤ (s.trail.next - s.trail.oldest).toNat ∧ s.trail.gap = 0) ∧
    (∃ (s : State) (seq : Word32), s.mem.wf = true ∧ s.settled = true ∧ s.port.transfer = none ∧ ms ≤ s.now ∧
      seq ≠ s.releaseSequence ∧
      (seq - (s.trail.oldest - 1)).toNat ≤ (s.trail.next - s.trail.oldest).toNat ∧
      (s.trail.next - (seq + 1)).toNat < 128 ∧ 0 < s.trail.gap) :=
  ⟨⟨trailOf 128 0, by decide⟩, ⟨trailOf 129 2, by decide⟩,
    ⟨trailOf 129 2, 129, by decide +kernel, shown_settled _, by decide +kernel⟩,
    ⟨trailOf 129 0, 128, by decide +kernel, shown_settled _, by decide +kernel⟩,
    ⟨trailOf 129 2, 1, by decide +kernel, shown_settled _, by decide +kernel⟩⟩

/-- The settings block of `settings`, as the exchange memory stores it. -/
def settingsBlock (ceiling : Word16) : List Byte :=
  le32 48213 ++ [1, 1, 3, 2, 10, 1, 0, 0] ++ le16 400 ++ le16 400 ++ le16 200 ++ le16 0 ++ [0, 0, 0, 0] ++ le16 ceiling ++
    [4, 2] ++ le16 10000 ++ le16 2000 ++ le16 1200 ++ le16 770 ++ le16 450 ++ [1, 3]

/-- An unconfigured part that has been handed a CONFIGURE. -/
def unconfigured (ceiling : Word16) : State :=
  withRequest .configure [] { State.reset with
    now := 10000000000, mem := Memory.writeList [] 0x0040 (settingsBlock ceiling) }

theorem witness_ConfigureAdoptsOrRefuses :
    (∃ (s : State) (r : Request) (rest : List Request), s.settled = true ∧
      takeRequest (fun r => r.kind == .configure) s.req.handed = (some r, rest) ∧ s.port.running = true) ∧
    (∃ (s : State) (r : Request) (rest : List Request), s.settled = true ∧
      takeRequest (fun r => r.kind == .configure) s.req.handed = (some r, rest) ∧ s.port.running = false ∧
      settingsFault (parseSettings (s.mem.readList 0x0040 40)) = some 24) ∧
    (∃ (s : State) (r : Request) (rest : List Request), s.settled = true ∧
      takeRequest (fun r => r.kind == .configure) s.req.handed = (some r, rest) ∧ s.port.running = false ∧
      s.mem.wf = true ∧ r.slot < 16 ∧ parseSettings (s.mem.readList 0x0040 40) = { settings with ceiling := 4000 } ∧
      settingsFault (parseSettings (s.mem.readList 0x0040 40)) = none ∧ settings.doorSides = 3 ∧ s.trail.held ≤ 64 ∧
      s.heat.cap ≠ .fallback) :=
  ⟨⟨withRequest .configure [] car, request .configure [], [], shown_settled _, by decide +kernel⟩,
    ⟨unconfigured 4001, request .configure [], [], shown_settled _, by decide +kernel⟩,
    ⟨unconfigured 4000, request .configure [], [], shown_settled _, by decide +kernel⟩⟩

/-! ## Witnesses: spans -/

def spanRequest (action selector : Byte) (s : State) : State := withRequest .spanControl [action, selector] s

/-- A car whose span A is OFF. -/
def halfOff : State := { car with spanA := { Span.reset with enable := true } }

theorem witness_SpanControlActs :
    (∃ (s : State) (r : Request) (rest : List Request), s.settled = true ∧
      takeRequest (fun r => r.spanAction 1) s.req.handed = (some r, rest) ∧ r.param 0 = 1 ∧ r.param 1 = 3) ∧
    (∃ (s : State) (r : Request) (rest : List Request), s.settled = true ∧
      takeRequest (fun r => r.spanAction 1) s.req.handed = (some r, rest) ∧ r.param 0 = 1 ∧ r.param 1 = 4) ∧
    (∀ action ∈ [(0 : Byte), 6], ∃ (s : State) (r : Request) (rest : List Request), s.settled = true ∧
      takeRequest (fun r => r.spanAction 1) s.req.handed = (some r, rest) ∧ r.param 0 = action ∧ r.param 1 = 3) ∧
    (∃ (s : State) (r : Request) (rest : List Request), s.settled = true ∧ s.mem.wf = true ∧ r.slot < 16 ∧ r.param 1 = 1 ∧
      takeRequest (fun r => r.spanAction 2) s.req.handed = (some r, rest) ∧ (s.span .a).state = .off) ∧
    (∃ (s : State) (r : Request) (rest : List Request), s.settled = true ∧ s.mem.wf = true ∧ r.slot < 16 ∧ r.param 1 = 2 ∧
      takeRequest (fun r => r.spanAction 2) s.req.handed = (some r, rest) ∧ (s.span .b).state ≠ .off) ∧
    (∃ (s : State) (r : Request) (rest : List Request), s.settled = true ∧ s.mem.wf = true ∧ r.slot < 16 ∧ r.param 1 = 3 ∧
      takeRequest (fun r => r.spanAction 3) s.req.handed = (some r, rest) ∧ (s.span .a).state = .off) ∧
    (∃ (s : State) (r : Request) (rest : List Request), s.settled = true ∧ s.mem.wf = true ∧ r.slot < 16 ∧ r.param 1 = 3 ∧
      takeRequest (fun r => r.spanAction 3) s.req.handed = (some r, rest) ∧ (s.span .a).state ≠ .off ∧
      (s.span .b).state ≠ .off) := by
  refine ⟨⟨spanRequest 1 3 halfOff, request .spanControl [1, 3], [], shown_settled _, by decide +kernel⟩,
    ⟨spanRequest 1 4 halfOff, request .spanControl [1, 4], [], shown_settled _, by decide +kernel⟩,
    fun action ha => ⟨spanRequest action 3 halfOff, request .spanControl [action, 3], [], shown_settled _, ?_⟩,
    ⟨spanRequest 2 1 halfOff, request .spanControl [2, 1], [], shown_settled _, by decide +kernel⟩,
    ⟨spanRequest 2 2 halfOff, request .spanControl [2, 2], [], shown_settled _, by decide +kernel⟩,
    ⟨spanRequest 3 3 halfOff, request .spanControl [3, 3], [], shown_settled _, by decide +kernel⟩,
    ⟨spanRequest 3 3 car, request .spanControl [3, 3], [], shown_settled _, by decide +kernel⟩⟩
  simp only [List.mem_cons, List.not_mem_nil, or_false] at ha
  rcases ha with rfl | rfl <;> decide +kernel

/-- A car with both spans OFF and its relay in a given state. -/
def withRelay (relay : RelayState) (waiter : Option Nat) : State :=
  { car with
    spanA := { Span.reset with enable := true }, spanB := Span.reset
    bypass := { relay := relay, drive := relay != .closed, doneAt := if relay = .switching then some 10000000000 else none
                waiter := waiter } }

theorem witness_RelayFollowsControl :
    (∃ (s : State) (r : Request) (rest : List Request), s.settled = true ∧
      takeRequest (fun r => r.spanAction 4) s.req.handed = (some r, rest) ∧ s.bypass.relay = .opened) ∧
    (∃ (s : State) (r : Request) (rest : List Request), s.settled = true ∧
      takeRequest (fun r => r.spanAction 4) s.req.handed = (some r, rest) ∧ s.bypass.relay = .closed) ∧
    (∃ (s : State) (r : Request) (rest : List Request), s.settled = true ∧
      takeRequest (fun r => r.spanAction 4) s.req.handed = (some r, rest) ∧ s.bypass.relay = .switching) ∧
    (∃ (s : State) (r : Request) (rest : List Request), s.settled = true ∧
      takeRequest (fun r => r.spanAction 5) s.req.handed = (some r, rest) ∧ s.bypass.relay = .opened) ∧
    (∃ (s : State) (r : Request) (rest : List Request), s.settled = true ∧
      takeRequest (fun r => r.spanAction 5) s.req.handed = (some r, rest) ∧ s.bypass.relay = .closed) ∧
    (∃ (s : State) (r : Request) (rest : List Request), s.settled = true ∧
      takeRequest (fun r => r.spanAction 5) s.req.handed = (some r, rest) ∧ s.bypass.relay = .switching) ∧
    (∃ (s : State) (e : Nat), s.settled = true ∧ s.bypass.doneAt = some e ∧ e ≤ s.now ∧ s.bypass.waiter = none) ∧
    (∃ (s : State) (e k : Nat), s.settled = true ∧ s.bypass.doneAt = some e ∧ e ≤ s.now ∧ s.bypass.waiter = some k) :=
  ⟨⟨spanRequest 4 0 car, request .spanControl [4, 0], [], shown_settled _, by decide +kernel⟩,
    ⟨spanRequest 4 0 (withRelay .closed none), request .spanControl [4, 0], [], shown_settled _, by decide +kernel⟩,
    ⟨spanRequest 4 0 (withRelay .switching none), request .spanControl [4, 0], [], shown_settled _, by decide +kernel⟩,
    ⟨spanRequest 5 0 car, request .spanControl [5, 0], [], shown_settled _, by decide +kernel⟩,
    ⟨spanRequest 5 0 (withRelay .closed none), request .spanControl [5, 0], [], shown_settled _, by decide +kernel⟩,
    ⟨spanRequest 5 0 (withRelay .switching none), request .spanControl [5, 0], [], shown_settled _, by decide +kernel⟩,
    ⟨shown (withRelay .switching none), 10000000000, shown_settled _, by decide +kernel⟩,
    ⟨shown (withRelay .switching (some 15)), 10000000000, 15, shown_settled _, by decide +kernel⟩⟩

/-- A PROBING or SENSED span whose probe is due now; with `window`, a listen window that ends now is open instead. -/
def searching (state : SpanState) (window : Bool) (runRef runCount : Nat) : State :=
  onSpan .b (fun _ => { Span.reset with
    state := state, enable := true, lfsr := 1, probeDue := some 10000000000, runRef := runRef, runCount := runCount
    window := if window then some 9999987000 else none
    answers := [10000000000], history := if runCount = 0 then [] else [262] }) car

theorem witness_ProbesAndAnswers :
    (∃ (s : State) (x : SpanId) (due quiet : Nat), s.settled = true ∧ (s.span x).state = .probing ∧
      (s.span x).probeDue = some due ∧ due ≤ s.now ∧ quiet = 16000 ∧ (s.span x).busyUntil + 16000 ≤ s.now ∧
      (s.span x).answering s.now = false) ∧
    (∃ (s : State) (x : SpanId) (w : Nat), s.settled = true ∧ (s.span x).state = .sensed ∧ (s.span x).window = some w ∧
      (∀ w : Nat, (s.span x).window = some w → w + 13000 ≤ s.now) ∧ (s.span x).answering s.now = false) ∧
    (∃ (s : State) (x : SpanId) (a : Nat) (later : List Nat), s.settled = true ∧ (s.span x).state = .probing ∧
      (s.span x).answers = a :: later ∧ a ≤ s.now) :=
  ⟨⟨searching .probing false 0 0, .b, 10000000000, 16000, shown_settled _, by decide +kernel⟩,
    ⟨searching .sensed true 4524 1, .b, 9999987000, shown_settled _, by decide +kernel, by decide +kernel,
      fun w h => by have : some 9999987000 = some w := h; cases this; decide +kernel, by decide +kernel⟩,
    ⟨searching .probing false 0 0, .b, 10000000000, [], shown_settled _, by decide +kernel⟩⟩

def excursion (arrival width : Word16) : Excursion := { arrival := arrival, width := width, polarity := .same }

/-- The bounds of an answer: arrival 4000 and 12 000, width 1800 and 2200; just outside, the class is another. -/
theorem witness_ListenWindowsClassify :
    (∀ state ∈ [SpanState.probing, .sensed], ∃ (s : State) (dt w : Nat) (x : SpanId) (es : List Excursion), s.settled = true ∧
      (s.span x).state = state ∧ (s.span x).window = some w ∧ w + 13000 ≤ s.now + dt ∧
      (Instr.listenWindowEnd dt x es).wf = true ∧ es = [excursion 3999 2200, excursion 12001 1800] ∧
      classOfEchoes (es.take 4) ≠ .answered) ∧
    (∀ e ∈ [excursion 4000 1800, excursion 12000 2200], ∃ (s : State) (dt w : Nat) (x : SpanId) (es before after : List Excursion),
      s.settled = true ∧ (s.span x).state = .probing ∧ (s.span x).window = some w ∧ w + 13000 ≤ s.now + dt ∧
      (Instr.listenWindowEnd dt x es).wf = true ∧ es.take 4 = before ++ e :: after ∧ before ≠ [] ∧
      classOfEchoes before ≠ .answered) ∧
    (∀ runRef ∈ [4484, 4564, 4483, 4565], ∀ runCount ∈ [1, 2], ∃ (s : State) (dt w : Nat) (x : SpanId) (es : List Excursion),
      s.settled = true ∧ (s.span x).state = .sensed ∧ (s.span x).window = some w ∧ w + 13000 ≤ s.now + dt ∧
      (Instr.listenWindowEnd dt x es).wf = true ∧ es.take 4 = [] ++ excursion 4524 2000 :: [] ∧
      (s.span x).runRef = runRef ∧ (s.span x).runCount = runCount) := by
  refine ⟨fun state _ => ⟨searching state true 4524 1, 0, 9999987000, .b, [excursion 3999 2200, excursion 12001 1800],
      shown_settled _, rfl, rfl, show 9999987000 + 13000 ≤ 10000000000 by decide, by decide +kernel, rfl, by decide +kernel⟩,
    fun e he => ⟨searching .probing true 0 0, 0, 9999987000, .b, [excursion 700 1000, e], [excursion 700 1000], [],
      shown_settled _, rfl, rfl, by decide +kernel, ?_, rfl, by decide, by decide +kernel⟩,
    fun r _ c _ => ⟨searching .sensed true r c, 0, 9999987000, .b, [excursion 4524 2000], shown_settled _, rfl, rfl,
      show 9999987000 + 13000 ≤ 10000000000 by decide, by decide +kernel, rfl, rfl, rfl⟩⟩
  simp only [List.mem_cons, List.not_mem_nil, or_false] at he
  rcases he with rfl | rfl <;> decide

/-- A HELLO of the neighbour with an identity and a heard identity. -/
def hello (identity heard : Word32) : Frame :=
  frame .hello 0 (helloPayload { identity := identity, endCode := 1, kind := 2, gen := 7, heard := heard })

/-- A GREETING span. -/
def greeting : State :=
  { car with
    spanB := { Span.reset with
      state := .greeting, enable := true, lfsr := 1, delay := 263, history := [262, 266, 260], greetEnd := some 10000000000
      helloDue := some 10000000000 } }

/-- A SENSED span with and without a delay sample. -/
def sensed (history : List Nat) : State :=
  { car with spanB := { Span.reset with state := .sensed, enable := true, lfsr := 1, history := history, runCount := 1
                                        probeDue := some 10000000000 } }

theorem witness_HelloDrivesGreeting :
    ∀ s ∈ [greeting, sensed [], sensed [262]], ∀ m ∈ [((48213 : Word32), (0 : Word32)), (51907, 48213), (51907, 0)],
      ∃ (t : State) (x : SpanId) (r : RxFrame) (rest : List RxFrame) (msg : HelloMsg), t.settled = true ∧
        takeFor .spanUnit (t.span x).rxq = (some r, rest) ∧ r.frame.kind = .hello ∧ parseHello r.frame = some msg ∧
        ((t.span x).state = .probing ∨ (t.span x).state = .sensed ∨ (t.span x).state = .greeting) ∧
        msg.identity = m.1 ∧ msg.heard = m.2 ∧ t.settings.identity = 48213 := by
  intro s hs m hm
  refine ⟨withFrame .b (hello m.1 m.2) s, .b, received (hello m.1 m.2), [],
    { identity := m.1, endCode := 1, kind := 2, gen := 7, heard := m.2 }, shown_settled _, ?_⟩
  simp only [List.mem_cons, List.not_mem_nil, or_false] at hs hm
  rcases hs with rfl | rfl | rfl <;> rcases hm with rfl | rfl | rfl <;> decide +kernel

theorem witness_SpanEventsReported :
    (∃ (s : State) (x : SpanId) (r : RxFrame) (rest : List RxFrame) (m : HelloMsg), s.settled = true ∧
      takeFor .spanUnit (s.span x).rxq = (some r, rest) ∧ r.frame.kind = .hello ∧ parseHello r.frame = some m ∧
      (s.span x).state = .greeting ∧ (s.span x).depth = 7 ∧ m.identity ≠ s.settings.identity ∧
      m.heard = s.settings.identity ∧ s.census.role = .member ∧ s.census.state = .uncensused) ∧
    (∃ (s : State) (e : Nat) (x : SpanId) (p : Partner), s.settled = true ∧ (s.span x).state = .up ∧
      (s.span x).partner = some p ∧ (s.span x).silenceEnd = some e ∧ e ≤ s.now ∧
      (∀ f ∈ (s.span x).cur.toList ++ (s.span x).txq, f.tag = .plain) ∧ s.census.role = .member ∧
      s.census.state = .uncensused) :=
  ⟨⟨withFrame .b (hello 51907 48213) { greeting with
        spanB := { greeting.spanB with txq := List.replicate 7 (queuedUnit .hello) } }, .b, received (hello 51907 48213), [],
      { identity := 51907, endCode := 1, kind := 2, gen := 7, heard := 48213 }, shown_settled _, by decide +kernel⟩,
    ⟨onSpan .b (fun u => { u with txq := [queuedUnit .keepalive] }) car, 10000000000, .b, partner, shown_settled _,
      by decide +kernel⟩⟩

theorem witness_UpSpanWatchesPartner :
    (∀ m ∈ [((48213 : Word32), (0 : Word32)), (62300, 0), (51907, 0), (51907, 48213)], ∀ recent ∈ [true, false],
      ∃ (s : State) (x : SpanId) (r : RxFrame) (rest : List RxFrame) (msg : HelloMsg) (p : Partner), s.settled = true ∧
        takeFor .spanUnit (s.span x).rxq = (some r, rest) ∧ r.frame.kind = .hello ∧ parseHello r.frame = some msg ∧
        (s.span x).state = .up ∧ (s.span x).partner = some p ∧ p.identity = 51907 ∧ p.endCode = msg.endCode ∧
        p.kind = msg.kind ∧ msg.identity = m.1 ∧ msg.heard = m.2 ∧ s.settings.identity = 48213 ∧ (s.span x).depth < 8 ∧
        (s.span x).lastHello = some (if recent then 9980000001 else 9980000000) ∧ s.now = 10000000000) ∧
    (∀ payload ∈ [keepalivePayload 51907 7, keepalivePayload 62300 7, []], ∃ (s : State) (x : SpanId) (r : RxFrame)
      (rest : List RxFrame), s.settled = true ∧ takeFor .spanUnit (s.span x).rxq = (some r, rest) ∧
        r.frame.kind = .keepalive ∧ (s.span x).state = .up ∧ (s.span x).partner = some partner ∧
        parseKeepalive r.frame = (if payload = [] then none else some (getBe32 payload 0, 7))) := by
  refine ⟨fun m hm recent hr => ?_, fun payload hp => ?_⟩
  · refine ⟨withFrame .b (hello m.1 m.2) { car with
        spanB := { upSpan with lastHello := some (if recent then 9980000001 else 9980000000) } }, .b,
      received (hello m.1 m.2), [], { identity := m.1, endCode := 1, kind := 2, gen := 7, heard := m.2 }, partner,
      shown_settled _, ?_⟩
    simp only [List.mem_cons, List.not_mem_nil, or_false] at hm hr
    rcases hm with rfl | rfl | rfl | rfl <;> rcases hr with rfl | rfl <;> decide +kernel
  · refine ⟨withFrame .b (frame .keepalive 0 payload) car, .b, received (frame .keepalive 0 payload), [], shown_settled _, ?_⟩
    simp only [List.mem_cons, List.not_mem_nil, or_false] at hp
    rcases hp with rfl | rfl | rfl <;> decide +kernel

theorem witness_TimersRestartSpansAndQueueFrames :
    (∃ (s : State) (e : Nat) (x : SpanId), s.settled = true ∧ (s.span x).state = .greeting ∧ (s.span x).greetEnd = some e ∧
      e = s.now) ∧
    (∃ (s : State) (e : Nat) (x : SpanId), s.settled = true ∧ (s.span x).state = .up ∧ (s.span x).silenceEnd = some e ∧
      e = s.now) ∧
    (∃ (s : State) (x : SpanId), s.settled = true ∧ (s.span x).state = .up ∧ (s.span x).bucket = 32) ∧
    (∀ kind ∈ [FrameKind.hello, .keepalive], ∃ (s : State) (due : Nat) (x : SpanId), s.settled = true ∧
      (s.span x).state = .greeting ∧ (s.span x).helloDue = some due ∧ due = s.now ∧ (s.span x).depth = 7 ∧
      (s.span x).txq = List.replicate 7 (queuedUnit kind)) ∧
    (∃ (s : State) (x : SpanId), s.settled = true ∧ (s.span x).state = .up ∧ (s.span x).txq = [] ∧ (s.span x).cur = none ∧
      (s.span x).idleFrom + 10000000 = s.now) :=
  ⟨⟨shown greeting, 10000000000, .b, shown_settled _, by decide +kernel⟩,
    ⟨shown car, 10000000000, .b, shown_settled _, by decide +kernel⟩,
    ⟨onSpan .b (fun u => { u with bucket := 32 }) car, .b, shown_settled _, by decide +kernel⟩,
    fun kind _ => ⟨shown { greeting with spanB := { greeting.spanB with txq := List.replicate 7 (queuedUnit kind) } },
      10000000000, .b, shown_settled _, rfl, rfl, rfl, rfl, rfl⟩,
    ⟨onSpan .b (fun u => { u with idleFrom := 9990000000 }) car, .b, shown_settled _, by decide +kernel⟩⟩

/-- A state whose relay knows whether the car is the end car, as after every command. -/
def linked (s : State) : State :=
  shown { s with relay :=
    if s.census.role = .member ∧ s.census.state.listed then { s.relay with endCar := some s.isEndCar } else Relay.empty }

/-- The slots and span units of a state are sound. -/
def fits (s : State) : Prop := s.slotsSound ∧ s.spansSound ∧ endKnown s ∧ trailRoom s

theorem linked_fits (s : State) (ha : s.spanA.sound) (hb : s.spanB.sound) (hm : s.mem = [] ∧ s.trail = car.trail)
    (hq : s.req = { queue := [], handed := [] } ∧ s.census.slot = none ∧ s.door.outstanding = none)
    (hc : s.census.state.busy = true → s.census.role = .lead) (hp : s.bypass = car.bypass ∧ s.port.running = true) :
    fits (linked s) := by
  obtain ⟨hm, ht⟩ := hm
  obtain ⟨hq, hk, ho⟩ := hq
  obtain ⟨hb1, hr⟩ := hp
  have hs : (linked s).holders = [] := by
    show (s.req.handed.map fun r => r.slot) ++ s.bypass.waiter.toList ++ s.census.slot.toList ++
      (s.door.outstanding.map fun o => o.slot).toList = []
    rw [hq, hk, ho, hb1]; rfl
  have hz : ∀ k : Nat, (linked s).slotState k = 0 := fun k => by
    show s.mem.read (slotBase k) = 0
    rw [hm]; rfl
  refine ⟨⟨?_, ?_, ?_, ?_, ?_, fun k _ => ?_, ?_, hc, ?_⟩, ⟨ha, hb, ?_, ?_, ?_, ?_, ?_⟩, ?_, ?_⟩
  · show s.mem.wf = true
    rw [hm]; rfl
  · show s.req.queue.Nodup
    rw [hq]; exact List.nodup_nil
  · rw [hs]; exact List.nodup_nil
  · show ∀ k ∈ s.req.queue, k < 16
    rw [hq]; nofun
  · rw [hs]; nofun
  · have h1 : (linked s).req.queue = [] := by show s.req.queue = []; rw [hq]
    rw [hz, hs, h1]; exact ⟨by decide, by simp, by simp⟩
  · show s.census.slot.isSome = true → _
    rw [hk]; nofun
  · show s.bypass.waiter.isSome = true → _
    rw [hb1]; nofun
  · show s.bypass.relay ≠ .opened → _
    rw [hb1]; exact fun h => absurd rfl h
  · show s.bypass.doneAt.isSome = true ↔ s.bypass.relay = .switching
    rw [hb1]; decide
  · show s.bypass.relay = .opened → s.bypass.drive = true
    rw [hb1]; decide
  · show s.bypass.relay = .closed → s.bypass.drive = false
    rw [hb1]; decide
  · show s.port.running = false → _
    rw [hr]; nofun
  · refine ⟨fun h1 h2 => ?_, fun h => ?_⟩
    · show (if s.census.role = .member ∧ s.census.state.listed = true then { s.relay with endCar := some s.isEndCar }
        else Relay.empty).endCar = some s.isEndCar
      exact congrArg Relay.endCar (if_pos ⟨h1, h2⟩)
    · refine if_neg fun g => ?_
      have h : s.census.role = .lead ∨ s.census.state.listed = false := h
      rcases h with h | h
      · exact absurd (g.1.symm.trans h) nofun
      · exact absurd (g.2.symm.trans h) nofun
  · show s.trail.held ≤ 64
    rw [ht]; decide

/-- A GREETING span with a HELLO that brings it UP. -/
def metSpan : Span := { greeting.spanB with rxq := [received (hello 51907 48213)] }


theorem upSpan_sound : upSpan.sound := by
  unfold Span.sound
  refine ⟨⟨?_, ?_, ?_, ?_, ?_, ?_, ?_, ?_⟩, ?_, ?_, ?_, ?_, ?_, ?_, ?_, ?_, ?_, ?_, ?_, ?_⟩ <;> decide +kernel

theorem metSpan_sound : metSpan.sound := by
  unfold Span.sound
  refine ⟨⟨?_, ?_, ?_, ?_, ?_, ?_, ?_, ?_⟩, ?_, ?_, ?_, ?_, ?_, ?_, ?_, ?_, ?_, ?_, ?_, ?_⟩ <;> decide +kernel

def ownShare : Contribution := { cls := .applied, late := false, verdict1 := 1, verdict2 := 1 }

/-- A member whose span `x` falls silent, `relayed` saying whether it sent an END on; and one whose downstream span is met. -/
def losing (st : CensusState) (relayed : Bool) : State :=
  linked { member st with
    census := { (member st).census with relayed := relayed }
    relay := { Relay.empty with openOrder := some { gen := 8, number := 7, own := ownShare, ackEnd := 10000000000 } } }

def meeting (st : CensusState) : State := linked { member st with spanB := metSpan }

/-- A lead with both spans UP, and one whose span `x` is met. -/
def leadLosing (st : CensusState) : State := linked { lead st with spanA := upSpan }

def leadMeeting (st : CensusState) (x : SpanId) : State := linked ({ lead st with spanA := upSpan }.setSpan x metSpan)

/-- A span is UP after the step when the command's effect leaves it UP. -/
theorem isUp_after (dt : Nat) (f : State → State) (s : State) (x : SpanId) :
    (after (.next (s.run dt f))).isUp x = (f (s.advance dt)).isUp x := by
  show (((f (s.advance dt)).settle.span x).state == .up) = _
  rw [settle_span]
  rfl

theorem silence_isUp (s : State) (x y : SpanId) : (after (exec (.silence 0 x) s)).isUp y =
    (let t := s.advance 0
      if (t.span x).state = .up ∧ t.reached (t.span x).silenceEnd = true then t.exitSpan x .probing .silence else t).isUp y :=
  isUp_after ..

theorem hello_isUp (s : State) (x y : SpanId) : (after (exec (.hello 0 x) s)).isUp y =
    ((s.advance 0).takeFrame x .hello fun r u => u.takeHello x r.frame).isUp y := isUp_after ..

theorem witness_CensusTakesSpanEvents :
    (∀ st ∈ [CensusState.uncensused, .enlisted, .awaitTable, .valid, .stale], ∀ relayed ∈ [false, true],
      ∀ x ∈ [SpanId.a, .b], ∃ (c : Instr) (s t : State) (k : Context), s.settled = true ∧ fits s ∧ linkCommand c 0 x ∧
        exec c s = .next t ∧ s.isUp x = true ∧ t.isUp x = false ∧ t.isUp (otherSpan x) = true ∧ canSend s (otherSpan x) ∧
        s.census.role = .member ∧ s.census.state = st ∧ s.census.ctx = some k ∧ k.upstream = .a ∧
        s.census.relayed = relayed ∧
        (st ≠ .uncensused → s.upstream = some .a ∧ s.downstream = some .b ∧ s.isEndCar = false) ∧
        (st.listed = true → s.relay.openOrder.isSome = true) ∧ (s.span x).cur.toList ++ (s.span x).txq = []) ∧
    (∀ st ∈ [CensusState.uncensused, .enlisted, .awaitTable, .valid, .stale], ∃ (c : Instr) (s t : State), s.settled = true ∧
      fits s ∧ linkCommand c 0 .b ∧ exec c s = .next t ∧ s.isUp .b = false ∧ t.isUp .b = true ∧ s.census.role = .member ∧
      s.census.state = st ∧ (st ≠ .uncensused → s.downstream = some .b) ∧ canSend s .a ∧ t.isUp .a = true) ∧
    (∀ st ∈ [CensusState.uncensused, .calling, .distributing, .valid, .stale], ∀ x ∈ [SpanId.a, .b], ∃ (c : Instr)
      (s t : State), s.settled = true ∧ fits s ∧ linkCommand c 0 x ∧ exec c s = .next t ∧ s.isUp x = true ∧ t.isUp x = false ∧
      t.isUp (otherSpan x) = true ∧ s.census.role = .lead ∧ s.census.state = st ∧ s.settings.autoCensus = 1 ∧ s.cabSpan = .a ∧
      s.trainSpan = .b) ∧
    (∀ st ∈ [CensusState.uncensused, .calling, .distributing, .valid, .stale], ∀ x ∈ [SpanId.a, .b], ∃ (c : Instr)
      (s t : State), s.settled = true ∧ fits s ∧ linkCommand c 0 x ∧ exec c s = .next t ∧ s.isUp x = false ∧ t.isUp x = true ∧
      t.isUp (otherSpan x) = true ∧ s.census.role = .lead ∧ s.census.state = st) := by
  have hf : ∀ (st : CensusState) (r : Role), st ∈ [CensusState.uncensused, .enlisted, .awaitTable, .valid, .stale] →
      st.busy = true → r = .lead := by
    intro st r h hb
    simp only [List.mem_cons, List.not_mem_nil, or_false] at h
    rcases h with rfl | rfl | rfl | rfl | rfl <;> exact absurd hb (by decide)
  refine ⟨fun st h relayed hr x hx => ⟨.silence 0 x, losing st relayed, after (exec (.silence 0 x) (losing st relayed)),
      { lead := 40017, number := 21, position := 2, upstream := .a }, shown_settled _,
      linked_fits _ upSpan_sound upSpan_sound ⟨rfl, rfl⟩ ⟨rfl, rfl, rfl⟩ (hf st _ h) ⟨rfl, rfl⟩, .inr (.inr (.inl rfl)),
      eq_next_after _ ?_, ?_⟩,
    fun st h => ⟨.hello 0 .b, meeting st, after (exec (.hello 0 .b) (meeting st)), shown_settled _,
      linked_fits _ upSpan_sound metSpan_sound ⟨rfl, rfl⟩ ⟨rfl, rfl, rfl⟩ (hf st _ h) ⟨rfl, rfl⟩, .inl rfl,
      eq_next_after _ ?_, ?_⟩,
    fun st h x hx => ⟨.silence 0 x, leadLosing st, after (exec (.silence 0 x) (leadLosing st)), shown_settled _,
      linked_fits _ upSpan_sound upSpan_sound ⟨rfl, rfl⟩ ⟨rfl, rfl, rfl⟩ (fun _ => rfl) ⟨rfl, rfl⟩, .inr (.inr (.inl rfl)),
      eq_next_after _ ?_, ?_⟩,
    fun st h x hx => ⟨.hello 0 x, leadMeeting st x, after (exec (.hello 0 x) (leadMeeting st x)), shown_settled _, ?_, .inl rfl,
      eq_next_after _ ?_, ?_⟩⟩
  case refine_7 =>
    cases x
    · exact linked_fits _ metSpan_sound upSpan_sound ⟨rfl, rfl⟩ ⟨rfl, rfl, rfl⟩ (fun _ => rfl) ⟨rfl, rfl⟩
    · exact linked_fits _ upSpan_sound metSpan_sound ⟨rfl, rfl⟩ ⟨rfl, rfl, rfl⟩ (fun _ => rfl) ⟨rfl, rfl⟩
  all_goals simp only [List.mem_cons, List.not_mem_nil, or_false] at *
  · rcases h with rfl | rfl | rfl | rfl | rfl <;> rcases hr with rfl | rfl <;> rcases hx with rfl | rfl <;> decide +kernel
  · simp only [silence_isUp]
    unfold canSend
    rcases h with rfl | rfl | rfl | rfl | rfl <;> rcases hr with rfl | rfl <;> rcases hx with rfl | rfl <;> decide +kernel
  · rcases h with rfl | rfl | rfl | rfl | rfl <;> decide +kernel
  · simp only [hello_isUp]
    unfold canSend
    rcases h with rfl | rfl | rfl | rfl | rfl <;> decide +kernel
  · rcases h with rfl | rfl | rfl | rfl | rfl <;> rcases hx with rfl | rfl <;> decide +kernel
  · simp only [silence_isUp]
    rcases h with rfl | rfl | rfl | rfl | rfl <;> rcases hx with rfl | rfl <;> decide +kernel
  · rcases h with rfl | rfl | rfl | rfl | rfl <;> rcases hx with rfl | rfl <;> decide +kernel
  · simp only [hello_isUp]
    rcases h with rfl | rfl | rfl | rfl | rfl <;> rcases hx with rfl | rfl <;> decide +kernel

/-! ## Witnesses: frames and line access -/

/-- The longest payload, and both levels a frame can start with. -/
theorem witness_FrameSurvivesTheLine : ∀ first ∈ [Level.positive, .negative], ∃ f : Frame,
    f.payload.length = 544 ∧ first ≠ .quiet := by
  intro first h
  refine ⟨frame .table 1 (List.replicate 544 0), List.length_replicate .., ?_⟩
  rintro rfl
  simp at h

/-- A line with a KEEPALIVE on it, with one of an unknown kind, with a wrong CRC, cut short, and with a jam. -/
def keepaliveLine : List Level := codeFrame .positive (frame .keepalive 0 (keepalivePayload 51907 7)).encode ++ [.quiet]

def strangeBytes : List Byte := let b : List Byte := [0x77, 0, 0, 0, 0, 8, 0, 0, 0, 0, 0, 0]; b ++ be16 (crc16 b)

/-- A span whose own frame has just ended, or that heard the first part of its partner's frame from its own drive on. -/
def spoken (before : Nat) : State := onSpan .a (fun u => { u with deafUntil := 10000000000 - before }) car

/-- An activity heard whole at its limit, and one half cell short of it; the own frame given as it ends, its second half. -/
theorem witness_ReceptionChecksAndQueues_heard :
    ∀ v ∈ [(keepaliveLine.length - 1, false), (keepaliveLine.length - 2, true), (0, true), (200, true)], ∃ (s : State)
      (x : SpanId), s.settled = true ∧ (s.span x).state = .up ∧ (s.span x).driving s.now = false ∧
      decide (s.now < (s.span x).deafUntil + 1000 * (keepaliveLine.reverse.dropWhile fun l => l == .quiet).length) = v.2 := by
  refine fun v hv => ⟨spoken (1000 * v.1), .a, shown_settled _, rfl, rfl, ?_⟩
  simp only [List.mem_cons, List.not_mem_nil, or_false] at hv
  rcases hv with rfl | rfl | rfl | rfl <;> decide +kernel

theorem witness_ReceptionChecksAndQueues :
    (∃ (s : State) (x : SpanId), s.settled = true ∧ (s.span x).state = .off) ∧
    (∃ (s : State) (x : SpanId), s.settled = true ∧ (s.span x).state = .held) ∧
    (∃ (s : State) (dt : Nat) (x : SpanId), s.settled = true ∧ (s.span x).state = .up ∧ (s.span x).driving (s.now + dt) = true) ∧
    (∀ n ∈ [3, 4], ∃ (s : State) (x : SpanId), s.settled = true ∧ (s.span x).state ≠ .off ∧ (s.span x).state ≠ .held ∧
      (s.span x).driving s.now = false ∧ (s.span x).rxq.length = n) ∧
    (decodeLine [.quiet] = .none ∧ decodeLine ((codeBits .positive (List.replicate 8 true)).1 ++ [.quiet]) = .none ∧
      decodeLine (keepaliveLine.take 40 ++ [.quiet]) = .violated ∧
      (∃ b : List Byte, decodeLine (codeFrame .positive (b ++ [0, 0]) ++ [.quiet]) = .frame (b ++ [0, 0]) ∧
        rejection (b ++ [0, 0]) = some .crc) ∧
      (decodeLine (codeFrame .positive strangeBytes ++ [.quiet]) = .frame strangeBytes ∧ rejection strangeBytes = none ∧
        parseFrame strangeBytes = none) ∧
      (∃ f : Frame, decodeLine keepaliveLine = .frame f.encode ∧ rejection f.encode = none ∧ parseFrame f.encode = some f)) :=
  ⟨⟨shown halfOff, .a, shown_settled _, rfl⟩, ⟨onSpan .a (fun u => { u with state := .held }) car, .a, shown_settled _, rfl⟩,
    ⟨onSpan .a (fun u => { u with drive := .jam 9999999000 true }) car, 0, .a, shown_settled _, rfl, rfl⟩,
    fun n _ => ⟨onSpan .a (fun u => { u with rxq := List.replicate n (received (hello 1 2)) }) car, .a, shown_settled _,
      nofun, nofun, rfl, by simp [onSpan, shown, State.setSpan, State.span]⟩,
    by decide +kernel, by decide +kernel, by decide +kernel,
    ⟨[2, 0, 0, 0, 0, 8, 0, 0, 0, 0, 0, 0], by decide +kernel⟩, by decide +kernel,
    ⟨frame .keepalive 0 (keepalivePayload 51907 7), by decide +kernel⟩⟩

def queued (kind : FrameKind) : TxFrame := { frame := frame kind 5 [], tag := .plain }

/-- R27: a frame that lies under the own drive is not decoded when it ends with it; one that follows the drive is accepted. -/
theorem test_own_drive_is_not_decoded :
    ((after (exec (.frameReceived 0 .a keepaliveLine) (spoken 0))).spanA.accepted = 0) ∧
    ((after (exec (.frameReceived 0 .a keepaliveLine) (spoken (1000 * (keepaliveLine.length - 1))))).spanA.accepted = 1) := by
  decide +kernel

/-- The full queue of the example of chapter 2, its seven waiting frames and the current one. -/
def fullQueue : List TxFrame :=
  [queued .doorState, queued .orderAck, queued .report, queued .demand, queued .doorState, queued .demand, queued .hello]

def fullSpan : Span := { upSpan with cur := some (queued .demand), attempt := 1, txq := fullQueue, backoffEnd := some 10001000000 }

theorem witness_TransmitQueueTakesOrDrops :
    (∃ (s : State) (x : SpanId) (f : TxFrame), f.frame.kind.consumer ≠ .spanUnit ∧ (s.span x).state ≠ .up) ∧
    (∃ (s : State) (x : SpanId) (f : TxFrame), f.frame.kind.consumer = .spanUnit ∧ (s.span x).state ≠ .up ∧
      (s.span x).depth < 8) ∧
    (∃ (s : State) (x : SpanId), (s.span x).state = .up ∧ (s.span x).depth = 7) ∧
    (∃ (s : State) (x : SpanId) (f g : TxFrame) (before after : List TxFrame), (s.span x).state = .up ∧
      (s.span x).depth = 8 ∧ (s.span x).txq = before ++ g :: after ∧
      (∀ h ∈ (s.span x).txq, h.frame.kind.txClass ≤ g.frame.kind.txClass) ∧
      (∀ h ∈ after, h.frame.kind.txClass < g.frame.kind.txClass) ∧ f.frame.kind.txClass < g.frame.kind.txClass) ∧
    (∃ (s : State) (x : SpanId) (f : TxFrame), (s.span x).state = .up ∧ (s.span x).depth = 8 ∧
      (∀ h ∈ (s.span x).txq, h.frame.kind.txClass ≤ f.frame.kind.txClass)) :=
  ⟨⟨greeting, .b, queued .brk, by decide⟩, ⟨greeting, .b, queued .hello, by decide⟩,
    ⟨{ car with spanB := { upSpan with txq := fullQueue } }, .b, by decide⟩,
    ⟨{ car with spanB := fullSpan }, .b, queued .brk, queued .hello, fullQueue.take 6, [], by decide⟩,
    ⟨{ car with spanB := fullSpan }, .b, queued .hello, by decide⟩⟩

theorem witness_AttemptFillsAndDrivesBestFrame :
    (∃ (s : State) (quiet : Nat) (x : SpanId) (f : TxFrame), s.settled = true ∧ (s.span x).state = .up ∧ quiet = 16000 ∧
      (s.span x).busyUntil + 16000 = s.now ∧ (s.span x).lineFree s.now = true ∧
      (∀ e : Nat, (s.span x).backoffEnd = some e → e ≤ s.now) ∧ (s.span x).cur = some f) ∧
    (∃ (s : State) (quiet : Nat) (x : SpanId) (f : TxFrame) (before after : List TxFrame), s.settled = true ∧
      (s.span x).state = .up ∧ quiet = 16000 ∧ (s.span x).busyUntil + 16000 = s.now ∧ (s.span x).lineFree s.now = true ∧
      (∀ e : Nat, (s.span x).backoffEnd = some e → e ≤ s.now) ∧ (s.span x).cur = none ∧
      (s.span x).txq = before ++ f :: after ∧ (∀ h ∈ (s.span x).txq, f.frame.kind.txClass ≤ h.frame.kind.txClass) ∧
      (∀ h ∈ before, f.frame.kind.txClass < h.frame.kind.txClass) ∧ before ≠ []) ∧
    (∀ late ∈ [true, false], ∀ dr ∈ [1842, 1841], ∃ (s : State) (x : SpanId) (f : TxFrame) (rxEnd : Nat),
      f.frame.kind ≠ .hello ∧ f.frame.kind ≠ .keepalive ∧ f.tag = .forwarded 8 1 rxEnd dr late ∧
      (s.now - rxEnd) / 200 + 1840 + ((s.span x).delay + 100) / 200 = 1842) :=
  ⟨⟨onSpan .b (fun u => { u with cur := some (queued .demand), attempt := 1, busyUntil := 9999984000
                                 backoffEnd := some 10000000000 }) car, 16000, .b, queued .demand, shown_settled _, rfl, rfl, rfl,
      by decide +kernel, fun e h => Nat.le_of_eq (Option.some.inj (show some 10000000000 = some e from h)).symm, rfl⟩,
    ⟨onSpan .b (fun u => { u with txq := [queued .brk, queued .order, queued .order], busyUntil := 9999984000 }) car, 16000, .b,
      queued .order, [queued .brk], [queued .order], shown_settled _, rfl, rfl, rfl, by decide +kernel,
      fun e h => (nomatch (show (none : Option Nat) = some e from h)), rfl, rfl, by decide +kernel, by decide +kernel, nofun⟩,
    fun late _ dr _ => ⟨car, .b, { queued .order with tag := .forwarded 8 1 9999999800 dr late }, 9999999800, nofun, nofun, rfl,
      by decide⟩⟩

/-- A span whose frame of 14 bytes has been on the line since 272 µs, and one whose jam has stood for 8 µs. -/
def driving (drive : Drive) (attempt : Nat) (tag : Tag) : State :=
  onSpan .b (fun u => { u with cur := some { queued .keepalive with tag := tag }, attempt := attempt, drive := drive }) car

/-- The member that sent order 7 on, at the end of its eighth jam; the frame carries the order of a number. -/
def sendingOn (number : Byte) : State :=
  onSpan .b (fun u => { u with
    cur := some { queued .order with tag := .forwarded 8 number 0 200000 false }, attempt := 8
    drive := .jam 9999984000 true })
    { member .valid with relay := { (member .valid).relay with
      openOrder := some { gen := 8, number := 7, own := ownShare, ackEnd := 10000000000 } } }

/-- The frame of 14 bytes in half cell `h`. -/
def sending (h : Nat) : State := driving (.frame (9999999500 - 1000 * h) (List.replicate 14 0)) 1 .plain

/-- A quiet line differs from what is driven in the first and the last half cell, whichever level the frame starts with. -/
theorem quiet_not_driven : ∀ h ∈ [0, 271], Level.quiet ≠ ((sending h).advance 0).transmitLevel .b := by
  have hl : firstLevel ∈ [Level.positive, .negative] := by unfold firstLevel; cases Config.firstPositive <;> decide
  have hq : ∀ first ∈ [Level.positive, .negative], ∀ h ∈ [0, 271],
      Level.quiet ≠ ((codeFrame first (List.replicate 14 0))[h]?).getD .quiet := by decide +kernel
  intro h hh
  have ht : ((sending h).advance 0).transmitLevel .b = ((codeFrame firstLevel (List.replicate 14 0))[h]?).getD .quiet := by
    simp only [List.mem_cons, List.not_mem_nil, or_false] at hh
    rcases hh with rfl | rfl <;> rfl
  rw [ht]
  exact hq _ hl h hh

theorem witness_AttemptsEnd :
    (∀ h ∈ [0, 271], ∃ (s : State) (start : Nat) (x : SpanId) (bytes : List Byte) (sample : Level), s.settled = true ∧
      (s.span x).drive = .frame start bytes ∧ s.now = start + 1000 * h + 500 ∧ h < 48 + 16 * bytes.length ∧
      sample ≠ (s.advance 0).transmitLevel x) ∧
    (∃ (s : State) (start : Nat) (x : SpanId) (bytes : List Byte) (sample : Level), s.settled = true ∧
      (s.span x).drive = .frame start bytes ∧ s.now = start + 500 ∧ sample = (s.advance 0).transmitLevel x) ∧
    (∀ attempt ∈ [7, 8], ∀ onFirst ∈ [true, false], ∃ (s : State) (start : Nat) (x : SpanId) (f : TxFrame), s.settled = true ∧
      (s.span x).drive = .jam start onFirst ∧ start + 16000 = s.now ∧ (s.span x).cur = some f ∧ f.tag = .plain ∧
      (s.span x).attempt = attempt) ∧
    (∀ number ∈ [(7 : Byte), 8], ∃ (s : State) (start : Nat) (x : SpanId) (f : TxFrame) (o : OpenOrder), s.settled = true ∧
      (s.span x).drive = .jam start true ∧ start + 16000 = s.now ∧ (s.span x).cur = some f ∧
      f.tag = .forwarded 8 number 0 200000 false ∧ (s.span x).attempt = 8 ∧ s.relay.openOrder = some o ∧ o.gen = 8 ∧
      o.number = 7 ∧ s.upstream = some .a ∧ SpanId.a ≠ x ∧ canSend s .a ∧ s.mem.wf = true ∧ trailRoom s) ∧
    (∃ (s : State) (e : Nat) (x : SpanId), s.settled = true ∧ (s.span x).backoffEnd = some e ∧ e = s.now) ∧
    (∀ tag ∈ [Tag.plain, .forwarded 8 7 0 200000 false], ∃ (s : State) (start : Nat) (x : SpanId) (bytes : List Byte)
      (f : TxFrame), s.settled = true ∧ (s.span x).drive = .frame start bytes ∧ (s.span x).cur = some f ∧ f.tag = tag ∧
      (∀ n : Byte, f.tag ≠ .leadOrder n) ∧ start + (24 + 8 * bytes.length) * 2000 = s.now) := by
  refine ⟨fun h hh => ⟨sending h, 9999999500 - 1000 * h, .b, List.replicate 14 0, .quiet, shown_settled _, rfl, ?_, ?_,
      quiet_not_driven h hh⟩,
    ⟨sending 0, 9999999500, .b, List.replicate 14 0, _, shown_settled _, rfl,
      by decide +kernel, rfl⟩,
    fun a _ f _ => ⟨driving (.jam 9999984000 f) a .plain, 9999984000, .b, { queued .keepalive with tag := .plain },
      shown_settled _, rfl, rfl, rfl, rfl, rfl⟩,
    fun number hn => ⟨sendingOn number, 9999984000, .b, { queued .order with tag := .forwarded 8 number 0 200000 false },
      { gen := 8, number := 7, own := ownShare, ackEnd := 10000000000 }, shown_settled _, ?_⟩,
    ⟨onSpan .b (fun u => { u with backoffEnd := some 10000000000 }) car, 10000000000, .b, shown_settled _, by decide +kernel⟩,
    fun tag ht => ⟨driving (.frame 9999728000 (List.replicate 14 0)) 1 tag, 9999728000, .b, List.replicate 14 0,
      { queued .keepalive with tag := tag }, shown_settled _, rfl, rfl, rfl, ?_,
      show 9999728000 + (24 + 8 * 14) * 2000 = 10000000000 by decide⟩⟩
  · simp only [List.mem_cons, List.not_mem_nil, or_false] at hh
    rcases hh with rfl | rfl <;> decide +kernel
  · simp only [List.mem_cons, List.not_mem_nil, or_false] at hh
    rcases hh with rfl | rfl <;> decide +kernel
  · simp only [List.mem_cons, List.not_mem_nil, or_false] at hn
    unfold canSend trailRoom
    rcases hn with rfl | rfl <;> decide +kernel
  · simp only [List.mem_cons, List.not_mem_nil, or_false] at ht
    rcases ht with rfl | rfl <;> nofun

/-! ## Witnesses: the census -/

theorem witness_CensusRequestsAct :
    (∃ (s : State) (r : Request) (rest : List Request), s.settled = true ∧ endKnown s ∧ s.mem.wf = true ∧
      takeRequest (fun r => r.kind == .takeLead) s.req.handed = (some r, rest) ∧ s.settings.kind = 2) ∧
    (∀ st ∈ [CensusState.enlisted, .awaitTable], ∃ (s : State) (r : Request) (rest : List Request), s.settled = true ∧
      endKnown s ∧ s.mem.wf = true ∧ takeRequest (fun r => r.kind == .takeLead) s.req.handed = (some r, rest) ∧
      s.settings.kind = 1 ∧ s.census.state = st) ∧
    (∀ st ∈ [CensusState.calling, .distributing], ∀ kind ∈ [RequestKind.takeLead, .censusStart], ∃ (s : State) (r : Request)
      (rest : List Request), s.settled = true ∧ endKnown s ∧ s.mem.wf = true ∧
      takeRequest (fun r => r.kind == kind) s.req.handed = (some r, rest) ∧ s.settings.kind = 1 ∧ s.census.role = .lead ∧
      s.census.state = st) ∧
    (∀ kind ∈ [RequestKind.takeLead, .censusStart], ∃ (s : State) (r : Request) (rest : List Request), s.settled = true ∧
      endKnown s ∧ s.mem.wf = true ∧ takeRequest (fun r => r.kind == kind) s.req.handed = (some r, rest) ∧
      s.settings.kind = 1 ∧ s.census.role = .member ∧ s.census.state = .uncensused ∧ r.slot < 16) ∧
    (∀ kind ∈ [RequestKind.takeLead, .censusStart], ∀ st ∈ [CensusState.uncensused, .valid, .stale], ∃ (s : State) (r : Request)
      (rest : List Request), s.settled = true ∧ endKnown s ∧ s.mem.wf = true ∧
      takeRequest (fun r => r.kind == kind) s.req.handed = (some r, rest) ∧ s.settings.kind = 1 ∧ s.census.role = .lead ∧
      s.census.state = st ∧ s.isUp s.cabSpan = false ∧ s.isUp s.trainSpan = true ∧ canSend s s.trainSpan) ∧
    (∃ (s : State) (r : Request) (rest : List Request), s.settled = true ∧ s.mem.wf = true ∧ trailRoom s ∧
      takeRequest (fun r => r.kind == .dropLead) s.req.handed = (some r, rest) ∧ s.census.role = .member) ∧
    (∃ (s : State) (r : Request) (rest : List Request), s.settled = true ∧ s.mem.wf = true ∧ trailRoom s ∧
      takeRequest (fun r => r.kind == .dropLead) s.req.handed = (some r, rest) ∧ s.census.role = .lead ∧ r.slot < 16 ∧
      s.census.slot = some 15 ∧ s.census.slot ≠ some r.slot ∧ s.census.state = .calling ∧ canSend s s.trainSpan) := by
  refine ⟨⟨withRequest .takeLead [] { car with settings := { settings with kind := 2 } }, request .takeLead [], [],
      shown_settled _, ?_⟩, fun st h => ⟨withRequest .takeLead [] (member st), request .takeLead [], [], shown_settled _, ?_⟩,
    fun st h kind hk => ⟨withRequest kind [] (lead st), request kind [], [], shown_settled _, ?_⟩,
    fun kind hk => ⟨withRequest kind [] car, request kind [], [], shown_settled _, ?_⟩,
    fun kind hk st h => ⟨withRequest kind [] (lead st), request kind [], [], shown_settled _, ?_⟩,
    ⟨withRequest .dropLead [] car, request .dropLead [], [], shown_settled _, ?_⟩,
    ⟨withRequest .dropLead [] { lead .calling with census := { (lead .calling).census with slot := some 15 } },
      request .dropLead [], [], shown_settled _, ?_⟩⟩
  · unfold endKnown; decide +kernel
  · simp only [List.mem_cons, List.not_mem_nil, or_false] at h
    unfold endKnown
    rcases h with rfl | rfl <;> decide +kernel
  · simp only [List.mem_cons, List.not_mem_nil, or_false] at h hk
    unfold endKnown
    rcases h with rfl | rfl <;> rcases hk with rfl | rfl <;> decide +kernel
  · simp only [List.mem_cons, List.not_mem_nil, or_false] at hk
    unfold endKnown
    rcases hk with rfl | rfl <;> decide +kernel
  · simp only [List.mem_cons, List.not_mem_nil, or_false] at h hk
    unfold endKnown canSend
    rcases h with rfl | rfl | rfl <;> rcases hk with rfl | rfl <;> decide +kernel
  · unfold trailRoom; decide +kernel
  · unfold trailRoom canSend; decide +kernel

/-- A census timer and a settle timer that run out now. -/
def timed (s : State) : State :=
  shown { s with census := { s.census with timerEnd := some 10000000000, slot := some 3 } }

theorem witness_CensusTimersAct :
    (∀ st ∈ [CensusState.uncensused, .valid, .stale], ∃ (s : State) (e : Nat), s.settled = true ∧ endKnown s ∧
      s.mem.wf = true ∧ trailRoom s ∧ s.census.settleEnd = some e ∧ e = s.now ∧ s.census.role = .lead ∧ s.census.state = st ∧
      s.isUp s.cabSpan = false) ∧
    (∀ st ∈ [CensusState.calling, .distributing], ∃ (s : State) (e : Nat), s.settled = true ∧ endKnown s ∧ s.mem.wf = true ∧
      trailRoom s ∧ s.census.timerEnd = some e ∧ e = s.now ∧ s.census.role = .lead ∧ s.census.state = st ∧
      s.census.slot = some 3 ∧ s.settings.autoCensus = 1 ∧ s.census.retry < 3 ∧ canSend s s.trainSpan) ∧
    (∀ st ∈ [CensusState.enlisted, .awaitTable], ∃ (s : State) (e : Nat) (c : Context), s.settled = true ∧ endKnown s ∧
      s.mem.wf = true ∧ trailRoom s ∧ s.census.timerEnd = some e ∧ e = s.now ∧ s.census.role = .member ∧
      s.census.ctx = some c ∧ s.census.state = st ∧ canSend s c.upstream) := by
  refine ⟨fun st h => ⟨shown { lead st with census := { (lead st).census with settleEnd := some 10000000000 } }, 10000000000,
      shown_settled _, ?_⟩, fun st h => ⟨timed (lead st), 10000000000, shown_settled _, ?_⟩,
    fun st h => ⟨timed (member st), 10000000000, { lead := 40017, number := 21, position := 2, upstream := .a },
      shown_settled _, ?_⟩⟩ <;> simp only [List.mem_cons, List.not_mem_nil, or_false] at h
  · unfold endKnown trailRoom; rcases h with rfl | rfl | rfl <;> decide +kernel
  · unfold endKnown trailRoom canSend; rcases h with rfl | rfl <;> decide +kernel
  · unfold endKnown trailRoom canSend; rcases h with rfl | rfl <;> decide +kernel

def call (number : Word16) (leadId : Word32) (hop : Byte) : Frame := frame .call hop (callPayload number leadId)

def callMsg (number : Word16) (leadId : Word32) (hop : Nat) : CallMsg := { number := number, lead := leadId, hop := hop }

/-- At a member: the car's own CALL, one that is not newer, one of another lead in ENLISTED, and adopted CALLs without a
context, at the distances 1 and 32 767 of the context's lead, and of another lead in VALID, down to hop 31. At a lead: a foreign
CALL in each state. -/
theorem witness_CallIsAdoptedOrAnswered :
    (∀ v ∈ [(CensusState.valid, (22 : Word16), (48213 : Word32)), (.valid, 21, 40017), (.valid, 20, 40017), (.enlisted, 5, 62300),
        (.awaitTable, 5, 62300), (.valid, 22, 40017), (.valid, 32788, 40017), (.valid, 5, 62300), (.stale, 5, 62300)],
      ∀ hop ∈ [(1 : Byte), 30, 31], ∃ (s : State) (x : SpanId) (r : RxFrame) (rest : List RxFrame) (m : CallMsg) (c : Context),
        s.settled = true ∧ endKnown s ∧ s.mem.wf = true ∧ trailRoom s ∧ takeFor .census (s.span x).rxq = (some r, rest) ∧
        r.frame.kind = .call ∧ parseCall r.frame = some m ∧ canSend s x ∧ s.census.role = .member ∧ s.census.state = v.1 ∧
        s.census.ctx = some c ∧ c.lead = 40017 ∧ c.number = 21 ∧ canSend s c.upstream ∧ canSend s (otherSpan x) ∧
        m.number = v.2.1 ∧ m.lead = v.2.2 ∧ m.hop = hop.toNat) ∧
    (∃ (s : State) (x : SpanId) (r : RxFrame) (rest : List RxFrame) (m : CallMsg), s.settled = true ∧ endKnown s ∧
      s.mem.wf = true ∧ trailRoom s ∧ takeFor .census (s.span x).rxq = (some r, rest) ∧ r.frame.kind = .call ∧
      parseCall r.frame = some m ∧ canSend s x ∧ s.census.role = .member ∧ s.census.ctx = none ∧
      m.lead ≠ s.settings.identity ∧ (s.span (otherSpan x)).state ≠ .up) ∧
    (∀ st ∈ [CensusState.uncensused, .calling, .distributing, .valid, .stale], ∃ (s : State) (x : SpanId) (r : RxFrame)
      (rest : List RxFrame) (m : CallMsg), s.settled = true ∧ endKnown s ∧ s.mem.wf = true ∧ trailRoom s ∧
      takeFor .census (s.span x).rxq = (some r, rest) ∧ r.frame.kind = .call ∧ parseCall r.frame = some m ∧ canSend s x ∧
      s.census.role = .lead ∧ m.lead ≠ s.settings.identity ∧ s.census.state = st ∧ s.census.slot = some 3) := by
  refine ⟨fun v hv hop hh => ⟨withFrame .b (call v.2.1 v.2.2 hop) (member v.1), .b, received (call v.2.1 v.2.2 hop), [],
      callMsg v.2.1 v.2.2 hop.toNat, { lead := 40017, number := 21, position := 2, upstream := .a }, shown_settled _, ?_⟩,
    ⟨withFrame .a (call 5 62300 1) { car with spanB := Span.reset }, .a, received (call 5 62300 1), [], callMsg 5 62300 1,
      shown_settled _, ?_⟩,
    fun st h => ⟨withFrame .b (call 5 62300 1) { lead st with census := { (lead st).census with slot := some 3 } }, .b,
      received (call 5 62300 1), [], callMsg 5 62300 1, shown_settled _, ?_⟩⟩
  · simp only [List.mem_cons, List.not_mem_nil, or_false] at hv hh
    unfold endKnown trailRoom canSend
    rcases hh with rfl | rfl | rfl <;> rcases hv with rfl | rfl | rfl | rfl | rfl | rfl | rfl | rfl | rfl <;> decide +kernel
  · unfold endKnown trailRoom canSend; decide +kernel
  · simp only [List.mem_cons, List.not_mem_nil, or_false] at h
    unfold endKnown trailRoom canSend
    rcases h with rfl | rfl | rfl | rfl | rfl <;> decide +kernel

/-- A REPORT with an answer, the records of two cars, from position 3. -/
def report (leadId : Word32) (a : Answer) (ids : List Word32) : Frame :=
  { frame .report 3 (reportPayload 21 leadId a (ids.map fun i => record i 1)) with conflict := a == .conflict }

def reportMsg (leadId : Word32) (a : Answer) (ids : List Word32) : ReportMsg :=
  { number := 21, lead := leadId, answer := a, records := ids.map fun i => record i 1, origin := 3 }

theorem witness_ReportIsRelayedOrDecided :
    (∀ a ∈ [Answer.ended, .conflict, .tooLong, .silent], ∃ (s : State) (x : SpanId) (r : RxFrame) (rest : List RxFrame)
      (m : ReportMsg) (c : Context), s.settled = true ∧ endKnown s ∧ s.mem.wf = true ∧ trailRoom s ∧ (s.span x).state = .up ∧
      takeFor .census (s.span x).rxq = (some r, rest) ∧ r.frame.kind = .report ∧ parseReport r.frame = some m ∧
      s.census.role = .member ∧ s.census.state = .enlisted ∧ s.census.ctx = some c ∧ x = otherSpan c.upstream ∧
      m.number = c.number ∧ m.lead = c.lead ∧ m.records.length < 31 ∧ canSend s c.upstream ∧ m.answer = a) ∧
    (∀ v ∈ [(Answer.conflict, [(51907 : Word32)]), (.tooLong, [51907]), (.silent, []), (.ended, [51907, 48213]),
        (.ended, [51907, 62300])], ∃ (s : State) (x : SpanId) (r : RxFrame) (rest : List RxFrame) (m : ReportMsg),
      s.settled = true ∧ endKnown s ∧ s.mem.wf = true ∧ trailRoom s ∧ (s.span x).state = .up ∧
      takeFor .census (s.span x).rxq = (some r, rest) ∧ r.frame.kind = .report ∧ parseReport r.frame = some m ∧
      s.census.role = .lead ∧ s.census.state = .calling ∧ x = s.trainSpan ∧ m.lead = s.settings.identity ∧
      m.number = s.census.number ∧ (s.span x).depth ≤ 4 ∧ m.answer = v.1 ∧
      (((s.leadRecord :: m.records).map (fun q => q.identity)).Nodup ↔ v ≠ (.ended, [51907, 48213]))) := by
  refine ⟨fun a ha => ⟨withFrame .b (report 40017 a [51907, 62300]) (member .enlisted), .b, received (report 40017 a [51907, 62300]), [],
      reportMsg 40017 a [51907, 62300], { lead := 40017, number := 21, position := 2, upstream := .a }, shown_settled _, ?_⟩,
    fun v hv => ⟨withFrame .b (report 48213 v.1 v.2) (lead .calling), .b, received (report 48213 v.1 v.2), [],
      reportMsg 48213 v.1 v.2, shown_settled _, ?_⟩⟩
  · simp only [List.mem_cons, List.not_mem_nil, or_false] at ha
    unfold endKnown trailRoom canSend
    rcases ha with rfl | rfl | rfl | rfl <;> decide +kernel
  · simp only [List.mem_cons, List.not_mem_nil, or_false] at hv
    unfold endKnown trailRoom
    rcases hv with rfl | rfl | rfl | rfl | rfl <;> decide +kernel

/-- A TABLE of the lead 40017 with its signature, right or wrong. -/
def tableFrame (gen : Word16) (ids : List Word32) (sig : Word32) : Frame :=
  { frame .table 1 (tablePayload 21 40017 sig (ids.map fun i => record i 1)) with gen := gen }

def tableMsg (gen : Word16) (ids : List Word32) (sig : Word32) : TableMsg :=
  { number := 21, lead := 40017, gen := gen, signature := sig, records := ids.map fun i => record i 1 }

def sigOf (ids : List Word32) : Word32 := signature (ids.map fun i => record i 1)

/-- A table of three cars, one of two with the car last, one without the car, one with a wrong signature; in AWAIT_TABLE, and in
VALID at the table's generation and another. -/
theorem witness_TableIsAdoptedOrRefused :
    (∀ v ∈ [(CensusState.awaitTable, (9 : Word16), [(40017 : Word32), 48213, 51907], sigOf [40017, 48213, 51907]),
        (.awaitTable, 9, [40017, 48213], sigOf [40017, 48213]), (.awaitTable, 9, [40017, 51907], sigOf [40017, 51907]),
        (.awaitTable, 9, [40017, 48213], 7), (.valid, 8, [40017, 48213], 7), (.valid, 9, [40017, 48213], 7),
        (.enlisted, 9, [40017, 48213], 7)],
      ∃ (s : State) (x : SpanId) (r : RxFrame) (rest : List RxFrame) (m : TableMsg) (c : Context), s.settled = true ∧
        endKnown s ∧ canSend s x ∧ takeFor .census (s.span x).rxq = (some r, rest) ∧ r.frame.kind = .table ∧
        parseTable r.frame = some m ∧ s.census.role = .member ∧ s.census.ctx = some c ∧ x = c.upstream ∧ m.lead = c.lead ∧
        m.number = c.number ∧ s.census.state = v.1 ∧ r.frame.gen = v.2.1 ∧ s.table.gen = 8 ∧ c.position = 2 ∧
        m.records.length = v.2.2.1.length ∧ canSend s (otherSpan x)) ∧
    (∀ ids ∈ [[(40017 : Word32), 48213, 51907], [40017, 48213]], ∃ q : CarRecord,
      (tableMsg 9 ids (sigOf ids)).records[2 - 1]? = some q ∧ q.identity = 48213 ∧ q.frontEnd = endCode .a ∧
        crc32 ((tableMsg 9 ids (sigOf ids)).records.flatMap CarRecord.encode) = (tableMsg 9 ids (sigOf ids)).signature) := by
  refine ⟨fun v hv => ⟨withFrame .a (tableFrame v.2.1 v.2.2.1 v.2.2.2) (member v.1), .a, received (tableFrame v.2.1 v.2.2.1 v.2.2.2), [],
      tableMsg v.2.1 v.2.2.1 v.2.2.2, { lead := 40017, number := 21, position := 2, upstream := .a }, shown_settled _, ?_⟩,
    fun ids h => ⟨record 48213 1, ?_, rfl, rfl, rfl⟩⟩
  · simp only [List.mem_cons, List.not_mem_nil, or_false] at hv
    unfold endKnown canSend
    rcases hv with rfl | rfl | rfl | rfl | rfl | rfl | rfl <;> decide +kernel
  · simp only [List.mem_cons, List.not_mem_nil, or_false] at h
    rcases h with rfl | rfl <;> rfl

/-- A passing table of the generation held and of another, at a car in GRANTED and in FALLBACK. -/
theorem witness_TableIsAdoptedOrRefused_cap :
    ∀ gen ∈ [(8 : Word16), 9], ∀ cap ∈ [CapState.granted, .fallback], ∃ (s : State) (r : RxFrame) (rest : List RxFrame)
      (m : TableMsg) (c : Context), s.settled = true ∧ endKnown s ∧ canSend s .a ∧
      takeFor .census (s.span .a).rxq = (some r, rest) ∧ r.frame.kind = .table ∧ parseTable r.frame = some m ∧
      s.census.role = .member ∧ s.census.ctx = some c ∧ c.upstream = .a ∧ m.lead = c.lead ∧ m.number = c.number ∧
      s.census.state = .awaitTable ∧ s.heat.cap = cap ∧ s.table.gen = 8 ∧ r.frame.gen = gen ∧ c.position = 2 ∧
      m = tableMsg gen [40017, 48213, 51907] (sigOf [40017, 48213, 51907]) := by
  intro gen hg cap hc
  let ids : List Word32 := [40017, 48213, 51907]
  refine ⟨withFrame .a (tableFrame gen ids (sigOf ids))
      { member .awaitTable with heat := { (member .awaitTable).heat with cap := cap } }, received (tableFrame gen ids (sigOf ids)),
    [], tableMsg gen ids (sigOf ids), { lead := 40017, number := 21, position := 2, upstream := .a }, shown_settled _, ?_⟩
  simp only [List.mem_cons, List.not_mem_nil, or_false] at hg hc
  unfold endKnown canSend
  rcases hg with rfl | rfl <;> rcases hc with rfl | rfl <;> decide +kernel

/-- A TABLE_ACK with its counts. -/
def ack (leadId : Word32) (acks refusals : Byte) : Frame := frame .tableAck 3 (tableAckPayload 21 leadId acks refusals 0)

def ackMsg (leadId : Word32) (acks refusals : Byte) : TableAckMsg :=
  { number := 21, lead := leadId, acks := acks, refusals := refusals, first := 0, origin := 3 }

theorem witness_TableAckIsCounted :
    (∀ v ∈ [(CensusState.valid, true), (.valid, false), (.stale, false), (.awaitTable, false), (.uncensused, false)],
      ∃ (s : State) (x : SpanId) (r : RxFrame) (rest : List RxFrame) (m : TableAckMsg) (c : Context), s.settled = true ∧
        endKnown s ∧ s.mem.wf = true ∧ trailRoom s ∧ (s.span x).state = .up ∧ takeFor .census (s.span x).rxq = (some r, rest) ∧
        r.frame.kind = .tableAck ∧ parseTableAck r.frame = some m ∧ s.census.role = .member ∧ s.census.ctx = some c ∧
        x = otherSpan c.upstream ∧ m.lead = c.lead ∧ m.number = c.number ∧ canSend s c.upstream ∧ s.census.state = v.1 ∧
        s.census.ackForwarded = v.2 ∧ s.table.number = c.number ∧ s.table.lead = c.lead ∧ m.acks = 31) ∧
    (∀ v ∈ [((2 : Byte), (0 : Byte)), (1, 1), (3, 0)], ∃ (s : State) (x : SpanId) (r : RxFrame) (rest : List RxFrame)
      (m : TableAckMsg), s.settled = true ∧ endKnown s ∧ s.mem.wf = true ∧ trailRoom s ∧ (s.span x).state = .up ∧
      takeFor .census (s.span x).rxq = (some r, rest) ∧ r.frame.kind = .tableAck ∧ parseTableAck r.frame = some m ∧
      s.census.role = .lead ∧ s.census.state = .distributing ∧ x = s.trainSpan ∧ m.lead = s.settings.identity ∧
      m.number = s.census.number ∧ (s.span x).depth ≤ 4 ∧ m.acks = v.1 ∧ m.refusals = v.2 ∧ s.table.records.length = 3) := by
  refine ⟨fun v hv => ⟨withFrame .b (ack 40017 31 0) { member v.1 with
        census := { (member v.1).census with ackForwarded := v.2 } }, .b, received (ack 40017 31 0), [], ackMsg 40017 31 0,
      { lead := 40017, number := 21, position := 2, upstream := .a }, shown_settled _, ?_⟩,
    fun v hv => ⟨withFrame .b (ack 48213 v.1 v.2) (lead .distributing), .b, received (ack 48213 v.1 v.2), [],
      ackMsg 48213 v.1 v.2, shown_settled _, ?_⟩⟩ <;> simp only [List.mem_cons, List.not_mem_nil, or_false] at hv
  · unfold endKnown trailRoom canSend
    rcases hv with rfl | rfl | rfl | rfl | rfl <;> decide +kernel
  · unfold endKnown trailRoom
    rcases hv with rfl | rfl | rfl <;> decide +kernel

def voidMark : VoidMark := { number := 21, lead := 40017, reason := 10 }

def breakMsg (leadId : Word32) : BreakMsg := { number := 21, lead := leadId, position := 3, lostEnd := 2, cause := 10 }

theorem witness_VoidClearsAndBreakStales :
    (∀ last ∈ [none, some voidMark], ∀ st ∈ [CensusState.uncensused, .enlisted, .awaitTable, .valid, .stale], ∃ (s : State)
      (x : SpanId) (r : RxFrame) (rest : List RxFrame) (m : VoidMark) (c : Context), s.settled = true ∧ endKnown s ∧
        s.mem.wf = true ∧ trailRoom s ∧ canSend s x ∧ takeFor .census (s.span x).rxq = (some r, rest) ∧ r.frame.kind = .void ∧
        parseVoid r.frame = some m ∧ s.census.role = .member ∧ s.census.ctx = some c ∧ x = c.upstream ∧ m.lead = c.lead ∧
        s.census.lastVoid = last ∧ s.census.state = st ∧ canSend s (otherSpan x)) ∧
    (∀ st ∈ [CensusState.valid, .stale], ∃ (s : State) (x up : SpanId) (r : RxFrame) (rest : List RxFrame) (m : BreakMsg),
      s.settled = true ∧ endKnown s ∧ s.mem.wf = true ∧ trailRoom s ∧ canSend s x ∧
      takeFor .census (s.span x).rxq = (some r, rest) ∧ r.frame.kind = .brk ∧ parseBreak r.frame = some m ∧
      s.census.role = .member ∧ s.census.state = st ∧ s.downstream = some x ∧ s.upstream = some up ∧ m.lead = s.table.lead ∧
      canSend s up) ∧
    (∀ st ∈ [CensusState.valid, .stale, .distributing, .calling], ∃ (s : State) (x : SpanId) (r : RxFrame) (rest : List RxFrame)
      (m : BreakMsg), s.settled = true ∧ endKnown s ∧ s.mem.wf = true ∧ trailRoom s ∧ canSend s x ∧
      takeFor .census (s.span x).rxq = (some r, rest) ∧ r.frame.kind = .brk ∧ parseBreak r.frame = some m ∧
      s.census.role = .lead ∧ x = s.trainSpan ∧ m.lead = s.settings.identity ∧ s.census.state = st ∧
      s.settings.autoCensus = 1) := by
  refine ⟨fun last hl st h => ⟨withFrame .a (frame .void 1 (voidPayload 21 40017 10)) { member st with
        census := { (member st).census with lastVoid := last } }, .a, received (frame .void 1 (voidPayload 21 40017 10)), [], voidMark,
      { lead := 40017, number := 21, position := 2, upstream := .a }, shown_settled _, ?_⟩,
    fun st h => ⟨withFrame .b (frame .brk 3 (breakPayload (breakMsg 40017))) (member st), .b, .a,
      received (frame .brk 3 (breakPayload (breakMsg 40017))), [], breakMsg 40017, shown_settled _, ?_⟩,
    fun st h => ⟨withFrame .b (frame .brk 3 (breakPayload (breakMsg 48213))) (lead st), .b,
      received (frame .brk 3 (breakPayload (breakMsg 48213))), [], breakMsg 48213, shown_settled _, ?_⟩⟩
  · simp only [List.mem_cons, List.not_mem_nil, or_false] at hl h
    unfold endKnown trailRoom canSend
    rcases hl with rfl | rfl <;> rcases h with rfl | rfl | rfl | rfl | rfl <;> decide +kernel
  · simp only [List.mem_cons, List.not_mem_nil, or_false] at h
    unfold endKnown trailRoom canSend
    rcases h with rfl | rfl <;> decide +kernel
  · simp only [List.mem_cons, List.not_mem_nil, or_false] at h
    unfold endKnown trailRoom canSend
    rcases h with rfl | rfl | rfl | rfl <;> decide +kernel


/-! ## Witnesses: waves -/

def order : Order := { number := 7, action := .release, trainSide := 3, first := 2, last := 3, lease := 1 }

/-- The order from the lead, its delay word 200 000 units, or LATE. -/
def orderFrame (gen : Word16) (hop : Byte) (late : Bool) : Frame :=
  { frame .order hop (orderPayload order) with origin := 1, gen := gen, delay := if late then 0 else 200000, late := late }

/-- Another generation, the wrong direction, the wrong hop, a repeat of the last; passing in VALID and STALE, at a middle car
and at the end car. A LATE one's instant is the end of its frame and has come. -/
theorem witness_OrderIsDecidedAndSentOn :
    (∀ v ∈ [((9 : Word16), SpanId.a, (1 : Byte), false, (none : Option (Word16 × Byte))), (8, .b, 1, false, none),
        (8, .a, 2, false, none), (8, .a, 1, false, some (8, 7)), (8, .a, 1, false, none), (8, .a, 1, false, some (8, 6)),
        (8, .a, 1, true, none)],
      ∀ base ∈ [member .valid, member .stale, endMember], ∃ (s : State) (x : SpanId) (r : RxFrame) (rest : List RxFrame) (o : Order),
        s.settled = true ∧ s.mem.wf = true ∧ trailRoom s ∧ takeFor .relay (s.span x).rxq = (some r, rest) ∧
        r.frame.kind = .order ∧ parseOrder r.frame = some o ∧ canSend s x ∧ s.census.role = .member ∧
        (s.census.state = .valid ∨ s.census.state = .stale) ∧ r.frame.gen = v.1 ∧ s.table.gen = 8 ∧ x = v.2.1 ∧
        s.upstream = some .a ∧ r.frame.hop = v.2.2.1 ∧ s.table.own = 2 ∧ r.frame.late = v.2.2.2.1 ∧
        s.relay.lastOrder = v.2.2.2.2 ∧ o.number = 7 ∧ (v.2.2.2.1 = false → s.now < r.endAt + r.frame.delay.toNat * 200) ∧
        r.endAt ≤ s.now ∧ s.front.isSome = true ∧ o.trainSide = 3 ∧ o.first = 2 ∧ o.last = 3 ∧
        verdictOn s .one o.action = (if s.census.state = .stale then .refusedStale else .taken) ∧
        s.isEndCar = base.isEndCar ∧ (s.isEndCar = false → s.downstream = some .b ∧ canSend s .b)) := by
  refine fun v hv base hb => ⟨withFrame v.2.1 (orderFrame v.1 v.2.2.1 v.2.2.2.1) { base with
      relay := { base.relay with lastOrder := v.2.2.2.2 } }, v.2.1, received (orderFrame v.1 v.2.2.1 v.2.2.2.1), [], order,
    shown_settled _, ?_⟩
  simp only [List.mem_cons, List.not_mem_nil, or_false] at hv hb
  unfold trailRoom canSend
  rcases hb with rfl | rfl | rfl <;> rcases hv with rfl | rfl | rfl | rfl | rfl | rfl | rfl <;> decide +kernel

def orderAckOf (number : Byte) : OrderAck :=
  { number := number, reached := 31, applied := 31, notAddressed := 0, refused := 0, late := 0, firstRefused := 0, stop := 1
    origin := 3 }

def orderAckFrame (number : Byte) : Frame := frame .orderAck 3 (orderAckPayload (orderAckOf number))

/-- The member with an open order whose wait runs out now. -/
def awaiting : State :=
  { member .valid with relay := { (member .valid).relay with
    openOrder := some { gen := 8, number := 7, own := ownShare, ackEnd := 10000000000 } } }

theorem witness_OpenOrderIsAnswered :
    ∀ number ∈ [(7 : Byte), 8], ∃ (s : State) (x up : SpanId) (o : OpenOrder) (r : RxFrame) (rest : List RxFrame) (m : OrderAck),
      s.settled = true ∧ s.census.role = .member ∧ (s.census.state = .valid ∨ s.census.state = .stale) ∧
      s.relay.openOrder = some o ∧ s.upstream = some up ∧ canSend s up ∧ takeFor .relay (s.span x).rxq = (some r, rest) ∧
      r.frame.kind = .orderAck ∧ parseOrderAck r.frame = some m ∧ (s.span x).state = .up ∧ r.frame.gen = s.table.gen ∧
      s.downstream = some x ∧ r.frame.hop.toNat = s.table.own + 1 ∧ m.number = number ∧ o.number = 7 ∧ o.ackEnd = s.now := by
  refine fun number h => ⟨withFrame .b (orderAckFrame number) awaiting, .b, .a,
    { gen := 8, number := 7, own := ownShare, ackEnd := 10000000000 }, received (orderAckFrame number), [], orderAckOf number,
    shown_settled _, ?_⟩
  simp only [List.mem_cons, List.not_mem_nil, or_false] at h
  unfold canSend
  rcases h with rfl | rfl <;> decide +kernel

def grantFrame (alloc : Word16) (grants : List Nat) : Frame :=
  { frame .grant 1 (grantPayload alloc grants) with origin := 1 }

/-- A repeat and a new GRANT, at a middle car and the end car, in GRANTED, FALLBACK and FAULTED, at grants of 0 and 4000. -/
theorem witness_GrantIsTakenAndSentOn :
    ∀ cap ∈ [CapState.granted, .fallback, .faulted], ∀ last ∈ [none, some ((8 : Word16), (6 : Word16)), some (8, 7)],
      ∀ v ∈ [(member .valid, [0, 4000, 400]), (endMember, [4000, 0])],
      ∃ (s : State) (x : SpanId) (r : RxFrame) (rest : List RxFrame) (m : GrantMsg), s.settled = true ∧
        takeFor .relay (s.span x).rxq = (some r, rest) ∧ r.frame.kind = .grant ∧ (s.span x).state = .up ∧
        parseGrant r.frame s.table.records.length = some m ∧ s.census.role = .member ∧ s.census.state = .valid ∧
        r.frame.gen = s.table.gen ∧ s.upstream = some x ∧ r.frame.hop.toNat + 1 = s.table.own ∧ s.relay.lastGrant = last ∧
        m.alloc = 7 ∧ s.heat.cap = cap ∧ (s.isEndCar = false → s.downstream = some .b ∧ canSend s .b) := by
  refine fun cap hc last hl v hv => ⟨withFrame .a (grantFrame 7 v.2) { v.1 with
      relay := { v.1.relay with lastGrant := last }, heat := { v.1.heat with cap := cap } }, .a, received (grantFrame 7 v.2), [],
    { alloc := 7, grants := v.2 }, shown_settled _, ?_⟩
  simp only [List.mem_cons, List.not_mem_nil, or_false] at hc hl hv
  unfold canSend
  rcases hc with rfl | rfl | rfl <;> rcases hl with rfl | rfl | rfl <;> rcases hv with rfl | rfl <;> decide +kernel

def roll : HeldRoll := { contributors := 1, left := true, right := true, firstUnproven := 0, origin := 3, gen := 8 }

def rollFrame : Frame := frame .doorState 3 (doorStatePayload 1 true true 0)

def demandFrame : Frame := frame .demand 3 (demandPayload [(3, 65535)])

/-- The relay watch of a middle car whose origination timer runs out now, and of one whose three periods end now. -/
def watching (w : RollWatch) : State :=
  { member .valid with relay := { (member .valid).relay with doorWatch := w, demandWatch := w } }

theorem witness_RollsAreOriginatedAndCombined :
    (∀ v ∈ [(rollFrame, FrameKind.doorState), (demandFrame, .demand)], ∃ (s : State) (x up : SpanId) (r : RxFrame)
      (rest : List RxFrame), s.settled = true ∧ takeFor .relay (s.span x).rxq = (some r, rest) ∧ (s.span x).state = .up ∧
      s.census.state = .valid ∧ r.frame.gen = s.table.gen ∧ s.downstream = some x ∧ r.frame.hop.toNat = s.table.own + 1 ∧
      r.frame.kind = v.2 ∧ (v.2 = .doorState → parseDoorState r.frame = some roll) ∧
      (v.2 = .demand → parseDemand r.frame = some [(3, 65535)] ∧
        ([(3, 65535)] ++ [(s.table.own, s.demand)]).Pairwise (fun a b : Nat × Nat => a.1 ≠ b.1)) ∧ s.census.role = .member ∧
      s.upstream = some up ∧ canSend s up) ∧
    (∃ (s : State) (x : SpanId) (r : RxFrame) (rest : List RxFrame) (h : HeldRoll), s.settled = true ∧
      takeFor .relay (s.span x).rxq = (some r, rest) ∧ (s.span x).state = .up ∧ s.census.state = .valid ∧
      r.frame.gen = s.table.gen ∧ s.downstream = some x ∧ r.frame.hop.toNat = s.table.own + 1 ∧ r.frame.kind = .doorState ∧
      parseDoorState r.frame = some h ∧ s.census.role = .lead ∧ s.table.own = 1) ∧
    (∀ kind ∈ [RollKind.doorState, .demand], ∃ (s : State) (up : SpanId) (due : Nat), s.settled = true ∧ s.upstream = some up ∧
      canSend s up ∧ (s.relay.watch kind).dueAt = some due ∧ due = s.now) ∧
    (∀ v ∈ [(RollKind.doorState, 200000000), (.demand, 2000000000)], ∃ (s : State) (up : SpanId) (last : Nat),
      s.settled = true ∧ s.upstream = some up ∧ canSend s up ∧ s.census.role = .member ∧ s.census.state = .valid ∧
      s.relay.endCar = some false ∧ (s.relay.watch v.1).substitute = false ∧
      (s.relay.watch v.1).watchFrom + 3 * v.2 = s.now ∧ (s.relay.watch v.1).lastRoll = some last ∧ last + 3 * v.2 = s.now) := by
  refine ⟨fun v hv => ⟨withFrame .b v.1 (member .valid), .b, .a, received v.1, [], shown_settled _, ?_⟩,
    ⟨withFrame .b { rollFrame with origin := 2, hop := 2 } (lead .valid), .b, received { rollFrame with origin := 2, hop := 2 }, [],
      { roll with origin := 2 }, shown_settled _, by decide +kernel⟩,
    fun kind h => ⟨shown (watching { lastRoll := none, dueAt := some 10000000000, substitute := true, watchFrom := 0 }), .a,
      10000000000, shown_settled _, ?_⟩,
    fun v hv => ⟨shown (watching { lastRoll := some (10000000000 - 3 * v.2), dueAt := none, substitute := false
                                   watchFrom := 10000000000 - 3 * v.2 }), .a, 10000000000 - 3 * v.2, shown_settled _, ?_⟩⟩
  · simp only [List.mem_cons, List.not_mem_nil, or_false] at hv
    unfold canSend
    rcases hv with rfl | rfl <;> decide +kernel
  · simp only [List.mem_cons, List.not_mem_nil, or_false] at h
    unfold canSend
    rcases h with rfl | rfl <;> decide +kernel
  · simp only [List.mem_cons, List.not_mem_nil, or_false] at hv
    unfold canSend
    rcases hv with rfl | rfl <;> decide +kernel

/-! ## Witnesses: door sides -/

/-- A change that is due in each state, a lease and a close timer that run out now. -/
theorem witness_TicksLockLevelsAndTimersMoveSides :
    (∀ run ∈ [0, 49, 50], ∃ s : State, s.settled = true ∧ s.tickDue ≤ s.now ∧ (s.side .one).lockRun = run) ∧
    (∀ v ∈ [(DoorState.closing, false), (.unlocked, false), (.released, false), (.isolated, false), (.fault, false),
        (.absent, false), (.closed, true), (.released, true), (.fault, true)], ∃ (s : State) (k : SideId), s.settled = true ∧
      s.mem.wf = true ∧ trailRoom s ∧ (s.side k).lockRun = 50 ∧ (s.side k).state = v.1 ∧ (s.side k).lock = v.2) ∧
    (∃ (s : State) (e : Nat) (k : SideId), s.settled = true ∧ s.mem.wf = true ∧ trailRoom s ∧ e = s.now ∧
      (s.side k).state = .released ∧ (s.side k).leaseEnd = some e) ∧
    (∃ (s : State) (e : Nat) (k : SideId), s.settled = true ∧ s.mem.wf = true ∧ trailRoom s ∧ e = s.now ∧
      (s.side k).state = .closing ∧ (s.side k).closeEnd = some e ∧ (s.side k).lock = false) := by
  refine ⟨fun run _ => ⟨onSide .one (fun d => { d with lockRun := run }) car, shown_settled _,
      show 10000000000 ≤ 10000000000 by decide, rfl⟩,
    fun v hv => ⟨onSide .two (fun d => { d with state := v.1, lock := v.2, lockRun := 50 }) car, .two, shown_settled _, ?_⟩,
    ⟨onSide .one (fun d => { d with state := .released, leaseEnd := some 10000000000 }) car, 10000000000, .one,
      shown_settled _, ?_⟩,
    ⟨onSide .one (fun d => { d with state := .closing, lock := false, closeEnd := some 10000000000 }) car, 10000000000, .one,
      shown_settled _, ?_⟩⟩ <;> unfold trailRoom
  · simp only [List.mem_cons, List.not_mem_nil, or_false] at hv
    rcases hv with rfl | rfl | rfl | rfl | rfl | rfl | rfl | rfl | rfl <;> decide +kernel
  · decide +kernel
  · decide +kernel

/-- A half-period that ends now, and one whose middle is now, after no, three and four differing samples. -/
theorem witness_ReleaseOutputIsWatched :
    ∀ high ∈ [false, true], ∀ v ∈ [(1, 2000000), (2, 1000000), (4, 500000)], ∀ run ∈ [0, 3, 4], ∀ part ∈ [1, 2],
      ∃ (s : State) (k : SideId), s.settled = true ∧ s.mem.wf = true ∧ trailRoom s ∧ (s.side k).state ≠ .absent ∧
        (s.side k).relHigh = high ∧ (s.side k).mismatch = run ∧ s.settings.releaseFrequency = v.1 ∧
        (s.side k).halfStart + v.2 / part = s.now ∧ (s.side k).sampled = false := by
  refine fun high hh v hv run hr part hp => ⟨onSide .two (fun d => { d with
      state := .released, relHigh := high, mismatch := run, halfStart := 10000000000 - v.2 / part, sampled := false })
      { car with settings := { settings with releaseFrequency := v.1 } }, .two, shown_settled _, ?_⟩
  simp only [List.mem_cons, List.not_mem_nil, or_false] at hh hv hr hp
  unfold trailRoom
  rcases hh with rfl | rfl <;> rcases hv with rfl | rfl | rfl <;> rcases hr with rfl | rfl | rfl <;>
    rcases hp with rfl | rfl <;> decide +kernel

def pendingOrder (a : Action) (at_ : Nat) : PendingOrder :=
  { action := a, number := 7, lease := 1, gen := 8, applyAt := at_, late := false }

/-- Side 1's order at its instant now, side 2's a unit later: each action, in each state of the side. -/
theorem witness_PendingOrdersApply :
    ∀ a ∈ [Action.release, .close, .withdraw], ∀ st ∈ [DoorState.closed, .released, .closing, .unlocked, .isolated, .fault],
      ∃ (s : State) (i : Nat) (k : SideId) (o : PendingOrder), s.settled = true ∧ s.mem.wf = true ∧ trailRoom s ∧ i = s.now ∧
        (s.side k).pend = some o ∧ o.applyAt = i ∧ o.action = a ∧ (s.side k).state = st ∧
        ∀ (k : SideId) (o : PendingOrder), (s.side k).pend = some o → i ≤ o.applyAt := by
  refine fun a ha st hs => ⟨shown { member .valid with door := { Door.reset with
      side1 := { closedSide with state := st, pend := some (pendingOrder a 10000000000) }
      side2 := { closedSide with pend := some (pendingOrder a 10000000200) } } }, 10000000000, .one,
    pendingOrder a 10000000000, shown_settled _, (rfl : Memory.wf [] = true),
    (by unfold trailRoom; decide : trailRoom State.reset), rfl, rfl, rfl, rfl, rfl, ?_⟩
  intro k o h
  cases k
  · have h : some (pendingOrder a 10000000000) = some o := h
    cases h
    exact Nat.le_refl _
  · have h : some (pendingOrder a 10000000200) = some o := h
    cases h
    show (10000000000 : Nat) ≤ 10000000200
    omega

/-- An action of 3, a selector of 0, 3 and 4; a car with side 2 alone; sides in ISOLATED with and without a cause stored. -/
theorem witness_DoorLocalIsolatesRestores :
    ∀ action ∈ [(1 : Byte), 2, 3], ∀ sel ∈ [(0 : Byte), 1, 3, 4], ∀ stored ∈ [false, true],
      ∀ st ∈ [DoorState.absent, .isolated, .released], ∃ (s : State) (r : Request) (rest : List Request), s.settled = true ∧
        s.mem.wf = true ∧ r.slot < 16 ∧ takeRequest (fun r => r.doorAction (if action = 3 then 1 else action)) s.req.handed = (some r, rest) ∧
        r.param 0 = action ∧ r.param 1 = sel ∧ (s.side .one).state = st ∧ (s.side .one).stored.mismatch = stored ∧
        (s.side .one).masked = Causes.none ∧ (s.side .one).pend = none ∧ (s.side .two).state ≠ .absent := by
  refine fun action ha sel hs stored hst st h => ⟨withRequest .doorLocal [action, sel] (car.setSide .one { closedSide with
      state := st, stored := { Causes.none with mismatch := stored } }), request .doorLocal [action, sel], [],
    shown_settled _, ?_⟩
  simp only [List.mem_cons, List.not_mem_nil, or_false] at ha hs hst h
  rcases ha with rfl | rfl | rfl <;> rcases hs with rfl | rfl | rfl | rfl <;> rcases hst with rfl | rfl <;>
    rcases h with rfl | rfl | rfl <;> decide +kernel

/-- Targets 0, 1, 2 and 4, cause bytes 0, 7 and 8; a side at FAULT with causes stored, one of them live or none. -/
theorem witness_FaultClearDoorClearsStored :
    ∀ target ∈ [(0 : Byte), 1, 2, 4], ∀ named ∈ [(0 : Byte), 2, 7, 8], ∀ live ∈ [false, true], ∀ st ∈ [DoorState.absent, .fault, .isolated],
      ∃ (s : State) (r : Request) (rest : List Request), s.settled = true ∧ s.mem.wf = true ∧ r.slot < 16 ∧
        takeRequest (fun r => r.kind == .faultClear && r.param 0 != 3) s.req.handed = (some r, rest) ∧ r.param 0 = target ∧
        r.param 1 = named ∧ (s.side .one).state = st ∧ (s.side .one).live = { Causes.none with closeTimeout := live } ∧
        (s.side .one).stored = { mismatch := true, closeTimeout := true, lockLost := false } := by
  refine fun target ht named hn live hl st h => ⟨withRequest .faultClear [target, named] (car.setSide .one { closedSide with
      state := st, lock := false, live := { Causes.none with closeTimeout := live }
      stored := { mismatch := true, closeTimeout := true, lockLost := false } }), request .faultClear [target, named], [],
    shown_settled _, ?_⟩
  simp only [List.mem_cons, List.not_mem_nil, or_false] at ht hn hl h
  rcases ht with rfl | rfl | rfl | rfl <;> rcases hn with rfl | rfl | rfl | rfl <;> rcases hl with rfl | rfl <;>
    rcases h with rfl | rfl | rfl <;> decide +kernel

/-! ## Witnesses: train door orders -/

def doorOrderParams (action first last lease : Byte) (delay : Word16) : List Byte := [action, 3, first, last, lease, 0] ++ le16 delay

def doorOrderAt (params : List Byte) (s : State) : State := withRequest .doorOrder params s

/-- A member; a lead whose order has a parameter out of range at either end, in a state that does not allow the action, with
a first position above n, a last below the first; and orders that pass, in a consist of three and alone, numbered 1 after 255,
with another order outstanding, at the shortest and the longest delay. -/
theorem witness_DoorOrderIsCheckedAndSent :
    (∃ (s : State) (r : Request) (rest : List Request), s.settled = true ∧ s.mem.wf = true ∧
      takeRequest (fun r => r.kind == .doorOrder) s.req.handed = (some r, rest) ∧ s.census.role = .member) ∧
    (∀ v ∈ [(doorOrderParams 0 1 3 1 20, some 0), (doorOrderParams 4 1 3 1 20, some 0), (doorOrderParams 1 0 3 1 20, some 2),
        (doorOrderParams 1 33 34 1 20, some 2), (doorOrderParams 1 1 0 1 20, some 3), (doorOrderParams 1 1 3 4 20, some 4),
        (doorOrderParams 1 1 3 3 2001, some 6), (doorOrderParams 2 4 4 0 20, none), (doorOrderParams 2 3 2 0 20, none),
        (doorOrderParams 1 1 255 3 2000, none)],
      ∀ st ∈ [CensusState.uncensused, .valid, .stale], ∃ (s : State) (r : Request) (rest : List Request), s.settled = true ∧
        s.mem.wf = true ∧ takeRequest (fun r => r.kind == .doorOrder) s.req.handed = (some r, rest) ∧ s.census.role = .lead ∧
        r.params = v.1 ∧ doorOrderFault r.params = v.2 ∧ s.census.state = st ∧ s.table.records.length = 3) ∧
    (∃ (s : State) (r : Request) (rest : List Request) (old : Outstanding), s.settled = true ∧ s.mem.wf = true ∧
      takeRequest (fun r => r.kind == .doorOrder) s.req.handed = (some r, rest) ∧ s.census.role = .lead ∧
      doorOrderFault r.params = none ∧ s.census.state = .valid ∧ s.table.records.length = 3 ∧ s.door.lastNumber = 255 ∧
      s.door.outstanding = some old ∧ old.slot < 16 ∧ old.slot ≠ r.slot ∧ canSend s s.trainSpan ∧
      (getLe16 r.params 6).toNat = 0 ∧ (r.param 2).toNat = 3 ∧ (r.param 3).toNat = 3) ∧
    (∀ delay ∈ [(0 : Word16), 1, 2000], ∃ (s : State) (r : Request) (rest : List Request), s.settled = true ∧ s.mem.wf = true ∧
      takeRequest (fun r => r.kind == .doorOrder) s.req.handed = (some r, rest) ∧ s.census.role = .lead ∧
      doorOrderFault r.params = none ∧ s.census.state = .valid ∧ s.table.records.length = 1 ∧
      getLe16 r.params 6 = delay ∧ (r.param 2).toNat = 1 ∧ (r.param 3).toNat = 255) := by
  refine ⟨⟨doorOrderAt (doorOrderParams 1 1 3 1 20) (member .valid), request .doorOrder (doorOrderParams 1 1 3 1 20), [],
      shown_settled _, by decide +kernel⟩,
    fun v hv st h => ⟨doorOrderAt v.1 (lead st), request .doorOrder v.1, [], shown_settled _, ?_⟩,
    ⟨doorOrderAt (doorOrderParams 1 3 3 1 0) { lead .valid with door := { (lead .valid).door with
        lastNumber := 255
        outstanding := some { slot := 4, order := order, d0 := 0, gen := 8, n := 3, own := none, waiting := none } } },
      request .doorOrder (doorOrderParams 1 3 3 1 0), [],
      { slot := 4, order := order, d0 := 0, gen := 8, n := 3, own := none, waiting := none }, shown_settled _, ?_⟩,
    fun delay hd => ⟨doorOrderAt (doorOrderParams 1 1 255 1 delay) leadAlone, request .doorOrder (doorOrderParams 1 1 255 1 delay),
      [], shown_settled _, ?_⟩⟩
  · simp only [List.mem_cons, List.not_mem_nil, or_false] at hv h
    rcases h with rfl | rfl | rfl <;>
      rcases hv with rfl | rfl | rfl | rfl | rfl | rfl | rfl | rfl | rfl | rfl <;> decide +kernel
  · unfold canSend; decide +kernel
  · simp only [List.mem_cons, List.not_mem_nil, or_false] at hd
    rcases hd with rfl | rfl | rfl <;> decide +kernel

/-- A lead of three cars whose train span is not UP, and one whose train span is, its queue full of class-0 frames. -/
def trainSpanGone : State := { lead .valid with spanB := (lead .valid).spanA }

def trainSpanFull : State := { lead .valid with spanB := { upSpan with txq := List.replicate 8 (queued .orderAck) } }

/-- The ORDER that cannot leave: the train span not UP, or full, with no delay, the longest, and one before with a number of its
own in flight. -/
theorem witness_DoorOrderIsCheckedAndSent_lost :
    (∀ delay ∈ [(0 : Word16), 2000], ∀ v ∈ [(false, trainSpanGone), (true, trainSpanFull)], ∃ (s : State) (r : Request)
      (rest : List Request), s.settled = true ∧ s.mem.wf = true ∧
      takeRequest (fun r => r.kind == .doorOrder) s.req.handed = (some r, rest) ∧ s.census.role = .lead ∧
      doorOrderFault r.params = none ∧ s.census.state = .valid ∧ s.table.records.length = 3 ∧ (r.param 2).toNat = 1 ∧
      getLe16 r.params 6 = delay ∧ s.door.lastNumber = 0 ∧ s.door.inFlight = [{ order := order, d0 := 0, gen := 8 }] ∧
      s.isUp s.trainSpan = v.1 ∧ (v.1 = true → (s.span s.trainSpan).depth = 8 ∧
        ∀ f ∈ (s.span s.trainSpan).txq, f.frame.kind.txClass = 0)) := by
  let flying (s : State) : State := { s with door := { s.door with inFlight := [{ order := order, d0 := 0, gen := 8 }] } }
  refine fun delay hd v hv => ⟨doorOrderAt (doorOrderParams 1 1 3 1 delay) (flying v.2),
    request .doorOrder (doorOrderParams 1 1 3 1 delay), [], shown_settled _, ?_⟩
  simp only [List.mem_cons, List.not_mem_nil, or_false] at hd hv
  rcases hd with rfl | rfl <;> rcases hv with rfl | rfl <;> decide +kernel

def outstanding (own : Option Contribution) (waiting : Option OrderAck) (d0 : Nat := 200000) : Outstanding :=
  { slot := 3, order := order, d0 := d0, gen := 8, n := 3, own := own, waiting := waiting }

def ownOrder (o : Outstanding) : TxFrame :=
  { frame := { waveFrameAt .order 1 1 8 (orderPayload o.order) with delay := word32 o.d0 }, tag := .leadOrder 7 }

/-- The lead with an order of its own out at its eighth attempt, and what its train span drives. -/
def ordering (o : Outstanding) (drive : Drive) : State :=
  shown { lead .valid with
    door := { (lead .valid).door with
      outstanding := some o, ackEnd := some 10000000000, inFlight := [{ order := o.order, d0 := o.d0, gen := o.gen }] }
    spanB := { upSpan with drive := drive, attempt := 8, cur := some (ownOrder o) } }

def leadAck (number : Byte) : OrderAck := { orderAckOf number with origin := 2 }

def leadAckFrame (number : Byte) : Frame := { orderAckFrame number with origin := 2, hop := 2 }

theorem witness_LeadTakesItsOwnOrder :
    (∀ waiting ∈ [none, some (leadAck 7)], ∀ v ∈ [(200000, 9999632000), (0, 9999000000)], ∃ (s : State) (start : Nat)
      (f : TxFrame) (o : Outstanding) (bytes : List Byte),
      s.settled = true ∧ s.mem.wf = true ∧ trailRoom s ∧ s.census.role = .lead ∧ s.door.outstanding = some o ∧ o.own = none ∧
      1 < o.n ∧ s.door.inFlight = [{ order := o.order, d0 := o.d0, gen := o.gen }] ∧ f.tag = .leadOrder o.order.number ∧
      (s.span s.trainSpan).cur = some f ∧ (s.span s.trainSpan).drive = .frame start bytes ∧
      start + (24 + 8 * bytes.length) * 2000 ≤ s.now ∧ o.waiting = waiting ∧
      (v.1 = 0 ↔ start + (1840 + ((s.span s.trainSpan).delay + 100) / 200 + o.d0) * 200 ≤ s.now)) ∧
    (∀ d0 ∈ [0, 200000], ∀ onFirst ∈ [true, false], ∃ (s : State) (start : Nat) (f : TxFrame) (o : Outstanding),
      s.settled = true ∧ s.mem.wf = true ∧ trailRoom s ∧
      s.census.role = .lead ∧ s.door.outstanding = some o ∧ o.own = none ∧ 1 < o.n ∧
      s.door.inFlight = [{ order := o.order, d0 := o.d0, gen := o.gen }] ∧ f.tag = .leadOrder o.order.number ∧
      (s.span s.trainSpan).cur = some f ∧ (s.span s.trainSpan).drive = .jam start onFirst ∧ start + 16000 = s.now ∧
      (s.span s.trainSpan).attempt = 8 ∧ o.d0 = d0) := by
  refine ⟨fun w hw v hv => ⟨ordering (outstanding none w v.1) (.frame v.2 (List.replicate 20 0)), v.2,
      ownOrder (outstanding none w v.1), outstanding none w v.1, List.replicate 20 0, shown_settled _, ?_⟩,
    fun d0 hd f hf => ⟨ordering (outstanding none none d0) (.jam 9999984000 f), 9999984000,
      ownOrder (outstanding none none d0), outstanding none none d0, shown_settled _, ?_⟩⟩ <;> unfold trailRoom
  · simp only [List.mem_cons, List.not_mem_nil, or_false] at hw hv
    rcases hw with rfl | rfl <;> rcases hv with rfl | rfl <;> decide +kernel
  · simp only [List.mem_cons, List.not_mem_nil, or_false] at hd hf
    rcases hd with rfl | rfl <;> rcases hf with rfl | rfl <;> decide +kernel

theorem witness_OutstandingOrderEnds :
    (∀ own ∈ [none, some ownShare], ∀ number ∈ [(7 : Byte), 8], ∃ (s : State) (o : Outstanding) (x : SpanId) (r : RxFrame)
      (rest : List RxFrame) (m : OrderAck), s.settled = true ∧ s.mem.wf = true ∧ s.census.role = .lead ∧
      s.door.outstanding = some o ∧ takeFor .relay (s.span x).rxq = (some r, rest) ∧ r.frame.kind = .orderAck ∧
      parseOrderAck r.frame = some m ∧ (s.span x).state = .up ∧ s.census.state = .valid ∧ r.frame.gen = s.table.gen ∧
      s.downstream = some x ∧ r.frame.hop.toNat = s.table.own + 1 ∧ m.number = number ∧ o.order.number = 7 ∧ o.own = own ∧
      o.waiting = none) ∧
    (∃ (s : State) (o : Outstanding) (e : Nat), s.settled = true ∧ s.mem.wf = true ∧ s.census.role = .lead ∧
      s.door.outstanding = some o ∧ s.door.ackEnd = some e ∧ e = s.now) := by
  refine ⟨fun own ho number h => ⟨withFrame .b (leadAckFrame number) (ordering (outstanding own none) .idle), outstanding own none,
      .b, received (leadAckFrame number), [], leadAck number, shown_settled _, ?_⟩,
    ⟨ordering (outstanding none none) .idle, outstanding none none, 10000000000, shown_settled _, by decide +kernel⟩⟩
  simp only [List.mem_cons, List.not_mem_nil, or_false] at ho h
  rcases ho with rfl | rfl <;> rcases h with rfl | rfl <;> decide +kernel

/-- An order outstanding in slot 4, with or without the lead's contribution, at a lead with a request in slot 3 and its settle
timer at its end; its cab-end span UP or not. -/
def orderedAt (own : Option Contribution) (st : CensusState) (cabUp : Bool) (kind : RequestKind) : State :=
  withRequest kind [] { lead st with
    census := { (lead st).census with settleEnd := some 10000000000 }
    spanA := if cabUp then upSpan else (lead st).spanA
    door := { (lead st).door with
      outstanding := some { outstanding own none with slot := 4 }, ackEnd := some 11000000000 } }

theorem witness_OutstandingOrderEnds_aborted :
    ∀ own ∈ [none, some ownShare], ∀ st ∈ [CensusState.valid, .stale], ∀ cabUp ∈ [true, false],
      ∀ kind ∈ [RequestKind.dropLead, .censusStart, .takeLead], ∃ (s : State) (o : Outstanding) (r : Request) (e : Nat),
        s.settled = true ∧ s.mem.wf = true ∧ s.census.role = .lead ∧ s.door.outstanding = some o ∧ o.own = own ∧
        takeRequest (fun r => r.kind == kind) s.req.handed = (some r, []) ∧ r.slot ≠ o.slot ∧ s.census.slot ≠ some o.slot ∧
        s.settings.kind = 1 ∧ s.census.state = st ∧ s.isUp s.cabSpan = cabUp ∧ s.isUp s.trainSpan = true ∧
        s.census.settleEnd = some e ∧ e = s.now := by
  intro own ho st hs cabUp hc kind hk
  refine ⟨orderedAt own st cabUp kind, { outstanding own none with slot := 4 }, request kind [], 10000000000,
    shown_settled _, ?_⟩
  simp only [List.mem_cons, List.not_mem_nil, or_false] at ho hs hc hk
  rcases ho with rfl | rfl <;> rcases hs with rfl | rfl <;> rcases hc with rfl | rfl <;> rcases hk with rfl | rfl | rfl <;>
    decide +kernel

/-- What holds of both orders of two operations holds whichever the spec's choice is. -/
theorem eitherOrder_either (P : State → Prop) (f g : State → State) (s : State)
    (h : P (g (f { s with choices := s.choices + 1 }))) (h' : P (f (g { s with choices := s.choices + 1 }))) :
    P (State.eitherOrder f g s) := by
  unfold State.eitherOrder
  split
  · exact h
  · exact h'

/-- A lead whose train span is silent with its ORDER current, or waiting behind another frame. -/
def orderCutOff (st : CensusState) (waits : Bool) (d0 : Nat) : State :=
  let o := outstanding none none d0
  shown { lead st with
    door := { (lead st).door with
      outstanding := some o, ackEnd := some 10000000000, inFlight := [{ order := o.order, d0 := o.d0, gen := o.gen }] }
    spanB := { upSpan with
      cur := if waits then some (queued .demand) else some (ownOrder o), txq := if waits then [ownOrder o] else [] } }

theorem witness_OutstandingOrderEnds_cutOff :
    ∀ st ∈ [CensusState.valid, .stale], ∀ waits ∈ [true, false], ∀ d0 ∈ [0, 200000], ∃ (s t : State) (o : Outstanding)
      (c : Instr) (f : TxFrame), s.settled = true ∧ s.mem.wf = true ∧ s.census.role = .lead ∧ s.door.outstanding = some o ∧
      linkCommand c 0 s.trainSpan ∧ exec c s = .next t ∧ s.isUp s.trainSpan = true ∧ t.isUp s.trainSpan = false ∧
      s.census.state = st ∧ f ∈ (s.span s.trainSpan).cur.toList ++ (s.span s.trainSpan).txq ∧
      f.tag = .leadOrder o.order.number ∧ o.own = none ∧
      s.door.inFlight = [{ order := o.order, d0 := o.d0, gen := o.gen }] ∧ s.req.handed = [] ∧ o.d0 = d0 := by
  intro st hs w hw d0 hd
  have hdown : (after (exec (.silence 0 .b) (orderCutOff st w d0))).isUp .b = false := by
    rw [silence_isUp]
    simp only [List.mem_cons, List.not_mem_nil, or_false] at hs hw hd
    rcases hs with rfl | rfl <;> rcases hw with rfl | rfl <;> rcases hd with rfl | rfl <;>
      (rw [if_pos (by decide +kernel)]
       unfold State.exitSpan State.exitFollows
       rw [if_neg (by decide +kernel), if_neg (by decide +kernel)]
       refine eitherOrder_either (fun t => t.isUp .b = false) _ _ _ ?_ ?_ <;> decide +kernel)
  refine ⟨orderCutOff st w d0, after (exec (.silence 0 .b) (orderCutOff st w d0)), outstanding none none d0, .silence 0 .b,
    ownOrder (outstanding none none d0), shown_settled _, rfl, rfl, rfl, .inr (.inr (.inl rfl)), eq_next_after _ rfl, rfl,
    hdown, rfl, ?_, rfl, rfl, rfl, rfl, rfl⟩
  cases w
  · exact .head _
  · exact .tail _ (.head _)

/-- A lead with a held roll: fresh or aged, of both other cars or of one, proven or not; its age timer runs out now. -/
def holding (aged : Bool) (contributors : Nat) (left : Bool) : State :=
  shown { lead .valid with door := { (lead .valid).door with
    held := some { roll with contributors := contributors, left := left, firstUnproven := if left then 0 else 2 }
    aged := aged, rollAgeEnd := if aged then none else some 10000000000 } }

theorem witness_SummaryNeedsFreshWholeRoll :
    (∃ (s : State) (e : Nat), s.settled = true ∧ s.door.rollAgeEnd = some e ∧ e = s.now) ∧
    (∀ v ∈ [(false, 2, true, true), (true, 2, true, false), (false, 1, true, false), (false, 2, false, false)], ∃ s : State,
      s.settled = true ∧ s.census.role = .lead ∧ s.table.records.length = 3 ∧ s.door.aged = v.1 ∧
      s.door.summary.left = v.2.2.2) ∧
    (∃ s : State, s.settled = true ∧ s.census.role = .lead ∧ s.census.state = .valid ∧ s.table.records.length = 1) ∧
    (∃ s : State, s.settled = true ∧ s.census.role = .member) := by
  refine ⟨⟨holding false 2 true, 10000000000, shown_settled _, by decide +kernel⟩,
    fun v hv => ⟨holding v.1 v.2.1 v.2.2.1, shown_settled _, ?_⟩, ⟨shown leadAlone, shown_settled _, by decide +kernel⟩,
    ⟨shown car, shown_settled _, by decide +kernel⟩⟩
  simp only [List.mem_cons, List.not_mem_nil, or_false] at hv
  rcases hv with rfl | rfl | rfl | rfl <;> decide +kernel

/-! ## Witnesses: heating, firing and the line monitor -/

theorem witness_DemandAndCapStates :
    (∀ cap ∈ [CapState.stopped, .granted, .fallback, .faulted], ∃ (s : State) (r : Request) (rest : List Request),
      s.settled = true ∧ s.mem.wf = true ∧ r.slot < 16 ∧
      takeRequest (fun r => r.kind == .heatDemand) s.req.handed = (some r, rest) ∧ s.heat.cap = cap ∧ r.param 3 = 255) ∧
    (∃ (s : State) (e : Nat), s.settled = true ∧ s.heat.leaseEnd = some e ∧ e = s.now) ∧
    (∃ (s : State) (e : Nat), s.settled = true ∧ s.mem.wf = true ∧ s.heat.cap = .granted ∧ s.heat.holdEnd = some e ∧ e = s.now) ∧
    (∀ cap ∈ [CapState.faulted, .granted, .fallback], ∃ (s : State) (r : Request) (rest : List Request), s.settled = true ∧
      s.mem.wf = true ∧ takeRequest (fun r => r.kind == .faultClear && r.param 0 == 3) s.req.handed = (some r, rest) ∧
      s.heat.cap = cap) := by
  refine ⟨fun cap h => ⟨withRequest .heatDemand [0, 1, 128, 255] { car with heat := { car.heat with cap := cap } },
      request .heatDemand [0, 1, 128, 255], [], shown_settled _, ?_⟩,
    ⟨shown { car with heat := { car.heat with source := .request, leaseEnd := some 10000000000 } }, 10000000000,
      shown_settled _, by decide +kernel⟩,
    ⟨shown { car with heat := { car.heat with cap := .granted, holdEnd := some 10000000000 } }, 10000000000,
      shown_settled _, by decide +kernel⟩,
    fun cap h => ⟨withRequest .faultClear [3, 0] { car with heat := { car.heat with cap := cap } },
      request .faultClear [3, 0], [], shown_settled _, ?_⟩⟩ <;> simp only [List.mem_cons, List.not_mem_nil, or_false] at h
  · rcases h with rfl | rfl | rfl | rfl <;> decide +kernel
  · rcases h with rfl | rfl | rfl <;> decide +kernel

def supplyParams (flag : Byte) (limit shed cut : Word16) : List Byte := [flag, 0] ++ le16 limit ++ le16 shed ++ le16 cut

def leadDemand : Frame := { demandFrame with hop := 2, payload := demandPayload [(3, 0), (2, 65535)] }

theorem witness_SupplyAndRollsAllocate :
    (∀ v ∈ [((2 : Byte), (550 : Word16), (450 : Word16)), (1, 450, 450), (0, 449, 450), (1, 451, 450), (0, 451, 450)],
      ∀ base ∈ [lead .valid, lead .stale, lead .calling, member .valid], ∃ (s : State) (r : Request) (rest : List Request),
        s.settled = true ∧ s.mem.wf = true ∧ s.heat.cap ≠ .stopped ∧
        takeRequest (fun r => r.kind == .heatSupply) s.req.handed = (some r, rest) ∧ r.slot < 16 ∧ r.param 0 = v.1 ∧
        getLe16 r.params 4 = v.2.1 ∧ getLe16 r.params 6 = v.2.2 ∧ s.census = base.census) ∧
    (∃ (s : State) (e : Nat), s.settled = true ∧ s.mem.wf = true ∧ s.heat.cap ≠ .stopped ∧ s.heat.allocEnd = some e ∧
      e = s.now ∧ s.table.records.length = 1) ∧
    (∃ (s : State) (x : SpanId) (r : RxFrame) (rest : List RxFrame) (es : List (Nat × Nat)), s.settled = true ∧
      s.mem.wf = true ∧ s.heat.cap ≠ .stopped ∧ takeFor .relay (s.span x).rxq = (some r, rest) ∧ r.frame.kind = .demand ∧
      parseDemand r.frame = some es ∧ (s.span x).state = .up ∧ s.census.role = .lead ∧ s.census.state = .valid ∧
      r.frame.gen = s.table.gen ∧ s.downstream = some x ∧ r.frame.hop.toNat = s.table.own + 1 ∧ canSend s s.trainSpan) := by
  refine ⟨fun v hv base hb => ⟨withRequest .heatSupply (supplyParams v.1 3000 v.2.1 v.2.2) base,
      request .heatSupply (supplyParams v.1 3000 v.2.1 v.2.2), [], shown_settled _, ?_⟩,
    ⟨shown { leadAlone with heat := { leadAlone.heat with allocEnd := some 10000000000 } }, 10000000000, shown_settled _,
      by decide +kernel⟩,
    ⟨withFrame .b leadDemand (lead .valid), .b,
      received leadDemand, [], [(3, 0), (2, 65535)],
      shown_settled _, ?_⟩⟩
  · simp only [List.mem_cons, List.not_mem_nil, or_false] at hv hb
    rcases hb with rfl | rfl | rfl | rfl <;> rcases hv with rfl | rfl | rfl | rfl | rfl <;> decide +kernel
  · unfold canSend; decide +kernel

/-- Line voltages at both thresholds and a unit inside them. -/
theorem witness_AllocationDividesLimit :
    ∀ on ∈ [false, true], ∃ p : Supply, p.on = on ∧ p.cut < p.shed ∧ p.cut = 5500 ∧ p.shed = 5501 :=
  fun on _ => ⟨{ on := on, limit := 3000, shed := 5501, cut := 5500 }, rfl, (by decide : (5500 : Nat) < 5501), rfl, rfl⟩

/-- A car whose period has just ended, with a sum of readings. -/
def periodEnded (cap : CapState) (readings sum overdraw : Nat) : State :=
  shown { car with
    heat := { car.heat with cap := cap }
    fire := { car.fire with readings := readings, sum := sum, expected := 160, overdraw := overdraw } }

/-- A period that is not judged for want of a reading or in FAULTED, one within at 200 = 160 + 160 div 8 + 20, overdraws above
it as the first and the third in a row; a window to begin now; one to end now, with the period start owed, with its successor
begun at the same moment, and with none or a later one. -/
theorem witness_PeriodsScaleAndOpenWindows :
    (∀ v ∈ [(CapState.fallback, 0, 0, 2), (.faulted, 4, 804, 2), (.fallback, 4, 803, 2), (.fallback, 4, 804, 1), (.fallback, 4, 804, 2)],
      ∃ (s : State) (start : Nat), s.settled = true ∧ s.mem.wf = true ∧ trailRoom s ∧ s.fire.periodStart = some start ∧
        start + 2048000000 = s.now ∧ s.heat.cap = v.1 ∧ s.fire.readings = v.2.1 ∧ s.fire.overdraw = v.2.2.2 ∧
        (overdrew s ↔ v.2.2.1 = 804)) ∧
    (∀ stage ∈ [(0 : Fin 4), 3], ∀ v ∈ [(7952000000, some 10000000000), (7952000001, some 10000000000), (7952000001, none),
        (7952000001, some 10000000001)], ∃ (s : State) (a : Nat), s.settled = true ∧ a = s.now ∧
      s.fire.starts.get stage = v.2 ∧ s.fire.ends.get stage = some a ∧ s.fire.periodStart = some v.1) := by
  refine ⟨fun v hv => ⟨periodEnded v.1 v.2.1 v.2.2.1 v.2.2.2, 7952000000, shown_settled _, ?_⟩,
    fun stage h v hv => ⟨shown { car with fire := { car.fire with
      periodStart := some v.1, starts := Stages.all v.2, ends := Stages.all (some 10000000000) } }, 10000000000,
      shown_settled _, ?_⟩⟩
  · simp only [List.mem_cons, List.not_mem_nil, or_false] at hv
    unfold trailRoom overdrew
    rcases hv with rfl | rfl | rfl | rfl | rfl <;> decide +kernel
  · simp only [List.mem_cons, List.not_mem_nil, or_false] at h hv
    rcases h with rfl | rfl <;> rcases hv with rfl | rfl | rfl | rfl <;> decide +kernel

/-- A block due now on each channel, an AUXV block a reading below and at the threshold, in OK and LOW; one side and both
sides RELEASED as the low timer runs out. -/
theorem witness_ReadingsDriveAuxState :
    (∀ low ∈ [false, true], ∀ block ∈ [List.replicate 4 (0 : BitVec 12), List.replicate 4 4095], ∃ s : State, s.settled = true ∧
      s.mon.running = true ∧ block.length = s.settings.averaging ∧ s.mon.lineV.nextDue ≤ s.now ∧ s.mon.carI.nextDue ≤ s.now ∧
      s.mon.auxV.nextDue ≤ s.now ∧ s.mon.auxLow = low) ∧
    (∀ other ∈ [DoorState.closed, .released], ∃ (s : State) (e : Nat), s.settled = true ∧ s.mem.wf = true ∧ trailRoom s ∧
      e = s.now ∧ s.mon.auxLow = false ∧ s.mon.lowEnd = some e ∧ (s.side .one).state = .released ∧ (s.side .two).state = other) ∧
    (∃ (s : State) (e : Nat), s.settled = true ∧ s.mem.wf = true ∧ trailRoom s ∧ e = s.now ∧ s.mon.auxLow = true ∧
      s.mon.returnEnd = some e) := by
  refine ⟨fun low hl block hb => ⟨shown { car with mon := { car.mon with auxLow := low } }, shown_settled _, ?_⟩,
    fun other ho => ⟨onSide .one (fun d => { d with state := .released, relHigh := true, leaseEnd := some 10000000000 })
      (onSide .two (fun d => { d with state := other })
        { car with mon := { car.mon with lowEnd := some 10000000000 } }), 10000000000, shown_settled _, ?_⟩,
    ⟨shown { car with mon := { car.mon with auxLow := true, returnEnd := some 10000000000 } }, 10000000000, shown_settled _, ?_⟩⟩
  · simp only [List.mem_cons, List.not_mem_nil, or_false] at hl hb
    rcases hl with rfl | rfl <;> rcases hb with rfl | rfl <;> decide +kernel
  · simp only [List.mem_cons, List.not_mem_nil, or_false] at ho
    unfold trailRoom
    rcases ho with rfl | rfl <;> decide +kernel
  · unfold trailRoom; decide +kernel

/-! ## Witnesses: the whole device -/

/-- A lead alone in VALID that has written one trail event, holds a posted slot and is to sample its lock inputs. -/
def running : State :=
  let s : State := { leadAlone with
    pending := [.millisecondTick 0 true true]
    mem := leadAlone.mem.write (slotBase 15) 1, req := { queue := [15], handed := [] }
    mon := { leadAlone.mon with running := true } }
  shown (s.writeEvent { kind := 6, source := 3, position := 1, detail := 1, value := 21 })

theorem running_steps : Sys2Proof.Machine.step running = .next (after (Sys2Proof.Machine.step running)) :=
  eq_next_after _ (by decide +kernel)

theorem witness_CommandsTouchOnlyTheirParts : ∃ (c : Instr) (s t : State) (p : Part), s.settled = true ∧ exec c s = .next t ∧
    p ≠ .now ∧ p ∉ touches c :=
  ⟨.silence 0 .b, shown car, _, .mon, shown_settled _, eq_next_after _ (by decide +kernel), by decide, by decide⟩

theorem running_slotsSound : running.slotsSound := by
  refine ⟨?_, ?_, ?_, ?_, ?_, ?_, ?_, ?_, ?_⟩ <;> decide +kernel

theorem witness_MemoryChangesOnlyInSlotsAndTrail : ∃ (c : Instr) (s t : State), s.slotsSound ∧ fromPort c = false ∧
    exec c s = .next t ∧ s.mem ≠ t.mem :=
  ⟨.take 0, running, after (exec (.take 0) running), running_slotsSound, rfl, eq_next_after _ (by decide +kernel), by decide +kernel⟩

theorem witness_EveryCommandPublishes :
    (∃ (c : Instr) (s t : State), exec c s = .next t ∧ s.mem.wf = true ∧ fromPort c = false ∧
      t.pub.doorCounter = s.pub.doorCounter + 2) ∧
    (∃ (c : Instr) (s t : State), exec c s = .next t ∧ fromPort c = false ∧ s.settled = true ∧
      (∀ dt : Nat, c ≠ .periodStart dt) ∧ t.tallies.heat = s.tallies.heat + 1) ∧
    (∃ (c : Instr) (s t : State), exec c s = .next t ∧ fromPort c = false ∧ s.settled = true ∧
      (∀ dt : Nat, c ≠ .periodStart dt) ∧ t.tallies.heat = s.tallies.heat) :=
  ⟨⟨.doorLocalIsolate 0, withRequest .doorLocal [1, 1] car, _, eq_next_after _ (by decide +kernel), by decide +kernel⟩,
    ⟨.heatDemand 0, withRequest .heatDemand [9, 1, 1, 1] car, _, eq_next_after _ (by decide +kernel), rfl, shown_settled _, nofun,
      by decide +kernel⟩,
    ⟨.doorLocalIsolate 0, withRequest .doorLocal [1, 1] car, _, eq_next_after _ (by decide +kernel), rfl, shown_settled _, nofun,
      by decide +kernel⟩⟩

theorem witness_SlotsStaySound : ∃ s t : State, s.slotsSound ∧ Sys2Proof.Machine.step s = .next t :=
  ⟨running, _, running_slotsSound, running_steps⟩

theorem witness_TrailStaysSound : ∃ s t : State, s.slotsSound ∧ s.trailSound ∧ Sys2Proof.Machine.step s = .next t :=
  ⟨running, _, running_slotsSound, by unfold State.trailSound; decide +kernel, running_steps⟩

theorem closedSide_sound : closedSide.sound := by
  unfold Side.sound
  refine ⟨?_, ?_, ?_, ?_, ?_, ?_, ?_, fun f => by cases f <;> decide, fun _ _ => ⟨nofun, fun ⟨f, h⟩ => ?_⟩, ?_, ?_, ?_⟩
  case refine_8 => cases f <;> exact absurd h.1 (by decide)
  all_goals decide

theorem witness_DoorSidesStaySound : ∃ s t : State, s.doorsSound ∧ Sys2Proof.Machine.step s = .next t :=
  ⟨running, _, ⟨closedSide_sound, closedSide_sound, by decide +kernel, by decide +kernel, by decide +kernel⟩, running_steps⟩

/-- A CLOSED side of a VALID car whose RELEASE is at its instant. -/
def releasing : State :=
  { onSide .one (fun d => { d with pend := some (pendingOrder .release 10000000000) }) (member .valid) with
    pending := [.applyInstant 0] }

theorem witness_ReleaseNeedsValidAndAux : ∃ (s t : State) (k : SideId), Sys2Proof.Machine.step s = .next t ∧
    (s.side k).state ≠ .released ∧ (t.side k).state = .released :=
  ⟨releasing, _, .one, eq_next_after _ (by decide +kernel), by decide +kernel, by decide +kernel⟩

theorem running_spanSound : running.spanA.sound := by
  unfold Span.sound
  refine ⟨⟨?_, ?_, ?_, ?_, ?_, ?_, ?_, ?_⟩, ?_, ?_, ?_, ?_, ?_, ?_, ?_, ?_, ?_, ?_, ?_, ?_⟩ <;> decide +kernel

theorem running_spansSound : running.spansSound := by
  refine ⟨running_spanSound, running_spanSound, ?_, ?_, ?_, ?_, ?_⟩ <;> decide +kernel

theorem witness_SpansStaySound : ∃ s t : State, s.spansSound ∧ Sys2Proof.Machine.step s = .next t :=
  ⟨running, _, running_spansSound, running_steps⟩

theorem witness_ConsistStaysSound : ∃ s t : State, s.spansSound ∧ s.consistSound ∧ Sys2Proof.Machine.step s = .next t :=
  ⟨running, _, running_spansSound, by
    have h : running.census.ctx = none := rfl
    unfold State.consistSound State.ownRecord endKnown
    refine ⟨?_, ?_, ?_, ?_, ?_, ?_, ?_, fun c hc => (by rw [h] at hc; cases hc),
      fun _ => ⟨⟨?_, ?_, ?_, imageRecordOf (record 48213 1), ?_⟩, ?_⟩, ?_, ?_⟩ <;> decide +kernel, running_steps⟩

theorem witness_HeatingStaysSound : ∃ s t : State, s.heatSound ∧ Sys2Proof.Machine.step s = .next t :=
  ⟨running, _, by unfold State.heatSound; decide +kernel, running_steps⟩

theorem test_reset_settled : State.reset.settled = true := by decide +kernel

theorem test_reset_slots : State.reset.slotsSound := by
  refine ⟨?_, ?_, ?_, ?_, ?_, ?_, ?_, ?_, ?_⟩ <;> decide +kernel

/-! ## Check values and worked examples of spec/ -/

def checkText : List Byte := [0x31, 0x32, 0x33, 0x34, 0x35, 0x36, 0x37, 0x38, 0x39]

/-- R26: the CRC over "123456789". -/
theorem test_crc16_check_value : crc16 checkText = 0x29B1 := by decide +kernel

/-- R55: the signature over "123456789". -/
theorem test_crc32_check_value : crc32 checkText = 0xFC891918 := by decide +kernel

/-- R5, by hand: bit 15 alone feeds back a 1; bits 15, 13, 12 and 10 together feed back a 0. -/
theorem test_lfsr_step : lfsrStep 0x8000 = 0x0001 ∧ lfsrStep 0xB400 = 0x6800 ∧ lfsrStep 0x0400 = 0x0801 := by decide

/-- R2: a frame of L payload bytes takes 136 + 8 × L µs; chapter 3's CALL, REPORT of one record and TABLE of four. -/
theorem test_line_times : lineTime (List.replicate 20 0) = 184 * us ∧ lineTime (List.replicate 38 0) = 328 * us ∧
    lineTime (List.replicate 90 0) = 744 * us := by decide

def probed (s : State) (arrival : Word16) : Span := (after (exec (.listenWindowEnd 0 .b [excursion arrival 2000]) s)).spanB

/-- Chapter 1, two cars coming up: the three answered probes of car 2 span B. -/
theorem test_two_cars_coming_up :
    (let u := probed (searching .probing true 0 0) 4524;
      (u.state, u.runCount, u.runRef, u.history, u.delay) = (.sensed, 1, 4524, [262], 262)) ∧
    (let u := probed (searching .sensed true 4524 1) 4531;
      (u.state, u.runCount, u.history, u.delay) = (.sensed, 2, [262, 266], 264)) ∧
    (let u := probed (onSpan .b (fun u => { u with history := [262, 266] }) (searching .sensed true 4524 2)) 4519;
      (u.state, u.runCount, u.history, u.delay) = (.greeting, 3, [262, 266, 260], 263)) := by decide +kernel

/-- R9: SHORTED and OPEN by polarity, NOISY by width, ANSWERED at the bounds of width and arrival. -/
theorem test_classifications :
    classify [{ arrival := 300, width := 800, polarity := .inverted }] = .shorted ∧
    classify [{ arrival := 300, width := 1200, polarity := .same }] = .opened ∧ classify [excursion 300 1201] = .noisy ∧
    classify [excursion 300 900, excursion 12000 1800] = .answered ∧ classify [excursion 3999 2000] = .noisy ∧
    classify [] = .nothing := by decide

/-- R1, R38: the first half cell of a jam differs from the level driven at the collision. -/
theorem test_jam_begins_with_transition :
    (driving (.jam 10000000000 true) 1 .plain).transmitLevel .b = Level.flip firstLevel ∧
    (driving (.jam 10000000000 false) 1 .plain).transmitLevel .b = Level.flip (Level.flip firstLevel) := ⟨rfl, rfl⟩

def queuedFrame (kind : FrameKind) : TxFrame := { frame := frame kind 5 [], tag := .plain }

/-- Chapter 2, a full transmit queue: the queue before the four offers. -/
def carFive : State := onSpan .a (fun u => { u with
  cur := some (queuedFrame .demand)
  txq := [.doorState, .orderAck, .report, .demand, .doorState, .demand, .hello].map queuedFrame }) car

def offered : State :=
  [FrameKind.brk, .tableAck, .doorState, .demand].foldl (fun s kind => (s.offer .a (queuedFrame kind)).1) carFive

theorem test_full_transmit_queue :
    offered.spanA.txq.map (fun f => f.frame.kind) = [.doorState, .orderAck, .report, .doorState, .brk, .tableAck, .doorState] ∧
    offered.spanA.drops = 4 ∧ offered.raised.map (fun r => (r.event.kind, r.event.detail)) = [(3, 1), (3, 12), (3, 12), (3, 12)] := by
  decide +kernel

/-- The kinds in which a queue's frames become current. -/
def sendingOrder : Nat → Span → List FrameKind
  | 0, _ => []
  | k + 1, u =>
    match u.nextFrame with
    | (some f, rest) => f.frame.kind :: sendingOrder k { u with txq := rest }
    | (none, _) => []

theorem test_sending_order : sendingOrder 8 { offered.spanA with cur := none } =
    [.doorState, .orderAck, .doorState, .doorState, .report, .brk, .tableAck] := by decide +kernel

/-- The header delay and LATE flag of an ORDER that car 3 took with a delay `dr` and sends on after a gap. -/
def sentOn (dr gap : Nat) (late : Bool) : Option (Word32 × Bool) :=
  let f : TxFrame := { frame := orderFrame 8 3 late, tag := .forwarded 8 7 (10000000000 - gap * 200) dr late }
  (after (exec (.transmitAttempt 0 .b 16000) (onSpan .b (fun u => { u with txq := [f] }) (member .valid)))).spanB.cur.map
    fun f => (f.frame.delay, f.frame.late)

/-- Chapter 5, one ORDER along four cars: gaps of 37.4, 12.0 and 317.2 µs; a short delay: 1140 and LATE. -/
theorem test_order_delays : sentOn 200000 374 false = some (197785, false) ∧ sentOn 197785 120 false = some (195824, false) ∧
    sentOn 197785 3172 false = some (192772, false) ∧ sentOn 3355 374 false = some (1140, false) ∧
    sentOn 1140 374 false = some (0, true) ∧ sentOn 0 374 true = some (0, true) := by decide +kernel

/-- The lead of chapter 3, "a fourth car joins", in CALLING with image generation 7 and census 22, and the REPORT of three cars.
-/
def joining : State :=
  let r (i : Word32) (gen : Word16) (e : Byte) : CarRecord := { record i e with lastGen := gen }
  withFrame .b { frame .report 2 (reportPayload 22 48213 .ended [r 40017 7 1, r 51907 7 1, r 62300 3 2]) with origin := 2 }
    { lead .calling with table := { (lead .calling).table with gen := 7 }, census := { (lead .calling).census with number := 22 } }

theorem test_a_fourth_car_joins :
    (let t := after (exec (.report 0 .b) joining);
      (t.census.state, t.table.gen, t.table.number, t.table.records.length, t.census.timerEnd) =
        (.distributing, 8, 22, 4, some (10000000000 + 1500 * ms)) ∧
      t.spanB.txq.map (fun f => (f.frame.kind, f.frame.gen, f.frame.payload.length)) = [(.table, 8, 76)]) := by decide +kernel

/-- Chapter 3: train sides of a car by its front end (R78). -/
theorem test_train_sides : trainLeft .a = .two ∧ trainRight .a = .one ∧ trainLeft .b = .one ∧ trainRight .b = .two := by decide

/-- Chapter 6, a release and close at one car: lease code 2 and the close timer of 10 s, from an instant at 10^10. -/
def applied (a : Action) (d : Side) : Side :=
  (after (exec (.applyInstant 0) (shown { member .valid with door := { Door.reset with
    side2 := { d with pend := some { pendingOrder a 10000000000 with lease := 2 } } } }))).door.side2

theorem test_a_release_and_close :
    (let d := applied .release closedSide;
      (d.state, d.relHigh, d.leaseEnd, d.pend) = (.released, true, some (10000000000 + 2000 * ms), none)) ∧
    (let d := applied .close { closedSide with state := .released, lock := false, relHigh := true, leaseEnd := some 1 };
      (d.state, d.relHigh, d.leaseEnd, d.closeEnd) = (.closing, false, none, some (10000000000 + 10000 * ms))) ∧
    (after (exec (.lockLevelChanged 0 .two) (onSide .two (fun d => { d with
      state := .closing, lock := false, lockRun := 50, closeEnd := some 1 }) car))).door.side2.state = .closed := by
  decide +kernel

/-- Chapter 6, a stuck feedback input: the fourth differing sample; FAULT_CLEAR before and after the repair. -/
def stuck (live : Bool) : State := withRequest .faultClear [1, 0] (car.setSide .one { closedSide with
  state := .fault, mismatch := if live then 4 else 0, live := { Causes.none with mismatch := live }
  stored := { Causes.none with mismatch := true } })

theorem test_a_stuck_feedback_input :
    (let t := after (exec (.feedbackSample 0 .one true) (onSide .one (fun d => { d with
        state := .unlocked, lock := false, mismatch := 3, halfStart := 9999000000 }) car));
      (t.door.side1.state, t.door.side1.live.mismatch, t.door.side1.stored.mismatch, t.tallies.fault) = (.fault, true, true, 1)) ∧
    (after (exec (.faultClearDoor 0) (stuck true))).mem.readList (slotBase 3 + 32) 3 = [6, 1, 1] ∧
    (after (exec (.faultClearDoor 0) (stuck false))).mem.readList (slotBase 3 + 32) 3 = [1, 0, 0] := by decide +kernel

/-- Chapter 7, a release with one refusal: ORDER 12 outstanding at the lead of four, and the ORDER_ACK that car 2 sends up. -/
def refusedOnce : State :=
  let o : Outstanding := { slot := 3, order := { order with number := 12, first := 1, last := 4 }, d0 := 200000, gen := 8, n := 4
                           own := some { cls := .applied, late := false, verdict1 := 0, verdict2 := 1 }, waiting := none }
  withFrame .b { frame .orderAck 2 [12, 3, 2, 0, 1, 0, 2, 1] with origin := 4 } { lead .valid with
    mem := Memory.write [] (slotBase 3) 2, table := { table 1 [48213, 51907, 62300, 7] with lead := 48213 }
    door := { (lead .valid).door with outstanding := some o, ackEnd := some 20000000000 } }

theorem test_a_release_with_one_refusal :
    (let t := after (exec (.orderAck 0 .b) refusedOnce);
      t.mem.readList (slotBase 3) 6 = [3, 0, 0, 0, 1, 1] ∧
      t.mem.readList (slotBase 3 + 32) 14 = [12, 4, 3, 0, 1, 0, 2, 1, 4, 4, 4, 0x10, 8, 0]) := by decide +kernel

/-- Chapter 7, proving after a close: the lead of four with the roll (3, 0, 1, 3). -/
def proving : State :=
  withFrame .b { frame .doorState 2 [3, 0, 1, 3] with origin := 4 } { lead .valid with
    table := { table 1 [48213, 51907, 62300, 7] with lead := 48213 } }

theorem test_proving_after_a_close :
    (let t := after (exec (.doorStateRoll 0 .b) proving);
      t.table.records.map (fun q => q.proving) = [1, 1, 2, 3] ∧
      t.door.summary = { left := false, right := true, leftReason := 5, rightReason := 0, firstUnproven := 3, contributors := 4, n := 4 }) := by
  decide +kernel

def supply : Supply := { on := true, limit := 4000, shed := 9000, cut := 7000 }

/-- Chapter 8: the effective limit at 8500, 7400, 7000 and 9000 dV. -/
theorem test_effective_limits : effectiveLimit supply 8500 = 3000 ∧ effectiveLimit supply 7400 = 800 ∧
    effectiveLimit supply 7000 = 0 ∧ effectiveLimit supply 9000 = 4000 := by decide

def fourCars : List (Nat × Nat) := [(1, 400), (2, 1200), (3, 897), (4, 1500)]

def granted (leff : Nat) (entries : List (Nat × Nat)) : Nat × Nat × List Nat :=
  let d := divide leff entries
  (d.level, d.remainder, d.shares.map fun x => x.grant)

/-- Chapter 8: sharing among four cars, and a fifth car at three voltages. -/
theorem test_shares : granted 3000 fourCars = (866, 2, [400, 867, 867, 866]) ∧
    granted 3000 (fourCars ++ [(5, 300)]) = (766, 2, [400, 767, 767, 766, 300]) ∧
    granted 800 (fourCars ++ [(5, 300)]) = (160, 0, [160, 160, 160, 160, 160]) ∧
    granted 4000 (fourCars ++ [(5, 300)]) = (1203, 0, [400, 1200, 897, 1203, 300]) := by decide +kernel

def ratings : Stages Nat := { s0 := 400, s1 := 400, s2 := 200, s3 := 0 }

def onTimes : Stages Nat := { s0 := 255, s1 := 255, s2 := 128, s3 := 0 }

/-- R130 and chapter 9: demand 897, capacity 3985; firing car 3 under 767; a cap of 300; the overdraw limits 881 and 355. -/
theorem test_firing_car_3 : demandOf ratings onTimes = 897 ∧
    State.capacity { car with settings := { settings with ratings := Stages.all 1000 } } = 3985 ∧
    onTimes.map (scaledOnTime 767 897) = { s0 := 218, s1 := 218, s2 := 109, s3 := 0 } ∧
    expectedCurrent ratings { s0 := 218, s1 := 218, s2 := 109, s3 := 0 } = 766 ∧
    phasesOf 3 = { s0 := 46, s1 := 110, s2 := 174, s3 := 238 } ∧
    onTimes.map (scaledOnTime 300 897) = { s0 := 85, s1 := 85, s2 := 42, s3 := 0 } ∧
    expectedCurrent ratings { s0 := 85, s1 := 85, s2 := 42, s3 := 0 } = 298 ∧
    overdrawn 881 766 = false ∧ overdrawn 882 766 = true ∧ overdrawn 355 298 = false ∧ overdrawn 356 298 = true := by
  decide +kernel

/-- Chapter 9, a welded contactor: the third overdraw in a row, M 565 against E 298. -/
theorem test_a_welded_contactor :
    (let t := after (exec (.periodStart 0) (shown { periodEnded .fallback 4 2260 2 with
        fire := { car.fire with readings := 4, sum := 2260, expected := 298, overdraw := 2 } }));
      (t.heat.cap, t.fire.overdraw, t.tallies.fault, t.demand) = (.faulted, 0, 1, 0)) := by decide +kernel

/-- R147: a window of three slots that begins as the one before it ends leaves the output on. -/
def successor : State := shown { car with fire := { car.fire with
  periodStart := some 9999000000, scaled := Stages.all 3, starts := Stages.all (some 10000000000)
  ends := Stages.all (some 10000000000) } }

theorem test_gap_free_windows :
    (let t := after (exec (.windowEnd 0 2) successor);
      (t.heaterOutput 2, t.fire.ends.get 2, t.fire.starts.get 2) = (true, some (10000000000 + 12 * ms), none)) := by
  decide +kernel

/-- Chapter 10: kind CONFIGURE handed from slot 0, with the settings of the tests in the block. -/
def configuring : State :=
  withRequest .configure [] { State.reset with
    now := 2 * ms
    mem := Memory.writeList [] 0x0040 (le32 48213 ++ [1, 1, 3, 2, 10, 1, 0, 0] ++ le16 400 ++ le16 400 ++ le16 200 ++ le16 0 ++
      [0, 0, 0, 0] ++ le16 600 ++ [4, 2] ++ le16 10000 ++ le16 2000 ++ le16 1200 ++ le16 770 ++ le16 450 ++ [1, 3]) }

/-- The adoption itself, before the end of the step writes its four events. -/
theorem test_configuring_a_car :
    (let t := configuring.configure (request .configure []);
      (t.port.running, t.bypass.relay, t.heat.cap, t.door.side1.state, t.tallies.slot, t.raised.length) =
        (true, .switching, .fallback, .unlocked, 1, 4) ∧ t.settings = settings ∧
      t.mem.readList (slotBase 3) 6 = [3, 0, 0, 0, 1, 0] ∧ t.mem.readList (slotBase 3 + 32) 3 = [1, 3, 2]) := by decide +kernel

/-- Chapter 10: slot 0 DONE after adoption, four tallies differing; the six-byte write of the example, its echo and its effect.
-/
def configured : State :=
  shown { car with
    mem := (Memory.write [] (slotBase 0) 3).write (slotBase 0 + 4) 1
    tallies := { car.tallies with slot := 1, door := 1, heat := 1, trail := 4 } }

theorem test_freeing_a_slot :
    (let t := after (exec (.memWrite 0 0x0100 ⟨[0, 1, 0x21, 0, 0, 0], none⟩) configured);
      (t.port.sdo, t.slotState 0, t.mem.read (slotBase 0 + 4), t.port.notes) =
        ([1, 4, 0, 0, 0, 0, 0, 0, 0], 0, 1, { Notes.clear with ownedWrite := true })) ∧
    configured.attnPin = .low := by decide +kernel

/-- Chapter 10: a misaligned read keeps its notes and raises the count. -/
theorem test_misaligned_read :
    (let t := after (exec (.misalignedTransaction 0 ⟨[3, 0x0C, 0, 0, 0], none⟩ 4) { configured with
        port := { configured.port with notes := { Notes.clear with ownedWrite := true } } });
      (t.port.sdo.take 3, t.port.misalign, t.port.notes.ownedWrite) = ([1, 4, 1], 1, true)) := by decide +kernel

/-- R156: a read of the millisecond count whose last two bytes are shifted out after the count went from 0x0000FFFF to
0x00010000 mixes old and new bytes. -/
theorem test_torn_read :
    (let s := under false [0x0B, 0, 4, 0, 0] { car with
        msCount := 0x00010000, port := { car.port with sdo := [1, 0, 0, 0xFF, 0xFF] } };
      (after (exec (.memRead 0 4 ⟨4, none⟩) s)).port.sdo = [1, 0, 0, 0xFF, 0xFF, 0x01, 0x00]) := by decide +kernel

/-- R156, R160: the header names the row. -/
theorem test_header_names_row :
    transactionOf 0 [0x0B, 0x00, 0x04, 0, 0] none = .memRead 0 4 ⟨2, none⟩ ∧
    transactionOf 0 [0x02, 0x05, 0x0C, 7] none = .memWrite 0 0x050C ⟨[7], none⟩ ∧
    transactionOf 0 [0x0D, 0x00, 0x01, 0] none = .regRead 0 1 ⟨1, none⟩ ∧
    transactionOf 0 [0x04, 0x00, 0x01, 6] none = .portSetEcho 0 ⟨[6], none⟩ ∧
    transactionOf 0 [0x04, 0x00, 0x02] none = .misalign 0 ⟨[], none⟩ ∧
    transactionOf 0 [0x04, 0x00, 0x03, 0xA5, 0x3C] none = .resetWord 0 ⟨[0xA5, 0x3C], none⟩ ∧
    transactionOf 0 [0x9F, 0x00, 0x00] none = .unknownOpcode 0 ⟨[0x9F, 0, 0], none⟩ := by decide

/-- Chapter 11: the withdrawal of a TAKEN slot comes too late. -/
theorem test_withdrawal_too_late :
    (let t := after (exec (.memWrite 0 (word16 (slotBase 3)) ⟨[0], none⟩) (withRequest .doorOrder [] car));
      (t.slotState 3, t.port.notes.slotGuard) = (2, true)) := by decide +kernel

/-- Chapter 11, a full trail: O = 1 and N = 129 with two events lost, then the releases of 300 and 50. -/
def fullTrail : State := shown { car with trail := { oldest := 1, next := 129, gap := 2 } }

theorem test_full_trail :
    (let t := after (exec (.memWrite 0 0x050C ⟨le32 300, none⟩) fullTrail);
      (t.trail, t.port.notes.badRelease) = (fullTrail.trail, true)) ∧
    (let t := after (exec (.memWrite 0 0x050C ⟨le32 50, none⟩) fullTrail);
      t.trail = { oldest := 51, next := 130, gap := 0 } ∧ t.tallies.trail = 1 ∧
        t.mem.readList 0x2010 12 = le32 129 ++ [19, 12, 0, 0] ++ le32 2) := by decide +kernel

/-- The events of the door unit's two sides are written one after the other, those of other blocks before or after (R170). -/
theorem test_door_events_stand_together :
    (let event (kind source : Byte) : Event := { kind := kind, source := source, position := 0, detail := 0, value := 0 };
      drawTogether Event.ofDoorUnit [event 18 11, event 10 5, event 14 8, event 10 6] =
        [event 18 11, event 10 5, event 10 6, event 14 8]) := by decide

/-- A record of sequence 128 stands at 0x2000. -/
theorem test_trail_place : trailAddress 128 = 0x2000 ∧ trailAddress 129 = 0x2010 ∧ trailAddress 130 = 0x2020 := by decide

/-- Log 5: the table gives its rows no bits, so no word spells a command. -/
theorem test_no_word_spells_a_command : decodeTableWord 0 0 = none ∧ decodeTableWord 32 0xFFFFFFFF = none := by decide

end Sys2Proof.Tests
end

/-!
What an offer to the transmit queue can come to, each said once: discarded, joined, joined in place of the youngest frame of
the worst class, dropped (R32, R33). The statement about the queue is put together from these four.
-/

namespace Sys2Proof.Machine

/-! ## The worst class of a queue and its youngest frame (R33) -/

theorem worstClass_le {q : List TxFrame} {c : Nat} (hq : ∀ h ∈ q, h.frame.kind.txClass ≤ c) : worstClass q ≤ c := by
  unfold worstClass
  rw [List.foldl_eq_foldr]
  exact List.max_le_of_forall_le _ c (List.forall_mem_map.mpr hq)

theorem txClass_le_worstClass {q : List TxFrame} {g : TxFrame} (hg : g ∈ q) : g.frame.kind.txClass ≤ worstClass q := by
  unfold worstClass
  rw [List.foldl_eq_foldr]
  exact List.le_max_of_le (List.mem_map_of_mem hg) le_rfl

/-- The worst class is that of any frame none is worse than. -/
theorem worstClass_eq {q : List TxFrame} {g : TxFrame} (hg : g ∈ q)
    (hworst : ∀ h ∈ q, h.frame.kind.txClass ≤ g.frame.kind.txClass) : worstClass q = g.frame.kind.txClass :=
  le_antisymm (worstClass_le hworst) (txClass_le_worstClass hg)

theorem dropYoungest_none {c : Nat} : ∀ {q : List TxFrame}, (∀ h ∈ q, h.frame.kind.txClass ≠ c) →
    dropYoungest c q = (none, q)
  | [], _ => rfl
  | f :: q, hq => by
    obtain ⟨hf, hrest⟩ := List.forall_mem_cons.mp hq
    simp [dropYoungest, dropYoungest_none hrest, hf]

/-- A frame with none of its class behind it is the youngest of the class (the converse of `dropYoungest_some`). -/
theorem dropYoungest_append {g : TxFrame} {after : List TxFrame}
    (hafter : ∀ h ∈ after, h.frame.kind.txClass ≠ g.frame.kind.txClass) : ∀ before : List TxFrame,
    dropYoungest g.frame.kind.txClass (before ++ g :: after) = (some g, before ++ after)
  | [] => by simp [dropYoungest, dropYoungest_none hafter]
  | f :: before => by simp [dropYoungest, dropYoungest_append hafter before]

/-! ## The four outcomes of an offer (R32, R33) -/

/-- A frame of another block for a span that is not UP (R32). -/
theorem offer_discarded (s : State) (x : SpanId) (f : TxFrame) (hc : f.frame.kind.consumer ≠ .spanUnit)
    (hs : (s.span x).state ≠ .up) : s.offer x f = (s, .discarded) :=
  if_pos ⟨hc, hs⟩

section
variable (s : State) (x : SpanId) (f : TxFrame) (hk : f.frame.kind.consumer = .spanUnit ∨ (s.span x).state = .up)
include hk

/-- The span unit's own frames pass on every span, the others on an UP one (R32). -/
theorem offer_not_discarded : ¬ (f.frame.kind.consumer ≠ .spanUnit ∧ (s.span x).state ≠ .up) :=
  fun ⟨hc, hs⟩ => hk.elim hc hs

theorem offer_joins (hr : (s.span x).depth < 8) :
    s.offer x f = (s.setSpan x { s.span x with txq := (s.span x).txq ++ [f] }, .joined) := by
  unfold State.offer
  simp only [if_neg (offer_not_discarded s x f hk), if_pos hr]

/-- A full queue with a worse frame than the newcomer loses the youngest of its worst class to it (R33). -/
theorem offer_replaces (hfull : 8 ≤ (s.span x).depth) {g : TxFrame} {before after : List TxFrame}
    (hq : (s.span x).txq = before ++ g :: after) (hworst : ∀ h ∈ (s.span x).txq, h.frame.kind.txClass ≤ g.frame.kind.txClass)
    (hafter : ∀ h ∈ after, h.frame.kind.txClass < g.frame.kind.txClass)
    (hbetter : f.frame.kind.txClass < g.frame.kind.txClass) :
    s.offer x f =
      ((s.setSpan x { s.span x with txq := before ++ after ++ [f] }).queueDrop x g.frame.kind, .joined) := by
  have hclass : worstClass (s.span x).txq = g.frame.kind.txClass := worstClass_eq (by simp [hq]) hworst
  have hdrop : dropYoungest g.frame.kind.txClass (s.span x).txq = (some g, before ++ after) := by
    rw [hq]; exact dropYoungest_append (fun h hm => (hafter h hm).ne) before
  unfold State.offer
  simp only [if_neg (offer_not_discarded s x f hk), if_neg (Nat.not_lt.mpr hfull), hclass, if_pos hbetter, hdrop]

/-- A full queue with no worse frame than the newcomer keeps its frames (R33). -/
theorem offer_dropped (hfull : 8 ≤ (s.span x).depth)
    (hworst : ∀ h ∈ (s.span x).txq, h.frame.kind.txClass ≤ f.frame.kind.txClass) :
    s.offer x f = (s.queueDrop x f.frame.kind, .dropped) := by
  unfold State.offer
  simp only [if_neg (offer_not_discarded s x f hk), if_neg (Nat.not_lt.mpr hfull),
    if_neg (Nat.not_lt.mpr (worstClass_le hworst))]

end

/-! ## The statement -/

theorem spanSource_eq_endCode (x : SpanId) : spanSource x = endCode x := by cases x <;> rfl

/-- Settles O22: each clause is one of the four outcomes, and `queueDrop_eq` says what a drop counts and raises. -/
theorem transmitQueueTakesOrDrops : Obligations.TransmitQueueTakesOrDrops := by
  intro s x f u r dropping
  refine ⟨offer_discarded s x f, fun hk => ⟨offer_joins s x f hk, fun hfull => ⟨?replaced, fun hworst => ?dropped⟩⟩⟩
  case replaced =>
    intro g before after hq hworst hafter hbetter
    calc r = _ := offer_replaces s x f hk hfull hq hworst hafter hbetter
      _ = (dropping (before ++ after ++ [f]) g.frame.kind, .joined) := by
        simp [queueDrop_eq, spanSource_eq_endCode, dropping, u]
  case dropped =>
    calc r = _ := offer_dropped s x f hk hfull hworst
      _ = (dropping u.txq f.frame.kind, .dropped) := by
        simp [queueDrop_eq, spanSource_eq_endCode, dropping, u]

end Sys2Proof.Machine

/-!
The write of a slot's state byte, from the transaction that carries it to the slot guard's decision (R156, R157, R166). The
whole transaction comes down to `guardSlot` on the state that any write of one byte leaves; the guard's table is said once, a
rule for each of its rows.
-/

namespace Sys2Proof.Machine

/-! ## A read besides the written address (R155) -/

/-- Unlike `Memory.read_write` this holds in every memory, canonical or not. -/
theorem Memory.read_write_ne {a b : Nat} (v : Byte) (h : b ≠ a) : ∀ m : Memory, (m.write a v).read b = m.read b
  | [] => by
    unfold Memory.write
    split <;> simp [Memory.read, h.symm]
  | (k, w) :: m => by
    unfold Memory.write
    split
    case isTrue => split <;> simp [Memory.read, h.symm]
    case isFalse =>
      split
      case isTrue hak =>
        have hkb : k ≠ b := fun e => h (e.symm.trans hak.symm)
        split <;> simp [Memory.read, h.symm, hkb]
      case isFalse => simp only [Memory.read, Memory.read_write_ne v h m]

/-! ## A write's transaction (R156, R159) -/

/-- The state when the last byte of a write of `n` data bytes is in: the echo and zeros went out on SDO, and CSN rises. -/
def State.wroteBytes (s : State) (n : Nat) : State :=
  { s with port := { s.port with sdo := s.echoBytes ++ List.replicate n 0 } }

theorem echoBytes_eq_bytes (s : State) : s.echoBytes = [byteAt s.echoBytes 0, byteAt s.echoBytes 1, byteAt s.echoBytes 2] := by
  unfold State.echoBytes
  split <;> rfl

theorem dataOut_write (s : State) {opcode : Byte} (hmem : opcode ≠ 0x0B) (hreg : opcode ≠ 0x0D) (addr : Word16) (i : Nat) :
    s.dataOut opcode addr i = 0 := by
  rw [State.dataOut, if_neg hmem, if_neg hreg]

/-- A transaction that reads nothing shifts out the echo and zeros (R156, R159). -/
theorem shiftOut_write (s : State) {opcode : Byte} (hmem : opcode ≠ 0x0B) (hreg : opcode ≠ 0x0D) (addr : Word16)
    (data : List Byte) : s.shiftOut (headerOf opcode addr ++ data) 0 (headerOf opcode addr ++ data).length =
      s.echoBytes ++ List.replicate data.length 0 := by
  have hout (i : Nat) : s.byteOut (headerOf opcode addr ++ data) i = if i < 3 then byteAt s.echoBytes i else 0 := by
    unfold State.byteOut
    rw [show byteAt (headerOf opcode addr ++ data) 0 = opcode from rfl, dataOut_write s hmem hreg]
  have hlen : (headerOf opcode addr ++ data).length = 3 + data.length := Nat.add_comm data.length 3
  rw [echoBytes_eq_bytes s, State.shiftOut, hlen]
  simp [hout, List.range_add, List.range_succ, List.map_const', Function.comp_def]

/-- A whole write that begins out of the millisecond after a reset has its effect when its bytes are in (R156, R162). -/
theorem transact_write (s : State) {opcode : Byte} (hmem : opcode ≠ 0x0B) (hreg : opcode ≠ 0x0D) (addr : Word16)
    (data : List Byte) (effect : State → State) (hidle : s.port.transfer = none) (hnow : ms ≤ s.now) :
    s.transact (headerOf opcode addr ++ data) none effect = effect (s.wroteBytes data.length) := by
  have hdeaf : s.deaf = false := decide_eq_false (Nat.not_lt.mpr hnow)
  rw [transact_ends s _ 0 s.deaf effect (openTransfer_none s _ hidle) (Nat.zero_le _), hdeaf]
  simp only [shiftOut_write s hmem hreg]
  simp [State.wroteBytes, hidle]

theorem exec_memWrite (s : State) (dt : Nat) (addr : Word16) (data : List Byte) (hidle : s.port.transfer = none)
    (hnow : ms ≤ s.now + dt) : exec (.memWrite dt addr ⟨data, none⟩) s =
      .next (((s.advance dt).wroteBytes data.length).commitWrite addr data).settle := by
  have hwrite := transact_write (s.advance dt) (opcode := 0x02) (by decide) (by decide) addr data
    (fun u => u.commitWrite addr data) hidle hnow
  exact congrArg (fun u => Host.Outcome.next (State.settle u)) hwrite

/-! ## The notes that a write clears (R159) -/

theorem without_byte (n : Notes) : n.without n.byte = Notes.clear := by
  obtain ⟨owned, guarded, long, bad⟩ := n
  revert owned guarded long bad
  decide

theorem without_zero (n : Notes) : n.without 0 = n := by simp [Notes.without]

/-- What the commit of a write begins with: the echoed notes go and the length is judged (R157, R159). -/
theorem wroteBytes_noted (s : State) (dt : Nat) (data : List Byte) :
    ((s.advance dt).wroteBytes data.length).clearEchoed.noteLength data = afterRegWrite s dt data := by
  have hnotes : s.port.notes.without (byteAt (s.echoBytes ++ List.replicate data.length 0) 2) =
      if s.port.setting.getLsbD 0 then s.port.notes else Notes.clear := by
    unfold State.echoBytes State.echoOn
    cases s.port.setting.getLsbD 0
    case false => exact without_byte s.port.notes
    case true => exact without_zero s.port.notes
  have hclear : ((s.advance dt).wroteBytes data.length).clearEchoed = { s.advance dt with port := { s.port with
      sdo := s.echoBytes ++ List.replicate data.length 0
      notes := if s.port.setting.getLsbD 0 then s.port.notes else Notes.clear } } := by
    rw [← hnotes]
    rfl
  rw [hclear, State.noteLength, afterRegWrite]
  split <;> rfl

theorem afterRegWrite_settled (s : State) (dt : Nat) (data : List Byte) : (afterRegWrite s dt data).settled = s.settled := rfl

/-! ## The slot guard's table (R166) -/

section
variable (s : State) (k : Nat)

theorem guardSlot_same {b : Byte} (h : b = s.slotState k) : s.guardSlot k b = s := if_pos h

theorem guardSlot_posts (h : s.slotState k = slotFree) : s.guardSlot k slotPosted =
    { s.setSlotState k slotPosted with req := { s.req with queue := s.req.queue ++ [k] } } := by
  simp [State.guardSlot, h, slotFree, slotPosted]

theorem guardSlot_withdraws (h : s.slotState k = slotPosted) : s.guardSlot k slotFree =
    { s.setSlotState k slotFree with req := { s.req with queue := s.req.queue.filter fun j => j != k } } := by
  simp [State.guardSlot, h, slotFree, slotPosted]

theorem guardSlot_frees (h : s.slotState k = slotDone) : s.guardSlot k slotFree = s.setSlotState k slotFree := by
  simp [State.guardSlot, h, slotFree, slotPosted, slotDone]

theorem guardSlot_refuses {b : Byte} (hsame : b ≠ s.slotState k) (hpost : ¬(s.slotState k = slotFree ∧ b = slotPosted))
    (hwithdraw : ¬(s.slotState k = slotPosted ∧ b = slotFree)) (hfree : ¬(s.slotState k = slotDone ∧ b = slotFree)) :
    s.guardSlot k b = s.raiseSlotGuard := by
  simp only [State.guardSlot, if_neg hsame, if_neg hpost, if_neg hwithdraw, if_neg hfree]

/-- All that the guard can change: the state byte, the post queue and the notes. -/
theorem guardSlot_keeps (b : Byte) : ∃ (m : Memory) (q : List Nat) (n : Notes), (m = s.mem ∨ m = s.mem.write (slotBase k) b) ∧
    s.guardSlot k b = { s with mem := m, req := { s.req with queue := q }, port := { s.port with notes := n } } := by
  dsimp only [State.guardSlot]
  split_ifs
  -- the first and the last row store nothing
  case pos | neg => exact ⟨_, _, _, .inl rfl, rfl⟩
  all_goals exact ⟨_, _, _, .inr rfl, rfl⟩

theorem guardSlot_settled (b : Byte) : (s.guardSlot k b).settled = s.settled := by
  obtain ⟨m, q, n, -, heq⟩ := guardSlot_keeps s k b
  rw [heq]
  rfl

end

/-! ## A gathered state byte (R157) -/

section
variable (s : State) {k : Nat} (b : Byte) (hk : k < 16)
include hk

theorem areaOf_slotBase : areaOf (slotBase k) = .slot k 0 := by
  have hlow : 256 ≤ slotBase k := Nat.le_add_right _ _
  have hhigh : slotBase k < 1280 := by unfold slotBase; omega
  have hnumber : (slotBase k - 256) / 64 = k ∧ (slotBase k - 256) % 64 = 0 := by unfold slotBase; omega
  unfold areaOf
  rw [if_neg (by omega), if_neg (by omega), if_pos hhigh, hnumber.1, hnumber.2]

theorem gather_slotBase : gather (word16 (slotBase k)) [b] = [(slotBase k, b)] := by
  have haddr : memAddress (word16 (slotBase k)) 0 = slotBase k := by
    simp only [memAddress, word16, slotBase, BitVec.toNat_ofNat]
    omega
  rw [← haddr]
  simp [gather, haddr]

/-- The guard leaves the marks block, which stands above the slots. -/
theorem guardSlot_releaseSequence : (s.guardSlot k b).releaseSequence = s.releaseSequence := by
  obtain ⟨m, q, n, hm, heq⟩ := guardSlot_keeps s k b
  have hread (i : Nat) : m.read (marksBase + i) = s.mem.read (marksBase + i) := by
    rcases hm with rfl | rfl
    · rfl
    · exact Memory.read_write_ne b (by unfold marksBase slotBase; omega) s.mem
  rw [heq]
  simp only [State.releaseSequence, hread]

/-- A committed write of nothing but a state byte is the guard's to decide, and hands no release sequence on. -/
theorem commitWrite_slotBase : s.commitWrite (word16 (slotBase k)) [b] = (s.clearEchoed.noteLength [b]).guardSlot k b := by
  have hjudge (t : State) : t.judge (slotBase k) b = t := by
    simp only [State.judge, areaOf_slotBase hk, if_true]
  have hhand (t : State) : t.handOn (slotBase k) b = t.guardSlot k b := by
    simp only [State.handOn, areaOf_slotBase hk, if_true]
  have hrelease : ((s.clearEchoed.noteLength [b]).guardSlot k b).releaseSequence = s.releaseSequence :=
    guardSlot_releaseSequence _ b hk
  simp only [State.commitWrite, gather_slotBase b hk, List.foldl_cons, List.foldl_nil, hjudge, hhand, hrelease, if_true]

/-- The whole MEM_WRITE of a state byte is the guard's decision on the state that a write of one byte leaves. -/
theorem exec_memWrite_slotBase (dt : Nat) (hs : s.settled = true) (hidle : s.port.transfer = none) (hnow : ms ≤ s.now + dt) :
    exec (.memWrite dt (word16 (slotBase k)) ⟨[b], none⟩) s = .next ((afterRegWrite s dt [b]).guardSlot k b) := by
  have hsettled : ((afterRegWrite s dt [b]).guardSlot k b).settled = true := by
    rw [guardSlot_settled, afterRegWrite_settled, hs]
  rw [exec_memWrite s dt _ [b] hidle hnow, commitWrite_slotBase _ b hk, wroteBytes_noted s dt [b],
    settle_of_settled _ hsettled]

end

/-! ## The statement -/

/-- Settles O6: the transaction is the guard's decision (`exec_memWrite_slotBase`), and each clause is a row of its table. -/
theorem slotGuardTable : Obligations.SlotGuardTable := by
  intro s dt k b hk hs hidle hnow cleared u held answer
  have hanswer : answer = .next (u.guardSlot k b) := exec_memWrite_slotBase s b hk dt hs hidle hnow
  rw [hanswer]
  refine ⟨?same, ?posted, ?withdrawn, ?freed, ?refused⟩
  case same =>
    intro h
    rw [guardSlot_same u k h]
  case posted =>
    rintro ⟨h, rfl⟩
    exact congrArg _ (guardSlot_posts u k h)
  case withdrawn =>
    rintro ⟨h, rfl⟩
    exact congrArg _ (guardSlot_withdraws u k h)
  case freed =>
    rintro ⟨h, rfl⟩
    exact congrArg _ (guardSlot_frees u k h)
  case refused =>
    rintro ⟨hsame, hpost, hwithdraw, hfree⟩
    exact congrArg _ (guardSlot_refuses u k hsame hpost hwithdraw hfree)

end Sys2Proof.Machine

/-!
The queue, the resets and the state after one, and the transactions of the serial port but for MEM_WRITE's own judging (O1, O2,
O3, O4, O60). Every row of the port is a transaction with an effect at its end; what the statements need of each effect is said
once, in `EndEffect`.
-/

namespace Sys2Proof.Machine

/-! ## The step and the resets -/

/-- Settles O1. -/
theorem stepTakesFront : Obligations.StepTakesFront := by
  refine ⟨fun _ _ _ => rfl, fun s hs => ?_⟩
  unfold step
  rw [hs]

theorem reset_settled : State.reset.settled = true := by decide +kernel

theorem reset_slotsSound : State.reset.slotsSound := by
  refine ⟨rfl, by decide, by decide, by decide, by decide, ?_, by decide, by decide, by decide⟩
  intro k _
  simp [State.slotState, State.reset, Memory.read, State.holders, Census.reset, Door.reset]

theorem reset_trailSound : State.reset.trailSound := by
  refine ⟨by decide, by decide, by decide, fun i hi => ?_⟩
  exact absurd hi (by simp [Trail.held, State.reset])

theorem sideReset_sound : Side.reset.sound := by
  refine ⟨by decide, by decide, by decide, by decide, by decide, by decide, by decide, ?_, ?_, by decide, by decide, by decide⟩
  · intro f
    cases f <;> decide
  · intro h
    exact absurd rfl h

theorem spanReset_sound : Span.reset.sound :=
  ⟨by decide, by decide, by decide, by decide, by decide, by decide, by decide, by decide, by decide, by decide, by decide,
    by decide, by decide, by decide⟩

theorem reset_consistSound : State.reset.consistSound := by
  refine ⟨by decide, by decide, by decide, by decide, by decide, by decide, by decide, ?_, ?_, by decide, ?_⟩
  · intro c hc
    exact absurd hc (by simp [State.reset, Census.reset])
  · intro h
    exact absurd h (by decide)
  · exact ⟨by decide, by decide⟩

theorem reset_heatSound : State.reset.heatSound :=
  ⟨by decide, by decide, by decide, by decide, by decide, by decide, by decide, by decide, by decide, by decide⟩

/-- Settles O60. -/
theorem resetMeetsInvariants : Obligations.ResetMeetsInvariants :=
  ⟨reset_settled, reset_slotsSound, reset_trailSound,
    ⟨sideReset_sound, sideReset_sound, by decide, by decide, by decide⟩,
    ⟨spanReset_sound, spanReset_sound, by decide, by decide, by decide, by decide, by decide⟩,
    reset_consistSound, reset_heatSound⟩

/-- What a port reset leaves of the memory: the scratch area (R155). -/
theorem read_filter_scratch (m : Memory) (a : Nat) :
    Memory.read (m.filter fun c => decide (0x4000 ≤ c.1)) a = if 0x4000 ≤ a then m.read a else 0 := by
  induction m with
  | nil => simp [Memory.read]
  | cons c m ih =>
    obtain ⟨k, v⟩ := c
    by_cases hk : 0x4000 ≤ k
    · by_cases hka : k = a
      · simp [Memory.read, hka ▸ hk, hka]
      · simp [Memory.read, hk, hka, ih]
    · by_cases ha : 0x4000 ≤ a
      · have hka : k ≠ a := by omega
        simp [Memory.read, hk, hka, ih]
      · simp [hk, ha, ih]

theorem portReset_settled (s : State) : s.portReset.settled = true := reset_settled

/-! ## What a transaction shifts out (R156, R159) -/

/-- The two bytes of a word, put together again. -/
theorem word16_bytes (w : Word16) : (w.extractLsb' 8 8 ++ w.extractLsb' 0 8 : Word16) = w := by
  ext i hi
  simp only [BitVec.getElem_append, BitVec.getElem_extractLsb']
  split
  · simp [BitVec.getLsbD_eq_getElem, hi]
  · rw [show 8 + (i - 8) = i by omega, BitVec.getLsbD_eq_getElem hi]

/-- A transaction with a header shifts out the echo and then its data bytes. -/
theorem shiftOut_header (s : State) (opcode : Byte) (addr : Word16) (data : List Byte) :
    s.shiftOut (headerOf opcode addr ++ data) 0 (headerOf opcode addr ++ data).length =
      s.echoBytes ++ (List.range data.length).map (s.dataOut opcode addr) := by
  have haddr : getBe16 (headerOf opcode addr ++ data) 1 = addr := word16_bytes addr
  have hout (i : Nat) : s.byteOut (headerOf opcode addr ++ data) i =
      if i < 3 then byteAt s.echoBytes i else s.dataOut opcode addr (i - 3) := by
    unfold State.byteOut
    rw [haddr]
    rfl
  have hlen : (headerOf opcode addr ++ data).length = 3 + data.length := Nat.add_comm data.length 3
  rw [echoBytes_eq_bytes s, State.shiftOut, hlen]
  simp [hout, List.range_add, List.range_succ, Function.comp_def]

/-- A transaction cut off in its header shifts out as much of the echo. -/
theorem shiftOut_short (s : State) (bytesIn : List Byte) (h : bytesIn.length < 3) :
    s.shiftOut bytesIn 0 bytesIn.length = s.echoBytes.take bytesIn.length := by
  have hout (i : Nat) (hi : i < bytesIn.length) : s.byteOut bytesIn i = byteAt s.echoBytes i := if_pos (by omega)
  rw [echoBytes_eq_bytes s, State.shiftOut]
  match bytesIn, h with
  | [], _ => rfl
  | [b], _ => simp [hout, List.range_succ]
  | [b, c], _ => simp [hout, List.range_succ]

/-- The echo clears the notes it carried while it is on, and none while it is off. -/
theorem without_echoed (s : State) (l : List Byte) : s.port.notes.without (byteAt (s.echoBytes ++ l) 2) =
    if s.port.setting.getLsbD 0 then s.port.notes else Notes.clear := by
  unfold State.echoBytes State.echoOn
  cases s.port.setting.getLsbD 0
  case false => exact without_byte s.port.notes
  case true => exact without_zero s.port.notes

/-! ## The end of a transaction -/

/-- `s` with another record of SDO and other notes. -/
def State.reported (s : State) (sdo : List Byte) (notes : Notes) : State :=
  { s with port := { s.port with sdo, notes } }

/-- What every effect of a transaction's end keeps to: the views stay settled, the record of SDO and the freed line stay, and
what the transaction shifted out decides no more than the notes. -/
structure EndEffect (effect : State → State) : Prop where
  settled : ∀ s : State, s.settled = true → (effect s).settled = true
  sdo : ∀ s : State, (effect s).port.sdo = s.port.sdo
  idle : ∀ s : State, s.port.transfer = none → (effect s).port.transfer = none
  reported : ∀ (s : State) (sdo : List Byte) (notes : Notes),
    ∃ notes' : Notes, effect (s.reported sdo notes) = (effect s).reported sdo notes'

theorem EndEffect.comp {f g : State → State} (hf : EndEffect f) (hg : EndEffect g) : EndEffect fun s => g (f s) where
  settled s h := hg.settled _ (hf.settled s h)
  sdo s := (hg.sdo _).trans (hf.sdo s)
  idle s h := hg.idle _ (hf.idle s h)
  reported s sdo notes := by
    obtain ⟨n, hn⟩ := hf.reported s sdo notes
    obtain ⟨n', hn'⟩ := hg.reported (f s) sdo n
    exact ⟨n', by rw [hn, hn']⟩

theorem EndEffect.id : EndEffect fun s => s := ⟨fun _ h => h, fun _ => rfl, fun _ h => h, fun _ _ n => ⟨n, rfl⟩⟩

/-- An effect that changes nothing but the notes. -/
theorem EndEffect.ofNotes (f : State → Notes) : EndEffect fun s => s.setNotes (f s) :=
  ⟨fun _ h => h, fun _ => rfl, fun _ h => h, fun s sdo notes => ⟨f (s.reported sdo notes), rfl⟩⟩

/-- A choice between two effects that the record of SDO and the notes do not decide. -/
theorem EndEffect.ite {f g : State → State} (p : State → Prop) [DecidablePred p] (hf : EndEffect f) (hg : EndEffect g)
    (hp : ∀ (s : State) (sdo : List Byte) (n : Notes), p (s.reported sdo n) ↔ p s) :
    EndEffect fun s => if p s then f s else g s where
  settled s h := by
    split
    exacts [hf.settled s h, hg.settled s h]
  sdo s := by
    split
    exacts [hf.sdo s, hg.sdo s]
  idle s h := by
    split
    exacts [hf.idle s h, hg.idle s h]
  reported s sdo n := by
    simp only [hp s sdo n]
    split
    exacts [hf.reported s sdo n, hg.reported s sdo n]

theorem clearEchoed_effect : EndEffect State.clearEchoed := .ofNotes _

theorem noteLength_effect (data : List Byte) : EndEffect fun s => s.noteLength data := by
  exact .ite (fun _ => 64 < data.length) (.ofNotes fun s => { s.port.notes with overlength := true }) .id fun _ _ _ => Iff.rfl

theorem judge_effect (a : Nat) (b : Byte) : EndEffect fun s => s.judge a b := by
  have hstore : EndEffect fun s => { s with mem := s.mem.write a b } :=
    ⟨fun _ h => h, fun _ => rfl, fun _ h => h, fun _ _ n => ⟨n, rfl⟩⟩
  have howned : EndEffect State.raiseOwnedWrite := .ofNotes fun s => { s.port.notes with ownedWrite := true }
  unfold State.judge
  cases areaOf a
  case settings | marks | scratch => exact hstore
  case unassigned => exact .id
  case slot k off =>
    exact .ite (fun _ => off = 0) .id
      (.ite (fun s => s.slotState k = slotFree ∨ s.slotState k = slotPosted) hstore howned fun _ _ _ => Iff.rfl)
      fun _ _ _ => Iff.rfl
  all_goals exact howned

theorem guardSlot_effect (k : Nat) (b : Byte) : EndEffect fun s => s.guardSlot k b := by
  refine ⟨fun s h => (guardSlot_settled s k b).trans h, fun s => ?_, fun s h => ?_, fun s sdo n => ?_⟩
  · obtain ⟨m, q, n, -, heq⟩ := guardSlot_keeps s k b
    rw [heq]
  · obtain ⟨m, q, n, -, heq⟩ := guardSlot_keeps s k b
    rw [heq]
    exact h
  · simp only [State.guardSlot, show (s.reported sdo n).slotState k = s.slotState k from rfl]
    split_ifs
    all_goals exact ⟨_, rfl⟩

theorem handOn_effect (a : Nat) (b : Byte) : EndEffect fun s => s.handOn a b := by
  unfold State.handOn
  cases areaOf a
  case slot k off =>
    by_cases hoff : off = 0
    · simpa only [hoff, if_true] using guardSlot_effect k b
    · simpa only [hoff, if_false] using EndEffect.id
  all_goals exact .id

theorem cells_effect {f : State → Nat × Byte → State} (hf : ∀ c, EndEffect fun s => f s c) (cells : List (Nat × Byte)) :
    EndEffect fun s => cells.foldl f s := by
  induction cells with
  | nil => exact .id
  | cons c cells ih => exact (hf c).comp ih

theorem settled_stored (s : State) (mem : Memory) (trail : Trail) (tallies : Tallies) :
    ({ s with mem, trail, tallies } : State).settled = s.settled := rfl

theorem writeEvent_effect (e : Event) : EndEffect fun s => s.writeEvent e := by
  unfold State.writeEvent
  refine .ite (fun s => s.trail.held < 128) ?_ ?_ fun _ _ _ => Iff.rfl
  · refine ⟨fun s h => ?_, fun _ => rfl, fun _ h => h, fun s sdo n => ⟨n, ?_⟩⟩
    · exact (settled_stored s _ _ _).trans h
    · rfl
  · refine ⟨fun _ h => h, fun _ => rfl, fun _ h => h, fun _ _ n => ⟨n, rfl⟩⟩

/-- The TRAIL_GAP event of a gap count (R171). -/
def gapEvent (gap : Nat) : Event := { kind := 19, source := 12, position := 0, detail := 0, value := word32 gap }

theorem writeGap_effect : EndEffect State.writeGap := by
  refine .ite (fun s => s.trail.held < 128 ∧ 0 < s.trail.gap) ?_ .id fun _ _ _ => Iff.rfl
  refine ⟨fun s h => (writeEvent_effect _).settled s h, fun s => (writeEvent_effect _).sdo s,
    fun s h => (writeEvent_effect _).idle s h, fun s sdo n => ?_⟩
  obtain ⟨n', hn'⟩ := (writeEvent_effect (gapEvent s.trail.gap)).reported s sdo n
  exact ⟨n', congrArg (fun t : State => { t with trail := { t.trail with gap := 0 } }) hn'⟩

theorem releaseTrail_effect (seq : Word32) : EndEffect fun s => s.releaseTrail seq := by
  have holdest : EndEffect fun s => { s with trail := { s.trail with oldest := seq + 1 } } :=
    ⟨fun _ h => h, fun _ => rfl, fun _ h => h, fun _ _ n => ⟨n, rfl⟩⟩
  exact .ite (fun s => (seq - (s.trail.oldest - 1)).toNat ≤ s.trail.held) (holdest.comp writeGap_effect)
    (.ofNotes fun s => { s.port.notes with badRelease := true }) fun _ _ _ => Iff.rfl

/-- The gathered bytes judged and handed on, before the release sequence is looked at (R157, steps 2 and 3). -/
def State.wroteCells (s : State) (addr : Word16) (data : List Byte) : State :=
  (gather addr data).foldl (fun t c => t.handOn c.1 c.2)
    ((gather addr data).foldl (fun t c => t.judge c.1 c.2) (s.clearEchoed.noteLength data))

theorem wroteCells_effect (addr : Word16) (data : List Byte) : EndEffect fun s => s.wroteCells addr data :=
  (((clearEchoed_effect.comp (noteLength_effect data)).comp (cells_effect (fun c => judge_effect c.1 c.2) _)).comp
    (cells_effect (fun c => handOn_effect c.1 c.2) _))

theorem commitWrite_eq (s : State) (addr : Word16) (data : List Byte) : s.commitWrite addr data =
    (let t := s.wroteCells addr data
    if t.releaseSequence = s.releaseSequence then t else t.releaseTrail t.releaseSequence) := rfl

theorem commitWrite_effect (addr : Word16) (data : List Byte) : EndEffect fun s => s.commitWrite addr data := by
  have hcells := wroteCells_effect addr data
  simp only [commitWrite_eq]
  refine ⟨fun s h => ?_, fun s => ?_, fun s h => ?_, fun s sdo n => ?_⟩
  · split
    exacts [hcells.settled s h, (releaseTrail_effect _).settled _ (hcells.settled s h)]
  · split
    exacts [hcells.sdo s, ((releaseTrail_effect _).sdo _).trans (hcells.sdo s)]
  · split
    exacts [hcells.idle s h, (releaseTrail_effect _).idle _ (hcells.idle s h)]
  · obtain ⟨n', hn'⟩ := hcells.reported s sdo n
    rw [hn', show ((s.wroteCells addr data).reported sdo n').releaseSequence = (s.wroteCells addr data).releaseSequence from rfl,
      show (s.reported sdo n).releaseSequence = s.releaseSequence from rfl]
    split
    exacts [⟨n', rfl⟩, (releaseTrail_effect _).reported _ sdo n']

theorem commitRegister_effect (data : List Byte) {effect : State → State} (h : EndEffect effect) :
    EndEffect fun s => s.commitRegister data effect :=
  (clearEchoed_effect.comp (noteLength_effect data)).comp h

theorem writePortSet_effect (data : List Byte) : EndEffect (State.writePortSet data) := by
  cases data with
  | nil => exact .id
  | cons b l => exact ⟨fun _ h => h, fun _ => rfl, fun _ h => h, fun _ _ n => ⟨n, rfl⟩⟩

theorem misalign_effect (f : Nat → Nat) : EndEffect fun s => { s with port := { s.port with misalign := f s.port.misalign } } :=
  ⟨fun _ h => h, fun _ => rfl, fun _ h => h, fun _ _ n => ⟨n, rfl⟩⟩

theorem writeResetWord_effect (data : List Byte) : EndEffect (State.writeResetWord data) := by
  unfold State.writeResetWord
  by_cases h : data.take 2 = [0xA5, 0x3C]
  · simp only [h, if_true]
    exact ⟨fun s _ => portReset_settled s, fun _ => rfl, fun _ _ => rfl, fun _ _ _ => ⟨Notes.clear, rfl⟩⟩
  · simpa only [h, if_false] using EndEffect.id

/-- A row of the port carries out the transaction of `bytesIn`, with the same effect at its end in every state. -/
def Transacts (c : Instr) (dt : Nat) (bytesIn : List Byte) (held : Option Nat) : Prop :=
  ∃ effect : State → State, EndEffect effect ∧
    ∀ s : State, exec c s = .next (s.run dt fun t => t.transact bytesIn held effect)

theorem transacts_of_transaction {c : Instr} {dt : Nat} {bytesIn : List Byte} {held : Option Nat} (hc : c.wf = true)
    (h : c.transaction = some (dt, bytesIn, held)) : Transacts c dt bytesIn held := by
  cases c <;> simp only [Instr.transaction, Option.some.injEq, Prod.mk.injEq, reduceCtorEq] at h <;> obtain ⟨rfl, rfl, rfl⟩ := h
  case memRead => exact ⟨_, clearEchoed_effect, fun _ => rfl⟩
  case memWrite => exact ⟨_, commitWrite_effect _ _, fun _ => rfl⟩
  case regRead => exact ⟨_, clearEchoed_effect, fun _ => rfl⟩
  case regWriteOther dt reg data =>
    have hreg : writableRegister reg = false := by simpa [Instr.wf] using hc
    refine ⟨_, commitRegister_effect data.whole EndEffect.id, fun s => ?_⟩
    simp only [exec, execRegWriteOther, hreg]
    rfl
  case portSetEcho | portSetAttnPolarity | portSetAttnDrive =>
    exact ⟨_, commitRegister_effect _ (writePortSet_effect _), fun _ => rfl⟩
  case misalign => exact ⟨_, commitRegister_effect _ (misalign_effect fun _ => 0), fun _ => rfl⟩
  case resetWord => exact ⟨_, commitRegister_effect _ (writeResetWord_effect _), fun _ => rfl⟩
  case unknownOpcode dt bytesIn =>
    have hop : unknownTransaction bytesIn.whole = true := hc
    refine ⟨_, clearEchoed_effect, fun s => ?_⟩
    simp only [exec, execUnknownOpcode, hop]
    rfl

theorem transacts_of_misaligned (dt bits : Nat) (bytesIn : List Byte) (held : Option Nat) (h1 : 1 ≤ bits) (h7 : bits ≤ 7) :
    Transacts (.misalignedTransaction dt ⟨bytesIn, held⟩ bits) dt bytesIn held := by
  refine ⟨_, misalign_effect fun n => min 255 (n + 1), fun s => ?_⟩
  simp only [exec, execMisalignedTransaction, h1, h7, and_self, if_true]

/-! ## A transaction in pieces (log 20) -/

section
variable {c : Instr} {dt done : Nat} {bytesIn : List Byte} {held : Option Nat} {s : State} {ignored : Bool}

/-- The transaction that a port row goes on with, or begins. -/
theorem openTransfer_advance
    (h : (s.port.transfer = none ∧ done = 0 ∧ decide (s.now + dt < ms) = ignored) ∨
      s.port.transfer = some { bytesIn := bytesIn.take done, ignored := ignored }) :
    (s.advance dt).openTransfer = { bytesIn := bytesIn.take done, ignored := ignored } := by
  rcases h with ⟨hnone, rfl, hnow⟩ | hsome
  · rw [openTransfer_none (s.advance dt) bytesIn hnone]
    exact congrArg _ hnow
  · exact openTransfer_some _ _ hsome

/-- Held at byte `k`, a row shifts out its bytes and waits. -/
theorem exec_held {k : Nat} (hc : Transacts c dt bytesIn (some k)) (hs : s.settled = true)
    (ho : (s.advance dt).openTransfer = { bytesIn := bytesIn.take done, ignored := ignored }) (hd : done ≤ k)
    (hk : k ≤ bytesIn.length) : exec c s = .next { s.advance dt with port := { s.port with
      sdo := s.port.sdo.take done ++ if ignored then List.replicate (k - done) 0 else s.shiftOut bytesIn done k
      transfer := some { bytesIn := bytesIn.take k, ignored := ignored } } } := by
  obtain ⟨effect, -, hexec⟩ := hc
  rw [hexec]
  exact congrArg _ (run_of_settled dt _ s _ (transact_held _ bytesIn done k ignored effect ho hd hk) hs)

/-- The state in which the effect of a transaction's end acts, its bytes shifted out. -/
def State.shifted (s : State) (dt : Nat) (bytesIn : List Byte) (done : Nat) : State :=
  { s.advance dt with port := { s.port with
    sdo := s.port.sdo.take done ++ s.shiftOut bytesIn done bytesIn.length, transfer := none } }

/-- A transaction that is not ignored comes to its end with its effect. -/
theorem run_ends {effect : State → State} (he : EndEffect effect) (hs : s.settled = true)
    (ho : (s.advance dt).openTransfer = { bytesIn := bytesIn.take done, ignored := false }) (hd : done ≤ bytesIn.length) :
    (s.run dt fun t => t.transact bytesIn none effect) = effect (s.shifted dt bytesIn done) :=
  run_of_settled dt _ s _ (transact_ends _ bytesIn done false effect ho hd) (he.settled _ hs)

/-- An ignored transaction comes to its end without an effect. -/
theorem run_ignored {effect : State → State} (hs : s.settled = true)
    (ho : (s.advance dt).openTransfer = { bytesIn := bytesIn.take done, ignored := true }) (hd : done ≤ bytesIn.length) :
    (s.run dt fun t => t.transact bytesIn none effect) = { s.advance dt with port := { s.port with
      sdo := s.port.sdo.take done ++ List.replicate (bytesIn.length - done) 0, transfer := none } } :=
  run_of_settled dt _ s _ (transact_ends _ bytesIn done true effect ho hd) hs

/-- Given in pieces, a transaction has at its end the effect of the whole, but for the notes it clears. -/
theorem exec_pieces (hc : Transacts c dt bytesIn none) (hs : s.settled = true)
    (ho : (s.advance dt).openTransfer = { bytesIn := bytesIn.take done, ignored := false }) (hd : done ≤ bytesIn.length)
    (hnow : ms ≤ s.now + dt) :
    ∃ t whole : State, exec c s = .next t ∧ exec c { s with port := { s.port with transfer := none } } = .next whole ∧
      t = { whole with port := { whole.port with sdo := t.port.sdo, notes := t.port.notes } } ∧
      t.port.sdo = s.port.sdo.take done ++ s.shiftOut bytesIn done bytesIn.length ∧ t.port.transfer = none := by
  obtain ⟨effect, he, hexec⟩ := hc
  let s' : State := { s with port := { s.port with transfer := none } }
  have ho' : (s'.advance dt).openTransfer = { bytesIn := bytesIn.take 0, ignored := false } := by
    rw [openTransfer_none _ bytesIn rfl]
    exact congrArg _ (decide_eq_false (Nat.not_lt.mpr hnow))
  have hwhole := run_ends he (s := s') (dt := dt) hs ho' (Nat.zero_le _)
  obtain ⟨n, hn⟩ := he.reported (s'.shifted dt bytesIn 0) (s.shifted dt bytesIn done).port.sdo s.port.notes
  have hsame : (s'.shifted dt bytesIn 0).reported (s.shifted dt bytesIn done).port.sdo s.port.notes = s.shifted dt bytesIn done :=
    rfl
  have hsdo := he.sdo (s.shifted dt bytesIn done)
  refine ⟨_, _, (hexec s).trans (congrArg _ (run_ends he hs ho hd)), (hexec s').trans (congrArg _ hwhole), ?_, hsdo,
    he.idle _ rfl⟩
  rw [hsdo, ← hsame, hn]
  rfl

end

/-! ## The header names the row (R156) -/

theorem headerOf_append (opcode hi lo : Byte) (data : List Byte) :
    headerOf opcode (hi ++ lo) ++ data = opcode :: hi :: lo :: data := by
  have h1 : (hi ++ lo : Word16).extractLsb' 8 8 = hi := BitVec.extractLsb'_append_eq_left
  have h0 : (hi ++ lo : Word16).extractLsb' 0 8 = lo := BitVec.extractLsb'_append_eq_right
  simp only [headerOf, be16, h1, h0]
  rfl

/-- A transaction with a header is a row of its opcode. -/
theorem transactionOf_header (dt : Nat) (opcode : Byte) (addr : Word16) (data : List Byte) (held : Option Nat) :
    transactionOf dt (headerOf opcode addr ++ data) held =
      if opcode = 0x0B then .memRead dt addr ⟨data.length, held⟩
      else if opcode = 0x02 then .memWrite dt addr ⟨data, held⟩
      else if opcode = 0x0D then .regRead dt addr ⟨data.length, held⟩
      else if opcode = 0x04 then registerWriteOf dt addr data held
      else .unknownOpcode dt ⟨headerOf opcode addr ++ data, held⟩ := by
  have h : transactionOf dt (headerOf opcode addr ++ data) held =
      (let a : Word16 := addr.extractLsb' 8 8 ++ addr.extractLsb' 0 8
      if opcode = 0x0B then .memRead dt a ⟨data.length, held⟩
      else if opcode = 0x02 then .memWrite dt a ⟨data, held⟩
      else if opcode = 0x0D then .regRead dt a ⟨data.length, held⟩
      else if opcode = 0x04 then registerWriteOf dt a data held
      else .unknownOpcode dt ⟨headerOf opcode addr ++ data, held⟩) := rfl
  rw [h, word16_bytes]

theorem transactionOf_unknown (dt : Nat) (bytesIn : List Byte) (held : Option Nat) (h : unknownTransaction bytesIn = true) :
    transactionOf dt bytesIn held = .unknownOpcode dt ⟨bytesIn, held⟩ := by
  match bytesIn, h with
  | [], _ | [_], _ | [_, _], _ => rfl
  | opcode :: hi :: lo :: data, h =>
    have hop : knownOpcode opcode = false := by
      rcases Bool.or_eq_true_iff.mp h with h | h
      · exact absurd (of_decide_eq_true h) (by simp)
      · simpa using h
    simp only [knownOpcode, Bool.or_eq_false_iff, beq_eq_false_iff_ne] at hop
    obtain ⟨⟨⟨h1, h2⟩, h3⟩, h4⟩ := hop
    simp only [transactionOf, if_neg h1, if_neg h2, if_neg h3, if_neg h4]

theorem exec_transactionOf (c : Instr) (s : State) (dt : Nat) (bytesIn : List Byte) (held : Option Nat) (hc : c.wf = true)
    (h : c.transaction = some (dt, bytesIn, held)) : exec (transactionOf dt bytesIn held) s = exec c s := by
  cases c <;> simp only [Instr.transaction, Option.some.injEq, Prod.mk.injEq, reduceCtorEq] at h <;> obtain ⟨rfl, rfl, rfl⟩ := h
  case regWriteOther dt reg data =>
    have hreg : reg ≠ 1 ∧ reg ≠ 2 ∧ reg ≠ 3 := by simpa [Instr.wf, writableRegister, and_assoc] using hc
    obtain ⟨h1, h2, h3⟩ := hreg
    rw [transactionOf_header]
    simp only [registerWriteOf, if_neg h1, if_neg h2, if_neg h3]
    rfl
  case unknownOpcode dt bytesIn => rw [transactionOf_unknown dt _ _ hc]
  all_goals
    rw [transactionOf_header]
    simp [registerWriteOf, exec, execPortSetEcho, execPortSetAttnPolarity, execPortSetAttnDrive]

/-! ## The statements -/

/-- A read shifts out the echo and its data, and clears the notes echoed. -/
theorem exec_read {c : Instr} {dt n : Nat} {opcode : Byte} {addr : Word16} {s : State} (hs : s.settled = true)
    (hidle : s.port.transfer = none) (hnow : ms ≤ s.now + dt)
    (hexec : exec c s = .next (s.run dt fun t =>
      t.transact (headerOf opcode addr ++ List.replicate n 0) none State.clearEchoed)) :
    exec c s = .next { s.advance dt with port := { s.port with
      sdo := s.echoBytes ++ (List.range n).map (s.dataOut opcode addr)
      notes := if s.port.setting.getLsbD 0 then s.port.notes else Notes.clear } } := by
  have ho : (s.advance dt).openTransfer = { bytesIn := _, ignored := false } :=
    openTransfer_advance (done := 0) (bytesIn := headerOf opcode addr ++ List.replicate n 0)
      (.inl ⟨hidle, rfl, decide_eq_false (Nat.not_lt.mpr hnow)⟩)
  rw [hexec, run_ends clearEchoed_effect hs ho (Nat.zero_le _), State.shifted, shiftOut_header, List.length_replicate]
  simp only [State.clearEchoed, State.setNotes, List.take_zero, List.nil_append, without_echoed, hidle]

theorem exec_misaligned {s : State} (dt bits : Nat) (bytesIn : List Byte) (hs : s.settled = true) (hidle : s.port.transfer = none)
    (hnow : ms ≤ s.now + dt) (h1 : 1 ≤ bits) (h7 : bits ≤ 7) : exec (.misalignedTransaction dt ⟨bytesIn, none⟩ bits) s =
      .next { s.advance dt with port := { s.port with
        sdo := s.shiftOut bytesIn 0 bytesIn.length, misalign := min 255 (s.port.misalign + 1) } } := by
  have ho : (s.advance dt).openTransfer = { bytesIn := _, ignored := false } :=
    openTransfer_advance (done := 0) (bytesIn := bytesIn) (.inl ⟨hidle, rfl, decide_eq_false (Nat.not_lt.mpr hnow)⟩)
  have hrun := run_ends (misalign_effect fun n => min 255 (n + 1)) hs ho (Nat.zero_le _)
  simp only [exec, execMisalignedTransaction, h1, h7, and_self, if_true, hrun, State.shifted, hidle]
  rfl

theorem exec_unknown {s : State} (dt : Nat) (bytesIn : List Byte) (hs : s.settled = true) (hidle : s.port.transfer = none)
    (hnow : ms ≤ s.now + dt) (hop : unknownTransaction bytesIn = true) : exec (.unknownOpcode dt ⟨bytesIn, none⟩) s =
      .next { s.advance dt with port := { s.port with
        sdo := s.shiftOut bytesIn 0 bytesIn.length
        notes := s.port.notes.without (byteAt (s.shiftOut bytesIn 0 bytesIn.length) 2) } } := by
  have ho : (s.advance dt).openTransfer = { bytesIn := _, ignored := false } :=
    openTransfer_advance (done := 0) (bytesIn := bytesIn) (.inl ⟨hidle, rfl, decide_eq_false (Nat.not_lt.mpr hnow)⟩)
  have hrun := run_ends clearEchoed_effect hs ho (Nat.zero_le _)
  simp only [exec, execUnknownOpcode, hop, if_true, hrun, State.shifted, hidle]
  rfl

/-- Settles O3. -/
theorem readsAndDiscardedTransactions : Obligations.ReadsAndDiscardedTransactions := by
  refine ⟨fun s dt n addr hs hidle hnow => ?reads, fun s dt bits bytesIn hs hidle hnow => ?discarded,
    fun c s dt done bytesIn held hs hwf hc hopen => ?pieces, fun c s dt bytesIn held hwf hc => ?header⟩
  case reads =>
    refine ⟨exec_read (opcode := 0x0B) hs hidle hnow rfl, exec_read (opcode := 0x0D) hs hidle hnow rfl, rfl, rfl, rfl, rfl, fun haddr => ?_⟩
    have hne (w : Word16) (hw : w.toNat ≤ 3) : addr ≠ w := fun h => by
      rw [h] at haddr
      omega
    unfold State.register
    rw [if_neg (hne 0 (by decide)), if_neg (hne 1 (by decide)), if_neg (hne 2 (by decide)), if_neg (hne 3 (by decide))]
  case discarded =>
    refine ⟨exec_misaligned dt bits bytesIn hs hidle hnow, fun hlen hop => ?_, fun hshort => ?_⟩
    · have hunknown : unknownTransaction bytesIn = true := by
        rw [unknownTransaction, hop, Bool.not_false, Bool.or_true]
      have hout : s.shiftOut bytesIn 0 bytesIn.length = s.echoBytes ++ List.replicate (bytesIn.length - 3) 0 := by
        obtain ⟨op, hi, lo, data, rfl⟩ : ∃ op hi lo data, bytesIn = op :: hi :: lo :: data := by
          match bytesIn, hlen with
          | op :: hi :: lo :: data, _ => exact ⟨op, hi, lo, data, rfl⟩
        have hops : op ≠ 0x0B ∧ op ≠ 0x0D := by
          constructor <;> rintro rfl <;> simp [knownOpcode] at hop
        rw [← headerOf_append, shiftOut_write s hops.1 hops.2]
        rfl
      rw [exec_unknown dt bytesIn hs hidle hnow hunknown, hout, without_echoed]
    · have hunknown : unknownTransaction bytesIn = true := by simp [unknownTransaction, hshort]
      have hzero : byteAt (s.echoBytes.take bytesIn.length) 2 = 0 := by
        have : (s.echoBytes.take bytesIn.length).length ≤ 2 := by
          rw [List.length_take]
          omega
        simp [byteAt, List.getElem?_eq_none this]
      rw [exec_unknown dt bytesIn hs hidle hnow hunknown, shiftOut_short s bytesIn hshort, hzero, without_zero]
  case pieces =>
    have htrans : Transacts c dt bytesIn held := by
      rcases hc with hc | ⟨bits, h1, h7, rfl⟩
      exacts [transacts_of_transaction hwf hc, transacts_of_misaligned dt bits bytesIn held h1 h7]
    have ho : (s.advance dt).openTransfer = { bytesIn := bytesIn.take done, ignored := false } := by
      refine openTransfer_advance (hopen.imp_left ?_)
      exact fun ⟨h, hd, hnow⟩ => ⟨h, hd, decide_eq_false (Nat.not_lt.mpr hnow)⟩
    refine ⟨fun k hk hd hlen => ?_, fun hnone hd hnow => ?_⟩
    · subst hk
      exact exec_held htrans hs ho hd hlen
    · subst hnone
      exact exec_pieces htrans hs ho hd hnow
  case header => exact exec_transactionOf c s dt bytesIn held hwf hc

/-- A whole REG_WRITE leaves the state that `afterRegWrite` describes to its register. -/
theorem exec_regWrite {c : Instr} {dt : Nat} {reg : Word16} {data : List Byte} {effect : State → State} {s : State}
    (hidle : s.port.transfer = none) (hnow : ms ≤ s.now + dt) (hs : (effect (afterRegWrite s dt data)).settled = true)
    (hexec : exec c s = .next (s.run dt fun t =>
      t.transact (headerOf 0x04 reg ++ data) none fun u => u.commitRegister data effect)) :
    exec c s = .next (effect (afterRegWrite s dt data)) := by
  have hwrite := transact_write (s.advance dt) (opcode := 0x04) (by decide) (by decide) reg data
    (fun u => u.commitRegister data effect) hidle hnow
  have heffect : ((s.advance dt).wroteBytes data.length).commitRegister data effect = effect (afterRegWrite s dt data) := by
    rw [State.commitRegister, wroteBytes_noted]
  have hrun := run_of_settled dt (fun t => t.transact (headerOf 0x04 reg ++ data) none fun u => u.commitRegister data effect) s
    (effect (afterRegWrite s dt data)) (hwrite.trans heffect) hs
  rw [hexec, hrun]

/-- Settles O2: a RESET_WORD is a transaction whose effect is the port reset. -/
theorem resetsGiveResetValues : Obligations.ResetsGiveResetValues := by
  refine ⟨fun _ => ⟨rfl, rfl⟩, fun s dt rest hidle hnow => ?_⟩
  have hexec : exec (.resetWord dt ⟨0xA5 :: 0x3C :: rest, none⟩) s = .next (afterRegWrite s dt (0xA5 :: 0x3C :: rest)).portReset :=
    exec_regWrite (effect := State.writeResetWord (0xA5 :: 0x3C :: rest)) hidle hnow (portReset_settled _) rfl
  have hmem : (afterRegWrite s dt (0xA5 :: 0x3C :: rest)).portReset.mem = s.mem.filter fun c => decide (0x4000 ≤ c.1) := rfl
  exact ⟨_, hexec, rfl, fun a => hmem ▸ read_filter_scratch s.mem a⟩

/-- Settles O4. -/
theorem registerWritesAct : Obligations.RegisterWritesAct := by
  refine ⟨fun s dt reg data hs hidle hnow => ?_, fun c s dt done bytesIn held hs hwf hc hopen => ?_⟩
  · intro u stored
    have hstored : State.writePortSet data u = stored := by cases data <;> rfl
    have hset {c : Instr} (h : exec c s = .next (s.run dt fun t =>
        t.transact (headerOf 0x04 1 ++ data) none fun v => v.commitRegister data (State.writePortSet data))) :
        exec c s = .next stored := by
      rw [exec_regWrite hidle hnow ((writePortSet_effect data).settled _ hs) h]
      exact congrArg _ hstored
    refine ⟨hset rfl, hset rfl, hset rfl, exec_regWrite
      (effect := fun v => { v with port := { v.port with misalign := 0 } }) hidle hnow hs rfl, fun hreg => ?_, fun hword => ?_⟩
    · refine exec_regWrite (reg := reg) (effect := fun v => v) hidle hnow hs ?_
      simp only [exec, execRegWriteOther, hreg]
      rfl
    · have hnothing : State.writeResetWord data u = u := if_neg hword
      have hexec := exec_regWrite (c := .resetWord dt ⟨data, none⟩) hidle hnow ((writeResetWord_effect data).settled _ hs) rfl
      exact hexec.trans (congrArg _ hnothing)
  · have ho : (s.advance dt).openTransfer = { bytesIn := bytesIn.take done, ignored := true } := by
      refine openTransfer_advance (hopen.imp_left ?_)
      exact fun ⟨h, hd, hnow⟩ => ⟨h, hd, decide_eq_true hnow⟩
    have htrans : Transacts c dt bytesIn held ∨ c = .ignoredTransaction dt ⟨bytesIn, held⟩ := by
      rcases hc with hc | hc | ⟨bits, h1, h7, rfl⟩
      exacts [.inl (transacts_of_transaction hwf hc), .inr hc, .inl (transacts_of_misaligned dt bits bytesIn held h1 h7)]
    have hrun : ∃ effect : State → State, exec c s = .next (s.run dt fun t => t.transact bytesIn held effect) := by
      rcases htrans with ⟨effect, -, hexec⟩ | rfl
      · exact ⟨effect, hexec s⟩
      · refine ⟨fun u => u, ?_⟩
        have hig : (s.advance dt).openTransfer.ignored = true := by rw [ho]
        simp only [exec, execIgnoredTransaction, State.run, hig, if_true]
    obtain ⟨effect, hexec⟩ := hrun
    refine ⟨fun hnone hd => ?_, fun k hk hd hlen => ?_⟩
    · subst hnone
      rw [hexec]
      exact congrArg _ (run_of_settled dt _ s _ (transact_ends _ bytesIn done true effect ho hd) hs)
    · subst hk
      rw [hexec]
      exact congrArg _ (run_of_settled dt _ s _ (transact_held _ bytesIn done k true effect ho hd hlen) hs)

end Sys2Proof.Machine

/-!
What a MEM_WRITE leaves of each byte it gathers (O5; R157). The gather buffer is a list of cells with distinct addresses: judging
it stores, drops or passes over each cell by the area it is aimed at, none of which judging changes, so the cells are judged as
if alone. At most one of them is a slot's state byte, and handing on is then the slot guard's decision on it.
-/

namespace Sys2Proof.Machine

/-! ## One gathered byte (R157, step 2) -/

/-- A byte aimed at `a` is stored. -/
def State.stores (s : State) (a : Nat) : Prop :=
  match areaOf a with
  | .settings | .marks | .scratch => True
  | .slot k off => off ≠ 0 ∧ (s.slotState k = slotFree ∨ s.slotState k = slotPosted)
  | _ => False

/-- A byte aimed at `a` is dropped with OWNED_WRITE. -/
def State.drops (s : State) (a : Nat) : Prop :=
  match areaOf a with
  | .settings | .marks | .scratch | .unassigned => False
  | .slot k off => off ≠ 0 ∧ ¬(s.slotState k = slotFree ∨ s.slotState k = slotPosted)
  | _ => True

theorem judge_stores (s : State) {a : Nat} (b : Byte) (h : s.stores a) :
    s.judge a b = { s with mem := s.mem.write a b } := by
  unfold State.stores at h
  unfold State.judge
  cases harea : areaOf a
  case settings | marks | scratch => rfl
  case slot k off =>
    obtain ⟨hoff, hstate⟩ : off ≠ 0 ∧ (s.slotState k = slotFree ∨ s.slotState k = slotPosted) := by simpa only [harea] using h
    simp only [if_neg hoff, if_pos hstate]
  all_goals exact (by simp only [harea] at h : False).elim

theorem judge_drops (s : State) {a : Nat} (b : Byte) (h : s.drops a) : s.judge a b = s.raiseOwnedWrite := by
  unfold State.drops at h
  unfold State.judge
  cases harea : areaOf a
  case settings | marks | scratch | unassigned => exact (by simp only [harea] at h : False).elim
  case slot k off =>
    obtain ⟨hoff, hstate⟩ : off ≠ 0 ∧ ¬(s.slotState k = slotFree ∨ s.slotState k = slotPosted) := by simpa only [harea] using h
    simp only [if_neg hoff, if_neg hstate]
  all_goals rfl

theorem judge_passes (s : State) {a : Nat} (b : Byte) (hstores : ¬s.stores a) (hdrops : ¬s.drops a) : s.judge a b = s := by
  unfold State.stores at hstores
  unfold State.drops at hdrops
  unfold State.judge
  cases harea : areaOf a
  case unassigned => rfl
  case settings | marks | scratch => exact (hstores (by simp only [harea])).elim
  case slot k off =>
    by_cases hoff : off = 0
    · simp only [if_pos hoff]
    · by_cases hstate : s.slotState k = slotFree ∨ s.slotState k = slotPosted
      · exact (hstores (by simpa only [harea] using ⟨hoff, hstate⟩)).elim
      · exact (hdrops (by simpa only [harea] using ⟨hoff, hstate⟩)).elim
  all_goals exact (hdrops (by simp only [harea])).elim

theorem ite_area_ne {p : Prop} [Decidable p] {r r' q : Area} (h : r ≠ q) (h' : r' ≠ q) : (if p then r else r') ≠ q := by
  split
  exacts [h, h']

theorem areaOf_slot {a k off : Nat} (h : areaOf a = .slot k off) : k < 16 ∧ off < 64 ∧ a = slotBase k + off := by
  by_cases hin : 0x0100 ≤ a ∧ a < 0x0500
  · unfold areaOf at h
    rw [if_neg (by omega), if_neg (by omega), if_pos hin.2] at h
    injection h with hk hoff
    unfold slotBase
    omega
  · have hout : areaOf a ≠ .slot k off := by
      unfold areaOf
      by_cases hlow : a < 0x0100
      · rw [if_pos hlow]
        exact ite_area_ne (by simp) (by simp)
      · rw [if_neg (by omega), if_neg hlow, if_neg (by omega)]
        repeat' apply ite_area_ne
        all_goals simp
    exact absurd h hout

/-- A slot's state byte is never stored by judging. -/
theorem not_stores_slotBase (s : State) {k : Nat} (hk : k < 16) : ¬s.stores (slotBase k) := by
  simp [State.stores, areaOf_slotBase hk]

/-! ## The gather buffer judged (R157, step 2) -/

/-- `t` is `s` with the bytes of `cells` judged, none of them a second time. -/
structure Judged (s t : State) (cells : List (Nat × Byte)) : Prop where
  wf : t.mem.wf = true
  req : t.req = s.req
  trail : t.trail = s.trail
  stored : ∀ c ∈ cells, s.stores c.1 → t.mem.read c.1 = c.2
  kept : ∀ a : Nat, (a ∉ cells.map Prod.fst ∨ ¬s.stores a) → t.mem.read a = s.mem.read a
  dropped : ∀ c ∈ cells, s.drops c.1 → t.port.notes.ownedWrite = true
  owned : s.port.notes.ownedWrite = true → t.port.notes.ownedWrite = true
  overlength : t.port.notes.overlength = s.port.notes.overlength

theorem Judged.slotState {s t : State} {cells : List (Nat × Byte)} (h : Judged s t cells) {k : Nat} (hk : k < 16) :
    t.slotState k = s.slotState k :=
  h.kept _ (.inr (not_stores_slotBase s hk))

theorem Judged.stores_iff {s t : State} {cells : List (Nat × Byte)} (h : Judged s t cells) (a : Nat) :
    t.stores a ↔ s.stores a := by
  unfold State.stores
  cases harea : areaOf a
  case slot k off => simp only [h.slotState (areaOf_slot harea).1]
  all_goals rfl

theorem Judged.drops_iff {s t : State} {cells : List (Nat × Byte)} (h : Judged s t cells) (a : Nat) :
    t.drops a ↔ s.drops a := by
  unfold State.drops
  cases harea : areaOf a
  case slot k off => simp only [h.slotState (areaOf_slot harea).1]
  all_goals rfl

theorem judged_one (s : State) (c : Nat × Byte) (h : s.mem.wf = true) : Judged s (s.judge c.1 c.2) [c] := by
  by_cases hstores : s.stores c.1
  · have hdrops : ¬s.drops c.1 := by
      unfold State.drops
      unfold State.stores at hstores
      cases harea : areaOf c.1 <;> simp_all
    rw [judge_stores s c.2 hstores]
    refine ⟨Memory.wf_write _ _ _ h, rfl, rfl, ?_, ?_, ?_, fun ho => ho, rfl⟩
    · simp [Memory.read_write _ _ _ _ h]
    · intro a ha
      have hne : a ≠ c.1 := by
        rintro rfl
        simp [hstores] at ha
      simp [Memory.read_write _ _ _ _ h, hne]
    · simp [hdrops]
  · by_cases hdrops : s.drops c.1
    · rw [judge_drops s c.2 hdrops]
      exact ⟨h, rfl, rfl, by simp [hstores], fun _ _ => rfl, fun _ _ _ => rfl, fun _ => rfl, rfl⟩
    · rw [judge_passes s c.2 hstores hdrops]
      exact ⟨h, rfl, rfl, by simp [hstores], fun _ _ => rfl, by simp [hdrops], fun ho => ho, rfl⟩

theorem judged_cells (cells : List (Nat × Byte)) (hnodup : (cells.map Prod.fst).Nodup) :
    ∀ s : State, s.mem.wf = true → Judged s (cells.foldl (fun t c => t.judge c.1 c.2) s) cells := by
  induction cells with
  | nil => exact fun s h => ⟨h, rfl, rfl, by simp, fun _ _ => rfl, by simp, fun ho => ho, rfl⟩
  | cons c cells ih =>
    intro s h
    obtain ⟨hc, hcells⟩ := List.nodup_cons.mp hnodup
    have one := judged_one s c h
    have rest := ih hcells _ one.wf
    refine ⟨rest.wf, rest.req.trans one.req, rest.trail.trans one.trail, ?stored, ?kept, ?dropped,
      fun ho => rest.owned (one.owned ho), rest.overlength.trans one.overlength⟩
    case stored =>
      intro d hd hs
      rcases List.mem_cons.mp hd with rfl | hd
      · exact (rest.kept _ (.inl hc)).trans (one.stored d (List.mem_singleton_self d) hs)
      · exact rest.stored d hd ((one.stores_iff _).mpr hs)
    case kept =>
      intro a ha
      have hrest : a ∉ cells.map Prod.fst ∨ ¬(s.judge c.1 c.2).stores a :=
        ha.imp (fun hn hm => hn (List.mem_cons_of_mem _ hm)) fun hn hs => hn ((one.stores_iff a).mp hs)
      have hone : a ∉ [c].map Prod.fst ∨ ¬s.stores a := ha.imp_left fun hn hm => hn (by simp_all)
      exact (rest.kept a hrest).trans (one.kept a hone)
    case dropped =>
      intro d hd hs
      rcases List.mem_cons.mp hd with rfl | hd
      · exact rest.owned (one.dropped d (List.mem_singleton_self d) hs)
      · exact rest.dropped d hd ((one.drops_iff _).mpr hs)

/-! ## The gather buffer (R157) -/

theorem gather_eq (addr : Word16) (data : List Byte) :
    gather addr data = (List.range (min 64 data.length)).map fun i => (memAddress addr i, byteAt data i) := by
  refine List.ext_getElem (by simp [gather]) fun i h1 h2 => ?_
  have hi : i < 64 ∧ i < data.length := by simpa [gather] using h1
  simp [gather, byteAt, hi.2]

theorem memAddress_inj {addr : Word16} {i j : Nat} (hi : i < 64) (hj : j < 64) (h : memAddress addr i = memAddress addr j) :
    i = j := by
  unfold memAddress at h
  omega

theorem gather_nodup (addr : Word16) (data : List Byte) : ((gather addr data).map Prod.fst).Nodup := by
  rw [gather_eq, List.map_map]
  refine List.Nodup.map_on (fun i hi j hj h => ?_) List.nodup_range
  exact memAddress_inj (by have := List.mem_range.mp hi; omega) (by have := List.mem_range.mp hj; omega) h

theorem mem_gather {addr : Word16} {data : List Byte} {i : Nat} (hi : i < 64) (hd : i < data.length) :
    (memAddress addr i, byteAt data i) ∈ gather addr data := by
  rw [gather_eq]
  exact List.mem_map_of_mem (f := fun i => (memAddress addr i, byteAt data i)) (List.mem_range.mpr (by omega))

/-! ## Handing on (R157, step 3) -/

theorem handOn_other (s : State) {a : Nat} (b : Byte) (h : ∀ k < 16, a ≠ slotBase k) : s.handOn a b = s := by
  unfold State.handOn
  cases harea : areaOf a
  case slot k off =>
    obtain ⟨hk, -, ha⟩ := areaOf_slot harea
    have hoff : off ≠ 0 := fun h0 => h k hk (by rw [ha, h0]; rfl)
    simp only [if_neg hoff]
  all_goals rfl

theorem handOn_others (cells : List (Nat × Byte)) (h : ∀ c ∈ cells, ∀ k < 16, c.1 ≠ slotBase k) (s : State) :
    cells.foldl (fun t c => t.handOn c.1 c.2) s = s := by
  induction cells with
  | nil => rfl
  | cons c cells ih =>
    rw [List.foldl_cons, handOn_other s c.2 (h c List.mem_cons_self)]
    exact ih fun d hd => h d (List.mem_cons_of_mem c hd)

theorem handOn_slotBase (s : State) {k : Nat} (b : Byte) (hk : k < 16) : s.handOn (slotBase k) b = s.guardSlot k b := by
  simp only [State.handOn, areaOf_slotBase hk, if_true]

/-- 64 consecutive addresses hold one state byte at most, and handing on is the guard's decision on it. -/
theorem handOn_gather (s : State) (addr : Word16) (data : List Byte) {i k : Nat} (hi : i < 64) (hd : i < data.length)
    (hk : k < 16) (ha : memAddress addr i = slotBase k) :
    (gather addr data).foldl (fun t c => t.handOn c.1 c.2) s = s.guardSlot k (byteAt data i) := by
  have hother (j : Nat) (hj : j < 64) (hne : j ≠ i) (k' : Nat) : memAddress addr j ≠ slotBase k' := by
    unfold memAddress slotBase at *
    omega
  have hsplit : List.range (min 64 data.length) =
      List.range i ++ i :: (List.range (min 64 data.length - i - 1)).map fun j => i + 1 + j := by
    rw [show i :: (List.range (min 64 data.length - i - 1)).map (fun j => i + 1 + j) =
      [i] ++ (List.range (min 64 data.length - i - 1)).map (fun j => i + 1 + j) from rfl, ← List.append_assoc,
      ← List.range_succ, ← List.range_add]
    congr 1
    omega
  rw [gather_eq, hsplit, List.map_append, List.foldl_append, List.map_cons, List.foldl_cons, ha, handOn_slotBase _ _ hk,
    handOn_others, handOn_others]
  · intro c hc k' _
    obtain ⟨j, hj, hc⟩ := List.mem_map.mp hc
    have hji := List.mem_range.mp hj
    rw [← hc]
    exact hother j (by omega) (by omega) k'
  · intro c hc k' _
    simp only [List.mem_map, List.mem_range] at hc
    obtain ⟨_, ⟨j, hj, rfl⟩, rfl⟩ := hc
    exact hother _ (by omega) (by omega) k'

/-! ## The trail's part (R171) -/

theorem trailAddress_range (n : Word32) : 0x2000 ≤ trailAddress n ∧ trailAddress n + 16 ≤ 0x2800 := by
  unfold trailAddress
  omega

theorem areaOf_trail {a : Nat} (h : 0x2000 ≤ a) (h' : a < 0x2800) : areaOf a = .trail := by
  unfold areaOf
  repeat rw [if_neg (by omega)]
  rw [if_pos h']

theorem writeEvent_port (s : State) (e : Event) : (s.writeEvent e).port = s.port := by
  unfold State.writeEvent
  split <;> rfl

theorem writeEvent_req (s : State) (e : Event) : (s.writeEvent e).req = s.req := by
  unfold State.writeEvent
  split <;> rfl

/-- A release of trail records reaches no byte outside the trail, and none at all while no event was lost. -/
theorem releaseTrail_keeps (s : State) (seq : Word32) (h : s.mem.wf = true) :
    (s.releaseTrail seq).req = s.req ∧
    (∃ bad : Bool, (s.releaseTrail seq).port.notes = { s.port.notes with badRelease := bad }) ∧
    ∀ a : Nat, (areaOf a = .trail → s.trail.gap = 0) → (s.releaseTrail seq).mem.read a = s.mem.read a := by
  unfold State.releaseTrail
  split
  · unfold State.writeGap
    split
    next hgap =>
      refine ⟨writeEvent_req _ _, ?_, fun a ha => ?_⟩
      · exact ⟨s.port.notes.badRelease, congrArg Port.notes (writeEvent_port _ _)⟩
      · have hne : areaOf a ≠ .trail := fun ht => absurd (ha ht) (Nat.pos_iff_ne_zero.mp hgap.2)
        have hread := writeEvent_read { s with trail := { s.trail with oldest := seq + 1 } } (gapEvent s.trail.gap) h a
        refine hread.trans (if_neg fun hin => hne ?_)
        have hr := trailAddress_range s.trail.next
        exact areaOf_trail (hr.1.trans hin.2.1) (lt_of_lt_of_le hin.2.2 hr.2)
    next => exact ⟨rfl, ⟨_, rfl⟩, fun _ _ => rfl⟩
  · exact ⟨rfl, ⟨true, rfl⟩, fun _ _ => rfl⟩

/-! ## The statement -/

/-- The state in which a MEM_WRITE's cells are judged. -/
theorem wroteCells_write (s : State) (dt : Nat) (addr : Word16) (data : List Byte) :
    ((s.advance dt).wroteBytes data.length).wroteCells addr data =
      (gather addr data).foldl (fun t c => t.handOn c.1 c.2)
        ((gather addr data).foldl (fun t c => t.judge c.1 c.2) (afterRegWrite s dt data)) := by
  rw [← wroteBytes_noted]
  rfl

/-- What the guard leaves of the bytes and notes. -/
theorem guardSlot_besides (s : State) (k : Nat) (b : Byte) (h : s.mem.wf = true) :
    (s.guardSlot k b).mem.wf = true ∧ (∀ a, a ≠ slotBase k → (s.guardSlot k b).mem.read a = s.mem.read a) ∧
      (s.guardSlot k b).trail = s.trail ∧
      ∃ guarded : Bool, (s.guardSlot k b).port.notes = { s.port.notes with slotGuard := guarded } := by
  dsimp only [State.guardSlot]
  split_ifs
  case pos => exact ⟨h, fun _ _ => rfl, rfl, _, rfl⟩
  case neg => exact ⟨h, fun _ _ => rfl, rfl, true, rfl⟩
  all_goals exact ⟨Memory.wf_write _ _ _ h, fun a ha => Memory.read_write_ne _ ha _, rfl, _, rfl⟩

/-- The post queue and the state byte after the guard, as R166's table has them. -/
theorem guardSlot_decides (s : State) (k : Nat) (b : Byte) (h : s.mem.wf = true) :
    let t := s.guardSlot k b
    let held := s.slotState k
    if b = held then t.slotState k = held ∧ t.req = s.req
    else if held = 0 ∧ b = 1 then t.slotState k = 1 ∧ t.req = { s.req with queue := s.req.queue ++ [k] }
    else if held = 1 ∧ b = 0 then t.slotState k = 0 ∧ t.req = { s.req with queue := s.req.queue.filter fun j => j != k }
    else if held = 3 ∧ b = 0 then t.slotState k = 0 ∧ t.req = s.req
    else t.slotState k = held ∧ t.req = s.req ∧ t.port.notes.slotGuard = true := by
  have hread (v : Byte) : (s.mem.write (slotBase k) v).read (slotBase k) = v := by
    rw [Memory.read_write _ _ _ _ h, if_pos rfl]
  intro t held
  simp only [t, State.guardSlot, slotFree, slotPosted, slotDone, show s.slotState k = held from rfl]
  split_ifs with h1 h2 h3 h4
  case pos => exact ⟨rfl, rfl⟩
  case pos => exact ⟨(hread b).trans h2.2, rfl⟩
  case pos => exact ⟨(hread b).trans h3.2, rfl⟩
  case pos => exact ⟨(hread b).trans h4.2, rfl⟩
  case neg => exact ⟨rfl, rfl, rfl⟩

/-- Settles O5. -/
theorem memWriteJudgesBytes : Obligations.MemWriteJudgesBytes := by
  intro s dt addr data hwf hs hidle hnow
  let s1 := afterRegWrite s dt data
  let s2 := (gather addr data).foldl (fun t c => t.judge c.1 c.2) s1
  let s3 := (gather addr data).foldl (fun t c => t.handOn c.1 c.2) s2
  let t := ((s.advance dt).wroteBytes data.length).commitWrite addr data
  have hexec : exec (.memWrite dt addr ⟨data, none⟩) s = .next t := by
    have hsettled : t.settled = true := (commitWrite_effect addr data).settled ((s.advance dt).wroteBytes data.length) hs
    rw [exec_memWrite s dt addr data hidle hnow, settle_of_settled t hsettled]
  have hjudged : Judged s1 s2 (gather addr data) := judged_cells _ (gather_nodup addr data) s1 hwf
  have hover : 64 < data.length → s1.port.notes.overlength = true := fun h => by simp [s1, afterRegWrite, h]
  -- handing on: the guard's decision on the one state byte, if there is one
  have hone (i k : Nat) (hi : i < 64) (hd : i < data.length) (hk : k < 16) (ha : memAddress addr i = slotBase k) :
      s3 = s2.guardSlot k (byteAt data i) := handOn_gather s2 addr data hi hd hk ha
  have hnone (h : ∀ k i : Nat, k < 16 → i < 64 → i < data.length → slotBase k ≠ memAddress addr i) : s3 = s2 := by
    refine handOn_others _ (fun c hc k hk heq => ?_) s2
    rw [gather_eq] at hc
    obtain ⟨i, hi, rfl⟩ := List.mem_map.mp hc
    have := List.mem_range.mp hi
    exact h k i hk (by omega) (by omega) heq.symm
  have hs3 : s3.mem.wf = true ∧ (∀ a, (∀ k i : Nat, k < 16 → i < 64 → i < data.length → memAddress addr i = slotBase k →
        a ≠ slotBase k) → s3.mem.read a = s2.mem.read a) ∧ s3.trail = s.trail ∧
      ∃ guarded : Bool, s3.port.notes = { s2.port.notes with slotGuard := guarded } := by
    by_cases h : ∃ k i : Nat, k < 16 ∧ i < 64 ∧ i < data.length ∧ memAddress addr i = slotBase k
    · obtain ⟨k, i, hk, hi, hd, ha⟩ := h
      obtain ⟨hwf3, hread, htrail, hnotes⟩ := guardSlot_besides s2 k (byteAt data i) hjudged.wf
      rw [hone i k hi hd hk ha]
      exact ⟨hwf3, fun a hne => hread a (hne k i hk hi hd ha), htrail.trans hjudged.trail, hnotes⟩
    · rw [hnone fun k i hk hi hd heq => h ⟨k, i, hk, hi, hd, heq.symm⟩]
      exact ⟨hjudged.wf, fun _ _ => rfl, hjudged.trail, s2.port.notes.slotGuard, rfl⟩
  obtain ⟨hwf3, hread3, htrail3, guarded, hnotes3⟩ := hs3
  -- the release sequence
  have ht : t.req = s3.req ∧ (∃ bad : Bool, t.port.notes = { s3.port.notes with badRelease := bad }) ∧
      ∀ a : Nat, (areaOf a = .trail → s.trail.gap = 0) → t.mem.read a = s3.mem.read a := by
    have heq : t = if s3.releaseSequence = ((s.advance dt).wroteBytes data.length).releaseSequence then s3
        else s3.releaseTrail s3.releaseSequence := by
      simp only [t, commitWrite_eq, wroteCells_write]
      rfl
    rw [heq]
    split
    · exact ⟨rfl, ⟨_, rfl⟩, fun _ _ => rfl⟩
    · have hrelease := releaseTrail_keeps s3 s3.releaseSequence hwf3
      rw [htrail3] at hrelease
      exact hrelease
  obtain ⟨htreq, ⟨bad, htnotes⟩, htread⟩ := ht
  have howned : s2.port.notes.ownedWrite = true → t.port.notes.ownedWrite = true := fun h => by rw [htnotes, hnotes3]; exact h
  refine ⟨t, hexec, fun i hi hd => ?byte, fun h => ?length, fun h => ?queue, fun a ha hgap => ?other⟩
  case length => rw [htnotes, hnotes3]; exact hjudged.overlength.trans (hover h)
  case queue => rw [htreq, hnone h]; exact hjudged.req
  case other =>
    rw [htread a hgap, hread3 a fun k i hk hi hd heq => heq ▸ ha i hi hd]
    refine hjudged.kept a (.inl fun hmem => ?_)
    rw [gather_eq] at hmem
    simp only [List.map_map, List.mem_map, List.mem_range] at hmem
    obtain ⟨i, hi', heq⟩ := hmem
    exact ha i (by omega) (by omega) heq.symm
  case byte =>
    intro a
    have hcell := mem_gather (addr := addr) (data := data) hi hd
    have hstored : s1.stores a → s2.mem.read a = byteAt data i := hjudged.stored _ hcell
    have hkept : ¬s1.stores a → s2.mem.read a = s.mem.read a := fun h => hjudged.kept a (.inr h)
    have hdropped : s1.drops a → t.port.notes.ownedWrite = true := fun h => howned (hjudged.dropped _ hcell h)
    have hplain (hslot : ∀ k, k < 16 → a ≠ slotBase k) (htrail : areaOf a ≠ .trail) : t.mem.read a = s2.mem.read a := by
      rw [htread a fun h => absurd h htrail, hread3 a fun k _ hk _ _ _ => hslot k hk]
    have hnotslot (harea : ∀ k, areaOf a ≠ .slot k 0) (k : Nat) (hk : k < 16) : a ≠ slotBase k := fun h =>
      harea k (h ▸ areaOf_slotBase hk)
    unfold State.stores at hstored hkept
    unfold State.drops at hdropped
    cases harea : areaOf a <;> simp only [harea] at hstored hkept hdropped hplain hnotslot ⊢
    case settings | marks | scratch => exact (hplain (hnotslot (by simp)) (by simp)).trans (hstored trivial)
    case unassigned => exact (hplain (hnotslot (by simp)) (by simp)).trans (hkept (fun h => h))
    case trail =>
      refine ⟨fun hgap => ?_, hdropped trivial⟩
      rw [htread a fun _ => hgap, hread3 a fun k _ hk _ _ _ => hnotslot (by simp) k hk]
      exact hkept (fun h => h)
    case slot k off =>
      obtain ⟨hk, hoff64, hak⟩ := areaOf_slot harea
      refine ⟨fun hoff => ?_, fun hoff => ?_⟩
      · have hread := hplain (fun k' _ h => by unfold slotBase at hak h; omega) (by simp)
        split
        next hstate => exact hread.trans (hstored ⟨hoff, hstate⟩)
        next hstate => exact ⟨hread.trans (hkept fun h => hstate h.2), hdropped ⟨hoff, hstate⟩⟩
      · have ha : memAddress addr i = slotBase k := by rw [hoff] at hak; exact hak
        have hdecide := guardSlot_decides s2 k (byteAt data i) hjudged.wf
        have hstate : t.slotState k = s3.slotState k :=
          htread _ fun h => absurd (h.symm.trans (areaOf_slotBase hk)) (by simp)
        have hguard : s3.port.notes.slotGuard = true → t.port.notes.slotGuard = true := fun h => by rw [htnotes]; exact h
        have hslot : s2.slotState k = s.slotState k := hjudged.slotState hk
        have hreq : s2.req = s.req := hjudged.req
        simp only [← hone i k hi hd hk ha, hslot, hreq] at hdecide
        simp only [htreq, hstate]
        split_ifs at hdecide ⊢
        case pos | pos | pos | pos => exact hdecide
        case neg => exact ⟨hdecide.1, hdecide.2.1, hguard hdecide.2.2⟩
    all_goals exact ⟨(hplain (hnotslot (by simp)) (by simp)).trans (hkept (fun h => h)), hdropped trivial⟩

end Sys2Proof.Machine

/-!
The frame of an operation: which parts of the state it may touch. `Touches P s t` says that every part outside `P` is the same in
`t` as in `s`, where a block that is published, or summed up at the end of a step, counts as the same only when what it will show
is the same too. One lemma per operation gives its parts; each is an equivalence, so that `simp` peels the operations of a
command off one after the other.
-/

namespace Sys2Proof.Machine

/-! ## The relation -/

/-- What the end of a step makes of a part, beside the part itself: events waiting for the trail writer move on the counter of
free choices, the published blocks show the views, and the train door summary is recomputed. -/
def Part.derived (s t : State) : Part → Prop
  | .choices => t.raised = s.raised
  | .pub => t.imageBytes = s.imageBytes ∧ t.doorBytes = s.doorBytes ∧ t.heatBytes = s.heatBytes ∧
      t.readingsBytes = s.readingsBytes
  | .summary => t.summaryNow = s.summaryNow
  | _ => True

/-- A part is as it was, and so is what the end of a step makes of it. -/
def Part.same (s t : State) (p : Part) : Prop := p.kept s t ∧ p.derived s t

/-- Every part outside `P` is the same. -/
def Touches (P : List Part) (s t : State) : Prop := ∀ p : Part, p ∉ P → p.same s t

theorem Part.same_refl (s : State) (p : Part) : p.same s s := by
  cases p <;> simp [Part.same, Part.kept, Part.derived]

theorem Part.same_symm {s t : State} {p : Part} (h : p.same s t) : p.same t s := by
  cases p
  case doorLead =>
    simp only [Part.same, Part.kept, Part.derived, and_true] at h ⊢
    rw [h]
  all_goals
    simp only [Part.same, Part.kept, Part.derived, and_true] at h ⊢
    simp [h]

theorem Part.same_trans {s t u : State} {p : Part} (h : p.same s t) (h' : p.same t u) : p.same s u := by
  cases p
  case doorLead =>
    simp only [Part.same, Part.kept, Part.derived, and_true] at h h' ⊢
    rw [h', h]
  all_goals
    simp only [Part.same, Part.kept, Part.derived, and_true] at h h' ⊢
    simp [h, h']

section
variable {P Q : List Part} {s t u : State}

@[simp] theorem Touches.refl (P : List Part) (s : State) : Touches P s s := fun p _ => p.same_refl s

theorem Touches.symm (h : Touches P s t) : Touches P t s := fun p hp => Part.same_symm (h p hp)

theorem Touches.trans (h : Touches P s t) (h' : Touches P t u) : Touches P s u :=
  fun p hp => Part.same_trans (h p hp) (h' p hp)

theorem Touches.mono (h : Touches P s t) (hPQ : P ⊆ Q) : Touches Q s t := fun p hp => h p fun hm => hp (hPQ hm)

/-- An operation that touches nothing outside `P` does not matter to a frame of `P`. -/
theorem Touches.iff_of (h : Touches Q t u) (hQP : Q ⊆ P) : Touches P s u ↔ Touches P s t :=
  ⟨fun hu => hu.trans (h.mono hQP).symm, fun ht => ht.trans (h.mono hQP)⟩

end

/-- A span's part is one of two. -/
@[simp] theorem spanPart_mem {P : List Part} (ha : Part.spanA ∈ P) (hb : Part.spanB ∈ P) (x : SpanId) : spanPart x ∈ P := by
  cases x <;> assumption

@[simp] theorem sidePart_mem {P : List Part} (h1 : Part.side1 ∈ P) (h2 : Part.side2 ∈ P) (k : SideId) : sidePart k ∈ P := by
  cases k <;> assumption

/-! ## The fields of the state -/

section
variable {P : List Part} (s t : State)

theorem touches_now (v : Nat) : Touches [.now] t { t with now := v } := by
  intro p hp
  cases p
  case now => simp at hp
  all_goals repeat' constructor

theorem touches_clock (v : Nat) (w : Word32) : Touches [.clock] t { t with tickDue := v, msCount := w } := by
  intro p hp
  cases p
  case clock => simp at hp
  all_goals repeat' constructor

theorem touches_raised (v : List Raised) : Touches [.choices] t { t with raised := v } := by
  intro p hp
  cases p
  case choices => simp at hp
  all_goals repeat' constructor

theorem touches_choices (v : Nat) : Touches [.choices] t { t with choices := v } := by
  intro p hp
  cases p
  case choices => simp at hp
  all_goals repeat' constructor

theorem touches_mem (v : Memory) : Touches [.mem] t { t with mem := v } := by
  intro p hp
  cases p
  case mem => simp at hp
  all_goals repeat' constructor

theorem touches_port (v : Port) : Touches [.port] t { t with port := v } := by
  intro p hp
  cases p
  case port => simp at hp
  all_goals repeat' constructor

theorem touches_req (v : Requests) : Touches [.req] t { t with req := v } := by
  intro p hp
  cases p
  case req => simp at hp
  all_goals repeat' constructor

theorem touches_trail (v : Trail) : Touches [.trail] t { t with trail := v } := by
  intro p hp
  cases p
  case trail => simp at hp
  all_goals repeat' constructor

theorem touches_slotTally (v : Word16) : Touches [.slotTally] t { t with tallies := { t.tallies with slot := v } } := by
  intro p hp
  cases p
  case slotTally => simp at hp
  all_goals repeat' constructor

theorem touches_faultTally (v : Word16) : Touches [.faultTally] t { t with tallies := { t.tallies with fault := v } } := by
  intro p hp
  cases p
  case faultTally => simp at hp
  all_goals repeat' constructor

theorem touches_bypass (v : Bypass) : Touches [.bypass] t { t with bypass := v } := by
  intro p hp
  cases p
  case bypass => simp at hp
  all_goals repeat' constructor

theorem touches_setSpan (x : SpanId) (u : Span) : Touches [spanPart x] t (t.setSpan x u) := by
  intro p hp
  cases x <;> cases p
  case a.spanA | b.spanB => simp [spanPart] at hp
  all_goals repeat' constructor

theorem touches_settings (v : Settings) : Touches [.settings, .pub, .summary] t { t with settings := v } := by
  intro p hp
  cases p
  case settings | pub | summary => simp at hp
  all_goals repeat' constructor

theorem touches_setCensus (v : Census) : Touches [.census, .pub, .summary] t (t.setCensus v) := by
  intro p hp
  cases p
  case census | pub | summary => simp at hp
  all_goals repeat' constructor

theorem touches_table (v : Table) : Touches [.table, .pub, .summary] t { t with table := v } := by
  intro p hp
  cases p
  case table | pub | summary => simp at hp
  all_goals repeat' constructor

theorem touches_relay (v : Relay) : Touches [.relay] t { t with relay := v } := by
  intro p hp
  cases p
  case relay => simp at hp
  all_goals repeat' constructor

theorem touches_setSide (k : SideId) (d : Side) : Touches [sidePart k, .pub, .summary] t (t.setSide k d) := by
  intro p hp
  cases k <;> cases p
  case one.side1 | two.side2 | one.pub | two.pub | one.summary | two.summary => simp [sidePart] at hp
  all_goals repeat' constructor

/-- A change of the door unit beside its two sides and the published summary. -/
theorem touches_door (v : Door) (h : v = { v with side1 := t.door.side1, side2 := t.door.side2, summary := t.door.summary }) :
    Touches [.doorLead, .pub, .summary] t { t with door := v } := by
  intro p hp
  rw [h]
  cases p
  case doorLead | pub | summary => simp at hp
  all_goals repeat' constructor

/-- The summary does not show the lead's orders, only its held roll (R126). -/
theorem touches_orders (v : Door) (h : v = { t.door with
      outstanding := v.outstanding, ackEnd := v.ackEnd, inFlight := v.inFlight, lastNumber := v.lastNumber
      lastDone := v.lastDone }) :
    Touches [.doorLead, .pub] t { t with door := v } := by
  intro p hp
  rw [h]
  cases p
  case doorLead | pub => simp at hp
  all_goals repeat' constructor

theorem touches_heat (v : Heat) : Touches [.heat, .pub] t { t with heat := v } := by
  intro p hp
  cases p
  case heat | pub => simp at hp
  all_goals repeat' constructor

theorem touches_heat_raised (v : Heat) (l : List Raised) :
    Touches [.heat, .pub, .choices] t { t with heat := v, raised := l } := by
  intro p hp
  cases p
  case heat | pub | choices => simp at hp
  all_goals repeat' constructor

theorem touches_fire (v : Fire) : Touches [.fire] t { t with fire := v } := by
  intro p hp
  cases p
  case fire => simp at hp
  all_goals repeat' constructor

theorem touches_mon (v : Monitor) : Touches [.mon, .pub] t { t with mon := v } := by
  intro p hp
  cases p
  case mon | pub => simp at hp
  all_goals repeat' constructor

end

/-! ## What each operation touches -/

section
variable {P : List Part} {s t : State}

/-! ### Time, slots, events and the small updates -/

@[simp ↓] theorem touches_advance (dt : Nat) (h : Part.now ∈ P) : Touches P s (t.advance dt) ↔ Touches P s t :=
  (touches_now t _).iff_of (by simpa)

@[simp ↓] theorem touches_raise (g : Nat) (e : Event) (h : Part.choices ∈ P) : Touches P s (t.raise g e) ↔ Touches P s t :=
  (touches_raised t _).iff_of (by simpa)

@[simp ↓] theorem touches_setSlotState (k : Nat) (b : Byte) (h : Part.mem ∈ P) :
    Touches P s (t.setSlotState k b) ↔ Touches P s t :=
  (touches_mem t _).iff_of (by simpa)

@[simp ↓] theorem touches_setNotes (n : Notes) (h : Part.port ∈ P) : Touches P s (t.setNotes n) ↔ Touches P s t :=
  (touches_port t _).iff_of (by simpa)

@[simp ↓] theorem touches_complete (k : Nat) (o : SlotOutcome) (d : Byte) (r : List Byte) (hm : Part.mem ∈ P)
    (hs : Part.slotTally ∈ P) : Touches P s (t.complete k o d r) ↔ Touches P s t := by
  refine Touches.iff_of (Q := [.mem, .slotTally]) (fun p hp => ?_) (by simp [hm, hs])
  cases p
  case mem | slotTally => simp at hp
  all_goals repeat' constructor

@[simp ↓] theorem touches_completeIf (k : Option Nat) (o : SlotOutcome) (d : Byte) (r : List Byte) (hm : Part.mem ∈ P)
    (hs : Part.slotTally ∈ P) : Touches P s (t.completeIf k o d r) ↔ Touches P s t := by
  cases k <;> simp [State.completeIf, hm, hs]

@[simp ↓] theorem touches_setSpan_iff (x : SpanId) (u : Span) (h : spanPart x ∈ P) : Touches P s (t.setSpan x u) ↔ Touches P s t :=
  (touches_setSpan t x u).iff_of (by simpa)

@[simp ↓] theorem touches_setSide_iff (k : SideId) (d : Side) (h : sidePart k ∈ P) (hp : Part.pub ∈ P) (hs : Part.summary ∈ P) :
    Touches P s (t.setSide k d) ↔ Touches P s t :=
  (touches_setSide t k d).iff_of (by simp [h, hp, hs])

@[simp ↓] theorem touches_setCensus_iff (c : Census) (h : Part.census ∈ P) (hp : Part.pub ∈ P) (hs : Part.summary ∈ P) :
    Touches P s (t.setCensus c) ↔ Touches P s t :=
  (touches_setCensus t c).iff_of (by simp [h, hp, hs])

@[simp ↓] theorem touches_setWatch (k : RollKind) (w : RollWatch) (h : Part.relay ∈ P) :
    Touches P s (t.setWatch k w) ↔ Touches P s t :=
  (touches_relay t _).iff_of (by simpa)

@[simp ↓] theorem touches_clearAllocations (h : Part.heat ∈ P) (hp : Part.pub ∈ P) :
    Touches P s t.clearAllocations ↔ Touches P s t :=
  (touches_heat t _).iff_of (by simp [h, hp])

@[simp ↓] theorem touches_dropHeldRoll (h : Part.doorLead ∈ P) (hp : Part.pub ∈ P) (hs : Part.summary ∈ P) :
    Touches P s t.dropHeldRoll ↔ Touches P s t :=
  (touches_door t _ rfl).iff_of (by simp [h, hp, hs])

theorem touches_eitherOrder {f g : State → State} (h : Part.choices ∈ P) (hf : ∀ t : State, Touches P t (f t))
    (hg : ∀ t : State, Touches P t (g t)) : Touches P s (t.eitherOrder f g) ↔ Touches P s t := by
  have hc : Touches P t { t with choices := t.choices + 1 } := (touches_choices t _).mono (by simpa)
  refine Touches.iff_of (Q := P) ?_ (List.Subset.refl P)
  unfold State.eitherOrder
  simp only
  split
  · exact (hc.trans (hf _)).trans (hg _)
  · exact (hc.trans (hg _)).trans (hf _)

/-! ### Rewrites within a step -/

@[simp ↓] theorem touches_publishImage (h : Part.pub ∈ P) : Touches P s t.publishImage ↔ Touches P s t := by
  refine Touches.iff_of (Q := [.pub]) ?_ (by simpa)
  unfold State.publishImage
  split
  · exact Touches.refl _ _
  · intro p hp
    cases p
    case pub => simp at hp
    all_goals repeat' constructor

@[simp ↓] theorem touches_publishHeat (h : Part.pub ∈ P) : Touches P s t.publishHeat ↔ Touches P s t := by
  refine Touches.iff_of (Q := [.pub]) ?_ (by simpa)
  unfold State.publishHeat
  generalize t.heatBytes = l, (if heatTallyBytes t.heatBytes = heatTallyBytes t.pub.heat then t.tallies.heat
    else t.tallies.heat + 1) = n
  split
  · exact Touches.refl _ _
  · intro p hp
    cases p
    case pub => simp at hp
    all_goals repeat' constructor

@[simp ↓] theorem touches_publishFire (h : Part.pub ∈ P) : Touches P s t.publishFire ↔ Touches P s t := by
  refine Touches.iff_of (Q := [.pub]) ?_ (by simpa)
  unfold State.publishFire
  split
  · exact Touches.refl _ _
  · intro p hp
    cases p
    case pub => simp at hp
    all_goals repeat' constructor

/-! ### The transmit queue -/

@[simp ↓] theorem touches_offer (x : SpanId) (f : TxFrame) (hx : spanPart x ∈ P) (hc : Part.choices ∈ P) :
    Touches P s (t.offer x f).1 ↔ Touches P s t := by
  refine Touches.iff_of (Q := [spanPart x, .choices]) ?_ (by simp [hx, hc])
  rw [offer_keeps]
  exact ((touches_setSpan t x _).mono (by simp)).trans ((touches_raised (t.setSpan x _) _).mono (by simp))

@[simp ↓] theorem touches_send (x : SpanId) (f : Frame) (hx : spanPart x ∈ P) (hc : Part.choices ∈ P) :
    Touches P s (t.send x f) ↔ Touches P s t :=
  touches_offer x _ hx hc

@[simp ↓] theorem touches_sendIf (x : Option SpanId) (f : Frame) (ha : Part.spanA ∈ P) (hb : Part.spanB ∈ P)
    (hc : Part.choices ∈ P) : Touches P s (t.sendIf x f) ↔ Touches P s t := by
  cases x <;> simp [State.sendIf, ha, hb, hc]

@[simp ↓] theorem touches_enqueueHello (x : SpanId) (hx : spanPart x ∈ P) (hc : Part.choices ∈ P) :
    Touches P s (t.enqueueHello x) ↔ Touches P s t :=
  touches_send x _ hx hc

theorem touches_takeFrame (x : SpanId) (k : FrameKind) {f : RxFrame → State → State} (hx : spanPart x ∈ P)
    (hf : ∀ (r : RxFrame) (u : State), Touches P u (f r u)) : Touches P t (t.takeFrame x k f) := by
  unfold State.takeFrame
  simp only
  split
  · split
    · exact ((touches_setSpan_iff x _ hx).mpr (Touches.refl _ _)).trans (hf _ _)
    · exact Touches.refl _ _
  · exact Touches.refl _ _

theorem touches_takeWhileUp (x : SpanId) (k : FrameKind) {f : Frame → Nat → State → State} (hx : spanPart x ∈ P)
    (hf : ∀ (r : Frame) (n : Nat) (u : State), Touches P u (f r n u)) : Touches P t (t.takeWhileUp x k f) := by
  refine touches_takeFrame x k hx fun r u => ?_
  split
  · exact hf _ _ _
  · exact Touches.refl _ _

theorem touches_takeWave (x : SpanId) (k : FrameKind) {f : Frame → Nat → State → State} (hx : spanPart x ∈ P)
    (hf : ∀ (r : Frame) (n : Nat) (u : State), Touches P u (f r n u)) : Touches P t (t.takeWave x k f) := by
  refine touches_takeWhileUp x k hx fun r n u => ?_
  split
  · exact hf _ _ _
  · exact Touches.refl _ _

theorem touches_serve (p : Request → Bool) {f : Request → State → State} (hr : Part.req ∈ P)
    (hf : ∀ (r : Request) (u : State), Touches P u (f r u)) : Touches P t (t.serve p f) := by
  unfold State.serve
  split
  · exact ((touches_req t _).mono (by simpa)).trans (hf _ _)
  · exact Touches.refl _ _

/-! ### The heating share unit -/

@[simp ↓] theorem touches_setCap (new : CapState) (cause : CapCause) (h : Part.heat ∈ P) (hp : Part.pub ∈ P)
    (hc : Part.choices ∈ P) : Touches P s (t.setCap new cause) ↔ Touches P s t := by
  refine Touches.iff_of (Q := [.heat, .pub, .choices]) ?_ (by simp [h, hp, hc])
  rw [setCap_keeps]
  exact touches_heat_raised t _ _

@[simp ↓] theorem touches_takeGrant (value : Nat) (gen alloc : Word16) (h : Part.heat ∈ P) (hp : Part.pub ∈ P)
    (hc : Part.choices ∈ P) : Touches P s (t.takeGrant value gen alloc) ↔ Touches P s t := by
  refine Touches.iff_of (Q := [.heat, .pub, .choices]) ?_ (by simp [h, hp, hc])
  rw [takeGrant_keeps]
  exact touches_heat_raised t _ _

@[simp ↓] theorem touches_generationChanged (h : Part.heat ∈ P) (hp : Part.pub ∈ P) (hc : Part.choices ∈ P) :
    Touches P s t.generationChanged ↔ Touches P s t := by
  unfold State.generationChanged
  split <;> simp [h, hp, hc]

/-- The summary shows nothing of the records but their number: a lead's front end is its cab end (R77, R126). -/
theorem setRecords_summaryNow (t : State) (rs : List ImageRecord) (h : rs.length = t.table.records.length) :
    (t.setRecords rs).summaryNow = t.summaryNow := by
  have hn : (t.setRecords rs).n = t.n := h
  cases hr : t.census.role with
  | member => simp [State.summaryNow, hr]
  | lead =>
    have hf : (t.setRecords rs).front = t.front := by
      simp only [State.front, setRecords_census, hr]
      rfl
    simp only [State.summaryNow, State.singleCar, State.unproven, State.provenLeft, State.provenRight, summaryReason, hn, hf]
    simp only [setRecords_census, setRecords_door, hr]
    rfl

@[simp ↓] theorem touches_setRecords (rs : List ImageRecord) (hl : rs.length = t.table.records.length) (h : Part.table ∈ P)
    (hp : Part.pub ∈ P) : Touches P s (t.setRecords rs) ↔ Touches P s t := by
  refine Touches.iff_of (Q := [.table, .pub]) (fun p hq => ?_) (by simp [h, hp])
  cases p
  case table | pub => simp at hq
  case summary => exact ⟨rfl, setRecords_summaryNow t rs hl⟩
  all_goals repeat' constructor

@[simp] theorem length_writeGrants (a : Word16) : ∀ (rs : List ImageRecord) (gs : List Nat),
    (writeGrants a rs gs).length = rs.length
  | [], _ => rfl
  | r :: rs, gs => by simp [writeGrants, length_writeGrants a rs gs.tail]

@[simp] theorem length_writeDemands (rs : List ImageRecord) (es : List (Nat × Nat)) :
    (writeDemands rs es).length = rs.length := by
  unfold writeDemands
  induction es generalizing rs with
  | nil => rfl
  | cons e es ih =>
    rw [List.foldl_cons, ih]
    split <;> simp

@[simp] theorem length_writeProving (r : HeldRoll) (b : Bool) : ∀ (p : Nat) (rs : List ImageRecord),
    (writeProving r b p rs).length = rs.length
  | _, [] => rfl
  | p, x :: rs => by simp [writeProving, length_writeProving r b (p + 1) rs]

end

end Sys2Proof.Machine

/-!
The parts that the operations of the door unit, the wave relay, the census engine and the spans touch.
-/

namespace Sys2Proof.Machine

section
variable {P : List Part} {s t : State}

/-! ## Door sides -/

section
variable (k : SideId) (hk : sidePart k ∈ P) (hp : Part.pub ∈ P) (hs : Part.summary ∈ P) (hc : Part.choices ∈ P)
include hk hp hs hc

@[simp ↓] theorem touches_moveSide (new : DoorState) (cause : DoorCause) (number : Byte) :
    Touches P s (t.moveSide k new cause number) ↔ Touches P s t := by
  unfold State.moveSide
  simp [hk, hp, hs, hc]

@[simp ↓] theorem touches_discardPending : Touches P s (t.discardPending k) ↔ Touches P s t := by
  unfold State.discardPending State.skipEvent
  cases h : (t.side k).pend <;> simp [h, hk, hp, hs, hc]

@[simp ↓] theorem touches_enterSide (new : DoorState) (cause : DoorCause) (number : Byte) :
    Touches P s (t.enterSide k new cause number) ↔ Touches P s t := by
  unfold State.enterSide
  simp only
  split
  case h_3 | h_4 => split <;> simp [hk, hp, hs, hc]
  all_goals simp [hk, hp, hs, hc]

omit hc in
@[simp ↓] theorem touches_startLease (o : PendingOrder) : Touches P s (t.startLease k o) ↔ Touches P s t := by
  unfold State.startLease
  simp [hk, hp, hs]

@[simp ↓] theorem touches_actOnSide (o : PendingOrder) : Touches P s (t.actOnSide k o) ↔ Touches P s t := by
  unfold State.actOnSide
  split <;> simp [hk, hp, hs, hc]

@[simp ↓] theorem touches_applyPending (o : PendingOrder) : Touches P s (t.applyPending k o) ↔ Touches P s t := by
  unfold State.applyPending State.skipEvent
  simp only
  split <;> simp [hk, hp, hs, hc]

@[simp ↓] theorem touches_handToSide (o : PendingOrder) : Touches P s (t.handToSide k o) ↔ Touches P s t := by
  unfold State.handToSide
  simp only
  split
  · split <;> simp [hk, hp, hs, hc]
  · simp [hk, hp, hs]

@[simp ↓] theorem touches_causeArises (f : FaultCause) (hf : Part.faultTally ∈ P) :
    Touches P s (t.causeArises k f) ↔ Touches P s t := by
  have htally (u : State) : Touches P s { u with tallies := { u.tallies with fault := u.tallies.fault + 1 } } ↔ Touches P s u :=
    (touches_faultTally u _).iff_of (by simpa)
  unfold State.causeArises
  simp only
  split
  all_goals
    split_ifs <;> simp only [touches_enterSide, touches_raise, touches_setSide_iff, htally, hk, hp, hs, hc]

end

/-! ## Orders at a car and at the lead -/

section
variable (h1 : Part.side1 ∈ P) (h2 : Part.side2 ∈ P) (hp : Part.pub ∈ P) (hs : Part.summary ∈ P) (hc : Part.choices ∈ P)
include h1 h2 hp hs hc

@[simp ↓] theorem touches_handOrder (o : Order) (gen : Word16) (applyAt : Nat) (late : Bool) (position : Nat) :
    Touches P s (t.handOrder o gen applyAt late position).1 ↔ Touches P s t := by
  unfold State.handOrder
  simp only
  split_ifs <;> simp [h1, h2, hp, hs, hc]

@[simp ↓] theorem touches_leadTakesOwn (f : Flight) (applyAt : Nat) (hl : Part.doorLead ∈ P) :
    Touches P s (t.leadTakesOwn f applyAt) ↔ Touches P s t := by
  have hown (u : State) (o : Outstanding) :
      Touches P s { u with door := { u.door with outstanding := some o } } ↔ Touches P s u :=
    (touches_orders u _ rfl).iff_of (by simp [hl, hp])
  unfold State.leadTakesOwn
  simp only
  split
  · simp [h1, h2, hp, hs, hc]
  · split
    · rw [hown]
      simp [h1, h2, hp, hs, hc]
    · simp [h1, h2, hp, hs, hc]

end

section
variable (hl : Part.doorLead ∈ P) (hp : Part.pub ∈ P) (hm : Part.mem ∈ P) (ht : Part.slotTally ∈ P)
include hl hp hm ht

@[simp ↓] theorem touches_finishOrder (o : Outstanding) (m : OrderAck) (outcome : SlotOutcome) (detail : Byte) :
    Touches P s (t.finishOrder o m outcome detail) ↔ Touches P s t := by
  unfold State.finishOrder
  simp only
  rw [(touches_orders (t.complete o.slot outcome detail (orderResults o m)) _ rfl).iff_of (by simp [hl, hp])]
  simp [hm, ht]

@[simp ↓] theorem touches_endOutstanding (outcome : SlotOutcome) (detail stop origin : Byte) :
    Touches P s (t.endOutstanding outcome detail stop origin) ↔ Touches P s t := by
  unfold State.endOutstanding
  split <;> simp [hl, hp, hm, ht]

@[simp ↓] theorem touches_leadTakesAck (m : OrderAck) : Touches P s (t.leadTakesAck m) ↔ Touches P s t := by
  unfold State.leadTakesAck
  split
  · rfl
  · split
    · rfl
    · split
      · exact (touches_orders t _ rfl).iff_of (by simp [hl, hp])
      · simp [hl, hp, hm, ht]

section
variable (h1 : Part.side1 ∈ P) (h2 : Part.side2 ∈ P) (hs : Part.summary ∈ P) (hc : Part.choices ∈ P)
include h1 h2 hs hc

@[simp ↓] theorem touches_leadOrderCompleted (number : Byte) (start : Nat) :
    Touches P s (t.leadOrderCompleted number start) ↔ Touches P s t := by
  have hflight (fs : List Flight) : Touches P s { t with door := { t.door with inFlight := fs } } ↔ Touches P s t :=
    (touches_orders t _ rfl).iff_of (by simp [hl, hp])
  unfold State.leadOrderCompleted
  split
  · rfl
  · simp only
    split
    · split
      · split <;> simp [hflight, h1, h2, hp, hs, hc, hl, hm, ht]
      · simp [hflight, h1, h2, hp, hs, hc, hl]
    · simp [hflight, h1, h2, hp, hs, hc, hl]

@[simp ↓] theorem touches_leadOrderLost (number : Byte) (why : StopReason) :
    Touches P s (t.leadOrderLost number why) ↔ Touches P s t := by
  have hflight (fs : List Flight) : Touches P s { t with door := { t.door with inFlight := fs } } ↔ Touches P s t :=
    (touches_orders t _ rfl).iff_of (by simp [hl, hp])
  unfold State.leadOrderLost
  split
  · rfl
  · simp only
    split
    · split <;> simp [hflight, h1, h2, hp, hs, hc, hl, hm, ht]
    · simp [hflight, h1, h2, hp, hs, hc, hl]

end

end

/-! ## The wave relay -/

section
variable (ha : Part.spanA ∈ P) (hb : Part.spanB ∈ P) (hc : Part.choices ∈ P)
include ha hb hc

@[simp ↓] theorem touches_sendAck (m : OrderAck) (gen : Word16) : Touches P s (t.sendAck m gen) ↔ Touches P s t := by
  unfold State.sendAck
  simp [ha, hb, hc]

@[simp ↓] theorem touches_startAck (number : Byte) (gen : Word16) (c : Contribution) (why : StopReason) :
    Touches P s (t.startAck number gen c why) ↔ Touches P s t := by
  unfold State.startAck
  simp [ha, hb, hc]

@[simp ↓] theorem touches_endOpenOrder (why : StopReason) (hr : Part.relay ∈ P) :
    Touches P s (t.endOpenOrder why) ↔ Touches P s t := by
  unfold State.endOpenOrder
  split
  · rfl
  · rw [touches_startAck ha hb hc]
    exact (touches_relay t _).iff_of (by simpa)

@[simp ↓] theorem touches_forwardedLost (gen : Word16) (number : Byte) (why : StopReason) (hr : Part.relay ∈ P) :
    Touches P s (t.forwardedLost gen number why) ↔ Touches P s t := by
  unfold State.forwardedLost
  split
  · rfl
  · split <;> simp [ha, hb, hc, hr]

@[simp ↓] theorem touches_relaySpanDown (x : SpanId) (hr : Part.relay ∈ P) :
    Touches P s (t.relaySpanDown x) ↔ Touches P s t := by
  unfold State.relaySpanDown
  split <;> simp [ha, hb, hc, hr]

section
variable (hT : Part.table ∈ P) (hp : Part.pub ∈ P)
include hT hp

omit ha hb hc in
@[simp ↓] theorem touches_noteDemands (es : List (Nat × Nat)) : Touches P s (t.noteDemands es) ↔ Touches P s t := by
  unfold State.noteDemands
  simp [hT, hp]

@[simp ↓] theorem touches_originate (k : RollKind) : Touches P s (t.originate k) ↔ Touches P s t := by
  unfold State.originate
  cases k <;> simp [ha, hb, hc, hT, hp]

@[simp ↓] theorem touches_becomeEnd (hr : Part.relay ∈ P) : Touches P s t.becomeEnd ↔ Touches P s t := by
  unfold State.becomeEnd
  simp only
  rw [touches_originate ha hb hc hT hp, touches_originate ha hb hc hT hp]
  exact (touches_relay t _).iff_of (by simpa)

omit ha hb hc hT hp in
@[simp ↓] theorem touches_watchBelow (hr : Part.relay ∈ P) : Touches P s t.watchBelow ↔ Touches P s t :=
  (touches_relay t _).iff_of (by simpa)

@[simp ↓] theorem touches_reviewEnd (hr : Part.relay ∈ P) : Touches P s t.reviewEnd ↔ Touches P s t := by
  unfold State.reviewEnd
  split_ifs <;> simp [ha, hb, hc, hT, hp, hr]

@[simp ↓] theorem touches_allocate (hh : Part.heat ∈ P) : Touches P s t.allocate ↔ Touches P s t := by
  have halloc (u : State) (v : Heat) : Touches P s { u with heat := v } ↔ Touches P s u :=
    (touches_heat u v).iff_of (by simp [hh, hp])
  unfold State.allocate
  simp only
  split
  · rw [touches_send _ _ (by simp [ha, hb]) hc, halloc, touches_setRecords _ (by simp) hT hp, touches_takeGrant _ _ _ hh hp hc, halloc,
      touches_publishImage hp]
  · rw [halloc, touches_setRecords _ (by simp) hT hp, touches_takeGrant _ _ _ hh hp hc, halloc, touches_publishImage hp]

end

end

end

end Sys2Proof.Machine

namespace Sys2Proof.Machine

section
variable {P : List Part} {s t : State}

/-! ## The census engine -/

/-- The single parts among those of the census engine. -/
theorem censusParts_subset (hP : censusParts ⊆ P) : Part.spanA ∈ P ∧ Part.spanB ∈ P ∧ Part.census ∈ P ∧ Part.table ∈ P ∧
    Part.relay ∈ P ∧ Part.doorLead ∈ P ∧ Part.summary ∈ P ∧ Part.heat ∈ P ∧ Part.slotTally ∈ P ∧ Part.pub ∈ P ∧
    Part.choices ∈ P ∧ Part.mem ∈ P := by
  have h : ∀ p ∈ censusParts, p ∈ P := fun p hp => hP hp
  simp only [censusParts, eventParts, List.cons_append, List.nil_append, List.forall_mem_cons] at h
  obtain ⟨hA, hB, hC, hT, hR, hL, hS, hH, ht, hp, hc, hm, -⟩ := h
  exact ⟨hA, hB, hC, hT, hR, hL, hS, hH, ht, hp, hc, hm⟩

section
variable (hP : censusParts ⊆ P)
include hP

@[simp ↓] theorem touches_enterCensus (c : CensusState) : Touches P s (t.enterCensus c) ↔ Touches P s t := by
  have m := censusParts_subset hP
  have hrelay (u : State) (v : Relay) : Touches P s { u with relay := v } ↔ Touches P s u :=
    (touches_relay u v).iff_of (by simp [m])
  unfold State.enterCensus
  simp only
  split
  · simp [m]
  · split
    · simp only [touches_clearAllocations, touches_setCensus_iff, hrelay, m]
    · simp only [touches_clearAllocations, touches_setCensus_iff, touches_endOutstanding, touches_dropHeldRoll, hrelay, m]

@[simp ↓] theorem touches_writeTable (own : Nat) (gen number : Word16) (lead : Word32) (rs : List CarRecord) :
    Touches P s (t.writeTable own gen number lead rs) ↔ Touches P s t := by
  have m := censusParts_subset hP
  have htable (v : Table) : Touches P s { t with table := v } ↔ Touches P s t := (touches_table t v).iff_of (by simp [m])
  unfold State.writeTable
  simp only
  split
  · exact htable _
  · rw [touches_generationChanged (by simp [m]) (by simp [m]) (by simp [m]), htable]

@[simp ↓] theorem touches_sendVoid (x : SpanId) (v : VoidMark) : Touches P s (t.sendVoid x v) ↔ Touches P s t := by
  have m := censusParts_subset hP
  unfold State.sendVoid
  split <;> simp [m]

@[simp ↓] theorem touches_completeCensusSlot (outcome : SlotOutcome) (detail : Byte) (n : Nat) (position : Byte) :
    Touches P s (t.completeCensusSlot outcome detail n position) ↔ Touches P s t := by
  have m := censusParts_subset hP
  unfold State.completeCensusSlot
  simp [m]

@[simp ↓] theorem touches_censusFailedEvent (reason : FailReason) (position : Byte) :
    Touches P s (t.censusFailedEvent reason position) ↔ Touches P s t := by
  have m := censusParts_subset hP
  unfold State.censusFailedEvent
  simp [m]

@[simp ↓] theorem touches_startSettle (retry : Nat) : Touches P s (t.startSettle retry) ↔ Touches P s t := by
  have m := censusParts_subset hP
  unfold State.startSettle
  split <;> simp [m]

@[simp ↓] theorem touches_failCensus (reason : FailReason) (position : Byte) :
    Touches P s (t.failCensus reason position) ↔ Touches P s t := by
  unfold State.failCensus
  simp only
  split <;> simp [hP]

@[simp ↓] theorem touches_completeCensus : Touches P s t.completeCensus ↔ Touches P s t := by
  have m := censusParts_subset hP
  unfold State.completeCensus
  simp [m, hP]

@[simp ↓] theorem touches_startAllocations : Touches P s t.startAllocations ↔ Touches P s t := by
  have m := censusParts_subset hP
  unfold State.startAllocations
  rw [touches_allocate m.1 m.2.1 (by simp [m]) (by simp [m]) (by simp [m]) (by simp [m])]
  exact (touches_heat t _).iff_of (by simp [m])

@[simp ↓] theorem touches_buildSingle : Touches P s t.buildSingle ↔ Touches P s t := by
  have m := censusParts_subset hP
  unfold State.buildSingle
  simp [m, hP]

@[simp ↓] theorem touches_startCensus (slot : Option Nat) : Touches P s (t.startCensus slot) ↔ Touches P s t := by
  have m := censusParts_subset hP
  unfold State.startCensus
  simp only
  split_ifs <;> simp [m, hP]

@[simp ↓] theorem touches_becomeLead : Touches P s t.becomeLead ↔ Touches P s t := by
  have m := censusParts_subset hP
  have hrelay (u : State) (v : Relay) : Touches P s { u with relay := v } ↔ Touches P s u :=
    (touches_relay u v).iff_of (by simp [m])
  unfold State.becomeLead
  simp only [touches_clearAllocations, touches_setCensus_iff, hrelay, m]

@[simp ↓] theorem touches_becomeMember : Touches P s t.becomeMember ↔ Touches P s t := by
  have m := censusParts_subset hP
  have hheat (u : State) (v : Heat) : Touches P s { u with heat := v } ↔ Touches P s u :=
    (touches_heat u v).iff_of (by simp [m])
  unfold State.becomeMember
  simp only [touches_clearAllocations, touches_setCensus_iff, touches_enterCensus, hheat, m, hP]

@[simp ↓] theorem touches_goStale (position lostEnd cause : Byte) :
    Touches P s (t.goStale position lostEnd cause) ↔ Touches P s t := by
  have m := censusParts_subset hP
  unfold State.goStale
  split <;> simp [m, hP]

@[simp ↓] theorem touches_sendBreak (x : SpanId) (cause : Byte) : Touches P s (t.sendBreak x cause) ↔ Touches P s t := by
  have m := censusParts_subset hP
  unfold State.sendBreak
  simp [m]

@[simp ↓] theorem touches_leadSpanEvent (x : SpanId) (cause : Byte) :
    Touches P s (t.leadSpanEvent x cause) ↔ Touches P s t := by
  unfold State.leadSpanEvent
  simp [hP]

@[simp ↓] theorem touches_censusSpanUp (x : SpanId) : Touches P s (t.censusSpanUp x) ↔ Touches P s t := by
  unfold State.censusSpanUp
  split <;> split_ifs <;> simp [hP]

@[simp ↓] theorem touches_leaveCensus : Touches P s t.leaveCensus ↔ Touches P s t := touches_enterCensus hP _

@[simp ↓] theorem touches_reportSilent (c : Context) : Touches P s (t.reportSilent c) ↔ Touches P s t := by
  have m := censusParts_subset hP
  unfold State.reportSilent
  simp [m, hP]

@[simp ↓] theorem touches_memberSpanLost (x : SpanId) (code : Byte) : Touches P s (t.memberSpanLost x code) ↔ Touches P s t := by
  unfold State.memberSpanLost
  split_ifs <;> simp [hP]

@[simp ↓] theorem touches_censusSpanDown (x : SpanId) (cause : Cause) :
    Touches P s (t.censusSpanDown x cause) ↔ Touches P s t := by
  unfold State.censusSpanDown
  split
  · split_ifs <;> simp [hP]
  · split <;> first | split_ifs <;> simp [hP] | simp [hP]

/-! ### The census commands -/

@[simp ↓] theorem touches_takeLead (r : Request) : Touches P s (t.takeLead r) ↔ Touches P s t := by
  have m := censusParts_subset hP
  unfold State.takeLead
  split_ifs
  case neg => split <;> simp [hP]
  all_goals simp [m]

@[simp ↓] theorem touches_censusStart (r : Request) : Touches P s (t.censusStart r) ↔ Touches P s t := by
  have m := censusParts_subset hP
  unfold State.censusStart
  split
  · simp [m]
  · split <;> simp [m, hP]

@[simp ↓] theorem touches_dropLead : Touches P s t.dropLead ↔ Touches P s t := by
  have m := censusParts_subset hP
  unfold State.dropLead
  simp only
  split <;> simp [m, hP]

@[simp ↓] theorem touches_leadConflict (who : Byte) (lead : Word32) : Touches P s (t.leadConflict who lead) ↔ Touches P s t := by
  have m := censusParts_subset hP
  unfold State.leadConflict
  simp [m]

@[simp ↓] theorem touches_adoptCall (x : SpanId) (m : CallMsg) : Touches P s (t.adoptCall x m) ↔ Touches P s t := by
  have m := censusParts_subset hP
  unfold State.adoptCall
  simp only
  split_ifs <;> simp [m, hP]

@[simp ↓] theorem touches_takeCall (x : SpanId) (f : Frame) : Touches P s (t.takeCall x f) ↔ Touches P s t := by
  have m := censusParts_subset hP
  unfold State.takeCall
  split
  · rfl
  · split
    · unfold State.memberCall
      split
      · rfl
      · split
        · simp [hP]
        · split_ifs <;> simp [hP, State.memberConflict, m]
    · unfold State.leadCall
      simp only
      split_ifs <;> simp [hP, m]

@[simp ↓] theorem touches_takeReport (x : SpanId) (f : Frame) : Touches P s (t.takeReport x f) ↔ Touches P s t := by
  have m := censusParts_subset hP
  unfold State.takeReport
  split
  · rfl
  · split
    · unfold State.memberReport
      split
      · split
        · unfold State.relayReport
          simp only
          split <;> simp [hP, m]
        · rfl
      · rfl
    · unfold State.leadReport
      split
      · split
        case h_4 => simp only; split <;> simp [hP, m, State.buildTable]
        all_goals simp [hP]
      · rfl

@[simp ↓] theorem touches_sendTableAck (c : Context) (acks refusals first : Byte) :
    Touches P s (t.sendTableAck c acks refusals first) ↔ Touches P s t := by
  have m := censusParts_subset hP
  unfold State.sendTableAck
  simp [m]

@[simp ↓] theorem touches_adoptTable (m : TableMsg) (c : Context) (payload : List Byte) :
    Touches P s (t.adoptTable m c payload) ↔ Touches P s t := by
  have m := censusParts_subset hP
  unfold State.adoptTable
  simp only
  split_ifs <;> simp [hP, m]

@[simp ↓] theorem touches_takeTable (x : SpanId) (f : Frame) : Touches P s (t.takeTable x f) ↔ Touches P s t := by
  unfold State.takeTable
  split
  · unfold State.memberTable
    split
    · rfl
    · split_ifs <;> simp [hP, State.refuseTable]
  · rfl
  · rfl

@[simp ↓] theorem touches_takeTableAck (x : SpanId) (f : Frame) : Touches P s (t.takeTableAck x f) ↔ Touches P s t := by
  have m := censusParts_subset hP
  unfold State.takeTableAck
  split
  · rfl
  · split
    · unfold State.memberTableAck
      split
      · rfl
      · simp only
        split
        · simp [m]
        · rfl
    · unfold State.leadTableAck
      split_ifs <;> simp [hP]

@[simp ↓] theorem touches_takeVoid (x : SpanId) (f : Frame) : Touches P s (t.takeVoid x f) ↔ Touches P s t := by
  have m := censusParts_subset hP
  unfold State.takeVoid
  split
  · unfold State.memberVoid
    split
    · rfl
    · simp only
      split_ifs <;> simp [hP, m]
  · rfl
  · rfl

@[simp ↓] theorem touches_takeBreak (x : SpanId) (f : Frame) : Touches P s (t.takeBreak x f) ↔ Touches P s t := by
  have m := censusParts_subset hP
  unfold State.takeBreak
  split
  · rfl
  · split
    · unfold State.memberBreak
      simp only
      split <;> simp [hP, m]
    · unfold State.leadBreak
      split
      · split <;> simp [hP]
      · rfl

@[simp ↓] theorem touches_censusTimeout : Touches P s t.censusTimeout ↔ Touches P s t := by
  unfold State.censusTimeout
  split <;> simp [hP]

theorem touches_census_reviewEnd : Touches P s t.reviewEnd ↔ Touches P s t := by
  have m := censusParts_subset hP
  simp [m]

@[simp ↓] theorem touches_spanUpReport (x : SpanId) (p : Partner) : Touches P s (t.spanUpReport x p) ↔ Touches P s t := by
  have m := censusParts_subset hP
  unfold State.spanUpReport
  simp [m, hP]

@[simp ↓] theorem touches_spanDownReport (x : SpanId) (cause : Cause) (lost : Word32) :
    Touches P s (t.spanDownReport x cause lost) ↔ Touches P s t := by
  have m := censusParts_subset hP
  unfold State.spanDownReport
  simp [m, hP]

end

/-! ## Spans that come up or leave UP -/

theorem censusParts_of_linkParts (hP : linkParts ⊆ P) : censusParts ⊆ P :=
  List.Subset.trans (List.subset_append_right _ _) hP

theorem sides_of_linkParts (hP : linkParts ⊆ P) : Part.side1 ∈ P ∧ Part.side2 ∈ P :=
  ⟨hP (by simp [linkParts]), hP (by simp [linkParts])⟩

/-- What a lost frame touches depends on who offered it. -/
theorem touches_tellLost_iff (why : StopReason) (f : TxFrame)
    (hlead : ∀ number, f.tag = .leadOrder number →
      (Part.side1 ∈ P ∧ Part.side2 ∈ P ∧ Part.pub ∈ P ∧ Part.summary ∈ P) ∧
      (Part.choices ∈ P ∧ Part.doorLead ∈ P ∧ Part.mem ∈ P ∧ Part.slotTally ∈ P))
    (hforwarded : ∀ gen number rxEnd delay late, f.tag = .forwarded gen number rxEnd delay late →
      Part.spanA ∈ P ∧ Part.spanB ∈ P ∧ Part.choices ∈ P ∧ Part.relay ∈ P) :
    Touches P s (t.tellLost why f) ↔ Touches P s t := by
  unfold State.tellLost
  cases htag : f.tag with
  | plain => rfl
  | leadOrder number =>
    obtain ⟨⟨h1, h2, hp, hs⟩, hc, hl, hm, ht⟩ := hlead number htag
    exact touches_leadOrderLost hl hp hm ht h1 h2 hs hc number why
  | forwarded gen number rxEnd delay late =>
    obtain ⟨ha, hb, hc, hr⟩ := hforwarded gen number rxEnd delay late htag
    exact touches_forwardedLost ha hb hc gen number why hr

/-- An ORDER offered, joined or lost. -/
theorem touches_offerOrder_iff (x : SpanId) (f : TxFrame) (hx : spanPart x ∈ P) (hc : Part.choices ∈ P)
    (hlead : ∀ number, f.tag = .leadOrder number →
      (Part.side1 ∈ P ∧ Part.side2 ∈ P ∧ Part.pub ∈ P ∧ Part.summary ∈ P) ∧
      (Part.choices ∈ P ∧ Part.doorLead ∈ P ∧ Part.mem ∈ P ∧ Part.slotTally ∈ P))
    (hforwarded : ∀ gen number rxEnd delay late, f.tag = .forwarded gen number rxEnd delay late →
      Part.spanA ∈ P ∧ Part.spanB ∈ P ∧ Part.choices ∈ P ∧ Part.relay ∈ P) :
    Touches P s (t.offerOrder x f) ↔ Touches P s t := by
  have hoffer := touches_offer (s := s) (t := t) x f hx hc
  unfold State.offerOrder
  split
  all_goals
    rename_i heq
    rw [heq] at hoffer
  · exact hoffer
  · exact (touches_tellLost_iff _ f hlead hforwarded).trans hoffer
  · exact (touches_tellLost_iff _ f hlead hforwarded).trans hoffer

section
variable (hP : linkParts ⊆ P)
include hP

@[simp ↓] theorem touches_tellLost (why : StopReason) (f : TxFrame) : Touches P s (t.tellLost why f) ↔ Touches P s t := by
  have m := censusParts_subset (censusParts_of_linkParts hP)
  have m' := sides_of_linkParts hP
  refine touches_tellLost_iff why f (fun _ _ => ?_) fun _ _ _ _ _ _ => ?_
  all_goals simp [m, m']

theorem touches_tellAll (why : StopReason) (fs : List TxFrame) :
    Touches P s (fs.foldl (fun w f => w.tellLost why f) t) ↔ Touches P s t := by
  induction fs generalizing t with
  | nil => rfl
  | cons f fs ih => rw [List.foldl_cons, ih, touches_tellLost hP]

@[simp ↓] theorem touches_exitFollows (x : SpanId) (u : Span) (cause : Cause) :
    Touches P s (t.exitFollows x u cause) ↔ Touches P s t := by
  have hC := censusParts_of_linkParts hP
  have m := censusParts_subset hC
  unfold State.exitFollows
  split
  · rfl
  · simp only
    split
    · simp [hC]
    · exact touches_eitherOrder (by simp [m]) (fun v => (touches_tellAll hP _ _).mpr (Touches.refl _ _))
        fun v => (touches_spanDownReport hC _ _ _).mpr (Touches.refl _ _)

@[simp ↓] theorem touches_exitSpan (x : SpanId) (target : ExitTo) (cause : Cause) :
    Touches P s (t.exitSpan x target cause) ↔ Touches P s t := by
  have m := censusParts_subset (censusParts_of_linkParts hP)
  unfold State.exitSpan
  simp [hP, m]

@[simp ↓] theorem touches_exitWhere (p : SpanId → Bool) (target : ExitTo) (cause : Cause) :
    Touches P s (t.exitWhere p target cause) ↔ Touches P s t := by
  have m := censusParts_subset (censusParts_of_linkParts hP)
  have hspans (a b : Span) : Touches P s { t with spanA := a, spanB := b } ↔ Touches P s t :=
    ((touches_setSpan_iff (t := t.setSpan .a a) .b b (by simp [spanPart, m])).trans
      (touches_setSpan_iff .a a (by simp [spanPart, m])))
  unfold State.exitWhere
  simp only
  split
  · rw [touches_eitherOrder (by simp [m]), hspans]
    · intro v; split <;> simp [hP]
    · intro v; split <;> simp [hP]
  · split <;> split <;> simp only [touches_exitFollows, hP, hspans]

@[simp ↓] theorem touches_enterUp (x : SpanId) (p : Partner) : Touches P s (t.enterUp x p) ↔ Touches P s t := by
  have hC := censusParts_of_linkParts hP
  have m := censusParts_subset hC
  unfold State.enterUp
  simp [hC, m]

@[simp ↓] theorem touches_greet (x : SpanId) (h : HelloMsg) : Touches P s (t.greet x h) ↔ Touches P s t := by
  have m := censusParts_subset (censusParts_of_linkParts hP)
  unfold State.greet
  split_ifs <;> simp [hP, m]

end

@[simp ↓] theorem touches_enterGreeting (x : SpanId) (hx : spanPart x ∈ P) (hc : Part.choices ∈ P) :
    Touches P s (t.enterGreeting x) ↔ Touches P s t := by
  unfold State.enterGreeting
  simp [hx, hc]

@[simp ↓] theorem touches_searchIfReady (x : SpanId) (hx : spanPart x ∈ P) :
    Touches P s (t.searchIfReady x) ↔ Touches P s t := by
  unfold State.searchIfReady
  simp only
  split <;> simp [hx]

@[simp ↓] theorem touches_takeHello (x : SpanId) (f : Frame) (hP : linkParts ⊆ P) :
    Touches P s (t.takeHello x f) ↔ Touches P s t := by
  have m := censusParts_subset (censusParts_of_linkParts hP)
  unfold State.takeHello
  split
  · rfl
  · split
    case h_4 =>
      unfold State.helloWhileUp
      split
      · rfl
      · simp only
        split_ifs <;> simp [hP, m]
    all_goals first | rfl | (unfold State.helloWhileSearching; split_ifs <;> simp [hP, m]) | simp [hP]

@[simp ↓] theorem touches_takeKeepalive (x : SpanId) (f : Frame) (hP : linkParts ⊆ P) :
    Touches P s (t.takeKeepalive x f) ↔ Touches P s t := by
  have m := censusParts_subset (censusParts_of_linkParts hP)
  unfold State.takeKeepalive
  split
  · split <;> simp [hP, m]
  · rfl

end

end Sys2Proof.Machine

/-!
What the end of a step leaves of each part.
-/

namespace Sys2Proof.Machine

/-! ## The end of a step, field by field -/

/-- The fields that `besides` leaves in a state are the same in `t` as in `s`. -/
structure SameBesides (s t : State) : Prop where
  now : t.now = s.now
  tickDue : t.tickDue = s.tickDue
  msCount : t.msCount = s.msCount
  pending : t.pending = s.pending
  port : t.port = s.port
  settings : t.settings = s.settings
  req : t.req = s.req
  bypass : t.bypass = s.bypass
  spanA : t.spanA = s.spanA
  spanB : t.spanB = s.spanB
  census : t.census = s.census
  table : t.table = s.table
  relay : t.relay = s.relay
  heat : t.heat = s.heat
  fire : t.fire = s.fire
  mon : t.mon = s.mon
  side1 : t.door.side1 = s.door.side1
  side2 : t.door.side2 = s.door.side2
  door : t.door = { s.door with summary := t.door.summary }

theorem sameBesides_of {s t : State} (h : t.besides = s.besides) : SameBesides s t where
  now := (congrArg State.now h :)
  tickDue := (congrArg State.tickDue h :)
  msCount := (congrArg State.msCount h :)
  pending := (congrArg State.pending h :)
  port := (congrArg State.port h :)
  settings := (congrArg State.settings h :)
  req := (congrArg State.req h :)
  bypass := (congrArg State.bypass h :)
  spanA := (congrArg State.spanA h :)
  spanB := (congrArg State.spanB h :)
  census := (congrArg State.census h :)
  table := (congrArg State.table h :)
  relay := (congrArg State.relay h :)
  heat := (congrArg State.heat h :)
  fire := (congrArg State.fire h :)
  mon := (congrArg State.mon h :)
  side1 := (congrArg (fun u : State => u.door.side1) h :)
  side2 := (congrArg (fun u : State => u.door.side2) h :)
  door := (congrArg (fun u : State => { u.door with summary := t.door.summary }) h :)

theorem settle_sameBesides (v : State) : SameBesides v v.settle := sameBesides_of (settle_besides v)

section
variable (v : State)

@[simp] theorem settle_now : v.settle.now = v.now := (settle_sameBesides v).now
@[simp] theorem settle_tickDue : v.settle.tickDue = v.tickDue := (settle_sameBesides v).tickDue
@[simp] theorem settle_msCount : v.settle.msCount = v.msCount := (settle_sameBesides v).msCount
@[simp] theorem settle_pending : v.settle.pending = v.pending := (settle_sameBesides v).pending
@[simp] theorem settle_port : v.settle.port = v.port := (settle_sameBesides v).port
@[simp] theorem settle_settings : v.settle.settings = v.settings := (settle_sameBesides v).settings
@[simp] theorem settle_req : v.settle.req = v.req := (settle_sameBesides v).req
@[simp] theorem settle_bypass : v.settle.bypass = v.bypass := (settle_sameBesides v).bypass
@[simp] theorem settle_spanA : v.settle.spanA = v.spanA := (settle_sameBesides v).spanA
@[simp] theorem settle_spanB : v.settle.spanB = v.spanB := (settle_sameBesides v).spanB
@[simp] theorem settle_census : v.settle.census = v.census := (settle_sameBesides v).census
@[simp] theorem settle_table : v.settle.table = v.table := (settle_sameBesides v).table
@[simp] theorem settle_relay : v.settle.relay = v.relay := (settle_sameBesides v).relay
@[simp] theorem settle_heat : v.settle.heat = v.heat := (settle_sameBesides v).heat
@[simp] theorem settle_fire : v.settle.fire = v.fire := (settle_sameBesides v).fire
@[simp] theorem settle_mon : v.settle.mon = v.mon := (settle_sameBesides v).mon
@[simp] theorem settle_side1 : v.settle.door.side1 = v.door.side1 := (settle_sameBesides v).side1
@[simp] theorem settle_side2 : v.settle.door.side2 = v.door.side2 := (settle_sameBesides v).side2

@[simp] theorem settle_side (k : SideId) : v.settle.side k = v.side k := by
  cases k
  exacts [settle_side1 v, settle_side2 v]

/-- The door unit at the end of a step, but for its summary. -/
theorem settle_door : v.settle.door = { v.door with summary := v.settle.door.summary } := (settle_sameBesides v).door

/-- Taken one by one, the events of a step are groups of their own. -/
theorem settle_settles_each : Settles { v with raised := [] } (v.raised.map fun r => [r.event]) v.settle := by
  refine settle_settles v _ (List.Perm.of_eq ?_) fun g hg => ?_
  · induction v.raised with
    | nil => rfl
    | cons r l ih => simpa using ih
  · obtain ⟨r, hr, rfl⟩ := List.mem_map.mp hg
    refine ⟨⟨r.group, ?_⟩, ⟨r.event.ofDoorUnit, fun e he => by rw [List.mem_singleton.mp he]⟩⟩
    obtain ⟨a, b, hab⟩ := List.append_of_mem hr
    refine ⟨groupEvents r.group a, groupEvents r.group b, ?_⟩
    simp [hab, groupEvents]

@[simp] theorem settle_slotTally : v.settle.tallies.slot = v.tallies.slot := (settle_settles_each v).slotTally
@[simp] theorem settle_faultTally : v.settle.tallies.fault = v.tallies.fault := (settle_settles_each v).faultTally

end

theorem settled_iff (v : State) : v.settled = true ↔ v.raised = [] ∧ v.pub.image = v.imageBytes ∧ v.pub.door = v.doorBytes ∧
    v.pub.heat = v.heatBytes ∧ v.pub.readings = v.readingsBytes ∧ v.door.summary = v.summaryNow := by
  simp only [State.settled, Bool.and_eq_true, beq_iff_eq, and_assoc]

@[simp] theorem settle_raised (v : State) : v.settle.raised = [] := ((settled_iff _).mp (settle_settled v)).1

/-! ## Parts that the end of a step keeps -/

theorem recompute_of_same {v : State} (h : v.door.summary = v.summaryNow) : v.recompute = v := by
  unfold State.recompute
  simp [← h]

theorem flush_of_quiet {v : State} (h : v.raised = []) : v.flush = v := by
  unfold State.flush State.writingOrder
  simp only [h, List.length_nil, eventOrder, List.map_nil, drawTogether, List.foldl_nil, Nat.add_zero]
  rw [← h]

/-- The trail writer raises no tally but its own. -/
theorem logged_tallies (es : List Event) : ∀ s : State, (s.logged es).tallies = { s.tallies with trail := (s.logged es).tallies.trail } := by
  induction es with
  | nil => exact fun s => rfl
  | cons e es ih =>
    intro s
    have hone : (s.writeEvent e).tallies = { s.tallies with trail := (s.writeEvent e).tallies.trail } := by
      unfold State.writeEvent
      split <;> rfl
    have hrest := ih (s.writeEvent e)
    rw [hone] at hrest
    exact hrest

theorem flush_tallies (v : State) : v.flush.tallies = { v.tallies with trail := v.flush.tallies.trail } :=
  logged_tallies v.writingOrder { v with raised := [] }

/-- The views that the end of a step publishes, of a state that differs in none of what they show. -/
theorem views_of_sameBesides {s t : State} (h : t.besides = s.besides) (hs : t.door.summary = s.door.summary) :
    t.imageBytes = s.imageBytes ∧ t.doorBytes = s.doorBytes ∧ t.heatBytes = s.heatBytes ∧ t.readingsBytes = s.readingsBytes := by
  rw [imageBytes_besides t, doorBytes_besides t, heatBytes_besides t, readingsBytes_besides t, h, hs]
  exact ⟨rfl, rfl, rfl, rfl⟩

theorem publishImage_of_same {v : State} (h : v.pub.image = v.imageBytes) : v.publishImage = v := if_pos h.symm
theorem publishDoor_of_same {v : State} (h : v.pub.door = v.doorBytes) : v.publishDoor = v := if_pos h.symm
theorem publishHeat_of_same {v : State} (h : v.pub.heat = v.heatBytes) : v.publishHeat = v := if_pos h.symm
theorem publishReadings_of_same {v : State} (h : v.pub.readings = v.readingsBytes) : v.publishReadings = v := if_pos h.symm

theorem publishImage_choices (v : State) : v.publishImage.choices = v.choices := by
  unfold State.publishImage
  split <;> rfl

theorem publishDoor_choices (v : State) : v.publishDoor.choices = v.choices := by
  unfold State.publishDoor
  split <;> rfl

theorem publishHeat_choices (v : State) : v.publishHeat.choices = v.choices := by
  unfold State.publishHeat
  split <;> rfl

theorem publishReadings_choices (v : State) : v.publishReadings.choices = v.choices := by
  unfold State.publishReadings
  split <;> rfl

/-- A list of parts that says what an event touches where one may be raised, and where the summary's event may be. -/
def eventsClosed (P : List Part) : Prop :=
  (Part.summary ∈ P → Part.pub ∈ P ∧ Part.choices ∈ P) ∧ (Part.choices ∈ P → Part.mem ∈ P ∧ Part.trail ∈ P)

section
variable {P : List Part} {s u : State}

/-- With no event raised and the summary as it was, the end of a step only publishes. -/
theorem settle_of_quiet (hr : u.raised = []) (hs : u.door.summary = u.summaryNow) :
    u.settle = u.publishImage.publishDoor.publishHeat.publishReadings := by
  unfold State.settle
  rw [recompute_of_same hs, flush_of_quiet hr]

/-- With views and summary as published, the end of a step only takes the events. -/
theorem settle_of_views (hi : u.pub.image = u.imageBytes) (hd : u.pub.door = u.doorBytes) (hh : u.pub.heat = u.heatBytes)
    (hm : u.pub.readings = u.readingsBytes) (hs : u.door.summary = u.summaryNow) : u.settle = u.flush := by
  obtain ⟨hb, -, -, -, -, -, -, hp, hsum⟩ := flush_keeps u
  obtain ⟨vi, vd, vh, vr⟩ := views_of_sameBesides (t := u.flush) (s := u) (hb.trans rfl) hsum
  unfold State.settle
  rw [recompute_of_same hs, publishImage_of_same (by rw [hp, hi, vi]), publishDoor_of_same (by rw [hp, hd, vd]),
    publishHeat_of_same (by rw [hp, hh, vh]), publishReadings_of_same (by rw [hp, hm, vr])]

/-- The parts outside `P` are kept through the end of a step that began settled. -/
theorem settle_kept (h : Touches P s u) (hs : s.settled = true) (hP : eventsClosed P) {p : Part} (hp : p ∉ P) :
    p.kept s u.settle := by
  obtain ⟨sr, si, sd, sh, sm, ss⟩ := (settled_iff s).mp hs
  have hsame (q : Part) (hq : q ∉ P) : q.same s u := h q hq
  have hsummary (hq : Part.summary ∉ P) : u.door.summary = u.summaryNow ∧ u.door.summary = s.door.summary := by
    obtain ⟨hk, hd⟩ := hsame _ hq
    have hk' : u.door.summary = s.door.summary := hk
    have hd' : u.summaryNow = s.summaryNow := hd
    exact ⟨by rw [hk', hd', ss], hk'⟩
  have hquiet (hq : Part.choices ∉ P) : u.settle = u.publishImage.publishDoor.publishHeat.publishReadings := by
    have hr : u.raised = [] := ((hsame _ hq).2).trans sr
    exact settle_of_quiet hr (hsummary fun hm => hq (hP.1 hm).2).1
  have hpublish : (u.publishImage.publishDoor.publishHeat.publishReadings).mem = u.mem ∧
      (u.publishImage.publishDoor.publishHeat.publishReadings).trail = u.trail ∧
      (u.publishImage.publishDoor.publishHeat.publishReadings).tallies.trail = u.tallies.trail := by
    refine ⟨?_, ?_, ?_⟩
    · rw [(publishReadings_keeps _).2.1, (publishHeat_keeps _).2.1, (publishDoor_keeps _).2.1, (publishImage_keeps _).2.1]
    · rw [(publishReadings_keeps _).2.2.1, (publishHeat_keeps _).2.2.1, (publishDoor_keeps _).2.2.1, (publishImage_keeps _).2.2.1]
    · rw [(publishReadings_keeps _).2.2.2.1, (publishHeat_keeps _).2.2.2.1, (publishDoor_keeps _).2.2.2.1,
        (publishImage_keeps _).2.2.2.1]
  have hk := (hsame p hp).1
  cases p
  case choices =>
    show u.settle.choices = s.choices
    rw [hquiet hp, publishReadings_choices, publishHeat_choices, publishDoor_choices, publishImage_choices]
    exact hk
  case mem =>
    have hc : Part.choices ∉ P := fun hc => hp (hP.2 hc).1
    show u.settle.mem = s.mem
    rw [hquiet hc, hpublish.1]
    exact hk
  case trail =>
    have hc : Part.choices ∉ P := fun hc => hp (hP.2 hc).2
    show u.settle.trail = s.trail ∧ u.settle.tallies.trail = s.tallies.trail
    rw [hquiet hc, hpublish.2.1, hpublish.2.2]
    exact hk
  case pub =>
    obtain ⟨hsum, hsum'⟩ := hsummary fun hm => hp (hP.1 hm).1
    obtain ⟨⟨hkp, hk1, hk2, hk3⟩, hv1, hv2, hv3, hv4⟩ := hsame _ hp
    have heq : u.settle = u.flush :=
      settle_of_views (by rw [hkp, hv1, si]) (by rw [hkp, hv2, sd]) (by rw [hkp, hv3, sh]) (by rw [hkp, hv4, sm]) hsum
    have ht := flush_tallies u
    obtain ⟨-, -, -, -, -, -, -, hfp, -⟩ := flush_keeps u
    refine ⟨by rw [heq, hfp, hkp], by rw [heq, ht]; exact hk1, by rw [heq, ht]; exact hk2, by rw [heq, ht]; exact hk3⟩
  case summary =>
    obtain ⟨hsum, hsum'⟩ := hsummary hp
    have hset := ((settled_iff _).mp (settle_settled u)).2.2.2.2.2
    show u.settle.door.summary = s.door.summary
    rw [hset, summaryNow_besides, settle_besides, ← summaryNow_besides, ← hsum, hsum']
  case doorLead =>
    have hd : u.door = { s.door with side1 := u.door.side1, side2 := u.door.side2, summary := u.door.summary } := hk
    show u.settle.door = { s.door with
      side1 := u.settle.door.side1, side2 := u.settle.door.side2, summary := u.settle.door.summary }
    rw [settle_side1, settle_side2, settle_door, hd]
  all_goals simpa [Part.kept] using hk

end

end Sys2Proof.Machine

/-!
The parts that each command touches (O50): one line or a few for each command, from what its operations touch.
-/

namespace Sys2Proof.Machine

/-! ## Sides that change without their summary -/

/-- Nothing but the two sides and the events of the step differs. -/
def OnlySides (s t : State) : Prop :=
  ∃ (d1 d2 : Side) (l : List Raised), t = { s with door := { s.door with side1 := d1, side2 := d2 }, raised := l }

theorem OnlySides.refl (s : State) : OnlySides s s := ⟨s.door.side1, s.door.side2, s.raised, rfl⟩

theorem OnlySides.trans {s t u : State} (h : OnlySides s t) (h' : OnlySides t u) : OnlySides s u := by
  obtain ⟨d1, d2, l, rfl⟩ := h
  obtain ⟨e1, e2, m, rfl⟩ := h'
  exact ⟨e1, e2, m, rfl⟩

theorem onlySides_setSide (t : State) (k : SideId) (d : Side) : OnlySides t (t.setSide k d) := by
  cases k
  exacts [⟨d, t.door.side2, t.raised, rfl⟩, ⟨t.door.side1, d, t.raised, rfl⟩]

theorem onlySides_raise (t : State) (g : Nat) (e : Event) : OnlySides t (t.raise g e) :=
  ⟨t.door.side1, t.door.side2, _, rfl⟩

theorem onlySides_moveSide (t : State) (k : SideId) (new : DoorState) (cause : DoorCause) (number : Byte) :
    OnlySides t (t.moveSide k new cause number) :=
  (onlySides_setSide t k _).trans (onlySides_raise _ _ _)

theorem onlySides_discardPending (t : State) (k : SideId) : OnlySides t (t.discardPending k) := by
  unfold State.discardPending
  simp only
  split
  · exact .refl t
  · exact (onlySides_setSide t k _).trans (onlySides_raise _ _ _)

theorem onlySides_enterSide (t : State) (k : SideId) (new : DoorState) (cause : DoorCause) (number : Byte) :
    OnlySides t (t.enterSide k new cause number) := by
  have hmove := onlySides_moveSide t k new cause number
  unfold State.enterSide
  cases new <;> simp only
  case fault | isolated => exact hmove.trans (onlySides_discardPending _ k)
  case unlocked | closing =>
    split
    · exact hmove.trans (onlySides_moveSide _ k .closed .lock 0)
    · exact hmove
  all_goals exact hmove

theorem onlySides_actOnSide (t : State) (k : SideId) (o : PendingOrder) : OnlySides t (t.actOnSide k o) := by
  have hlease (u : State) : OnlySides u (u.startLease k o) := onlySides_setSide u k _
  unfold State.actOnSide
  split
  case h_1 => exact hlease _
  case h_2 | h_3 | h_4 => exact (onlySides_enterSide _ _ _ _ _).trans (hlease _)
  case h_5 | h_6 | h_7 => exact onlySides_enterSide _ _ _ _ _
  case h_8 => exact .refl _

theorem onlySides_applyPending (t : State) (k : SideId) (o : PendingOrder) : OnlySides t (t.applyPending k o) := by
  have hset := onlySides_setSide t k { t.side k with pend := none }
  unfold State.applyPending
  simp only
  split
  · exact (hset.trans (onlySides_setSide _ k _)).trans (onlySides_raise _ _ _)
  · exact (hset.trans (onlySides_setSide _ k _)).trans (onlySides_actOnSide _ k o)

theorem onlySides_handToSide (t : State) (k : SideId) (o : PendingOrder) : OnlySides t (t.handToSide k o) := by
  have hset := onlySides_setSide t k { t.side k with lastVerdict := some (t.verdict k o.action) }
  unfold State.handToSide
  simp only
  split
  · split
    · exact hset.trans (onlySides_applyPending _ k o)
    · exact hset.trans (onlySides_setSide _ k _)
  · exact hset

theorem onlySides_handOrder (t : State) (o : Order) (gen : Word16) (applyAt : Nat) (late : Bool) (position : Nat) :
    OnlySides t (t.handOrder o gen applyAt late position).1 := by
  unfold State.handOrder
  simp only
  have hone (u : State) (k : SideId) (p : PendingOrder) (b : Bool) : OnlySides u (if b = true then u.handToSide k p else u) := by
    split
    · exact onlySides_handToSide u k p
    · exact .refl u
  exact (hone t .one _ _).trans (hone _ .two _ _)

/-- A member shows no summary, whatever its sides are (R127). -/
theorem touches_onlySides_member {s t : State} (h : OnlySides s t) (hm : s.census.role = .member) :
    Touches [.side1, .side2, .pub, .choices] s t := by
  obtain ⟨d1, d2, l, rfl⟩ := h
  intro p hp
  cases p
  case side1 | side2 | pub | choices => simp at hp
  case summary => exact ⟨rfl, by simp [Part.derived, State.summaryNow, hm]⟩
  all_goals repeat' constructor

/-- The summary shows of a side whether it is proven, the door board its block (R111, R123). -/
theorem setSide_summaryNow (t : State) (k : SideId) (d : Side) (h : d.proven = (t.side k).proven) :
    (t.setSide k d).summaryNow = t.summaryNow := by
  have hside (j : SideId) : ((t.setSide k d).side j).proven = (t.side j).proven := by
    by_cases hj : j = k
    · rw [hj, setSide_side, h]
    · rw [setSide_side_ne _ _ _ _ hj]
  have hf : (t.setSide k d).front = t.front := by cases k <;> rfl
  have hl : (t.setSide k d).provenLeft = t.provenLeft := by
    unfold State.provenLeft
    rw [hf]
    cases t.front <;> simp [hside]
  have hr : (t.setSide k d).provenRight = t.provenRight := by
    unfold State.provenRight
    rw [hf]
    cases t.front <;> simp [hside]
  have hu : (t.setSide k d).unproven = t.unproven := by simp only [State.unproven, hl, hr]
  simp only [State.summaryNow, hl, hr, hu]
  cases k <;> rfl

theorem touches_setSide_proven (t : State) (k : SideId) (d : Side) (h : d.proven = (t.side k).proven) :
    Touches [sidePart k, .pub] t (t.setSide k d) := by
  have hsum := setSide_summaryNow t k d h
  intro p hp
  cases k <;> cases p
  case one.side1 | two.side2 | one.pub | two.pub => simp [sidePart] at hp
  case one.summary | two.summary => exact ⟨rfl, hsum⟩
  all_goals repeat' constructor

theorem touches_setSide_shown (t : State) (k : SideId) (d : Side) (h : d.proven = (t.side k).proven)
    (hb : sideBlock t.settings d = sideBlock t.settings (t.side k)) : Touches [sidePart k] t (t.setSide k d) := by
  have hsum := setSide_summaryNow t k d h
  have hdoor : (t.setSide k d).doorBytes = t.doorBytes := by
    cases k
    · have hb' : sideBlock t.settings d = sideBlock t.settings t.door.side1 := hb
      show _ ++ sideBlock t.settings d ++ _ ++ _ = _ ++ sideBlock t.settings t.door.side1 ++ _ ++ _
      rw [hb']
      rfl
    · have hb' : sideBlock t.settings d = sideBlock t.settings t.door.side2 := hb
      show _ ++ _ ++ sideBlock t.settings d ++ _ = _ ++ _ ++ sideBlock t.settings t.door.side2 ++ _
      rw [hb']
      rfl
  intro p hp
  cases k <;> cases p
  case one.side1 | two.side2 => simp [sidePart] at hp
  case one.summary | two.summary => exact ⟨rfl, hsum⟩
  case one.pub | two.pub => exact ⟨⟨rfl, rfl, rfl, rfl⟩, rfl, hdoor, rfl, rfl⟩
  all_goals repeat' constructor

end Sys2Proof.Machine

namespace Sys2Proof.Machine

section
variable {P : List Part} {s t : State}

/-! ## The serial port -/

theorem touches_port_iff (v : Port) (h : Part.port ∈ P) : Touches P s { t with port := v } ↔ Touches P s t :=
  (touches_port t v).iff_of (by simpa)

theorem touches_transact (bytesIn : List Byte) (held : Option Nat) {effect : State → State} (h : Part.port ∈ P)
    (he : ∀ u : State, Touches P u (effect u)) : Touches P t (t.transact bytesIn held effect) := by
  have hport (v : Port) : Touches P t { t with port := v } := (touches_port_iff v h).mpr (Touches.refl _ _)
  unfold State.transact
  simp only
  split
  · split
    · exact hport _
    · exact (hport _).trans (he _)
  · exact Touches.refl _ _

theorem touches_clearEchoed (h : Part.port ∈ P) : Touches P t t.clearEchoed := touches_port_iff _ h |>.mpr (Touches.refl _ _)

theorem touches_noteLength (data : List Byte) (h : Part.port ∈ P) : Touches P s (t.noteLength data) ↔ Touches P s t := by
  unfold State.noteLength
  split
  · exact touches_port_iff _ h
  · rfl

theorem touches_commitRegister (data : List Byte) {effect : State → State} (h : Part.port ∈ P)
    (he : ∀ u : State, Touches P u (effect u)) : Touches P t (t.commitRegister data effect) :=
  ((touches_noteLength data h).mpr (touches_clearEchoed h)).trans (he _)

theorem touches_writePortSet (data : List Byte) (h : Part.port ∈ P) (u : State) : Touches P u (State.writePortSet data u) := by
  cases data with
  | nil => exact Touches.refl _ _
  | cons b l => exact (touches_port_iff _ h).mpr (Touches.refl _ _)

theorem touches_judge (a : Nat) (b : Byte) (hp : Part.port ∈ P) (hm : Part.mem ∈ P) :
    Touches P s (t.judge a b) ↔ Touches P s t := by
  have hstore : Touches P s { t with mem := t.mem.write a b } ↔ Touches P s t := (touches_mem t _).iff_of (by simpa)
  have howned : Touches P s t.raiseOwnedWrite ↔ Touches P s t := touches_port_iff _ hp
  unfold State.judge
  simp only
  split
  case h_4 =>
    split
    · rfl
    · split
      exacts [hstore, howned]
  case h_1 | h_2 | h_3 => exact hstore
  case h_5 => rfl
  all_goals exact howned

theorem touches_guardSlot (k : Nat) (b : Byte) (hp : Part.port ∈ P) (hm : Part.mem ∈ P) (hr : Part.req ∈ P) :
    Touches P s (t.guardSlot k b) ↔ Touches P s t := by
  have hqueue (u : State) (v : Requests) : Touches P s { u with req := v } ↔ Touches P s u :=
    (touches_req u v).iff_of (by simpa)
  have hstate (v : Byte) : Touches P s (t.setSlotState k v) ↔ Touches P s t := touches_setSlotState k v hm
  unfold State.guardSlot
  simp only
  split_ifs
  · rfl
  · rw [hqueue, hstate]
  · rw [hqueue, hstate]
  · exact hstate b
  · exact touches_port_iff _ hp

theorem touches_handOn (a : Nat) (b : Byte) (hp : Part.port ∈ P) (hm : Part.mem ∈ P) (hr : Part.req ∈ P) :
    Touches P s (t.handOn a b) ↔ Touches P s t := by
  unfold State.handOn
  split
  · split
    · exact touches_guardSlot _ _ hp hm hr
    · rfl
  · rfl

theorem touches_foldl {α : Type} (f : State → α → State) (hf : ∀ u a, Touches P s (f u a) ↔ Touches P s u) (l : List α) :
    Touches P s (l.foldl f t) ↔ Touches P s t := by
  induction l generalizing t with
  | nil => rfl
  | cons a l ih => rw [List.foldl_cons, ih, hf]

theorem touches_writeEvent (e : Event) (hm : Part.mem ∈ P) (ht : Part.trail ∈ P) :
    Touches P s (t.writeEvent e) ↔ Touches P s t := by
  refine Touches.iff_of (Q := [.mem, .trail]) ?_ (by simp [hm, ht])
  have htaken (m : Memory) (v : Trail) (w : Word16) :
      Touches [.mem, .trail] t { t with mem := m, trail := v, tallies := { t.tallies with trail := w } } := by
    intro p hp
    cases p
    case mem | trail => simp at hp
    all_goals repeat' constructor
  unfold State.writeEvent
  split
  · exact htaken _ _ _
  · exact (touches_trail t _).mono (by simp)

theorem touches_releaseTrail (seq : Word32) (hp : Part.port ∈ P) (hm : Part.mem ∈ P) (ht : Part.trail ∈ P) :
    Touches P s (t.releaseTrail seq) ↔ Touches P s t := by
  have htrail (u : State) (v : Trail) : Touches P s { u with trail := v } ↔ Touches P s u :=
    (touches_trail u v).iff_of (by simpa)
  unfold State.releaseTrail State.writeGap
  split
  · split
    · simp only
      rw [htrail, touches_writeEvent _ hm ht, htrail]
    · exact htrail _ _
  · exact touches_port_iff _ hp

theorem touches_commitWrite (addr : Word16) (data : List Byte) (hp : Part.port ∈ P) (hm : Part.mem ∈ P) (hr : Part.req ∈ P)
    (ht : Part.trail ∈ P) : Touches P t (t.commitWrite addr data) := by
  have hcells : Touches P t (t.wroteCells addr data) := by
    unfold State.wroteCells
    rw [touches_foldl (fun u (c : Nat × Byte) => u.handOn c.1 c.2) fun u c => touches_handOn c.1 c.2 hp hm hr,
      touches_foldl (fun u (c : Nat × Byte) => u.judge c.1 c.2) fun u c => touches_judge c.1 c.2 hp hm, touches_noteLength data hp]
    exact touches_clearEchoed hp
  rw [commitWrite_eq]
  simp only
  split
  · exact hcells
  · exact (touches_releaseTrail _ hp hm ht).mpr hcells

/-! ## Requests, spans and lines -/

theorem touches_routeRequest (slot : Nat) (code : Byte) (params : List Byte) (hr : Part.req ∈ P) (hm : Part.mem ∈ P)
    (ht : Part.slotTally ∈ P) : Touches P s (t.routeRequest slot code params) ↔ Touches P s t := by
  unfold State.routeRequest
  split
  · simp [hm, ht]
  · split
    · simp [hm, ht]
    · exact ((touches_req (t.setSlotState slot slotTaken) _).iff_of (by simpa)).trans (touches_setSlotState _ _ hm)

@[simp ↓] theorem touches_completeSpan (slot : Nat) (outcome : SlotOutcome) (hm : Part.mem ∈ P) (ht : Part.slotTally ∈ P) :
    Touches P s (t.completeSpan slot outcome) ↔ Touches P s t := touches_complete _ _ _ _ hm ht

theorem touches_withSelector (r : Request) {f : Byte → State → State} (hm : Part.mem ∈ P) (ht : Part.slotTally ∈ P)
    (hf : ∀ (sel : Byte) (u : State), Touches P u (f sel u)) : Touches P t (t.withSelector r f) := by
  unfold State.withSelector
  split
  · exact hf _ _
  · simp [hm, ht]

theorem touches_debounce (x : SpanId) (answer : Option Nat) (hx : spanPart x ∈ P) (hc : Part.choices ∈ P) :
    Touches P s (t.debounce x answer) ↔ Touches P s t := by
  unfold State.debounce
  simp only
  split
  case h_3 => split_ifs <;> simp [hx, hc]
  all_goals simp [hx]

theorem touches_receiveLine (x : SpanId) (line : List Level) (hx : spanPart x ∈ P) (hc : Part.choices ∈ P) :
    Touches P s (t.receiveLine x line) ↔ Touches P s t := by
  have hreject (u : State) (why : Rejection) : Touches P s (u.rejectFrame x why) ↔ Touches P s u := touches_setSpan_iff x _ hx
  unfold State.receiveLine
  simp only
  split
  · rfl
  · split
    · simp [hx]
    · rw [hreject]
      simp [hx]
    · unfold State.receiveBytes
      split
      · rw [hreject]
        simp [hx]
      · split
        · simp [hx]
        · unfold State.acceptFrame
          simp only
          split <;> simp [hx, hc]

theorem touches_endJam (x : SpanId) (jamEnd : Nat)
    (h : ∀ p ∈ [Part.spanA, .spanB, .relay, .side1, .side2, .doorLead, .slotTally, .summary, .pub, .choices, .mem], p ∈ P) :
    Touches P s (t.endJam x jamEnd) ↔ Touches P s t := by
  simp only [List.forall_mem_cons] at h
  obtain ⟨ha, hb, hr, h1, h2, hl, ht, hs, hp, hc, hm, -⟩ := h
  have hx : spanPart x ∈ P := spanPart_mem ha hb x
  unfold State.endJam
  simp only
  split
  · simp [hx]
  · split
    · unfold State.giveUp
      simp only
      rw [touches_tellLost_iff _ _ (fun _ _ => ⟨⟨h1, h2, hp, hs⟩, hc, hl, hm, ht⟩) fun _ _ _ _ _ _ => ⟨ha, hb, hc, hr⟩]
      simp [hx, hc]
    · unfold State.startBackoff
      simp [hx]

theorem touches_completeFrame (x : SpanId) (f : TxFrame) (start endAt : Nat) (hx : spanPart x ∈ P) (h1 : Part.side1 ∈ P)
    (h2 : Part.side2 ∈ P) (hl : Part.doorLead ∈ P) (ht : Part.slotTally ∈ P) (hs : Part.summary ∈ P) (hp : Part.pub ∈ P)
    (hc : Part.choices ∈ P) (hm : Part.mem ∈ P) : Touches P s (t.completeFrame x f start endAt) ↔ Touches P s t := by
  unfold State.completeFrame State.tellCompleted
  simp only
  split <;> simp [hx, h1, h2, hl, ht, hs, hp, hc, hm]

/-! ## CONFIGURE -/

@[simp ↓] theorem touches_startSide (k : SideId) (present : Bool) (mask : Byte) (hk : sidePart k ∈ P) (hp : Part.pub ∈ P)
    (hs : Part.summary ∈ P) (hc : Part.choices ∈ P) : Touches P s (t.startSide k present mask) ↔ Touches P s t := by
  unfold State.startSide
  split <;> simp [hk, hp, hs, hc]

@[simp ↓] theorem touches_startPeriod (start : Nat) (hf : Part.fire ∈ P) (hp : Part.pub ∈ P) :
    Touches P s (t.startPeriod start) ↔ Touches P s t := by
  unfold State.startPeriod
  simp only
  rw [touches_publishFire hp]
  exact (touches_fire t _).iff_of (by simpa)

/-- The parts that CONFIGURE touches through its adoption. -/
theorem touches_adopt (new : Settings)
    (h : ∀ p ∈ [Part.port, .settings, .bypass, .spanA, .spanB, .side1, .side2, .heat, .fire, .mon, .summary, .pub, .choices],
      p ∈ P) : Touches P s (t.adopt new) ↔ Touches P s t := by
  simp only [List.forall_mem_cons] at h
  obtain ⟨hport, hset, hby, ha, hb, h1, h2, hh, hf, hm, hs, hp, hc, -⟩ := h
  have hstart (u : State) : Touches P s u.startSpans ↔ Touches P s u := by
    refine Touches.iff_of (Q := [.spanA, .spanB, .bypass]) (fun p hp => ?_) (by simp [ha, hb, hby])
    cases p
    case spanA | spanB | bypass => simp at hp
    all_goals repeat' constructor
  have hheat (u : State) : Touches P s u.startHeat ↔ Touches P s u := by
    unfold State.startHeat
    rw [touches_setCap _ _ hh hp hc]
    exact (touches_heat u _).iff_of (by simp [hh, hp])
  have hmon (u : State) : Touches P s u.startMonitor ↔ Touches P s u := (touches_mon u _).iff_of (by simp [hm, hp])
  have hport' (u : State) (v : Port) : Touches P s { u with port := v } ↔ Touches P s u := touches_port_iff v hport
  have hnew : Touches P s { t with settings := new, port := { t.port with running := true } } ↔ Touches P s t :=
    (hport' { t with settings := new } { t.port with running := true }).trans
      ((touches_settings t new).iff_of (by simp [hset, hp, hs]))
  unfold State.adopt
  simp only [touches_raise _ _ hc, hmon, touches_startPeriod _ hf hp, hheat, touches_startSide .two _ _ h2 hp hs hc,
    touches_startSide .one _ _ h1 hp hs hc, hstart, hnew]

end

end Sys2Proof.Machine

namespace Sys2Proof.Machine

/-! ## The commands, one by one -/

/-- The commands that may reset the device. -/
def mayReset : Instr → Bool
  | .powerOn | .resetn | .resetWord _ _ => true
  | _ => false

/-- A command that is no reset runs within its parts. -/
def RunsWithin (c : Instr) (s : State) : Prop :=
  ∃ (dt : Nat) (u : State), exec c s = .next u.settle ∧ Touches (touches c) (s.advance dt) u

theorem runsWithin_of {c : Instr} {s : State} {dt : Nat} {f : State → State} (h : exec c s = .next (s.run dt f))
    (hf : ∀ t, Touches (touches c) t (f t)) : RunsWithin c s := ⟨dt, _, h, hf _⟩

theorem touches_ite {P : List Part} {t : State} {p : Prop} [Decidable p] {u v : State} (hu : p → Touches P t u)
    (hv : ¬p → Touches P t v) : Touches P t (if p then u else v) := by
  split
  exacts [hu ‹_›, hv ‹_›]

/-- A guarded command: nothing happens unless its occasion has arisen. -/
theorem touches_when {P : List Part} {t u : State} {p : Prop} [Decidable p] (hu : p → Touches P t u) :
    Touches P t (if p then u else t) := touches_ite hu fun _ => Touches.refl _ _

/-! ### The port and the requests -/

theorem runsWithin_transaction {c : Instr} {s : State} {dt : Nat} {bytesIn : List Byte} {held : Option Nat}
    {effect : State → State} (hc : touches c = [.port]) (h : exec c s = .next (s.run dt fun t => t.transact bytesIn held effect))
    (he : ∀ u : State, Touches [.port] u (effect u)) : RunsWithin c s := by
  refine runsWithin_of h fun t => ?_
  rw [hc]
  exact touches_transact bytesIn held (by simp) he

section
variable (s : State) (dt : Nat)

theorem runsWithin_memWrite (addr : Word16) (data : Sent (List Byte)) : RunsWithin (.memWrite dt addr data) s :=
  runsWithin_of rfl fun _ => touches_transact _ _ (by simp [touches]) fun _ =>
    touches_commitWrite _ _ (by simp [touches]) (by simp [touches]) (by simp [touches]) (by simp [touches])

theorem runsWithin_regWriteOther (reg : Word16) (data : Sent (List Byte)) : RunsWithin (.regWriteOther dt reg data) s :=
  runsWithin_of rfl fun _ => touches_ite (fun _ => Touches.refl _ _) fun _ =>
    touches_transact _ _ (by simp [touches]) fun _ => touches_commitRegister _ (by simp [touches]) fun _ => Touches.refl _ _

theorem runsWithin_portSetEcho (data : Sent (List Byte)) : RunsWithin (.portSetEcho dt data) s :=
  runsWithin_transaction rfl rfl fun _ => touches_commitRegister _ (by simp) (touches_writePortSet _ (by simp))

theorem runsWithin_portSetAttnPolarity (data : Sent (List Byte)) : RunsWithin (.portSetAttnPolarity dt data) s :=
  runsWithin_transaction rfl rfl fun _ => touches_commitRegister _ (by simp) (touches_writePortSet _ (by simp))

theorem runsWithin_portSetAttnDrive (data : Sent (List Byte)) : RunsWithin (.portSetAttnDrive dt data) s :=
  runsWithin_transaction rfl rfl fun _ => touches_commitRegister _ (by simp) (touches_writePortSet _ (by simp))

theorem runsWithin_misalign (data : Sent (List Byte)) : RunsWithin (.misalign dt data) s :=
  runsWithin_transaction rfl rfl fun _ => touches_commitRegister _ (by simp) fun u =>
    (touches_port_iff (t := u) _ (by simp)).mpr (Touches.refl _ _)

theorem runsWithin_misalignedTransaction (bytesIn : Sent (List Byte)) (bits : Nat) :
    RunsWithin (.misalignedTransaction dt bytesIn bits) s :=
  runsWithin_of rfl fun _ => touches_when fun _ => touches_transact _ _ (by simp [touches]) fun u =>
    (touches_port_iff (t := u) _ (by simp [touches])).mpr (Touches.refl _ _)

theorem runsWithin_unknownOpcode (bytesIn : Sent (List Byte)) : RunsWithin (.unknownOpcode dt bytesIn) s :=
  runsWithin_of rfl fun _ => touches_when fun _ => touches_transact _ _ (by simp [touches]) fun _ =>
    touches_clearEchoed (by simp [touches])

theorem runsWithin_ignoredTransaction (bytesIn : Sent (List Byte)) : RunsWithin (.ignoredTransaction dt bytesIn) s :=
  runsWithin_of rfl fun _ => touches_when fun _ => touches_transact _ _ (by simp [touches]) fun _ => Touches.refl _ _

theorem runsWithin_take : RunsWithin (.take dt) s := by
  refine runsWithin_of rfl fun t => ?_
  split
  · exact Touches.refl _ _
  · rw [touches_routeRequest _ _ _ (by simp [touches, requestParts]) (by simp [touches, requestParts])
      (by simp [touches, requestParts])]
    exact (touches_req t _).mono (by simp [touches, requestParts])

theorem runsWithin_configure : RunsWithin (.configure dt) s := by
  refine runsWithin_of rfl fun t => touches_serve _ (by simp [touches, requestParts]) fun r u => ?_
  unfold State.configure
  split
  · simp [touches, requestParts]
  · simp only
    split
    · simp [touches, requestParts]
    · rw [touches_complete _ _ _ _ (by simp [touches, requestParts]) (by simp [touches, requestParts])]
      exact (touches_adopt _ (by simp [touches, sideParts, eventParts])).mpr (Touches.refl _ _)

/-! ### Spans -/

theorem runsWithin_spanControlEnable : RunsWithin (.spanControlEnable dt) s := by
  refine runsWithin_of rfl fun t => touches_serve _ (by simp [touches, requestParts]) fun r u => ?_
  unfold State.enableSpans
  split
  · refine touches_withSelector _ (by simp [touches, requestParts]) (by simp [touches, requestParts]) fun sel v => ?_
    have hset (x : SpanId) (y : State) :
        Touches (touches (.spanControlEnable dt)) y (if selects sel x then (y.setEnable x true).searchIfReady x else y) :=
      touches_when fun _ => by
        rw [touches_searchIfReady x (by cases x <;> simp [touches, spanPart])]
        exact (touches_setSpan y x _).mono (by cases x <;> simp [touches, spanPart])
    rw [touches_completeSpan _ _ (by simp [touches, requestParts]) (by simp [touches, requestParts])]
    exact (hset .a v).trans (hset .b _)
  · simp [touches, requestParts]

theorem runsWithin_spanControlDisable : RunsWithin (.spanControlDisable dt) s := by
  refine runsWithin_of rfl fun t => touches_serve _ (by simp [touches, requestParts]) fun r u => ?_
  refine touches_withSelector _ (by simp [touches, requestParts]) (by simp [touches, requestParts]) fun sel v => ?_
  have hP : linkParts ⊆ touches (.spanControlDisable dt) := List.subset_append_left _ _
  simp only [State.setEnable]
  rw [touches_completeSpan _ _ (by simp [touches, requestParts]) (by simp [touches, requestParts]), touches_exitWhere hP]
  have hset (x : SpanId) (y : State) :
      Touches (touches (.spanControlDisable dt)) y (if selects sel x then y.setEnable x false else y) :=
    touches_when fun _ => (touches_setSpan y x _).mono (by cases x <;> simp [touches, linkParts, censusParts, spanPart])
  exact (hset .a v).trans (hset .b _)

theorem runsWithin_spanControlRestart : RunsWithin (.spanControlRestart dt) s := by
  refine runsWithin_of rfl fun t => touches_serve _ (by simp [touches, requestParts]) fun r u => ?_
  refine touches_withSelector _ (by simp [touches, requestParts]) (by simp [touches, requestParts]) fun sel v => ?_
  have hP : linkParts ⊆ touches (.spanControlRestart dt) := List.subset_append_left _ _
  refine touches_ite (fun _ => ?_) fun _ => ?_
  · simp [touches, requestParts]
  · rw [touches_completeSpan _ _ (by simp [touches, requestParts]) (by simp [touches, requestParts]), touches_exitWhere hP]
    exact Touches.refl _ _

theorem runsWithin_spanControlBypass : RunsWithin (.spanControlBypass dt) s := by
  refine runsWithin_of rfl fun t => touches_serve _ (by simp [touches, requestParts]) fun r u => ?_
  have hP : linkParts ⊆ touches (.spanControlBypass dt) :=
    List.subset_append_of_subset_left _ (List.subset_cons_self _ _)
  split
  · rw [touches_exitWhere hP]
    exact (touches_bypass u _).mono (by simp [touches])
  · simp [touches, requestParts]
  · simp [touches, requestParts]

theorem runsWithin_spanControlUnbypass : RunsWithin (.spanControlUnbypass dt) s := by
  refine runsWithin_of rfl fun t => touches_serve _ (by simp [touches, requestParts]) fun r u => ?_
  split
  · simp [touches, requestParts]
  · exact (touches_bypass u _).mono (by simp [touches])
  · simp [touches, requestParts]

theorem runsWithin_relaySwitched : RunsWithin (.relaySwitched dt) s := by
  refine runsWithin_of rfl fun t => touches_when fun _ => ?_
  have hrelay (v : Bypass) : Touches (touches (.relaySwitched dt)) t { t with bypass := v } :=
    (touches_bypass t v).mono (by simp [touches])
  unfold State.relaySettles
  simp only
  split
  · rw [touches_completeSpan _ _ (by simp [touches]) (by simp [touches]), touches_searchIfReady .b (by simp [touches, spanPart]),
      touches_searchIfReady .a (by simp [touches, spanPart])]
    exact hrelay _
  · rw [touches_searchIfReady .b (by simp [touches, spanPart]), touches_searchIfReady .a (by simp [touches, spanPart])]
    exact hrelay _

section
variable (x : SpanId)

theorem runsWithin_probe (quiet : Nat) : RunsWithin (.probe dt x quiet) s :=
  runsWithin_of rfl fun _ => touches_when fun _ => (touches_setSpan _ x _).mono (by simp [touches])

theorem runsWithin_listenWindowEnd (es : List Excursion) : RunsWithin (.listenWindowEnd dt x es) s := by
  refine runsWithin_of rfl fun t => touches_when fun _ => ?_
  unfold State.classifyProbe
  simp only
  split <;> rw [touches_debounce x _ (by simp [touches]) (by simp [touches, eventParts])] <;> simp [touches]

theorem runsWithin_foreignProbe (level : Level) (width : Nat) : RunsWithin (.foreignProbe dt x level width) s :=
  runsWithin_of rfl fun _ => touches_when fun _ => (touches_setSpan _ x _).mono (by simp [touches])

theorem runsWithin_probeAnswer : RunsWithin (.probeAnswer dt x) s := by
  refine runsWithin_of rfl fun t => ?_
  unfold State.driveAnswer
  simp only
  split
  · exact touches_when fun _ => (touches_setSpan _ x _).mono (by simp [touches])
  · exact Touches.refl _ _

theorem runsWithin_frameReceived (line : List Level) : RunsWithin (.frameReceived dt x line) s :=
  runsWithin_of rfl fun _ => (touches_receiveLine x line (by simp [touches]) (by simp [touches, eventParts])).mpr (Touches.refl _ _)

theorem runsWithin_hello : RunsWithin (.hello dt x) s :=
  runsWithin_of rfl fun _ => touches_takeFrame x _ (spanPart_mem (by simp [touches, linkParts, censusParts]) (by simp [touches, linkParts, censusParts]) x) fun r _ =>
    (touches_takeHello x r.frame (List.Subset.refl _)).mpr (Touches.refl _ _)

theorem runsWithin_keepalive : RunsWithin (.keepalive dt x) s :=
  runsWithin_of rfl fun _ => touches_takeFrame x _ (spanPart_mem (by simp [touches, linkParts, censusParts]) (by simp [touches, linkParts, censusParts]) x) fun r _ =>
    (touches_takeKeepalive x r.frame (List.Subset.refl _)).mpr (Touches.refl _ _)

theorem runsWithin_greetingHelloDue : RunsWithin (.greetingHelloDue dt x) s := by
  refine runsWithin_of rfl fun t => ?_
  unfold State.periodicHello
  simp only
  split
  · refine touches_when fun _ => ?_
    split <;> simp [touches, eventParts]
  · exact Touches.refl _ _

theorem runsWithin_greetTimeout : RunsWithin (.greetTimeout dt x) s := by
  refine runsWithin_of rfl fun t => touches_when fun h => ?_
  have hup : (t.span x).state ≠ .up := by simp [h.1]
  unfold State.exitSpan State.exitFollows
  simp only [if_pos hup]
  exact (touches_setSpan _ x _).mono (by simp [touches])

theorem runsWithin_silence : RunsWithin (.silence dt x) s :=
  runsWithin_of rfl fun _ => touches_when fun _ => (touches_exitSpan (List.Subset.refl _) x _ _).mpr (Touches.refl _ _)

theorem runsWithin_errors : RunsWithin (.errors dt x) s :=
  runsWithin_of rfl fun _ => touches_when fun _ => (touches_exitSpan (List.Subset.refl _) x _ _).mpr (Touches.refl _ _)

theorem runsWithin_keepaliveDue : RunsWithin (.keepaliveDue dt x) s :=
  runsWithin_of rfl fun _ => touches_when fun _ => by simp [touches, eventParts]

theorem runsWithin_transmitAttempt (quiet : Nat) : RunsWithin (.transmitAttempt dt x quiet) s := by
  refine runsWithin_of rfl fun t => touches_when fun _ => ?_
  split
  · exact (touches_setSpan _ x _).mono (by simp [touches])
  · exact Touches.refl _ _

theorem runsWithin_collision (pin : Sampled) : RunsWithin (.collision dt pin) s := by
  refine runsWithin_of rfl fun t => ?_
  simp only
  split
  · exact touches_when fun _ => (touches_setSpan _ _ _).mono (by simp [touches])
  all_goals exact Touches.refl _ _

theorem runsWithin_jamEnd : RunsWithin (.jamEnd dt x) s := by
  refine runsWithin_of rfl fun t => ?_
  split
  · refine touches_when fun _ => (touches_endJam x _ ?_).mpr (Touches.refl _ _)
    simp [touches, relayParts, sideParts, eventParts]
  all_goals exact Touches.refl _ _

theorem runsWithin_backoffEnd : RunsWithin (.backoffEnd dt x) s :=
  runsWithin_of rfl fun _ => touches_when fun _ => (touches_setSpan _ x _).mono (by simp [touches])

theorem runsWithin_frameCompleted : RunsWithin (.frameCompleted dt x) s := by
  refine runsWithin_of rfl fun t => ?_
  split
  · refine touches_when fun _ => ?_
    refine (touches_completeFrame x _ _ _ ?_ ?_ ?_ ?_ ?_ ?_ ?_ ?_ ?_).mpr (Touches.refl _ _)
    all_goals simp [touches, sideParts, eventParts]
  · exact Touches.refl _ _

end

/-! ### The census -/

theorem runsWithin_takeLead : RunsWithin (.takeLead dt) s := by
  have hP : censusParts ⊆ touches (.takeLead dt) := List.subset_cons_self _ _
  refine runsWithin_of rfl fun t => touches_serve _ (by simp [touches]) fun r u => ?_
  rw [touches_census_reviewEnd hP, touches_takeLead hP]
  exact Touches.refl _ _

theorem runsWithin_censusStart : RunsWithin (.censusStart dt) s := by
  have hP : censusParts ⊆ touches (.censusStart dt) := List.subset_cons_self _ _
  refine runsWithin_of rfl fun t => touches_serve _ (by simp [touches]) fun r u => ?_
  rw [touches_census_reviewEnd hP, touches_censusStart hP]
  exact Touches.refl _ _

theorem runsWithin_dropLead : RunsWithin (.dropLead dt) s := by
  have hP : censusParts ⊆ touches (.dropLead dt) := List.subset_cons_self _ _
  have m := censusParts_subset hP
  refine runsWithin_of rfl fun t => touches_serve _ (by simp [touches]) fun r u => ?_
  split
  · simp [m]
  · rw [touches_complete _ _ _ _ (by simp [m]) (by simp [m]), touches_census_reviewEnd hP, touches_dropLead hP]
    exact Touches.refl _ _

/-- The census frames: taken while the span is UP, acted on, the end-car status read afresh. -/
theorem touches_censusFrame {f : SpanId → Frame → State → State} (hf : ∀ x g (u : State), Touches censusParts u (f x g u))
    (x : SpanId) (kind : FrameKind) (t : State) :
    Touches censusParts t (t.takeWhileUp x kind fun g _ u => (f x g u).reviewEnd) :=
  touches_takeWhileUp x kind (spanPart_mem (by simp [censusParts]) (by simp [censusParts]) x) fun g _ u =>
    (touches_census_reviewEnd (List.Subset.refl _)).mpr (hf x g u)

theorem runsWithin_call (x : SpanId) : RunsWithin (.call dt x) s :=
  runsWithin_of rfl fun _ => touches_censusFrame (f := fun x g u => u.takeCall x g)
    (fun x g _ => (touches_takeCall (List.Subset.refl _) x g).mpr (Touches.refl _ _)) x _ _

theorem runsWithin_report (x : SpanId) : RunsWithin (.report dt x) s :=
  runsWithin_of rfl fun _ => touches_censusFrame (f := fun x g u => u.takeReport x g)
    (fun x g _ => (touches_takeReport (List.Subset.refl _) x g).mpr (Touches.refl _ _)) x _ _

theorem runsWithin_table (x : SpanId) : RunsWithin (.table dt x) s :=
  runsWithin_of rfl fun _ => touches_censusFrame (f := fun x g u => u.takeTable x g)
    (fun x g _ => (touches_takeTable (List.Subset.refl _) x g).mpr (Touches.refl _ _)) x _ _

theorem runsWithin_tableAck (x : SpanId) : RunsWithin (.tableAck dt x) s :=
  runsWithin_of rfl fun _ => touches_censusFrame (f := fun x g u => u.takeTableAck x g)
    (fun x g _ => (touches_takeTableAck (List.Subset.refl _) x g).mpr (Touches.refl _ _)) x _ _

theorem runsWithin_void (x : SpanId) : RunsWithin (.void dt x) s :=
  runsWithin_of rfl fun _ => touches_censusFrame (f := fun x g u => u.takeVoid x g)
    (fun x g _ => (touches_takeVoid (List.Subset.refl _) x g).mpr (Touches.refl _ _)) x _ _

theorem runsWithin_brk (x : SpanId) : RunsWithin (.brk dt x) s :=
  runsWithin_of rfl fun _ => touches_censusFrame (f := fun x g u => u.takeBreak x g)
    (fun x g _ => (touches_takeBreak (List.Subset.refl _) x g).mpr (Touches.refl _ _)) x _ _

theorem runsWithin_censusTimerExpired : RunsWithin (.censusTimerExpired dt) s := by
  refine runsWithin_of rfl fun t => touches_when fun _ => ?_
  change Touches censusParts _ _
  rw [touches_census_reviewEnd (List.Subset.refl _), touches_censusTimeout (List.Subset.refl _)]
  exact Touches.refl _ _

theorem runsWithin_settleTimerExpired : RunsWithin (.settleTimerExpired dt) s := by
  refine runsWithin_of rfl fun t => touches_when fun _ => ?_
  change Touches censusParts _ _
  rw [touches_census_reviewEnd (List.Subset.refl _), touches_startCensus (List.Subset.refl _)]
  exact Touches.refl _ _

end

end Sys2Proof.Machine

namespace Sys2Proof.Machine

/-! ### Port reads -/

section
variable (s : State) (dt : Nat)

theorem runsWithin_memRead (addr : Word16) (count : Sent Nat) : RunsWithin (.memRead dt addr count) s :=
  runsWithin_transaction rfl rfl fun _ => touches_clearEchoed (by simp)

theorem runsWithin_regRead (reg : Word16) (count : Sent Nat) : RunsWithin (.regRead dt reg count) s :=
  runsWithin_transaction rfl rfl fun _ => touches_clearEchoed (by simp)

/-! ### Waves -/

/-- A member decides on an ORDER: its sides, its relay and a frame for a neighbour. -/
theorem touches_takeOrder (x : SpanId) (f : Frame) (endAt : Nat) (t : State) :
    Touches (touches (.order dt x)) t (t.takeOrder x f endAt) := by
  have hrelay (u : State) (v : Relay) : Touches (touches (.order dt x)) t { u with relay := v } ↔ Touches (touches (.order dt x)) t u :=
    (touches_relay u v).iff_of (by simp [touches, relayParts])
  unfold State.takeOrder
  split
  case h_2 | h_3 => exact Touches.refl _ _
  next o hrole hparse =>
    split_ifs
    case pos => exact (touches_send x _ (spanPart_mem (by simp [touches, relayParts]) (by simp [touches, relayParts]) x)
        (by simp [touches, relayParts, eventParts])).mpr (Touches.refl _ _)
    case pos | pos => exact Touches.refl _ _
    case neg =>
      unfold State.memberOrder
      simp only
      set t1 := State.noteLate { t with relay := { t.relay with lastOrder := some (f.gen, o.number) } } f o with ht1
      have h1 : Touches (touches (.order dt x)) t t1 := by
        rw [ht1]
        unfold State.noteLate
        split
        · rw [touches_raise _ _ (by simp [touches, relayParts, eventParts]), hrelay]
          exact Touches.refl _ _
        · exact (hrelay t _).mpr (Touches.refl _ _)
      have hrole1 : t1.census.role = .member := by
        rw [ht1]
        unfold State.noteLate
        split <;> exact hrole
      set r := t1.handOrder o f.gen (Machine.applyInstant f endAt) f.late t.table.own
      have h2 : Touches (touches (.order dt x)) t r.1 :=
        h1.trans <| (touches_onlySides_member (onlySides_handOrder ..) hrole1).mono
          (by simp [touches, relayParts, eventParts])
      split
      · rw [touches_startAck (by simp [touches, relayParts]) (by simp [touches, relayParts])
          (by simp [touches, relayParts, eventParts]), hrelay]
        exact h2
      · unfold State.forwardOrder
        simp only
        split
        · exact (hrelay _ _).mpr h2
        next y hy =>
          rw [touches_offerOrder_iff y _ (spanPart_mem (by simp [touches, relayParts]) (by simp [touches, relayParts]) y)
            (by simp [touches, relayParts, eventParts]) (by simp) (fun _ _ _ => by simp [touches, relayParts, eventParts]), hrelay]
          exact h2

theorem runsWithin_order (x : SpanId) : RunsWithin (.order dt x) s :=
  runsWithin_of rfl fun _ => touches_takeWave x _ (spanPart_mem (by simp [touches, relayParts]) (by simp [touches, relayParts]) x)
    fun f n u => touches_takeOrder dt x f n u

theorem runsWithin_orderAck (x : SpanId) : RunsWithin (.orderAck dt x) s := by
  refine runsWithin_of rfl fun t => touches_takeWave x _
    (spanPart_mem (by simp [touches, relayParts]) (by simp [touches, relayParts]) x) fun f n u => ?_
  unfold State.takeOrderAck
  split
  · exact Touches.refl _ _
  refine touches_when fun _ => ?_
  split
  · unfold State.memberOrderAck
    split
    · exact Touches.refl _ _
    · refine touches_when fun _ => ?_
      rw [touches_sendAck (by simp [touches, relayParts]) (by simp [touches, relayParts]) (by simp [touches, relayParts, eventParts])]
      exact (touches_relay u _).mono (by simp [touches, relayParts])
  · rw [touches_leadTakesAck (by simp [touches]) (by simp [touches]) (by simp [touches, relayParts, eventParts]) (by simp [touches])]
    exact Touches.refl _ _

theorem runsWithin_ackWaitTimeout : RunsWithin (.ackWaitTimeout dt) s := by
  refine runsWithin_of rfl fun t => touches_when fun _ => ?_
  rw [touches_endOpenOrder (by simp [touches, relayParts]) (by simp [touches, relayParts]) (by simp [touches, relayParts, eventParts])
    _ (by simp [touches, relayParts])]
  exact Touches.refl _ _

theorem runsWithin_grant (x : SpanId) : RunsWithin (.grant dt x) s := by
  refine runsWithin_of rfl fun t => touches_takeWave x _
    (spanPart_mem (by simp [touches, relayParts]) (by simp [touches, relayParts]) x) fun f n u => ?_
  unfold State.takeGrantFrame
  split
  case h_2 | h_3 => exact Touches.refl _ _
  refine touches_when fun _ => ?_
  unfold State.memberGrant
  simp only
  generalize hv : State.setRecords _ _ = v
  have h : Touches (touches (.grant dt x)) u v := by
    rw [← hv, touches_setRecords _ (length_writeGrants _ _ _) (by simp [touches]) (by simp [touches]),
      touches_takeGrant _ _ _ (by simp [touches]) (by simp [touches]) (by simp [touches, relayParts, eventParts])]
    exact (touches_relay u _).mono (by simp [touches, relayParts])
  refine touches_ite (fun _ => h) fun _ => ?_
  rw [touches_sendIf _ _ (by simp [touches, relayParts]) (by simp [touches, relayParts]) (by simp [touches, relayParts, eventParts])]
  exact h

/-- Noting a roll changes the relay only. -/
theorem touches_noteRoll {P : List Part} {t u : State} (k : RollKind) (h : Part.relay ∈ P) :
    Touches P t (u.noteRoll k) ↔ Touches P t u := touches_setWatch k _ h

theorem runsWithin_doorStateRoll (x : SpanId) : RunsWithin (.doorStateRoll dt x) s := by
  refine runsWithin_of rfl fun t => touches_takeWave x _
    (spanPart_mem (by simp [touches, relayParts]) (by simp [touches, relayParts]) x) fun f n u => ?_
  unfold State.takeDoorState
  split
  · exact Touches.refl _ _
  refine touches_when fun _ => ?_
  split
  · simp only
    rw [touches_sendIf _ _ (by simp [touches, relayParts]) (by simp [touches, relayParts]) (by simp [touches, relayParts, eventParts]),
      touches_noteRoll _ (by simp [touches, relayParts])]
    exact Touches.refl _ _
  next r _ _ _ _ =>
    refine Touches.trans (t := u.setRecords (writeProving r u.unproven 1 u.table.records)) ?_
      ((touches_door _ _ rfl).mono (by simp [touches]))
    rw [touches_setRecords _ (length_writeProving _ _ _ _) (by simp [touches]) (by simp [touches])]
    exact Touches.refl _ _

theorem runsWithin_demandRoll (x : SpanId) : RunsWithin (.demandRoll dt x) s := by
  refine runsWithin_of rfl fun t => touches_takeWave x _
    (spanPart_mem (by simp [touches, relayParts]) (by simp [touches, relayParts]) x) fun f n u => ?_
  unfold State.takeDemand
  split
  · exact Touches.refl _ _
  refine touches_when fun _ => ?_
  split
  · unfold State.memberDemand
    simp only
    rw [touches_sendIf _ _ (by simp [touches, relayParts]) (by simp [touches, relayParts]) (by simp [touches, relayParts, eventParts]),
      touches_noteDemands (by simp [touches]) (by simp [touches]), touches_noteRoll _ (by simp [touches, relayParts])]
    exact Touches.refl _ _
  · unfold State.leadDemand
    rw [touches_allocate (by simp [touches, relayParts]) (by simp [touches, relayParts]) (by simp [touches, relayParts, eventParts])
      (by simp [touches]) (by simp [touches]) (by simp [touches]), touches_noteDemands (by simp [touches]) (by simp [touches])]
    exact (touches_heat u _).mono (by simp [touches])

theorem runsWithin_originationTimer (k : RollKind) : RunsWithin (.originationTimer dt k) s := by
  refine runsWithin_of rfl fun t => ?_
  unfold State.originateDue
  simp only
  split
  · refine touches_when fun _ => ?_
    rw [touches_originate (by simp [touches, relayParts]) (by simp [touches, relayParts]) (by simp [touches, relayParts, eventParts])
      (by simp [touches]) (by simp [touches]), touches_setWatch _ _ (by simp [touches, relayParts])]
    exact Touches.refl _ _
  · exact Touches.refl _ _

theorem runsWithin_substituteOrigination (k : RollKind) : RunsWithin (.substituteOrigination dt k) s := by
  refine runsWithin_of rfl fun t => touches_when fun _ => ?_
  simp only
  rw [touches_originate (by simp [touches, relayParts]) (by simp [touches, relayParts]) (by simp [touches, relayParts, eventParts])
    (by simp [touches]) (by simp [touches]), touches_setWatch _ _ (by simp [touches, relayParts])]
  exact Touches.refl _ _

/-! ### Doors -/

/-- A passed DOOR_ORDER: the order it replaces, the new one, and its ORDER or the lead's own sides. -/
theorem touches_takeDoorOrder {P : List Part} {t u : State} (r : Request) (a : Action)
    (h : ∀ p ∈ [Part.spanA, .spanB, .side1, .side2, .doorLead, .pub, .summary, .choices, .mem, .slotTally], p ∈ P) :
    Touches P u (t.takeDoorOrder r a) ↔ Touches P u t := by
  simp only [List.mem_cons, List.not_mem_nil, or_false, forall_eq_or_imp, forall_eq] at h
  have horders (v : State) (d : Door) (hd : d = { v.door with
      outstanding := d.outstanding, ackEnd := d.ackEnd, inFlight := d.inFlight, lastNumber := d.lastNumber, lastDone := d.lastDone }) :
      Touches P u { v with door := d } ↔ Touches P u v := (touches_orders v d hd).iff_of (by simp [h])
  unfold State.takeDoorOrder
  simp only
  split
  · rw [touches_finishOrder (by simp [h]) (by simp [h]) (by simp [h]) (by simp [h]),
      touches_handOrder (by simp [h]) (by simp [h]) (by simp [h]) (by simp [h]) (by simp [h]), horders _ _ rfl,
      touches_endOutstanding (by simp [h]) (by simp [h]) (by simp [h]) (by simp [h])]
  · rw [touches_offerOrder_iff _ _ (spanPart_mem (by simp [h]) (by simp [h]) _) (by simp [h]) (fun _ _ => by simp [h])
      (by simp), horders _ _ rfl, horders _ _ rfl,
      touches_endOutstanding (by simp [h]) (by simp [h]) (by simp [h]) (by simp [h])]

theorem runsWithin_doorOrder : RunsWithin (.doorOrder dt) s := by
  refine runsWithin_of rfl fun t => touches_serve _ (by simp [touches, requestParts]) fun r u => ?_
  unfold State.doorOrder
  split
  · rw [touches_complete _ _ _ _ (by simp [touches, requestParts]) (by simp [touches, requestParts])]
    exact Touches.refl _ _
  · rw [touches_takeDoorOrder r _ (by simp [touches, requestParts, sideParts, eventParts])]
    exact Touches.refl _ _
  · exact Touches.refl _ _

theorem runsWithin_doorOrderTimedOut : RunsWithin (.doorOrderTimedOut dt) s := by
  refine runsWithin_of rfl fun t => touches_when fun _ => ?_
  rw [touches_endOutstanding (by simp [touches]) (by simp [touches]) (by simp [touches]) (by simp [touches])]
  exact Touches.refl _ _

theorem runsWithin_rollAgeTimerExpired : RunsWithin (.rollAgeTimerExpired dt) s :=
  runsWithin_of rfl fun t => touches_when fun _ => (touches_door t _ rfl).mono (by simp [touches, sideParts])

theorem touches_doorLocal {P : List Part} {t : State} (r : Request) {act : SideId → State → State} (hm : Part.mem ∈ P)
    (ht : Part.slotTally ∈ P) (hact : ∀ (k : SideId) (u : State), Touches P u (act k u)) : Touches P t (t.doorLocal r act) := by
  have hc (u : State) (o : SlotOutcome) (l : List Byte) : Touches P t (u.complete r.slot o 0 l) ↔ Touches P t u :=
    touches_complete _ _ _ _ hm ht
  unfold State.doorLocal
  simp only
  refine touches_ite (fun _ => (hc t _ _).mpr (Touches.refl _ _)) fun _ =>
    touches_ite (fun _ => (hc t _ _).mpr (Touches.refl _ _)) fun _ => (hc _ _ _).mpr ?_
  exact (touches_when fun _ => hact _ t).trans (touches_when fun _ => hact _ _)

section
variable {P : List Part} (k : SideId) (hk : sidePart k ∈ P) (hp : Part.pub ∈ P) (hs : Part.summary ∈ P) (hc : Part.choices ∈ P)
include hk hp hs hc

theorem touches_isolateSide (u : State) : Touches P u (u.isolateSide k) :=
  touches_ite (fun _ => Touches.refl _ _) fun _ => (touches_enterSide k hk hp hs hc _ _ _).mpr (Touches.refl _ _)

theorem touches_restoreSide (u : State) : Touches P u (u.restoreSide k) :=
  touches_when fun _ => (touches_enterSide k hk hp hs hc _ _ _).mpr (Touches.refl _ _)

theorem touches_clearSide (r : Request) (hm : Part.mem ∈ P) (ht : Part.slotTally ∈ P) (u : State) :
    Touches P u (u.clearSide k r) := by
  have hdone (v : State) (o : SlotOutcome) : Touches P u (v.completeClear k r.slot o) ↔ Touches P u v :=
    touches_complete _ _ _ _ hm ht
  unfold State.clearSide
  simp only
  refine touches_ite (fun _ => (hdone u _).mpr (Touches.refl _ _)) fun _ =>
    touches_ite (fun _ => (hdone u _).mpr (Touches.refl _ _)) fun _ =>
    touches_ite (fun _ => (hdone u _).mpr (Touches.refl _ _)) fun _ => (hdone _ _).mpr ?_
  refine Touches.trans ?_ (touches_when fun _ => (touches_enterSide k hk hp hs hc _ _ _).mpr (Touches.refl _ _))
  exact (touches_setSide_iff k _ hk hp hs).mpr (Touches.refl _ _)

theorem touches_lockTrue (u : State) : Touches P u (u.lockTrue k) := by
  unfold State.lockTrue
  simp only
  split <;> simp only [touches_enterSide k hk hp hs hc, touches_setSide_iff k _ hk hp hs, Touches.refl]

theorem touches_lockFalse (hf : Part.faultTally ∈ P) (u : State) : Touches P u (u.lockFalse k) := by
  unfold State.lockFalse
  simp only
  split <;> simp only [touches_causeArises k hk hp hs hc _ hf, touches_setSide_iff k _ hk hp hs, Touches.refl]

theorem touches_takeFeedback (high : Bool) (hf : Part.faultTally ∈ P) (u : State) : Touches P u (u.takeFeedback k high) := by
  unfold State.takeFeedback
  simp only
  split_ifs <;> simp only [touches_causeArises k hk hp hs hc _ hf, touches_setSide_iff k _ hk hp hs, Touches.refl]

theorem touches_applyAtInstant (i : Nat) (u : State) : Touches P u (u.applyAtInstant i k) := by
  unfold State.applyAtInstant
  split
  · exact touches_when fun _ => (touches_applyPending k hk hp hs hc _).mpr (Touches.refl _ _)
  · exact Touches.refl _ _

theorem touches_withdrawSide (u : State) : Touches P u (u.withdrawSide k) :=
  touches_when fun _ => (touches_enterSide k hk hp hs hc _ _ _).mpr (Touches.refl _ _)

end

theorem runsWithin_doorLocalIsolate : RunsWithin (.doorLocalIsolate dt) s :=
  runsWithin_of rfl fun _ => touches_serve _ (by simp [touches, requestParts]) fun r _ =>
    touches_doorLocal r (by simp [touches, requestParts]) (by simp [touches, requestParts]) fun k u =>
      touches_isolateSide k (sidePart_mem (by simp [touches]) (by simp [touches]) k) (by simp [touches, sideParts])
        (by simp [touches, sideParts]) (by simp [touches, sideParts, eventParts]) u

theorem runsWithin_doorLocalRestore : RunsWithin (.doorLocalRestore dt) s :=
  runsWithin_of rfl fun _ => touches_serve _ (by simp [touches, requestParts]) fun r _ =>
    touches_doorLocal r (by simp [touches, requestParts]) (by simp [touches, requestParts]) fun k u =>
      touches_restoreSide k (sidePart_mem (by simp [touches]) (by simp [touches]) k) (by simp [touches, sideParts])
        (by simp [touches, sideParts]) (by simp [touches, sideParts, eventParts]) u

theorem runsWithin_faultClearDoor : RunsWithin (.faultClearDoor dt) s := by
  refine runsWithin_of rfl fun _ => touches_serve _ (by simp [touches, requestParts]) fun r u => ?_
  have hside (k : SideId) : Touches (touches (.faultClearDoor dt)) u (u.clearSide k r) :=
    touches_clearSide k (sidePart_mem (by simp [touches]) (by simp [touches]) k) (by simp [touches, sideParts])
      (by simp [touches, sideParts]) (by simp [touches, sideParts, eventParts]) r (by simp [touches, requestParts])
      (by simp [touches, requestParts]) u
  exact touches_ite (fun _ => hside .one) fun _ => touches_ite (fun _ => hside .two) fun _ =>
    (touches_complete _ _ _ _ (by simp [touches, requestParts]) (by simp [touches, requestParts])).mpr (Touches.refl _ _)

section
variable (k : SideId)

theorem runsWithin_lockLevelChanged : RunsWithin (.lockLevelChanged dt k) s :=
  runsWithin_of rfl fun t => touches_when fun _ => touches_ite
    (fun _ => touches_lockFalse k (by simp [touches]) (by simp [touches, sideParts]) (by simp [touches, sideParts])
      (by simp [touches, sideParts, eventParts]) (by simp [touches]) t)
    fun _ => touches_lockTrue k (by simp [touches]) (by simp [touches, sideParts]) (by simp [touches, sideParts])
      (by simp [touches, sideParts, eventParts]) t

theorem runsWithin_feedbackSample (high : Bool) : RunsWithin (.feedbackSample dt k high) s :=
  runsWithin_of rfl fun t => touches_when fun _ => touches_takeFeedback k (by simp [touches]) (by simp [touches, sideParts])
    (by simp [touches, sideParts]) (by simp [touches, sideParts, eventParts]) high (by simp [touches]) t

theorem runsWithin_driveMismatch : RunsWithin (.driveMismatch dt k) s :=
  runsWithin_of rfl fun t => touches_when fun _ => touches_takeFeedback k (by simp [touches]) (by simp [touches, sideParts])
    (by simp [touches, sideParts]) (by simp [touches, sideParts, eventParts]) _ (by simp [touches]) t

theorem runsWithin_driveMismatchEnded : RunsWithin (.driveMismatchEnded dt k) s := by
  refine runsWithin_of rfl fun t => touches_when fun _ => ?_
  unfold State.takeFeedback
  simp only [if_true]
  exact touches_setSide_proven t k _ rfl

theorem runsWithin_leaseExpired : RunsWithin (.leaseExpired dt k) s :=
  runsWithin_of rfl fun _ => touches_when fun _ => (touches_enterSide k (by simp [touches]) (by simp [touches, sideParts])
    (by simp [touches, sideParts]) (by simp [touches, sideParts, eventParts]) _ _ _).mpr (Touches.refl _ _)

theorem runsWithin_closeTimeout : RunsWithin (.closeTimeout dt k) s :=
  runsWithin_of rfl fun _ => touches_when fun _ => (touches_causeArises k (by simp [touches]) (by simp [touches, sideParts])
    (by simp [touches, sideParts]) (by simp [touches, sideParts, eventParts]) _ (by simp [touches])).mpr (Touches.refl _ _)

theorem runsWithin_releaseHalfPeriod : RunsWithin (.releaseHalfPeriod dt k) s :=
  runsWithin_of rfl fun t => touches_when fun _ => touches_setSide_shown t k _ rfl rfl

end

theorem runsWithin_applyInstant : RunsWithin (.applyInstant dt) s := by
  refine runsWithin_of rfl fun t => ?_
  have hone (i : Nat) (k : SideId) (u : State) : Touches (touches (.applyInstant dt)) u (u.applyAtInstant i k) :=
    touches_applyAtInstant k (sidePart_mem (by simp [touches]) (by simp [touches]) k) (by simp [touches, sideParts])
      (by simp [touches, sideParts]) (by simp [touches, sideParts, eventParts]) i u
  split
  · exact touches_when fun _ => (hone _ .one t).trans (hone _ .two _)
  · exact Touches.refl _ _

theorem sampleLock_shown (c : Settings) (d : Side) (level : Bool) :
    sideBlock c (d.sampleLock level) = sideBlock c d ∧ (d.sampleLock level).proven = d.proven := by
  unfold Side.sampleLock
  split_ifs <;> exact ⟨rfl, rfl⟩

theorem touches_tick (t : State) (lck1 lck2 : Bool) : Touches [.clock, .side1, .side2] t (t.tick lck1 lck2) := by
  have h1 : Touches [.side1] t (t.setSide .one (t.door.side1.sampleLock lck1)) :=
    touches_setSide_shown t .one _ (sampleLock_shown t.settings _ _).2 (sampleLock_shown _ _ _).1
  have h2 (u : State) : Touches [.side2] u (u.setSide .two (u.door.side2.sampleLock lck2)) :=
    touches_setSide_shown u .two _ (sampleLock_shown u.settings _ _).2 (sampleLock_shown _ _ _).1
  set u := (t.setSide .one (t.door.side1.sampleLock lck1)).setSide .two (t.door.side2.sampleLock lck2) with hu
  have h : Touches [.clock, .side1, .side2] t u :=
    (h1.mono (by simp)).trans ((h2 (t.setSide .one (t.door.side1.sampleLock lck1))).mono (by simp))
  exact h.trans ((touches_clock u (t.tickDue + ms) (t.msCount + 1)).mono (by simp))

theorem runsWithin_millisecondTick (lck1 lck2 : Bool) : RunsWithin (.millisecondTick dt lck1 lck2) s :=
  runsWithin_of rfl fun t => touches_when fun _ => (touches_tick t lck1 lck2).mono (by simp [touches])

/-! ### Heating, firing and the line monitor -/

theorem runsWithin_heatDemand : RunsWithin (.heatDemand dt) s := by
  refine runsWithin_of rfl fun _ => touches_serve _ (by simp [touches, requestParts]) fun r u => ?_
  unfold State.heatDemand
  rw [touches_complete _ _ _ _ (by simp [touches, requestParts]) (by simp [touches, requestParts])]
  exact (touches_heat u _).mono (by simp [touches])

theorem runsWithin_demandLeaseExpired : RunsWithin (.demandLeaseExpired dt) s :=
  runsWithin_of rfl fun t => touches_when fun _ => touches_heat t _

theorem runsWithin_heatSupply : RunsWithin (.heatSupply dt) s := by
  refine runsWithin_of rfl fun _ => touches_serve _ (by simp [touches, requestParts]) fun r u => ?_
  have hdone (v : State) (o : SlotOutcome) (d : Byte) (l : List Byte) :
      Touches (touches (.heatSupply dt)) u (v.complete r.slot o d l) ↔ Touches (touches (.heatSupply dt)) u v :=
    touches_complete _ _ _ _ (by simp [touches, requestParts]) (by simp [touches, requestParts])
  unfold State.heatSupply
  simp only
  refine touches_ite (fun _ => (hdone u _ _ _).mpr (Touches.refl _ _)) fun _ =>
    touches_ite (fun _ => (hdone u _ _ _).mpr (Touches.refl _ _)) fun _ => (hdone _ _ _ _).mpr ?_
  refine Touches.trans ((touches_heat u _).mono (by simp [touches])) (touches_when fun _ => ?_)
  rw [touches_allocate (by simp [touches]) (by simp [touches]) (by simp [touches, eventParts]) (by simp [touches])
    (by simp [touches]) (by simp [touches])]
  exact Touches.refl _ _

theorem runsWithin_allocationTimerExpired : RunsWithin (.allocationTimerExpired dt) s := by
  refine runsWithin_of rfl fun t => ?_
  split
  · refine touches_when fun _ => ?_
    rw [touches_allocate (by simp [touches]) (by simp [touches]) (by simp [touches, eventParts]) (by simp [touches])
      (by simp [touches]) (by simp [touches])]
    exact (touches_heat t _).mono (by simp [touches])
  · exact Touches.refl _ _

theorem runsWithin_grantHoldExpired : RunsWithin (.grantHoldExpired dt) s :=
  runsWithin_of rfl fun _ => touches_when fun _ =>
    (touches_setCap _ _ (by simp [touches]) (by simp [touches]) (by simp [touches, eventParts])).mpr (Touches.refl _ _)

theorem runsWithin_faultClearHeating : RunsWithin (.faultClearHeating dt) s := by
  refine runsWithin_of rfl fun _ => touches_serve _ (by simp [touches, requestParts]) fun r u => ?_
  unfold State.faultClearHeating
  simp only
  split <;> rw [touches_complete _ _ _ _ (by simp [touches, requestParts]) (by simp [touches, requestParts])]
  · rw [touches_setCap _ _ (by simp [touches]) (by simp [touches]) (by simp [touches, eventParts])]
    exact (touches_fire u _).mono (by simp [touches])
  · exact Touches.refl _ _

theorem touches_judgePeriod {P : List Part} (hf : Part.fire ∈ P) (hh : Part.heat ∈ P) (hp : Part.pub ∈ P) (hc : Part.choices ∈ P)
    (ht : Part.faultTally ∈ P) (t : State) : Touches P t t.judgePeriod := by
  have hfire (u : State) (v : Fire) : Touches P u { u with fire := v } := (touches_fire u v).mono (by simpa)
  have htally (u : State) : Touches P u { u with tallies := { u.tallies with fault := u.tallies.fault + 1 } } :=
    (touches_faultTally u _).mono (by simpa)
  unfold State.judgePeriod
  simp only
  refine Touches.trans (hfire t _) (touches_when fun _ => ?_)
  unfold State.overdrawFault
  simp only
  rw [touches_publishFire hp]
  refine Touches.trans ?_ (hfire _ _)
  rw [touches_setCap _ _ hh hp hc, touches_raise _ _ hc]
  exact htally _

theorem runsWithin_periodStart : RunsWithin (.periodStart dt) s := by
  refine runsWithin_of rfl fun t => ?_
  split
  · refine touches_when fun _ => ?_
    rw [touches_startPeriod _ (by simp [touches]) (by simp [touches]), touches_publishHeat (by simp [touches])]
    exact touches_judgePeriod (by simp [touches]) (by simp [touches]) (by simp [touches]) (by simp [touches, eventParts])
      (by simp [touches]) t
  · exact Touches.refl _ _

theorem touches_openWindow (stage : Fin 4) (t : State) : Touches [.fire] t (t.openWindow stage) := by
  unfold State.openWindow
  split
  · exact touches_when fun _ => touches_fire t _
  · exact Touches.refl _ _

theorem runsWithin_windowStart (stage : Fin 4) : RunsWithin (.windowStart dt stage) s :=
  runsWithin_of rfl fun t => touches_openWindow stage t

theorem runsWithin_windowEnd (stage : Fin 4) : RunsWithin (.windowEnd dt stage) s := by
  refine runsWithin_of rfl fun t => ?_
  unfold State.endWindow
  split
  · exact touches_ite (fun _ => Touches.refl _ _) fun _ =>
      touches_ite (fun _ => touches_openWindow stage t) fun _ => touches_fire t _
  · exact Touches.refl _ _

theorem touches_judgeAux (reading : Nat) (t : State) : Touches [.mon, .pub] t (t.judgeAux reading) := by
  unfold State.judgeAux
  simp only
  split_ifs <;> exact touches_mon t _

theorem touches_addReading (reading : Nat) (t : State) : Touches [.fire] t (t.addReading reading) :=
  touches_when fun _ => touches_fire t _

theorem runsWithin_readingCompleted (c : Chan) (block : List (BitVec 12)) : RunsWithin (.readingCompleted dt c block) s := by
  refine runsWithin_of rfl fun t => touches_when fun _ => ?_
  have hmon (v : Monitor) : Touches [.mon, .fire, .pub] t { t with mon := v } := (touches_mon t v).mono (by simp)
  unfold State.completeReading
  simp only
  cases c
  · exact hmon _
  · exact (hmon _).trans ((touches_addReading _ _).mono (by simp))
  · exact (hmon _).trans ((touches_judgeAux _ _).mono (by simp))

theorem touches_changeAux {P : List Part} (low : Bool) (kind : Byte) (hm : Part.mon ∈ P) (hp : Part.pub ∈ P) (hc : Part.choices ∈ P)
    (t : State) : Touches P t (t.changeAux low kind) :=
  (touches_raise _ _ hc).mpr ((touches_mon t _).mono (by simp [hm, hp]))

theorem runsWithin_lowTimerExpired : RunsWithin (.lowTimerExpired dt) s := by
  refine runsWithin_of rfl fun t => touches_when fun _ => ?_
  have hside (k : SideId) (u : State) : Touches (touches (.lowTimerExpired dt)) u (u.withdrawSide k) :=
    touches_withdrawSide k (sidePart_mem (by simp [touches]) (by simp [touches]) k) (by simp [touches, sideParts])
      (by simp [touches, sideParts]) (by simp [touches, sideParts, eventParts]) u
  exact ((touches_changeAux true 16 (by simp [touches]) (by simp [touches, sideParts]) (by simp [touches, sideParts, eventParts])
    t).trans (hside .one _)).trans (hside .two _)

theorem runsWithin_returnTimerExpired : RunsWithin (.returnTimerExpired dt) s :=
  runsWithin_of rfl fun t => touches_when fun _ => touches_changeAux false 17 (by simp [touches]) (by simp [touches])
    (by simp [touches, eventParts]) t

end

end Sys2Proof.Machine

namespace Sys2Proof.Machine

/-! ## Every command keeps to its parts (O50) -/

/-- Resets touch everything but the queue, the free choices and, where none was waiting, the raised events. -/
theorem touches_portReset (u : State) (h : u.raised = []) : Touches resetParts u u.portReset := by
  intro p hp
  cases p
  case choices => exact ⟨rfl, h.symm⟩
  case pending => exact ⟨rfl, trivial⟩
  all_goals exact absurd (by simp [resetParts]) hp

theorem touches_hardReset (u : State) (h : u.raised = []) : Touches resetParts u u.hardReset := by
  intro p hp
  cases p
  case choices => exact ⟨rfl, h.symm⟩
  case pending => exact ⟨rfl, trivial⟩
  all_goals exact absurd (by simp [resetParts]) hp

theorem touches_writeResetWord (data : List Byte) (u : State) (h : u.raised = []) :
    Touches resetParts u (u.writeResetWord data) := touches_when fun _ => touches_portReset u h

theorem hardReset_settled (s : State) : s.hardReset.settled = true := reset_settled

theorem touches_commitResetWord (data : List Byte) (u : State) (h : u.raised = []) :
    Touches resetParts u (u.commitRegister data (State.writeResetWord data)) := by
  have hnoted : (u.clearEchoed.noteLength data).raised = [] := by
    unfold State.noteLength
    split <;> exact h
  exact ((touches_noteLength data (by simp [resetParts])).mpr (touches_clearEchoed (by simp [resetParts]))).trans
    (touches_writeResetWord data _ hnoted)

theorem commitResetWord_settled (data : List Byte) (u : State) (h : u.settled = true) :
    (u.commitRegister data (State.writeResetWord data)).settled = true := by
  have hnoted : (u.clearEchoed.noteLength data).settled = true := by
    unfold State.noteLength
    split <;> exact h
  unfold State.commitRegister State.writeResetWord
  split
  exacts [portReset_settled _, hnoted]

/-- A reset, or a RESET_WORD of another value, keeps to its parts and leaves nothing for the end of the step. -/
def ResetsWithin (c : Instr) (s : State) : Prop :=
  ∃ (dt : Nat) (u : State), exec c s = .next u ∧ Touches (touches c) (s.advance dt) u

theorem resetsWithin_resetWord (dt : Nat) (data : Sent (List Byte)) (s : State) (hs : s.settled = true) :
    ResetsWithin (.resetWord dt data) s := by
  obtain ⟨t, ht⟩ : ∃ t, t = s.advance dt := ⟨_, rfl⟩
  have hsettled : t.settled = true := by rw [ht]; exact hs
  have hraised : t.raised = [] := ((settled_iff t).mp hsettled).1
  have hport (v : Port) : Touches resetParts t { t with port := v } := (touches_port t v).mono (by simp [resetParts])
  set u := t.transact (headerOf 0x04 3 ++ data.whole) data.held fun u => u.commitRegister data.whole (State.writeResetWord data.whole)
    with hu
  have hu' : u.settled = true ∧ Touches resetParts t u := by
    rw [hu]
    unfold State.transact
    simp only
    generalize hv : (Port.mk .. : Port) = v
    split_ifs
    · exact ⟨hsettled, hport v⟩
    · exact ⟨commitResetWord_settled _ _ hsettled, (hport v).trans (touches_commitResetWord _ _ hraised)⟩
    · exact ⟨hsettled, Touches.refl _ _⟩
  refine ⟨dt, u, ?_, by rw [← ht]; exact hu'.2⟩
  rw [← settle_of_settled u hu'.1, hu, ht]
  rfl

theorem resetsWithin (c : Instr) (s : State) (hs : s.settled = true) (h : mayReset c = true) : ResetsWithin c s := by
  have hraised : s.raised = [] := ((settled_iff s).mp hs).1
  cases c
  case powerOn => exact ⟨0, s.hardReset, rfl, touches_hardReset s hraised⟩
  case resetn => exact ⟨0, s.hardReset, rfl, touches_hardReset s hraised⟩
  case resetWord dt data => exact resetsWithin_resetWord dt data s hs
  all_goals exact absurd h (by simp [mayReset])

/-- Every command but a reset runs within its parts, in every state. -/
theorem runsWithin (c : Instr) (s : State) (h : mayReset c = false) : RunsWithin c s := by
  cases c
  case powerOn | resetn | resetWord => simp [mayReset] at h
  case memRead => apply runsWithin_memRead
  case memWrite => apply runsWithin_memWrite
  case regRead => apply runsWithin_regRead
  case regWriteOther => apply runsWithin_regWriteOther
  case portSetEcho => apply runsWithin_portSetEcho
  case portSetAttnPolarity => apply runsWithin_portSetAttnPolarity
  case portSetAttnDrive => apply runsWithin_portSetAttnDrive
  case misalign => apply runsWithin_misalign
  case misalignedTransaction => apply runsWithin_misalignedTransaction
  case unknownOpcode => apply runsWithin_unknownOpcode
  case ignoredTransaction => apply runsWithin_ignoredTransaction
  case take => apply runsWithin_take
  case configure => apply runsWithin_configure
  case spanControlEnable => apply runsWithin_spanControlEnable
  case spanControlDisable => apply runsWithin_spanControlDisable
  case spanControlRestart => apply runsWithin_spanControlRestart
  case spanControlBypass => apply runsWithin_spanControlBypass
  case spanControlUnbypass => apply runsWithin_spanControlUnbypass
  case relaySwitched => apply runsWithin_relaySwitched
  case probe => apply runsWithin_probe
  case listenWindowEnd => apply runsWithin_listenWindowEnd
  case foreignProbe => apply runsWithin_foreignProbe
  case probeAnswer => apply runsWithin_probeAnswer
  case frameReceived => apply runsWithin_frameReceived
  case hello => apply runsWithin_hello
  case keepalive => apply runsWithin_keepalive
  case greetingHelloDue => apply runsWithin_greetingHelloDue
  case greetTimeout => apply runsWithin_greetTimeout
  case silence => apply runsWithin_silence
  case errors => apply runsWithin_errors
  case keepaliveDue => apply runsWithin_keepaliveDue
  case transmitAttempt => apply runsWithin_transmitAttempt
  case collision => apply runsWithin_collision
  case jamEnd => apply runsWithin_jamEnd
  case backoffEnd => apply runsWithin_backoffEnd
  case frameCompleted => apply runsWithin_frameCompleted
  case takeLead => apply runsWithin_takeLead
  case censusStart => apply runsWithin_censusStart
  case dropLead => apply runsWithin_dropLead
  case call => apply runsWithin_call
  case report => apply runsWithin_report
  case table => apply runsWithin_table
  case tableAck => apply runsWithin_tableAck
  case void => apply runsWithin_void
  case brk => apply runsWithin_brk
  case censusTimerExpired => apply runsWithin_censusTimerExpired
  case settleTimerExpired => apply runsWithin_settleTimerExpired
  case order => apply runsWithin_order
  case orderAck => apply runsWithin_orderAck
  case ackWaitTimeout => apply runsWithin_ackWaitTimeout
  case grant => apply runsWithin_grant
  case doorStateRoll => apply runsWithin_doorStateRoll
  case demandRoll => apply runsWithin_demandRoll
  case originationTimer => apply runsWithin_originationTimer
  case substituteOrigination => apply runsWithin_substituteOrigination
  case doorOrder => apply runsWithin_doorOrder
  case doorOrderTimedOut => apply runsWithin_doorOrderTimedOut
  case rollAgeTimerExpired => apply runsWithin_rollAgeTimerExpired
  case doorLocalIsolate => apply runsWithin_doorLocalIsolate
  case doorLocalRestore => apply runsWithin_doorLocalRestore
  case faultClearDoor => apply runsWithin_faultClearDoor
  case faultClearHeating => apply runsWithin_faultClearHeating
  case lockLevelChanged => apply runsWithin_lockLevelChanged
  case driveMismatch => apply runsWithin_driveMismatch
  case driveMismatchEnded => apply runsWithin_driveMismatchEnded
  case applyInstant => apply runsWithin_applyInstant
  case leaseExpired => apply runsWithin_leaseExpired
  case closeTimeout => apply runsWithin_closeTimeout
  case heatDemand => apply runsWithin_heatDemand
  case demandLeaseExpired => apply runsWithin_demandLeaseExpired
  case heatSupply => apply runsWithin_heatSupply
  case allocationTimerExpired => apply runsWithin_allocationTimerExpired
  case grantHoldExpired => apply runsWithin_grantHoldExpired
  case periodStart => apply runsWithin_periodStart
  case windowStart => apply runsWithin_windowStart
  case windowEnd => apply runsWithin_windowEnd
  case readingCompleted => apply runsWithin_readingCompleted
  case lowTimerExpired => apply runsWithin_lowTimerExpired
  case returnTimerExpired => apply runsWithin_returnTimerExpired
  case releaseHalfPeriod => apply runsWithin_releaseHalfPeriod
  case feedbackSample => apply runsWithin_feedbackSample
  case millisecondTick => apply runsWithin_millisecondTick

theorem touches_eventsClosed (c : Instr) (h : mayReset c = false) : eventsClosed (touches c) := by
  cases c
  case powerOn | resetn | resetWord => simp [mayReset] at h
  case releaseHalfPeriod dt k => cases k <;> simp [eventsClosed, touches, sidePart]
  case driveMismatchEnded dt k => cases k <;> simp [eventsClosed, touches, sidePart]
  case probe dt x _ => cases x <;> simp [eventsClosed, touches, spanPart]
  case foreignProbe dt x _ _ => cases x <;> simp [eventsClosed, touches, spanPart]
  case probeAnswer dt x => cases x <;> simp [eventsClosed, touches, spanPart]
  case greetTimeout dt x => cases x <;> simp [eventsClosed, touches, spanPart]
  case transmitAttempt dt x _ => cases x <;> simp [eventsClosed, touches, spanPart]
  case collision dt pin => cases h : pin.span <;> simp [eventsClosed, touches, spanPart, h]
  case backoffEnd dt x => cases x <;> simp [eventsClosed, touches, spanPart]
  case listenWindowEnd dt x _ => cases x <;> simp [eventsClosed, touches, spanPart, eventParts]
  case frameReceived dt x _ => cases x <;> simp [eventsClosed, touches, spanPart, eventParts]
  case greetingHelloDue dt x => cases x <;> simp [eventsClosed, touches, spanPart, eventParts]
  case keepaliveDue dt x => cases x <;> simp [eventsClosed, touches, spanPart, eventParts]
  all_goals simp [eventsClosed, touches, requestParts, linkParts, censusParts, sideParts, relayParts, eventParts]

/-- Settles O50: the frame of each command, carried through the end of the step. -/
theorem commandsTouchOnlyTheirParts : Obligations.CommandsTouchOnlyTheirParts := by
  unfold Obligations.CommandsTouchOnlyTheirParts
  intro c s t p hs hexec hnow hp
  have hadvance (dt : Nat) {u : State} (h : Touches (touches c) (s.advance dt) u) : Touches (.now :: touches c) s u :=
    ((touches_now s _).mono (by simp)).trans (h.mono (List.subset_cons_self _ _))
  have hp' : p ∉ Part.now :: touches c := by simp [hnow, hp]
  cases hc : mayReset c with
  | true =>
    obtain ⟨dt, u, hu, htouch⟩ := resetsWithin c s hs hc
    obtain rfl : u = t := Host.Outcome.next.inj (hu.symm.trans hexec)
    exact (hadvance dt htouch p hp').1
  | false =>
    obtain ⟨dt, u, hu, htouch⟩ := runsWithin c s hc
    obtain rfl : u.settle = t := Host.Outcome.next.inj (hu.symm.trans hexec)
    refine settle_kept (hadvance dt htouch) hs ?_ hp'
    simpa [eventsClosed] using touches_eventsClosed c hc

end Sys2Proof.Machine

/-!
What each operation of the door unit makes of one side, as a function of that side, and what it leaves alone: the facts under the
door invariants (O55, O56).
-/

namespace Sys2Proof.Machine

/-! ## One side and the events -/

/-- Nothing but one side and the events of the step differs. -/
def OnlySide (k : SideId) (s t : State) : Prop := ∃ (d : Side) (l : List Raised), t = { s.setSide k d with raised := l }

section
variable {k : SideId} {s t u : State}

theorem OnlySide.refl (k : SideId) (s : State) : OnlySide k s s := ⟨s.side k, s.raised, by cases k <;> rfl⟩

theorem OnlySide.trans (h : OnlySide k s t) (h' : OnlySide k t u) : OnlySide k s u := by
  obtain ⟨d, l, rfl⟩ := h
  obtain ⟨e, m, rfl⟩ := h'
  exact ⟨e, m, by cases k <;> rfl⟩

/-- The state after an operation on one side, said by that side. -/
theorem OnlySide.eq (h : OnlySide k s t) : t = { s.setSide k (t.side k) with raised := t.raised } := by
  obtain ⟨d, l, rfl⟩ := h
  cases k <;> rfl

theorem OnlySide.onlySides (h : OnlySide k s t) : OnlySides s t := by
  obtain ⟨d, l, rfl⟩ := h
  cases k
  exacts [⟨d, s.door.side2, l, rfl⟩, ⟨s.door.side1, d, l, rfl⟩]

theorem OnlySide.other (h : OnlySide k s t) {j : SideId} (hj : j ≠ k) : t.side j = s.side j := by
  obtain ⟨d, l, rfl⟩ := h
  cases k <;> cases j
  case one.one | two.two => exact absurd rfl hj
  all_goals rfl

theorem onlySide_setSide (t : State) (k : SideId) (d : Side) : OnlySide k t (t.setSide k d) := ⟨d, t.raised, by cases k <;> rfl⟩

theorem onlySide_raise (t : State) (k : SideId) (g : Nat) (e : Event) : OnlySide k t (t.raise g e) :=
  ⟨t.side k, _, by cases k <;> rfl⟩

theorem onlySide_moveSide (t : State) (k : SideId) (new : DoorState) (cause : DoorCause) (number : Byte) :
    OnlySide k t (t.moveSide k new cause number) :=
  (onlySide_setSide t k _).trans (onlySide_raise _ _ _ _)

theorem onlySide_discardPending (t : State) (k : SideId) : OnlySide k t (t.discardPending k) := by
  unfold State.discardPending
  simp only
  split
  · exact .refl k t
  · exact (onlySide_setSide t k _).trans (onlySide_raise _ _ _ _)

theorem onlySide_enterSide (t : State) (k : SideId) (new : DoorState) (cause : DoorCause) (number : Byte) :
    OnlySide k t (t.enterSide k new cause number) := by
  have hmove := onlySide_moveSide t k new cause number
  unfold State.enterSide
  cases new <;> simp only
  case fault | isolated => exact hmove.trans (onlySide_discardPending _ k)
  case unlocked | closing =>
    split
    · exact hmove.trans (onlySide_moveSide _ k .closed .lock 0)
    · exact hmove
  all_goals exact hmove

theorem onlySide_actOnSide (t : State) (k : SideId) (o : PendingOrder) : OnlySide k t (t.actOnSide k o) := by
  have hlease (u : State) : OnlySide k u (u.startLease k o) := onlySide_setSide u k _
  unfold State.actOnSide
  split
  case h_1 => exact hlease _
  case h_2 | h_3 | h_4 => exact (onlySide_enterSide _ _ _ _ _).trans (hlease _)
  case h_5 | h_6 | h_7 => exact onlySide_enterSide _ _ _ _ _
  case h_8 => exact .refl _ _

theorem onlySide_applyPending (t : State) (k : SideId) (o : PendingOrder) : OnlySide k t (t.applyPending k o) := by
  have hset (u : State) (d : Side) := onlySide_setSide u k d
  unfold State.applyPending
  simp only
  split
  · exact ((hset t _).trans (hset _ _)).trans (onlySide_raise _ _ _ _)
  · exact ((hset t _).trans (hset _ _)).trans (onlySide_actOnSide _ _ _)

theorem onlySide_handToSide (t : State) (k : SideId) (o : PendingOrder) : OnlySide k t (t.handToSide k o) := by
  have hset (u : State) (d : Side) := onlySide_setSide u k d
  unfold State.handToSide
  simp only
  split_ifs
  · exact (hset t _).trans (onlySide_applyPending _ _ _)
  · exact (hset t _).trans (hset _ _)
  · exact hset t _

end

/-! ## What an entry makes of a side -/

/-- The side with an empty pending order (R104). -/
def Side.discarded (d : Side) : Side :=
  match d.pend with
  | none => d
  | some _ => { d with pend := none, lastSkip := some .discarded }

theorem discardPending_side (s : State) (k : SideId) : (s.discardPending k).side k = (s.side k).discarded := by
  unfold State.discardPending Side.discarded State.skipEvent
  cases h : (s.side k).pend <;> simp [h]

/-- The side after it has entered a state and gone on to where that state leads at once (R97, R104). -/
def Side.entered (d : Side) (new : DoorState) (now closeTimeout : Nat) : Side :=
  match new with
  | .fault | .isolated => (d.enter new now closeTimeout).discarded
  | .unlocked | .closing =>
    if d.lock then (d.enter new now closeTimeout).enter .closed now closeTimeout else d.enter new now closeTimeout
  | .absent | .closed | .released => d.enter new now closeTimeout

theorem moveSide_now (s : State) (k : SideId) (new : DoorState) (cause : DoorCause) (number : Byte) :
    (s.moveSide k new cause number).now = s.now ∧ (s.moveSide k new cause number).settings = s.settings := by
  rw [moveSide_eq]
  exact ⟨by simp, by simp⟩

theorem enterSide_side (s : State) (k : SideId) (new : DoorState) (cause : DoorCause) (number : Byte) :
    (s.enterSide k new cause number).side k = (s.side k).entered new s.now s.settings.closeTimeout := by
  have hmove := moveSide_side s k new cause number
  obtain ⟨hnow, hset⟩ := moveSide_now s k new cause number
  have hlock : ((s.moveSide k new cause number).side k).lock = (s.side k).lock := by
    rw [hmove]
    exact (enter_keeps _ _ _ _).2.1
  unfold State.enterSide Side.entered
  cases new <;> simp only
  case fault | isolated => rw [discardPending_side, hmove]
  case unlocked | closing =>
    rw [hlock]
    split
    · rw [moveSide_side, hmove, hnow, hset]
    · exact hmove
  all_goals exact hmove

/-! ## Soundness through an entry -/

/-- What stays of a side's soundness when its state is about to change. -/
structure Side.Core (d : Side) : Prop where
  stored : ∀ f : FaultCause, d.live.get f = true → d.stored.get f = true
  locked : d.live.closeTimeout = true ∨ d.live.lockLost = true → d.lock = false
  mismatch : d.mismatch ≤ 4 ∧ (d.live.mismatch = true ↔ d.mismatch = 4)
  lockRun : d.lockRun ≤ 50

/-- A cause is stored that is not masked. -/
def Side.faulty (d : Side) : Prop := ∃ f : FaultCause, d.stored.get f = true ∧ d.masked.get f = false

theorem Side.sound.core {d : Side} (h : d.sound) : d.Core := by
  obtain ⟨-, -, -, -, -, -, -, hstored, -, hlive, hmismatch, hrun⟩ := h
  exact ⟨hstored, fun hl => (hlive hl).1, hmismatch, hrun⟩

theorem anyUnmasked_iff (c m : Causes) : c.anyUnmasked m = true ↔ ∃ f : FaultCause, c.get f = true ∧ m.get f = false := by
  constructor
  · intro h
    simp only [Causes.anyUnmasked, Bool.or_eq_true, Bool.and_eq_true, Bool.not_eq_true'] at h
    obtain (⟨h1, h2⟩ | ⟨h1, h2⟩) | ⟨h1, h2⟩ := h
    exacts [⟨.mismatch, h1, h2⟩, ⟨.closeTimeout, h1, h2⟩, ⟨.lockLost, h1, h2⟩]
  · rintro ⟨f, h1, h2⟩
    cases f <;> simp_all [Causes.anyUnmasked, Causes.get]

section
variable {d : Side} {now ct : Nat}

/-- An entry to a state that fits the lock level and the stored causes makes a sound side. -/
theorem enter_sound {new : DoorState} (h : d.Core) (hn : new ≠ .absent ∧ new ≠ .released)
    (hclosed : new = .closed → d.lock = true) (hopen : new = .unlocked ∨ new = .closing → d.lock = false)
    (hfault : new ≠ .isolated → (new = .fault ↔ d.faulty)) (hp : new = .isolated ∨ new = .fault → d.pend = none) :
    (d.enter new now ct).sound := by
  obtain ⟨hstored, hlocked, hmismatch, hrun⟩ := h
  have hstored' (c : Causes) (hm : c.mismatch = d.live.mismatch) (hc : c.closeTimeout = false) (hl : c.lockLost = false)
      (f : FaultCause) (hf : c.get f = true) : d.stored.get f = true := by
    cases f
    · exact hstored .mismatch (hm.symm.trans hf)
    · exact absurd (hc.symm.trans hf) (by simp)
    · exact absurd (hl.symm.trans hf) (by simp)
  unfold Side.faulty at hfault
  cases new
  case absent | released => simp at hn
  case closed =>
    have hlock : d.lock = true := hclosed rfl
    have hlive : ¬(d.live.closeTimeout = true ∨ d.live.lockLost = true) := fun hl => by
      rw [hlocked hl] at hlock
      exact Bool.noConfusion hlock
    have hf := hfault (by simp)
    simp only [reduceCtorEq, false_iff] at hf
    refine ⟨?_, ?_, ?_, ?_, ?_, ?_, ?_, hstored, ?_, ?_, hmismatch, hrun⟩ <;> simp_all [Side.enter]
  case closing =>
    have hf := hfault (by simp)
    simp only [reduceCtorEq, false_iff] at hf
    refine ⟨?_, ?_, ?_, ?_, ?_, ?_, ?_, hstored' _ rfl rfl rfl, ?_, ?_, hmismatch, hrun⟩ <;> simp_all [Side.enter]
  case isolated =>
    refine ⟨?_, ?_, ?_, ?_, ?_, ?_, ?_, hstored' _ rfl rfl rfl, ?_, ?_, hmismatch, hrun⟩ <;> simp_all [Side.enter]
  case unlocked =>
    have hf := hfault (by simp)
    simp only [reduceCtorEq, false_iff] at hf
    refine ⟨?_, ?_, ?_, ?_, ?_, ?_, ?_, hstored, ?_, ?_, hmismatch, hrun⟩ <;> simp_all [Side.enter]
  case fault =>
    have hf := (hfault (by simp)).mp rfl
    refine ⟨?_, ?_, ?_, ?_, ?_, ?_, ?_, hstored, ?_, ?_, hmismatch, hrun⟩ <;> simp_all [Side.enter]

end

end Sys2Proof.Machine

/-!
The operations of the door unit keep a sound side sound (O55): entries, causes, orders.
-/

namespace Sys2Proof.Machine

/-- What a side's state says of its outputs, timers, pending order and causes, the lock level of CLOSED apart. -/
structure Side.Shape (d : Side) : Prop where
  relHigh : d.relHigh = true → d.state = .released
  lease : d.leaseEnd.isSome = true ↔ d.state = .released
  close : d.closeEnd.isSome = true ↔ d.state = .closing
  unlocked : d.state = .unlocked ∨ d.state = .closing → d.lock = false
  pend : d.pend.isSome = true → d.state ≠ .absent ∧ d.state ≠ .isolated ∧ d.state ≠ .fault
  fault : d.state ≠ .absent → d.state ≠ .isolated → (d.state = .fault ↔ d.faulty)
  live : d.live.closeTimeout = true ∨ d.live.lockLost = true → d.state ≠ .released ∧ d.state ≠ .closing ∧ d.state ≠ .isolated

theorem Side.sound_iff (d : Side) : d.sound ↔ d.Core ∧ d.Shape ∧ (d.state = .closed → d.lock = true) ∧
    (d.state = .absent → d.live = Causes.none ∧ d.stored = Causes.none) := by
  constructor
  · rintro ⟨h1, h2, h3, h4, h5, h6, h7, h8, h9, h10, h11, h12⟩
    exact ⟨⟨h8, fun h => (h10 h).1, h11, h12⟩, ⟨h1, h2, h3, h4, h7, h9, fun h => (h10 h).2⟩, h5, h6⟩
  · rintro ⟨⟨h8, hl, h11, h12⟩, ⟨h1, h2, h3, h4, h7, h9, h10⟩, h5, h6⟩
    exact ⟨h1, h2, h3, h4, h5, h6, h7, h8, h9, fun h => ⟨hl h, h10 h⟩, h11, h12⟩

section
variable {d : Side} {now ct : Nat}

theorem enter_core {new : DoorState} (h : d.Core) : (d.enter new now ct).Core := by
  obtain ⟨hstored, hlocked, hmismatch, hrun⟩ := h
  have hend : ∀ f : FaultCause, ({ d.live with closeTimeout := false, lockLost := false } : Causes).get f = true →
      d.stored.get f = true := by
    intro f hf
    cases f
    · exact hstored .mismatch hf
    all_goals exact absurd hf (by simp [Causes.get])
  cases new
  case released | closing | isolated => exact ⟨hend, fun h => by simp [Side.enter] at h, hmismatch, hrun⟩
  all_goals exact ⟨hstored, hlocked, hmismatch, hrun⟩

theorem enter_faulty (d : Side) (new : DoorState) (now ct : Nat) : (d.enter new now ct).faulty ↔ d.faulty := by
  cases new <;> rfl

theorem discarded_keeps (d : Side) : d.discarded = { d with pend := none, lastSkip := d.discarded.lastSkip } := by
  obtain ⟨⟩ := d
  unfold Side.discarded
  split <;> simp_all

theorem discarded_sound (d : Side) (h : ({ d with pend := none } : Side).sound) : d.discarded.sound := by
  rw [discarded_keeps]
  exact h

/-- The state a side has come to is the one it entered, or CLOSED on a true lock level. -/
theorem entered_sound {new : DoorState} (h : d.Core) (hn : new ≠ .absent ∧ new ≠ .released)
    (hclosed : new = .closed → d.lock = true) (hfault : new ≠ .isolated → (new = .fault ↔ d.faulty)) :
    (d.entered new now ct).sound := by
  unfold Side.entered
  cases new <;> simp only
  case absent | released => simp at hn
  case closed => exact enter_sound h hn hclosed (by simp) hfault (by simp)
  case isolated =>
    have h' : ({ d with pend := none } : Side).Core := ⟨h.stored, h.locked, h.mismatch, h.lockRun⟩
    exact discarded_sound _ (enter_sound (now := now) (ct := ct) h' hn hclosed (by simp) hfault fun _ => rfl)
  case fault =>
    have h' : ({ d with pend := none } : Side).Core := ⟨h.stored, h.locked, h.mismatch, h.lockRun⟩
    exact discarded_sound _ (enter_sound (now := now) (ct := ct) h' hn hclosed (by simp) hfault fun _ => rfl)
  case closing =>
    split
    next hlock =>
      exact enter_sound (enter_core h) (by simp) (fun _ => hlock) (by simp) (by simpa [enter_faulty] using hfault) (by simp)
    next hlock => exact enter_sound h hn hclosed (fun _ => by simpa using hlock) hfault (by simp)
  case unlocked =>
    split
    next hlock =>
      exact enter_sound (enter_core h) (by simp) (fun _ => hlock) (by simp) (by simpa [enter_faulty] using hfault) (by simp)
    next hlock => exact enter_sound h hn hclosed (fun _ => by simpa using hlock) hfault (by simp)

theorem rest_sound (h : d.Core) (hf : ¬d.faulty) : (d.entered d.rest now ct).sound := by
  unfold Side.rest
  split
  next hlock => exact entered_sound h (by simp) (fun _ => hlock) (by simpa using hf)
  next hlock => exact entered_sound h (by simp) (by simp) (by simpa using hf)

/-- The side after a RELEASE: RELEASED with its lease (R98, R106). -/
theorem released_sound (h : d.Core) (hf : ¬d.faulty) (e : Nat) :
    ({ d.enter .released now ct with leaseEnd := some e } : Side).sound := by
  obtain ⟨hstored, -, hmismatch, hrun⟩ := enter_core (new := .released) (now := now) (ct := ct) h
  refine (Side.sound_iff _).mpr ⟨⟨hstored, fun hl => by simp [Side.enter] at hl, hmismatch, hrun⟩, ⟨?_, ?_, ?_, ?_, ?_, ?_, ?_⟩,
    ?_, ?_⟩ <;> simp [Side.enter]
  exact hf

/-! ## Causes -/

/-- The side with a cause live and stored (R101). -/
def Side.marked (d : Side) (f : FaultCause) : Side := { d with live := d.live.set f true, stored := d.stored.set f true }

/-- The side after a cause has arisen (R101). -/
def Side.arisen (d : Side) (f : FaultCause) (now closeTimeout : Nat) : Side :=
  let e := d.marked f
  match d.state with
  | .isolated | .fault | .absent => e
  | .closed =>
    if d.masked.get f then (if f = .lockLost then e.entered .unlocked now closeTimeout else e)
    else e.entered .fault now closeTimeout
  | .closing =>
    if d.masked.get f then (if f = .closeTimeout then e.entered .unlocked now closeTimeout else e)
    else e.entered .fault now closeTimeout
  | .released | .unlocked => if d.masked.get f then e else e.entered .fault now closeTimeout

end

theorem causeArises_side (s : State) (k : SideId) (f : FaultCause) :
    (s.causeArises k f).side k = (s.side k).arisen f s.now s.settings.closeTimeout := by
  unfold State.causeArises
  simp only
  generalize h2 : (if (s.side k).stored.get f = true then (_ : State) else _) = s2
  have hside : s2.side k = (s.side k).marked f := by
    rw [← h2]
    split
    · exact setSide_side _ _ _
    · rw [raise_side]
      cases k <;> rfl
  have hnow : s2.now = s.now ∧ s2.settings = s.settings := by
    rw [← h2]
    split <;> cases k <;> exact ⟨rfl, rfl⟩
  have henter (new : DoorState) : (s2.enterSide k new f.doorCause 0).side k =
      ((s.side k).marked f).entered new s.now s.settings.closeTimeout := by
    rw [enterSide_side, hside, hnow.1, hnow.2]
  unfold Side.arisen
  cases (s.side k).state <;> simp only
  case closed | closing =>
    split_ifs
    exacts [henter _, hside, henter _]
  case released | unlocked =>
    split_ifs
    exacts [hside, henter _]
  all_goals exact hside

section
variable {d : Side} {now ct : Nat}

theorem marked_core {f : FaultCause} (hstored : ∀ g : FaultCause, d.live.get g = true → d.stored.get g = true)
    (hlocked : (d.marked f).live.closeTimeout = true ∨ (d.marked f).live.lockLost = true → d.lock = false)
    (hmismatch : d.mismatch ≤ 4 ∧ ((d.marked f).live.mismatch = true ↔ d.mismatch = 4)) (hrun : d.lockRun ≤ 50) :
    (d.marked f).Core := by
  refine ⟨fun g hg => ?_, hlocked, hmismatch, hrun⟩
  have hset (c : Causes) : (c.set f true).get g = (decide (g = f) || c.get g) := by cases f <;> cases g <;> rfl
  have hg' : (d.live.set f true).get g = true := hg
  show (d.stored.set f true).get g = true
  rw [hset] at hg' ⊢
  cases hgf : decide (g = f)
  · rw [hgf, Bool.false_or] at hg'
    rw [Bool.false_or]
    exact hstored g hg'
  · rfl

theorem marked_faulty (f : FaultCause) : (d.marked f).faulty ↔ d.faulty ∨ d.masked.get f = false := by
  have hset (g : FaultCause) : (d.stored.set f true).get g = (decide (g = f) || d.stored.get g) := by cases f <;> cases g <;> rfl
  constructor
  · rintro ⟨g, hg, hm⟩
    have hg' : (d.stored.set f true).get g = true := hg
    rw [hset, Bool.or_eq_true, decide_eq_true_eq] at hg'
    obtain rfl | hg' := hg'
    exacts [.inr hm, .inl ⟨g, hg', hm⟩]
  · rintro (⟨g, hg, hm⟩ | hm)
    · exact ⟨g, (hset g).trans (by rw [hg, Bool.or_true]), hm⟩
    · exact ⟨f, (hset f).trans (by simp), hm⟩

/-- A cause that fits the state it arises in leaves the side sound: DRIVE_MISMATCH in any state, CLOSE_TIMEOUT in CLOSING,
LOCK_LOST in CLOSED (R101). -/
theorem arisen_sound {f : FaultCause} (hc : (d.marked f).Core) (hs : d.Shape) (hpresent : d.state ≠ .absent)
    (hclosed : d.state = .closed → f = .lockLost ∨ d.lock = true)
    (hf : f = .mismatch ∨ (f = .closeTimeout ∧ d.state = .closing) ∨ (f = .lockLost ∧ d.state = .closed)) :
    (d.arisen f now ct).sound := by
  have hfaulty := marked_faulty (d := d) f
  have hlive (h : f = .mismatch) : (d.marked f).live.closeTimeout = d.live.closeTimeout ∧
      (d.marked f).live.lockLost = d.live.lockLost := by
    subst h
    exact ⟨rfl, rfl⟩
  -- the side that the cause only marks
  have hstay (hlive' : f = .mismatch) (hm : d.state = .fault ∨ d.state = .isolated ∨ d.masked.get f = true) :
      (d.marked f).sound := by
    refine (Side.sound_iff _).mpr ⟨hc, ⟨hs.relHigh, hs.lease, hs.close, hs.unlocked, hs.pend, fun ha hi => ?_, fun hl => ?_⟩,
      fun h => ?_, fun h => absurd h hpresent⟩
    · rw [hfaulty]
      have := hs.fault ha hi
      change d.state = .fault ↔ _
      obtain hm | hm | hm := hm
      · simp [hm, this.mp hm]
      · exact absurd hm hi
      · simpa [hm] using this
    · rw [(hlive hlive').1, (hlive hlive').2] at hl
      exact hs.live hl
    · exact (hclosed h).resolve_left (by rw [hlive']; simp)
  have hnofault (h : d.state ≠ .fault) (hi : d.state ≠ .isolated) : ¬d.faulty := fun hd => h ((hs.fault hpresent hi).mpr hd)
  have hunlocked (h : d.state ≠ .fault) (hi : d.state ≠ .isolated) (hm : d.masked.get f = true) :
      ((d.marked f).entered .unlocked now ct).sound :=
    entered_sound hc (by simp) (by simp) (by simp [hfaulty, hnofault h hi, hm])
  have hfault (hm : ¬d.masked.get f = true) : ((d.marked f).entered .fault now ct).sound :=
    entered_sound hc (by simp) (by simp) (by simp [hfaulty, hm])
  unfold Side.arisen
  cases hstate : d.state <;> simp only
  case absent => exact absurd hstate hpresent
  case fault | isolated => exact hstay (by simpa [hstate] using hf) (by simp [hstate])
  case closed =>
    split_ifs with hm hl
    · exact hunlocked (by simp [hstate]) (by simp [hstate]) hm
    · exact hstay (by simpa [hstate, hl] using hf) (.inr (.inr hm))
    · exact hfault hm
  case closing =>
    split_ifs with hm hl
    · exact hunlocked (by simp [hstate]) (by simp [hstate]) hm
    · exact hstay (by simpa [hstate, hl] using hf) (.inr (.inr hm))
    · exact hfault hm
  case released | unlocked =>
    split_ifs with hm
    · exact hstay (by simpa [hstate] using hf) (.inr (.inr hm))
    · exact hfault hm

end

end Sys2Proof.Machine

/-!
One step of a door side: the relation that every operation of the door unit keeps (O55, O56).
-/

namespace Sys2Proof.Machine

/-- The states from which a RELEASE takes effect (R106). -/
def DoorState.ready (d : DoorState) : Prop := d = .closed ∨ d = .closing ∨ d = .unlocked

/-- The checks that R105 makes of the car. -/
def State.mayRelease (s : State) : Prop := s.census.state = .valid ∧ s.mon.auxLow = false

/-- A side stays sound and present, and becomes RELEASED only where that is allowed, from a ready state and with a lease. -/
structure SideFit (ok : Prop) (d e : Side) : Prop where
  sound : d.sound → e.sound
  absent : e.state = .absent ↔ d.state = .absent
  released : e.state = .released → d.state = .released ∨ (ok ∧ e.leaseEnd.isSome = true ∧ d.state.ready)

/-- An order's effect on a side: it also makes no side ready that was in FAULT or ISOLATED, and keeps a lease running. -/
structure SideStep (ok : Prop) (d e : Side) : Prop extends SideFit ok d e where
  ready : e.state.ready → d.state.ready ∨ d.state = .released
  lease : d.state = .released → e.state = .released → d.leaseEnd.isSome = true → e.leaseEnd.isSome = true

section
variable {ok ok' : Prop} {d e f : Side}

theorem SideStep.refl (ok : Prop) (d : Side) : SideStep ok d d := ⟨⟨id, Iff.rfl, .inl⟩, .inl, fun _ _ h => h⟩

theorem SideStep.trans (h : SideStep ok d e) (h' : SideStep ok e f) : SideStep ok d f := by
  refine ⟨⟨fun hd => h'.sound (h.sound hd), h'.absent.trans h.absent, fun hf => ?_⟩, fun hf => ?_, fun hd hf hl => ?_⟩
  · obtain he | ⟨hok, hl, hr⟩ := h'.released hf
    · obtain hd | ⟨hok, hl, hr⟩ := h.released he
      exacts [.inl hd, .inr ⟨hok, h'.lease he hf hl, hr⟩]
    · obtain hd | hd := h.ready hr
      exacts [.inr ⟨hok, hl, hd⟩, .inl hd]
  · obtain he | he := h'.ready hf
    · exact h.ready he
    · obtain hd | ⟨-, -, hr⟩ := h.released he
      exacts [.inr hd, .inl hr]
  · obtain he | ⟨-, hl', -⟩ := h'.released hf
    exacts [h'.lease he hf (h.lease hd he hl), hl']

theorem SideStep.mono (h : SideStep ok d e) (himp : ok → ok') : SideStep ok' d e :=
  ⟨⟨h.sound, h.absent, fun hf => (h.released hf).imp_right fun ⟨h1, h2⟩ => ⟨himp h1, h2⟩⟩, h.ready, h.lease⟩

theorem SideFit.mono (h : SideFit ok d e) (himp : ok → ok') : SideFit ok' d e :=
  ⟨h.sound, h.absent, fun hf => (h.released hf).imp_right fun ⟨h1, h2⟩ => ⟨himp h1, h2⟩⟩

/-- A change that leaves the state and the lease. -/
theorem SideStep.of_same (hs : d.sound → e.sound) (hstate : e.state = d.state) (hlease : e.leaseEnd = d.leaseEnd) :
    SideStep ok d e := by
  refine ⟨⟨hs, by rw [hstate], fun h => .inl (hstate ▸ h)⟩, fun h => .inl (hstate ▸ h), fun _ _ h => hlease ▸ h⟩

/-- A change to a state that is neither ABSENT nor RELEASED. -/
theorem SideFit.of_entry (hs : d.sound → e.sound) (hd : d.state ≠ .absent) (ha : e.state ≠ .absent) (hr : e.state ≠ .released) :
    SideFit ok d e := ⟨hs, by simp [hd, ha], fun h => absurd h hr⟩

theorem SideStep.of_entry (hs : d.sound → e.sound) (hd : d.state.ready ∨ d.state = .released) (ha : e.state ≠ .absent)
    (hr : e.state ≠ .released) : SideStep ok d e := by
  refine ⟨.of_entry hs ?_ ha hr, fun _ => hd, fun _ h => absurd h hr⟩
  obtain (h | h | h) | h := hd <;> simp [h]

end

section
variable {d : Side} {now ct : Nat}

theorem discarded_state (d : Side) : d.discarded.state = d.state := by
  rw [discarded_keeps]

/-- The state a side comes to by an entry (R97). -/
theorem entered_state (d : Side) (new : DoorState) (now ct : Nat) : (d.entered new now ct).state =
    if (new = .unlocked ∨ new = .closing) ∧ d.lock = true then .closed else new := by
  unfold Side.entered
  cases new <;> simp only
  case fault | isolated =>
    rw [discarded_state, (enter_keeps _ _ _ _).1]
    simp
  case unlocked | closing => split <;> rw [(enter_keeps _ _ _ _).1] <;> simp_all
  all_goals rw [(enter_keeps _ _ _ _).1]; simp

theorem entered_present (d : Side) {new : DoorState} (now ct : Nat) (h : new ≠ .absent ∧ new ≠ .released) :
    (d.entered new now ct).state ≠ .absent ∧ (d.entered new now ct).state ≠ .released := by
  rw [entered_state]
  split
  exacts [by simp, h]

theorem rest_present (d : Side) : d.rest ≠ .absent ∧ d.rest ≠ .released := by
  unfold Side.rest
  split <;> simp

/-- No unmasked cause is stored at a side that is ready or RELEASED (R102). -/
theorem sound_faultless (h : d.sound) (hd : d.state.ready ∨ d.state = .released) : ¬d.faulty := by
  intro hf
  obtain ⟨-, hs, -, -⟩ := (Side.sound_iff d).mp h
  obtain (hd | hd | hd) | hd := hd <;> have := (hs.fault (by simp [hd]) (by simp [hd])).mpr hf <;> simp [hd] at this

/-- An entry by an order, a lease, or the AUX state, from a ready or RELEASED side. -/
theorem sideStep_entered {ok : Prop} {new : DoorState} (hd : d.state.ready ∨ d.state = .released)
    (hn : new = d.rest ∨ new = .closing) : SideStep ok d (d.entered new now ct) := by
  have hnew : new ≠ .absent ∧ new ≠ .released := by
    obtain rfl | rfl := hn
    exacts [rest_present d, by simp]
  obtain ⟨ha, hr⟩ := entered_present d now ct hnew
  refine .of_entry (fun h => ?_) hd ha hr
  obtain rfl | rfl := hn
  · exact rest_sound h.core (sound_faultless h hd)
  · exact entered_sound h.core hnew (by simp) (by simp [sound_faultless h hd])

end

/-! ## Orders at a side -/

/-- The checks of R105 on a side that a RELEASE reaches: only a ready side becomes RELEASED, and with a lease (R106). -/
theorem sideStep_actOnSide (s : State) (k : SideId) (o : PendingOrder) (h : s.skipReason k o = none) :
    SideStep s.mayRelease (s.side k) ((s.actOnSide k o).side k) := by
  have hok (ha : o.action = .release) : s.mayRelease := by
    unfold State.skipReason at h
    rw [if_neg (by simp [ha])] at h
    split_ifs at h with hc hg hst hx
    exact ⟨by simpa using hc, by simpa using hx⟩
  have hrelease (hst : (s.side k).state.ready) (ha : o.action = .release) : SideStep s.mayRelease (s.side k)
      (((s.enterSide k .released .order o.number).startLease k o).side k) := by
    have hside : ((s.enterSide k .released .order o.number).startLease k o).side k =
        { (s.side k).enter .released s.now s.settings.closeTimeout with leaseEnd := some (o.applyAt + leaseTime o.lease) } := by
      unfold State.startLease
      rw [setSide_side, enterSide_side]
      rfl
    have hstate : (s.side k).state ≠ .absent := by
      obtain h | h | h := hst <;> simp [h]
    rw [hside]
    exact ⟨⟨fun hd => released_sound hd.core (sound_faultless hd (.inl hst)) _, by simp [(enter_keeps _ _ _ _).1, hstate],
      fun _ => .inr ⟨hok ha, rfl, hst⟩⟩, fun _ => .inl hst, fun _ _ _ => rfl⟩
  have hentry (new : DoorState) (hst : (s.side k).state.ready ∨ (s.side k).state = .released)
      (hn : new = (s.side k).rest ∨ new = .closing) : SideStep s.mayRelease (s.side k) ((s.enterSide k new .order o.number).side k) := by
    rw [enterSide_side]
    exact sideStep_entered hst hn
  unfold State.actOnSide
  split
  next hst ha =>
    unfold State.startLease
    rw [setSide_side]
    refine ⟨⟨fun hd => ?_, Iff.rfl, .inl⟩, .inl, fun _ _ _ => rfl⟩
    obtain ⟨h1, h2, h3⟩ := hd
    exact ⟨h1, by simp [hst], h3⟩
  next hst ha => exact hrelease (.inl hst) ha
  next hst ha => exact hrelease (.inr (.inl hst)) ha
  next hst ha => exact hrelease (.inr (.inr hst)) ha
  next hst ha => exact hentry _ (.inr hst) (.inl rfl)
  next hst ha => exact hentry _ (.inr hst) (.inr rfl)
  next hst ha => exact hentry _ (.inl (.inr (.inr hst))) (.inr rfl)
  next => exact .refl _ _

/-- Fields that no clause of a side's soundness reads may change. -/
theorem sideStep_noted (ok : Prop) (d : Side) (v : Option Verdict) (a : Option Action) (w : Option Skip) :
    SideStep ok d { d with lastVerdict := v, lastAction := a, lastSkip := w } := .of_same id rfl rfl

theorem sideStep_cleared (ok : Prop) (d : Side) : SideStep ok d { d with pend := none } := by
  refine .of_same (fun h => ?_) rfl rfl
  obtain ⟨hc, hs, h1, h2⟩ := (Side.sound_iff d).mp h
  exact (Side.sound_iff _).mpr ⟨⟨hc.stored, hc.locked, hc.mismatch, hc.lockRun⟩,
    ⟨hs.relHigh, hs.lease, hs.close, hs.unlocked, by simp, hs.fault, hs.live⟩, h1, h2⟩

theorem setSide_mayRelease (s : State) (k : SideId) (d : Side) : (s.setSide k d).mayRelease = s.mayRelease := by
  cases k <;> rfl

theorem sideStep_applyPending (s : State) (k : SideId) (o : PendingOrder) :
    SideStep s.mayRelease (s.side k) ((s.applyPending k o).side k) := by
  unfold State.applyPending
  simp only
  split
  · unfold State.skipEvent
    rw [raise_side, setSide_side, setSide_side]
    exact (sideStep_cleared _ _).trans (sideStep_noted _ _ _ _ _)
  next h =>
    rw [setSide_setSide, setSide_side]
    have hskip : (s.setSide k { s.side k with pend := none, lastAction := some o.action }).skipReason k o = none := by
      rw [← h]
      cases k <;> rfl
    have hact := sideStep_actOnSide _ k o hskip
    rw [setSide_side, setSide_mayRelease] at hact
    exact ((sideStep_cleared _ _).trans (sideStep_noted _ _ _ _ _)).trans hact

theorem sideStep_handToSide (s : State) (k : SideId) (o : PendingOrder) :
    SideStep s.mayRelease (s.side k) ((s.handToSide k o).side k) := by
  have hnoted (v : Option Verdict) : SideStep s.mayRelease (s.side k) { s.side k with lastVerdict := v } :=
    sideStep_noted _ _ _ _ _
  unfold State.handToSide
  simp only
  split_ifs with hv
  · have happly := sideStep_applyPending (s.setSide k { s.side k with lastVerdict := some (s.verdict k o.action) }) k o
    rw [setSide_side, setSide_mayRelease] at happly
    exact (hnoted _).trans happly
  · rw [setSide_setSide, setSide_side, setSide_side]
    refine .of_same (fun h => ?_) rfl rfl
    obtain ⟨hc, hs, h1, h2⟩ := (Side.sound_iff _).mp h
    refine (Side.sound_iff _).mpr ⟨⟨hc.stored, hc.locked, hc.mismatch, hc.lockRun⟩,
      ⟨hs.relHigh, hs.lease, hs.close, hs.unlocked, fun _ => ?_, hs.fault, hs.live⟩, h1, h2⟩
    unfold State.verdict at hv
    simp only at hv
    split_ifs at hv with ha hf
    all_goals exact ⟨fun h => ha (.inl h), fun h => ha (.inr h), hf⟩
  · rw [setSide_side]
    exact hnoted _

/-! ## One step of the door unit -/

/-- The two sides make steps of their own; the settings, the running part and the AUX state stay, and the census becomes VALID
nowhere. -/
structure DoorStep (s t : State) : Prop where
  running : t.port.running = s.port.running
  settings : t.settings = s.settings
  aux : t.mon.auxLow = s.mon.auxLow
  valid : t.census.state = .valid → s.census.state = .valid
  sides : ∀ k : SideId, SideStep s.mayRelease (s.side k) (t.side k)

section
variable {s t u : State}

theorem DoorStep.refl (s : State) : DoorStep s s := ⟨rfl, rfl, rfl, id, fun _ => .refl _ _⟩

theorem DoorStep.mayRelease (h : DoorStep s t) (ht : t.mayRelease) : s.mayRelease := ⟨h.valid ht.1, h.aux.symm.trans ht.2⟩

theorem DoorStep.trans (h : DoorStep s t) (h' : DoorStep t u) : DoorStep s u :=
  ⟨h'.running.trans h.running, h'.settings.trans h.settings, h'.aux.trans h.aux, fun hv => h.valid (h'.valid hv),
    fun k => (h.sides k).trans ((h'.sides k).mono h.mayRelease)⟩

/-- An operation on one side. -/
theorem DoorStep.of_side {k : SideId} (h : OnlySide k s t) (hk : SideStep s.mayRelease (s.side k) (t.side k)) : DoorStep s t := by
  obtain ⟨d1, d2, l, ht⟩ := h.onlySides
  refine ⟨by rw [ht], by rw [ht], by rw [ht], by rw [ht]; exact id, fun j => ?_⟩
  by_cases hj : j = k
  · subst hj
    exact hk
  · rw [h.other hj]
    exact .refl _ _

/-- An operation elsewhere. -/
theorem DoorStep.of_touches {P : List Part} (h : Touches P s t) (hP : ∀ p ∈ [Part.side1, .side2, .port, .settings, .mon], p ∉ P)
    (hv : t.census.state = .valid → s.census.state = .valid) : DoorStep s t := by
  have hk (p : Part) (hp : p ∈ [Part.side1, .side2, .port, .settings, .mon]) : p.kept s t := (h p (hP p hp)).1
  have hport : t.port = s.port := hk .port (by simp)
  have hset : t.settings = s.settings := hk .settings (by simp)
  have hmon : t.mon = s.mon := hk .mon (by simp)
  have h1 : t.door.side1 = s.door.side1 := hk .side1 (by simp)
  have h2 : t.door.side2 = s.door.side2 := hk .side2 (by simp)
  refine ⟨by rw [hport], hset, by rw [hmon], hv, fun k => ?_⟩
  cases k
  · rw [side_one, side_one, h1]
    exact .refl _ _
  · rw [side_two, side_two, h2]
    exact .refl _ _

theorem doorStep_handToSide (s : State) (k : SideId) (o : PendingOrder) : DoorStep s (s.handToSide k o) :=
  .of_side (onlySide_handToSide s k o) (sideStep_handToSide s k o)

theorem doorStep_handOrder (s : State) (o : Order) (gen : Word16) (applyAt : Nat) (late : Bool) (position : Nat) :
    DoorStep s (s.handOrder o gen applyAt late position).1 := by
  unfold State.handOrder
  simp only
  have hif {p : Prop} [Decidable p] (v : State) (k : SideId) (o : PendingOrder) :
      DoorStep v (if p then v.handToSide k o else v) := by
    split
    exacts [doorStep_handToSide v k o, .refl v]
  exact (hif s .one _).trans (hif _ .two _)

end

end Sys2Proof.Machine

/-!
Relations between the states before and after an operation that the operations elsewhere keep: the chains of operations that follow
a span's exit, its coming UP and the end of its frames keep such a relation when the parts of the chain do.
-/

namespace Sys2Proof.Machine

/-- A relation that is kept by every operation that touches nothing outside `P`, and that chains. -/
structure FrameRel (P : List Part) (R : State → State → Prop) : Prop where
  frame : ∀ {s t : State}, Touches P s t → R s t
  trans : ∀ {s t u : State}, R s t → R t u → R s u

section
variable {P : List Part} {R : State → State → Prop} (hR : FrameRel P R)
include hR

theorem FrameRel.refl (s : State) : R s s := hR.frame (Touches.refl P s)

omit hR in
theorem FrameRel.branch {s t u : State} {p : Prop} [Decidable p] (ht : p → R s t) (hu : ¬p → R s u) : R s (if p then t else u) := by
  split
  exacts [ht ‹_›, hu ‹_›]

/-- A guarded operation. -/
theorem FrameRel.when {s t : State} {p : Prop} [Decidable p] (ht : p → R s t) : R s (if p then t else s) :=
  FrameRel.branch ht fun _ => hR.refl s

theorem FrameRel.branch_refl {s t : State} {p : Prop} [Decidable p] (ht : ¬p → R s t) : R s (if p then s else t) :=
  FrameRel.branch (fun _ => hR.refl s) ht

theorem FrameRel.setSpan (hP : [.choices, .spanA, .spanB] ⊆ P) (s : State) (x : SpanId) (u : Span) : R s (s.setSpan x u) :=
  hR.frame ((touches_setSpan s x u).mono (by simp only [List.cons_subset] at hP; cases x <;> simp [spanPart, hP]))

theorem FrameRel.raise (hP : [.choices, .spanA, .spanB] ⊆ P) (s : State) (g : Nat) (e : Event) : R s (s.raise g e) :=
  hR.frame ((touches_raised s _).mono (by simp only [List.cons_subset] at hP; simp [hP]))

theorem FrameRel.send (hP : [.choices, .spanA, .spanB] ⊆ P) (s : State) (x : SpanId) (f : Frame) : R s (s.send x f) := by
  simp only [List.cons_subset] at hP
  exact hR.frame ((touches_send x f (spanPart_mem hP.2.1 hP.2.2.1 x) hP.1).mpr (Touches.refl _ _))

theorem FrameRel.sendIf (hP : [.choices, .spanA, .spanB] ⊆ P) (s : State) (x : Option SpanId) (f : Frame) : R s (s.sendIf x f) := by
  simp only [List.cons_subset] at hP
  exact hR.frame ((touches_sendIf x f hP.2.1 hP.2.2.1 hP.1).mpr (Touches.refl _ _))

theorem FrameRel.offer (hP : [.choices, .spanA, .spanB] ⊆ P) (s : State) (x : SpanId) (f : TxFrame) : R s (s.offer x f).1 := by
  simp only [List.cons_subset] at hP
  exact hR.frame ((touches_offer x f (spanPart_mem hP.2.1 hP.2.2.1 x) hP.1).mpr (Touches.refl _ _))

theorem FrameRel.eitherOrder (hP : [.choices, .spanA, .spanB] ⊆ P) {f g : State → State} (hf : ∀ s, R s (f s)) (hg : ∀ s, R s (g s))
    (s : State) : R s (s.eitherOrder f g) := by
  have hc : R s { s with choices := s.choices + 1 } :=
    hR.frame ((touches_choices s _).mono (by simp only [List.cons_subset] at hP; simp [hP]))
  unfold State.eitherOrder
  simp only
  split
  · exact hR.trans (hR.trans hc (hf _)) (hg _)
  · exact hR.trans (hR.trans hc (hg _)) (hf _)

theorem FrameRel.takeFrame (hP : [.choices, .spanA, .spanB] ⊆ P) {f : RxFrame → State → State} (hf : ∀ r s, R s (f r s))
    (s : State) (x : SpanId) (k : FrameKind) : R s (s.takeFrame x k f) := by
  unfold State.takeFrame
  simp only
  split
  · exact hR.when fun _ => hR.trans (hR.setSpan hP s x _) (hf _ _)
  · exact hR.refl s

theorem FrameRel.takeWhileUp (hP : [.choices, .spanA, .spanB] ⊆ P) {f : Frame → Nat → State → State} (hf : ∀ r n s, R s (f r n s))
    (s : State) (x : SpanId) (k : FrameKind) : R s (s.takeWhileUp x k f) :=
  hR.takeFrame hP (fun _ _ => hR.when fun _ => hf _ _ _) s x k

theorem FrameRel.takeWave (hP : [.choices, .spanA, .spanB] ⊆ P) {f : Frame → Nat → State → State} (hf : ∀ r n s, R s (f r n s))
    (s : State) (x : SpanId) (k : FrameKind) : R s (s.takeWave x k f) :=
  hR.takeWhileUp hP (fun _ _ _ => hR.when fun _ => hf _ _ _) s x k

theorem FrameRel.serve (hr : Part.req ∈ P) {f : Request → State → State} (hf : ∀ r s, R s (f r s)) (s : State) (p : Request → Bool) :
    R s (s.serve p f) := by
  unfold State.serve
  split
  · exact hR.trans (hR.frame ((touches_req s _).mono (by simpa))) (hf _ _)
  · exact hR.refl s

/-! ## Lost and completed frames -/

theorem FrameRel.tellLost (hP : [.choices, .spanA, .spanB] ⊆ P) (hrelay : Part.relay ∈ P)
    (hlost : ∀ (s : State) (number : Byte) (why : StopReason), R s (s.leadOrderLost number why)) (s : State) (why : StopReason)
    (f : TxFrame) : R s (s.tellLost why f) := by
  simp only [List.cons_subset] at hP
  unfold State.tellLost
  split
  · exact hR.refl s
  · exact hlost _ _ _
  · exact hR.frame ((touches_forwardedLost hP.2.1 hP.2.2.1 hP.1 _ _ _ hrelay).mpr (Touches.refl _ _))

theorem FrameRel.offerOrder (hP : [.choices, .spanA, .spanB] ⊆ P) (hlost : ∀ s why f, R s (State.tellLost s why f)) (s : State)
    (x : SpanId) (f : TxFrame) : R s (s.offerOrder x f) := by
  have hoffer := hR.offer hP s x f
  unfold State.offerOrder
  split
  all_goals
    rename_i heq
    rw [heq] at hoffer
  exacts [hoffer, hR.trans hoffer (hlost _ _ _), hR.trans hoffer (hlost _ _ _)]

theorem FrameRel.endJam (hP : [.choices, .spanA, .spanB] ⊆ P) (hlost : ∀ s why f, R s (State.tellLost s why f)) (s : State)
    (x : SpanId) (jamEnd : Nat) : R s (s.endJam x jamEnd) := by
  have hset := hR.setSpan hP s x
  unfold State.endJam
  simp only
  split
  · exact hset _
  · refine hR.trans (hset _) (FrameRel.branch (fun _ => ?_) fun _ => hR.setSpan hP _ x _)
    exact hR.trans (hR.trans (hR.setSpan hP _ x _) (hR.raise hP _ _ _)) (hlost _ _ _)

theorem FrameRel.completeFrame (hP : [.choices, .spanA, .spanB] ⊆ P)
    (hcompleted : ∀ (s : State) (number : Byte) (start : Nat), R s (s.leadOrderCompleted number start)) (s : State) (x : SpanId)
    (f : TxFrame) (start endAt : Nat) : R s (s.completeFrame x f start endAt) := by
  unfold State.completeFrame
  simp only
  generalize Span.mk .. = u
  refine hR.trans (hR.setSpan hP s x u) ?_
  unfold State.tellCompleted
  split
  exacts [hR.refl _, hR.refl _, hcompleted _ _ _]

/-! ## Exits of a span -/

section
variable (hP : [.choices, .spanA, .spanB] ⊆ P) (hlost : ∀ s why f, R s (State.tellLost s why f))
  (hdown : ∀ (s : State) (x : SpanId) (cause : Cause) (lost : Word32), R s (s.spanDownReport x cause lost))
include hP hlost hdown

theorem FrameRel.exitFollows (s : State) (x : SpanId) (u : Span) (cause : Cause) : R s (s.exitFollows x u cause) := by
  have htell (fs : List TxFrame) (v : State) : R v (fs.foldl (fun w f => w.tellLost .spanEnd f) v) := by
    induction fs generalizing v with
    | nil => exact hR.refl v
    | cons f fs ih => exact hR.trans (hlost v _ f) (ih _)
  unfold State.exitFollows
  simp only
  refine FrameRel.branch (fun _ => hR.refl s) fun _ => FrameRel.branch (fun _ => hdown _ _ _ _) fun _ => ?_
  exact hR.eitherOrder hP (htell u.queued) (fun v => hdown v _ _ _) s

theorem FrameRel.exitSpan (s : State) (x : SpanId) (target : ExitTo) (cause : Cause) : R s (s.exitSpan x target cause) :=
  hR.trans (hR.setSpan hP s x _) (hR.exitFollows hP hlost hdown _ _ _ _)

theorem FrameRel.exitWhere (s : State) (p : SpanId → Bool) (target : ExitTo) (cause : Cause) : R s (s.exitWhere p target cause) := by
  have hspans (a b : Span) : R s { s with spanA := a, spanB := b } :=
    hR.trans (hR.setSpan hP s .a a) (hR.setSpan hP _ .b b)
  have hfollow (x : SpanId) (u : Span) (v : State) : R v (if p x then v.exitFollows x u cause else v) :=
    hR.when fun _ => hR.exitFollows hP hlost hdown v x u cause
  unfold State.exitWhere
  simp only
  generalize ite (p .a = true) (s.spanA.exit s.now cause target) s.spanA = a
  generalize ite (p .b = true) (s.spanB.exit s.now cause target) s.spanB = b
  refine hR.trans (hspans a b) (FrameRel.branch (fun _ => ?_) fun _ => ?_)
  · exact hR.eitherOrder hP (hfollow .a s.spanA) (hfollow .b s.spanB) _
  · exact hR.trans (hfollow .a s.spanA _) (hfollow .b s.spanB _)

section
variable (hup : ∀ (s : State) (x : SpanId) (p : Partner), R s (s.spanUpReport x p))
include hup

theorem FrameRel.greet (s : State) (x : SpanId) (m : HelloMsg) : R s (s.greet x m) := by
  unfold State.greet
  refine FrameRel.branch (fun _ => hR.exitSpan hP hlost hdown s x _ _) fun _ => FrameRel.branch (fun _ => ?_) fun _ => hR.setSpan hP s x _
  exact hR.trans (hR.trans (hR.setSpan hP s x _) (hR.send hP _ x _)) (hup _ _ _)

theorem FrameRel.takeHello (s : State) (x : SpanId) (f : Frame) : R s (s.takeHello x f) := by
  have hexit := hR.exitSpan hP hlost hdown s x
  have hgreet := hR.greet hP hlost hdown hup
  have hgreeting : R s (s.enterGreeting x) := hR.trans (hR.setSpan hP s x _) (hR.send hP _ x _)
  have hsearching (m : HelloMsg) : R s (s.helloWhileSearching x m) :=
    FrameRel.branch (fun _ => hexit _ _) fun _ => FrameRel.branch (fun _ => hR.refl s) fun _ => hR.trans hgreeting (hgreet _ _ _)
  unfold State.takeHello
  split
  · exact hR.refl s
  split
  · exact hsearching _
  · exact hsearching _
  · exact hgreet _ _ _
  · unfold State.helloWhileUp
    split
    · exact hR.refl s
    refine FrameRel.branch (fun _ => hexit _ _) fun _ => FrameRel.branch (fun _ => hexit _ _) fun _ => FrameRel.branch (fun _ => hexit _ _) fun _ => ?_
    exact hR.trans (hR.setSpan hP s x _) (hR.when fun _ => hR.send hP _ x _)
  · exact hR.refl s
  · exact hR.refl s

end

theorem FrameRel.takeKeepalive (s : State) (x : SpanId) (f : Frame) : R s (s.takeKeepalive x f) := by
  unfold State.takeKeepalive
  split
  · exact FrameRel.branch (fun _ => hR.exitSpan hP hlost hdown s x _ _) fun _ => hR.setSpan hP s x _
  · exact hR.refl s

end

end

end Sys2Proof.Machine

/-!
The door step of every chain of operations that reaches the door unit from the spans: the lead's orders that a span reports lost or
completed, and the span reports to the census engine (O55, O56).
-/

namespace Sys2Proof.Machine

/-! ## The census record through frames, slots and events -/

theorem census_kept {P : List Part} {s t : State} (h : Touches P s t) (hP : Part.census ∉ P) : t.census = s.census := (h _ hP).1

@[simp] theorem send_census (s : State) (x : SpanId) (f : Frame) : (s.send x f).census = s.census :=
  census_kept (P := [.spanA, .spanB, .choices]) ((touches_send x f (spanPart_mem (by simp) (by simp) x) (by simp)).mpr
    (Touches.refl _ _)) (by simp)

@[simp] theorem sendIf_census (s : State) (x : Option SpanId) (f : Frame) : (s.sendIf x f).census = s.census := by
  cases x
  exacts [rfl, send_census _ _ _]

@[simp] theorem sendVoid_census (s : State) (x : SpanId) (m : VoidMark) : (s.sendVoid x m).census = s.census := by
  unfold State.sendVoid
  split
  exacts [send_census _ _ _, rfl]

@[simp] theorem sendBreak_census (s : State) (x : SpanId) (cause : Byte) : (s.sendBreak x cause).census = s.census :=
  sendIf_census _ _ _

@[simp] theorem completeIf_census (s : State) (k : Option Nat) (o : SlotOutcome) (d : Byte) (r : List Byte) :
    (s.completeIf k o d r).census = s.census := by cases k <;> rfl

@[simp] theorem completeCensusSlot_census (s : State) (o : SlotOutcome) (d : Byte) (n : Nat) (position : Byte) :
    (s.completeCensusSlot o d n position).census = { s.census with slot := none } := by
  unfold State.completeCensusSlot
  rw [completeIf_census, setCensus_census]

@[simp] theorem censusFailedEvent_census (s : State) (reason : FailReason) (position : Byte) :
    (s.censusFailedEvent reason position).census = s.census := rfl

theorem startSettle_census (s : State) (retry : Nat) : (s.startSettle retry).census =
    if s.settings.autoCensus = 1 then { s.census with settleEnd := some (s.now + 500 * ms), retry := retry } else s.census := by
  unfold State.startSettle
  split <;> rfl

@[simp] theorem startSettle_state (s : State) (retry : Nat) : (s.startSettle retry).census.state = s.census.state := by
  rw [startSettle_census]
  split <;> rfl

@[simp] theorem enterCensus_state (s : State) (c : CensusState) : (s.enterCensus c).census.state = c := by
  rw [enterCensus_census]

@[simp] theorem leaveCensus_state (s : State) : s.leaveCensus.census.state = .uncensused := enterCensus_state _ _

@[simp] theorem reportSilent_state (s : State) (c : Context) : (s.reportSilent c).census.state = .uncensused :=
  leaveCensus_state _

@[simp] theorem failCensus_state (s : State) (reason : FailReason) (position : Byte) :
    (s.failCensus reason position).census.state = .uncensused := by
  unfold State.failCensus
  simp only
  split <;> simp

theorem goStale_state (s : State) (position lostEnd cause : Byte) : (s.goStale position lostEnd cause).census.state =
    if s.census.state = .valid then .stale else s.census.state := by
  unfold State.goStale
  split
  · simp
  · rfl

theorem goStale_state_ne (s : State) (position lostEnd cause : Byte) : (s.goStale position lostEnd cause).census.state ≠ .valid := by
  rw [goStale_state]
  split
  exacts [by simp, ‹_›]

/-- A span event leaves no VALID consist that it did not find (R60, R63, R64). -/
theorem censusSpanUp_valid (s : State) (x : SpanId) (h : (s.censusSpanUp x).census.state = .valid) : s.census.state = .valid := by
  unfold State.censusSpanUp State.leadSpanEvent at h
  split at h <;> split_ifs at h
  all_goals first | exact h | simp [goStale_state_ne] at h

theorem memberSpanLost_valid (s : State) (x : SpanId) (code : Byte) (h : (s.memberSpanLost x code).census.state = .valid) :
    s.census.state = .valid := by
  unfold State.memberSpanLost at h
  split_ifs at h
  · exact absurd h (goStale_state_ne _ _ _ _)
  · simp at h
  · exact h

theorem censusSpanDown_valid (s : State) (x : SpanId) (cause : Cause) (h : (s.censusSpanDown x cause).census.state = .valid) :
    s.census.state = .valid := by
  unfold State.censusSpanDown State.leadSpanEvent at h
  split at h
  · split_ifs at h
    · simp at h
    · exact h
    · simp [goStale_state_ne] at h
  · split at h <;> (try split_ifs at h)
    case h_8 | h_9 => exact memberSpanLost_valid _ _ _ h
    all_goals first | exact h | simp at h

/-! ## The frame of a door step -/

/-- The parts that say nothing of a door side's soundness or of a RELEASE. -/
def besidesDoors : List Part :=
  [.now, .clock, .choices, .pending, .mem, .pub, .trail, .req, .slotTally, .faultTally, .bypass, .spanA, .spanB, .table, .relay,
    .doorLead, .summary, .heat, .fire]

theorem frameRel_doorStep : FrameRel besidesDoors DoorStep where
  frame h := .of_touches h (by simp [besidesDoors]) fun hv => by rwa [← census_kept h (by simp [besidesDoors])]
  trans := DoorStep.trans

theorem links_besidesDoors : [.choices, .spanA, .spanB] ⊆ besidesDoors := by simp [besidesDoors]

theorem doorStep_leadTakesOwn (s : State) (f : Flight) (applyAt : Nat) : DoorStep s (s.leadTakesOwn f applyAt) := by
  have hand := doorStep_handOrder s f.order f.gen applyAt false 1
  have hown (u : State) (o : Outstanding) : DoorStep u { u with door := { u.door with outstanding := some o } } :=
    frameRel_doorStep.frame ((touches_orders u _ rfl).mono (by simp [besidesDoors]))
  unfold State.leadTakesOwn
  simp only
  split
  · exact hand
  · split
    exacts [hand.trans (hown _ _), hand]

theorem doorStep_finishOrder (s : State) (o : Outstanding) (m : OrderAck) (outcome : SlotOutcome) (detail : Byte) :
    DoorStep s (s.finishOrder o m outcome detail) :=
  frameRel_doorStep.frame ((touches_finishOrder (by simp [besidesDoors]) (by simp [besidesDoors]) (by simp [besidesDoors])
    (by simp [besidesDoors]) _ _ _ _).mpr (Touches.refl _ _))

theorem doorStep_takesAck (s : State) (m : OrderAck) : DoorStep s (s.leadTakesAck m) :=
  frameRel_doorStep.frame ((touches_leadTakesAck (by simp [besidesDoors]) (by simp [besidesDoors]) (by simp [besidesDoors])
    (by simp [besidesDoors]) _).mpr (Touches.refl _ _))

theorem doorStep_inFlight (s : State) (fs : List Flight) : DoorStep s { s with door := { s.door with inFlight := fs } } :=
  frameRel_doorStep.frame ((touches_orders s _ rfl).mono (by simp [besidesDoors]))

theorem doorStep_leadOrderLost (s : State) (number : Byte) (why : StopReason) : DoorStep s (s.leadOrderLost number why) := by
  unfold State.leadOrderLost
  split
  · exact .refl s
  next f rest _ =>
    have h := (doorStep_inFlight s rest).trans (doorStep_leadTakesOwn _ f (s.now + f.d0 * delayUnit))
    simp only
    split
    · split
      exacts [h.trans (doorStep_finishOrder _ _ _ _ _), h]
    · exact h

theorem doorStep_leadOrderCompleted (s : State) (number : Byte) (start : Nat) : DoorStep s (s.leadOrderCompleted number start) := by
  unfold State.leadOrderCompleted
  split
  · exact .refl s
  next f rest _ =>
    simp only
    generalize start + _ = applyAt
    have h := (doorStep_inFlight s rest).trans (doorStep_leadTakesOwn _ f applyAt)
    split
    · split
      · split
        exacts [h.trans (doorStep_takesAck _ _), h]
      · exact h
    · exact h

theorem doorStep_tellLost (s : State) (why : StopReason) (f : TxFrame) : DoorStep s (s.tellLost why f) :=
  frameRel_doorStep.tellLost links_besidesDoors (by simp [besidesDoors]) doorStep_leadOrderLost s why f

theorem doorStep_reviewEnd (s : State) : DoorStep s s.reviewEnd :=
  frameRel_doorStep.frame ((touches_reviewEnd (by simp [besidesDoors]) (by simp [besidesDoors]) (by simp [besidesDoors])
    (by simp [besidesDoors]) (by simp [besidesDoors]) (by simp [besidesDoors])).mpr (Touches.refl _ _))

/-- A census operation that makes no consist VALID. -/
theorem doorStep_census {s t : State} (h : Touches censusParts s t) (hv : t.census.state = .valid → s.census.state = .valid) :
    DoorStep s t := .of_touches h (by simp [censusParts, eventParts]) hv

theorem doorStep_spanDownReport (s : State) (x : SpanId) (cause : Cause) (lost : Word32) :
    DoorStep s (s.spanDownReport x cause lost) := by
  have hrelay (u : State) : DoorStep u (u.relaySpanDown x) :=
    frameRel_doorStep.frame ((touches_relaySpanDown (by simp [besidesDoors]) (by simp [besidesDoors]) (by simp [besidesDoors]) _
      (by simp [besidesDoors])).mpr (Touches.refl _ _))
  have hcensus (u : State) : DoorStep u (u.censusSpanDown x cause) :=
    doorStep_census ((touches_censusSpanDown (List.Subset.refl _) x cause).mpr (Touches.refl _ _)) (censusSpanDown_valid u x cause)
  exact (((frameRel_doorStep.raise links_besidesDoors s _ _).trans (hrelay _)).trans (hcensus _)).trans (doorStep_reviewEnd _)

theorem doorStep_spanUpReport (s : State) (x : SpanId) (p : Partner) : DoorStep s (s.spanUpReport x p) := by
  have hcensus (u : State) : DoorStep u (u.censusSpanUp x) :=
    doorStep_census ((touches_censusSpanUp (List.Subset.refl _) x).mpr (Touches.refl _ _)) (censusSpanUp_valid u x)
  exact ((frameRel_doorStep.raise links_besidesDoors s _ _).trans (hcensus _)).trans (doorStep_reviewEnd _)

end Sys2Proof.Machine

/-!
O55 and O56: what each command makes of the door sides.
-/

namespace Sys2Proof.Machine

/-- What a command makes of the door unit: it stays sound, and a side that becomes RELEASED passed the checks of R105 from a
ready state and has a lease. -/
structure DoorsHold (s t : State) : Prop where
  sound : s.doorsSound → t.doorsSound
  released : ∀ k : SideId, (t.side k).state = .released → (s.side k).state = .released ∨
    (s.mayRelease ∧ (t.side k).leaseEnd.isSome = true ∧ (s.side k).state.ready)

/-- Each side fits, while the settings, the running part and the AUX state stay. -/
structure DoorFit (ok : Prop) (s t : State) : Prop where
  running : t.port.running = s.port.running
  settings : t.settings = s.settings
  aux : t.mon.auxLow = s.mon.auxLow
  sides : ∀ k : SideId, SideFit ok (s.side k) (t.side k)

section
variable {s t u : State} {ok : Prop}

theorem DoorStep.fit (h : DoorStep s t) : DoorFit s.mayRelease s t :=
  ⟨h.running, h.settings, h.aux, fun k => (h.sides k).toSideFit⟩

/-- The releases that a command makes keep off a side in AUX LOW. -/
theorem DoorFit.hold (h : DoorFit ok s t) (hok : ok → s.mayRelease) : DoorsHold s t := by
  have hfit (k : SideId) := (h.sides k).mono hok
  refine ⟨fun ⟨h1, h2, ha1, ha2, hlow⟩ => ?_, fun k hk => (hfit k).released hk⟩
  have hone := hfit .one
  have htwo := hfit .two
  rw [side_one, side_one] at hone
  rw [side_two, side_two] at htwo
  have hrel {d e : Side} (hf : SideFit s.mayRelease d e) (hd : d.state ≠ .released) (hl : s.mon.auxLow = true) :
      e.state ≠ .released := by
    intro he
    obtain hd' | ⟨⟨-, hok⟩, -, -⟩ := hf.released he
    exacts [hd hd', by simp [hl] at hok]
  refine ⟨hone.sound h1, htwo.sound h2, ?_, ?_, fun hl => ?_⟩
  · rw [hone.absent, h.running, h.settings, ha1]
  · rw [htwo.absent, h.running, h.settings, ha2]
  · rw [h.aux] at hl
    obtain ⟨hl1, hl2⟩ := hlow hl
    exact ⟨hrel hone hl1 hl, hrel htwo hl2 hl⟩

theorem SideFit.refl (ok : Prop) (d : Side) : SideFit ok d d := (SideStep.refl ok d).toSideFit

theorem DoorFit.refl (ok : Prop) (s : State) : DoorFit ok s s := ⟨rfl, rfl, rfl, fun _ => .refl _ _⟩

/-- Where no side is released, fits chain. -/
theorem DoorFit.trans (h : DoorFit False s t) (h' : DoorFit False t u) : DoorFit False s u := by
  refine ⟨h'.running.trans h.running, h'.settings.trans h.settings, h'.aux.trans h.aux, fun k => ?_⟩
  have hk := h.sides k
  have hk' := h'.sides k
  refine ⟨fun hd => hk'.sound (hk.sound hd), hk'.absent.trans hk.absent, fun hr => ?_⟩
  obtain hr | ⟨hf, -⟩ := hk'.released hr
  exacts [(hk.released hr).imp_right fun h => h.1.elim, hf.elim]

/-- An operation on one side, whatever else it does outside the doors. -/
theorem DoorFit.of_side {P : List Part} (k : SideId) (h : Touches (sidePart k :: P) s t)
    (hP : ∀ p ∈ [Part.side1, .side2, .port, .settings, .mon], p ∉ P) (hk : SideFit ok (s.side k) (t.side k)) : DoorFit ok s t := by
  have hkept (p : Part) (hp : p ∈ [Part.side1, .side2, .port, .settings, .mon]) (hne : p ≠ sidePart k) : p.kept s t :=
    (h p (by simp [hne, hP p hp])).1
  have hport : t.port = s.port := hkept .port (by simp) (by cases k <;> simp [sidePart])
  have hmon : t.mon = s.mon := hkept .mon (by simp) (by cases k <;> simp [sidePart])
  refine ⟨by rw [hport], hkept .settings (by simp) (by cases k <;> simp [sidePart]), by rw [hmon], fun j => ?_⟩
  by_cases hj : j = k
  · subst hj
    exact hk
  · have hside : (sidePart j).kept s t := hkept _ (by cases j <;> simp [sidePart]) (by
      cases j <;> cases k <;> simp_all [sidePart])
    have : t.side j = s.side j := by cases j <;> exact hside
    rw [this]
    exact .refl _ _

theorem DoorFit.of_parts (h1 : t.door.side1 = s.door.side1) (h2 : t.door.side2 = s.door.side2)
    (hrun : t.port.running = s.port.running) (hset : t.settings = s.settings) (haux : t.mon.auxLow = s.mon.auxLow) : DoorFit ok s t := by
  refine ⟨hrun, hset, haux, fun k => ?_⟩
  cases k
  · rw [side_one, side_one, h1]
    exact .refl _ _
  · rw [side_two, side_two, h2]
    exact .refl _ _

/-- Operations that touch no door. -/
theorem frameRel_doorFit : FrameRel (.census :: besidesDoors) (DoorFit False) where
  frame {s t} h := by
    have hk (p : Part) (hp : p ∉ Part.census :: besidesDoors) : p.kept s t := (h p hp).1
    have hport : t.port = s.port := hk .port (by simp [besidesDoors])
    have hmon : t.mon = s.mon := hk .mon (by simp [besidesDoors])
    exact .of_parts (hk .side1 (by simp [besidesDoors])) (hk .side2 (by simp [besidesDoors])) (by rw [hport])
      (hk .settings (by simp [besidesDoors])) (by rw [hmon])
  trans := DoorFit.trans

end

/-- The end of a step and the passing of time leave the doors. -/
theorem DoorsHold.settle {s u : State} {dt : Nat} (h : DoorsHold (s.advance dt) u) : DoorsHold s u.settle := by
  obtain ⟨hs, hr⟩ := h
  refine ⟨fun hd => ?_, fun k hk => ?_⟩
  · obtain ⟨h1, h2, h3, h4, h5⟩ := hs hd
    refine ⟨?_, ?_, ?_, ?_, ?_⟩ <;> simpa
  · rw [settle_side] at hk ⊢
    simpa [State.mayRelease] using hr k hk

/-! ## Entries by no order -/

section
variable {ok : Prop} {d : Side} {now ct : Nat}

theorem sideFit_entered {new : DoorState} (hd : d.state ≠ .absent) (hn : new ≠ .absent ∧ new ≠ .released)
    (hs : d.sound → (d.entered new now ct).sound) : SideFit ok d (d.entered new now ct) := by
  obtain ⟨ha, hr⟩ := entered_present d now ct hn
  exact .of_entry hs hd ha hr

/-- Isolation fits every present side (R110). -/
theorem sideFit_isolated (hd : d.state ≠ .absent) : SideFit ok d (d.entered .isolated now ct) :=
  sideFit_entered hd (by simp) fun h => entered_sound h.core (by simp) (by simp) (by simp)

theorem stored_anyUnmasked (d : Side) : d.stored.anyUnmasked d.masked = true ↔ d.faulty := anyUnmasked_iff _ _

theorem restored_eq (h : d.Core) : d.restored = if d.stored.anyUnmasked d.masked then .fault else d.rest := by
  have hlive : d.live.anyUnmasked d.masked = true → d.stored.anyUnmasked d.masked = true := by
    rw [anyUnmasked_iff, anyUnmasked_iff]
    rintro ⟨f, hf, hm⟩
    exact ⟨f, h.stored f hf, hm⟩
  unfold Side.restored
  simp only [Bool.or_eq_true, or_iff_right_of_imp hlive]

theorem restored_present (d : Side) : d.restored ≠ .absent ∧ d.restored ≠ .released := by
  unfold Side.restored
  split
  exacts [by simp, rest_present d]

theorem sideFit_restored (hd : d.state ≠ .absent) : SideFit ok d (d.entered d.restored now ct) := by
  refine sideFit_entered hd (restored_present d) fun h => ?_
  rw [restored_eq h.core]
  split
  next hf => exact entered_sound h.core (by simp) (by simp) (by simp [(stored_anyUnmasked d).mp hf])
  next hf => exact rest_sound h.core fun hd => hf ((stored_anyUnmasked d).mpr hd)

/-- A stored cause is cleared at a side with none live (R102). -/
theorem sideFit_cleared (hd : d.state ≠ .absent) (hl : d.live.any = false) (named : Byte) :
    SideFit ok d (if d.state = .fault ∧ (d.stored.clear named).anyUnmasked d.masked = false
      then ({ d with stored := d.stored.clear named } : Side).entered d.rest now ct
      else { d with stored := d.stored.clear named }) := by
  have hnone (f : FaultCause) : d.live.get f = false := by
    simp only [Causes.any, Bool.or_eq_false_iff] at hl
    cases f
    exacts [hl.1.1, hl.1.2, hl.2]
  have hclear (c : Causes) (f : FaultCause) (h : (c.clear named).get f = true) : c.get f = true := by
    cases f <;> simp [Causes.clear, Causes.get] at h ⊢ <;> exact h.1
  have hcore (h : d.sound) : ({ d with stored := d.stored.clear named } : Side).Core := by
    obtain ⟨-, h2, h3, h4⟩ := h.core
    exact ⟨fun f hf => by simp [hnone f] at hf, h2, h3, h4⟩
  have hfaulty : ({ d with stored := d.stored.clear named } : Side).faulty ↔ (d.stored.clear named).anyUnmasked d.masked = true :=
    (anyUnmasked_iff _ _).symm
  split
  next hc =>
    obtain ⟨ha, hr⟩ := entered_present ({ d with stored := d.stored.clear named } : Side) now ct (rest_present d)
    refine .of_entry (fun h => ?_) hd ha hr
    exact rest_sound (hcore h) (by rw [hfaulty, hc.2]; simp)
  next hc =>
    refine SideStep.toSideFit (.of_same (fun h => ?_) rfl rfl)
    obtain ⟨-, hs, hclosed, -⟩ := (Side.sound_iff d).mp h
    refine (Side.sound_iff _).mpr ⟨hcore h, ⟨hs.relHigh, hs.lease, hs.close, hs.unlocked, hs.pend, fun ha hi => ?_, hs.live⟩, hclosed,
      fun h => absurd h hd⟩
    rw [hfaulty]
    constructor
    · intro hst
      by_contra hn
      exact hc ⟨hst, by simpa using hn⟩
    · intro hu
      obtain ⟨f, hf, hm⟩ := (anyUnmasked_iff _ _).mp hu
      exact (hs.fault ha hi).mpr ⟨f, hclear _ f hf, hm⟩

/-- The side with a debounced lock level that has turned true (R97, R101). -/
def Side.locked (d : Side) : Side :=
  { d with lock := true, lockRun := 0, live := { d.live with closeTimeout := false, lockLost := false } }

theorem locked_core (h : d.Core) : d.locked.Core := by
  obtain ⟨h1, -, h3, -⟩ := h
  refine ⟨fun f hf => ?_, fun hl => by simp [Side.locked] at hl, h3, by simp [Side.locked]⟩
  cases f
  · exact h1 .mismatch hf
  all_goals simp [Side.locked, Causes.get] at hf

theorem sideFit_locked_entered (hd : d.state = .closing ∨ d.state = .unlocked) :
    SideFit ok d (d.locked.entered .closed now ct) := by
  obtain ⟨ha, hr⟩ := entered_present d.locked now ct (new := .closed) (by simp)
  refine .of_entry (fun h => entered_sound (locked_core h.core) (by simp) (fun _ => rfl) ?_) (by obtain h | h := hd <;> simp [h]) ha hr
  have hf : ¬d.faulty := sound_faultless h (by obtain h | h := hd <;> simp [DoorState.ready, h])
  simp only [ne_eq, reduceCtorEq, not_false_eq_true, false_iff, forall_const]
  exact hf

theorem sideFit_locked (hd : d.state ≠ .closing ∧ d.state ≠ .unlocked) : SideFit ok d d.locked := by
  refine SideStep.toSideFit (.of_same (fun h => ?_) rfl rfl)
  obtain ⟨hc, hs, -, habsent⟩ := (Side.sound_iff d).mp h
  refine (Side.sound_iff _).mpr ⟨locked_core hc, ⟨hs.relHigh, hs.lease, hs.close, fun h => ?_, hs.pend, hs.fault,
    fun hl => by simp [Side.locked] at hl⟩, fun _ => rfl, fun ha => ?_⟩
  · obtain h | h := h
    exacts [absurd h hd.2, absurd h hd.1]
  · obtain ⟨hl, hst⟩ := habsent ha
    exact ⟨by simp [Side.locked, hl, Causes.none], hst⟩

/-- A lock level that has turned false, but for LOCK_LOST (R97). -/
theorem sideFit_unlocked (hd : d.state ≠ .closed) : SideFit ok d { d with lock := false, lockRun := 0 } := by
  refine SideStep.toSideFit (.of_same (fun h => ?_) rfl rfl)
  obtain ⟨hc, hs, -, habsent⟩ := (Side.sound_iff d).mp h
  exact (Side.sound_iff _).mpr ⟨⟨hc.stored, fun _ => rfl, hc.mismatch, by simp⟩,
    ⟨hs.relHigh, hs.lease, hs.close, fun _ => rfl, hs.pend, hs.fault, hs.live⟩, fun h => absurd h hd, habsent⟩

theorem arisen_present (hd : d.state ≠ .absent) (f : FaultCause) (now ct : Nat) : (d.arisen f now ct).state ≠ .absent ∧
    ((d.arisen f now ct).state = .released → d.state = .released) := by
  have hunlocked := entered_present (d.marked f) now ct (new := .unlocked) (by simp)
  have hfault := entered_present (d.marked f) now ct (new := .fault) (by simp)
  have hmarked : (d.marked f).state ≠ .absent ∧ ((d.marked f).state = .released → d.state = .released) := ⟨hd, id⟩
  unfold Side.arisen
  cases h : d.state <;> simp only
  case absent => exact absurd h hd
  case fault | isolated => simpa [h] using hmarked
  case closed | closing =>
    split_ifs
    exacts [⟨hunlocked.1, fun h => absurd h hunlocked.2⟩, by simpa [h] using hmarked, ⟨hfault.1, fun h => absurd h hfault.2⟩]
  case released | unlocked =>
    split_ifs
    exacts [by simpa [h] using hmarked, ⟨hfault.1, fun h => absurd h hfault.2⟩]

/-- LOCK_LOST in CLOSED (R97, R101). -/
theorem sideFit_lockLost (hd : d.state = .closed) :
    SideFit ok d (({ d with lock := false, lockRun := 0 } : Side).arisen .lockLost now ct) := by
  obtain ⟨ha, hr⟩ := arisen_present (d := { d with lock := false, lockRun := 0 }) (by simp [hd]) .lockLost now ct
  refine .of_entry (fun h => ?_) (by simp [hd]) ha fun h => by simpa [hd] using hr h
  obtain ⟨hc, hs, -, -⟩ := (Side.sound_iff d).mp h
  refine arisen_sound (marked_core hc.stored (fun _ => rfl) hc.mismatch (by simp))
    ⟨hs.relHigh, hs.lease, hs.close, fun _ => rfl, hs.pend, hs.fault, hs.live⟩ (by simp [hd]) (fun _ => .inl rfl) (.inr (.inr ⟨rfl, hd⟩))

/-- CLOSE_TIMEOUT in CLOSING (R100, R101). -/
theorem sideFit_closeTimeout (hd : d.state = .closing) : SideFit ok d (d.arisen .closeTimeout now ct) := by
  obtain ⟨ha, hr⟩ := arisen_present (d := d) (by simp [hd]) .closeTimeout now ct
  refine .of_entry (fun h => ?_) (by simp [hd]) ha fun h => by simpa [hd] using hr h
  obtain ⟨hc, hs, -, -⟩ := (Side.sound_iff d).mp h
  exact arisen_sound (marked_core hc.stored (fun _ => hs.unlocked (.inr hd)) hc.mismatch hc.lockRun) hs (by simp [hd]) (by simp [hd])
    (.inr (.inl ⟨rfl, hd⟩))

/-- A feedback sample that agrees (R99). -/
theorem sideFit_agreed (hd : d.state ≠ .absent) :
    SideFit ok d { d with sampled := true, mismatch := 0, live := { d.live with mismatch := false } } := by
  refine SideStep.toSideFit (.of_same (fun h => ?_) rfl rfl)
  obtain ⟨hc, hs, hclosed, -⟩ := (Side.sound_iff d).mp h
  refine (Side.sound_iff _).mpr ⟨⟨fun f hf => ?_, hc.locked, by simp, hc.lockRun⟩,
    ⟨hs.relHigh, hs.lease, hs.close, hs.unlocked, hs.pend, hs.fault, hs.live⟩, hclosed, fun h => absurd h hd⟩
  cases f
  · simp [Causes.get] at hf
  · exact hc.stored .closeTimeout hf
  · exact hc.stored .lockLost hf

/-- A feedback sample that differs, short of the fourth and past it (R99). -/
theorem sideFit_differed (hd : d.state ≠ .absent) (hm : d.mismatch ≠ 3) :
    SideFit ok d { d with sampled := true, mismatch := min 4 (d.mismatch + 1) } := by
  refine SideStep.toSideFit (.of_same (fun h => ?_) rfl rfl)
  obtain ⟨hc, hs, hclosed, -⟩ := (Side.sound_iff d).mp h
  obtain ⟨hle, hiff⟩ := hc.mismatch
  refine (Side.sound_iff _).mpr ⟨⟨hc.stored, hc.locked, ⟨by simp, ?_⟩, hc.lockRun⟩,
    ⟨hs.relHigh, hs.lease, hs.close, hs.unlocked, hs.pend, hs.fault, hs.live⟩, hclosed, fun h => absurd h hd⟩
  show d.live.mismatch = true ↔ min 4 (d.mismatch + 1) = 4
  rw [hiff]
  omega

/-- The fourth sample in a row that differs: DRIVE_MISMATCH arises (R99, R101). -/
theorem sideFit_mismatch (hd : d.state ≠ .absent) (hm : d.mismatch = 3) :
    SideFit ok d (({ d with sampled := true, mismatch := min 4 (d.mismatch + 1) } : Side).arisen .mismatch now ct) := by
  have hm4 : min 4 (d.mismatch + 1) = 4 := by omega
  rw [hm4]
  obtain ⟨ha, hr⟩ := arisen_present (d := { d with sampled := true, mismatch := 4 }) hd .mismatch now ct
  refine ⟨fun h => ?_, by simp [hd, ha], fun h => .inl (hr h)⟩
  obtain ⟨hc, hs, hclosed, -⟩ := (Side.sound_iff d).mp h
  refine arisen_sound (marked_core hc.stored hc.locked ⟨by simp, by simp [Side.marked, Causes.set]⟩ hc.lockRun)
    ⟨hs.relHigh, hs.lease, hs.close, hs.unlocked, hs.pend, hs.fault, hs.live⟩ hd (fun h => .inr (hclosed h)) (.inl rfl)

/-- A half-period boundary (R98). -/
theorem sideFit_halfPeriod (t : Nat) : SideFit ok d { d with
    halfStart := t, sampled := false, relHigh := if d.state = .released then !d.relHigh else false } := by
  refine SideStep.toSideFit (.of_same (fun h => ?_) rfl rfl)
  obtain ⟨hc, hs, hclosed, habsent⟩ := (Side.sound_iff d).mp h
  refine (Side.sound_iff _).mpr ⟨⟨hc.stored, hc.locked, hc.mismatch, hc.lockRun⟩,
    ⟨fun h => ?_, hs.lease, hs.close, hs.unlocked, hs.pend, hs.fault, hs.live⟩, hclosed, habsent⟩
  by_contra hst
  simp only at hst h
  rw [if_neg hst] at h
  exact Bool.noConfusion h

theorem sideFit_sampleLock (level : Bool) : SideFit ok d (d.sampleLock level) := by
  have hrun (r : Nat) (hr : r ≤ 50) : SideFit ok d { d with lockRun := r } := by
    refine SideStep.toSideFit (.of_same (fun h => ?_) rfl rfl)
    obtain ⟨hc, hs, hclosed, habsent⟩ := (Side.sound_iff d).mp h
    exact (Side.sound_iff _).mpr ⟨⟨hc.stored, hc.locked, hc.mismatch, hr⟩,
      ⟨hs.relHigh, hs.lease, hs.close, hs.unlocked, hs.pend, hs.fault, hs.live⟩, hclosed, habsent⟩
  unfold Side.sampleLock
  split_ifs with h50
  exacts [.refl _ _, hrun 0 (by simp), hrun _ (by omega)]

/-- A present side starts by its lock level (R95). -/
theorem started_sound (h : d.sound) (ha : d.state = .absent) (m : Causes) :
    (({ d with masked := m, halfStart := now, sampled := false } : Side).enter d.rest now ct).sound := by
  obtain ⟨hc, hs, -, habsent⟩ := (Side.sound_iff d).mp h
  have hstored : d.stored = Causes.none := (habsent ha).2
  have hfaulty : ¬({ d with masked := m, halfStart := now, sampled := false } : Side).faulty := by
    rintro ⟨f, hf, -⟩
    have hf' : d.stored.get f = true := hf
    rw [hstored] at hf'
    cases f <;> simp [Causes.none, Causes.get] at hf'
  refine enter_sound ⟨hc.stored, hc.locked, hc.mismatch, hc.lockRun⟩ (rest_present d) ?_ ?_ ?_ ?_
  all_goals
    unfold Side.rest
    split <;> simp_all

end

end Sys2Proof.Machine

/-!
The port's commands leave the part running or not, as it was: with their frames (O50) all that the invariants read of the port.
-/

namespace Sys2Proof.Machine

/-- The commands of the serial port, resets apart. -/
def portCommand : Instr → Bool
  | .memRead _ _ _ | .memWrite _ _ _ | .regRead _ _ _ | .regWriteOther _ _ _ | .portSetEcho _ _ | .portSetAttnPolarity _ _
  | .portSetAttnDrive _ _ | .misalign _ _ | .misalignedTransaction _ _ _ | .unknownOpcode _ _ | .ignoredTransaction _ _ => true
  | _ => false

/-- The part runs or does not run, and has handed on the requests, as before. -/
def SameRunning (s t : State) : Prop := (t.port.running, t.req.handed) = (s.port.running, s.req.handed)

theorem frameRel_sameRunning : FrameRel [.mem, .trail] SameRunning where
  frame {s t} h := by
    have hport : t.port = s.port := (h .port (by simp)).1
    have hreq : t.req = s.req := (h .req (by simp)).1
    unfold SameRunning
    rw [hport, hreq]
  trans h h' := Eq.trans h' h

section
variable (s : State)

theorem sameRunning_transact (bytesIn : List Byte) (held : Option Nat) {effect : State → State}
    (he : ∀ u : State, SameRunning u (effect u)) : SameRunning s (s.transact bytesIn held effect) := by
  unfold State.transact
  simp only
  split
  · split
    · rfl
    · exact frameRel_sameRunning.trans (t := { s with port := _ }) rfl (he _)
  · rfl

theorem sameRunning_commitRegister (data : List Byte) {effect : State → State} (he : ∀ u : State, SameRunning u (effect u)) :
    SameRunning s (s.commitRegister data effect) := by
  have hnoted : SameRunning s (s.clearEchoed.noteLength data) := by
    unfold State.noteLength
    split <;> rfl
  exact frameRel_sameRunning.trans hnoted (he _)

theorem sameRunning_writePortSet (data : List Byte) : SameRunning s (s.writePortSet data) := by
  cases data <;> rfl

theorem sameRunning_judge (a : Nat) (b : Byte) : SameRunning s (s.judge a b) := by
  unfold State.judge
  simp only
  split
  case h_4 => split_ifs <;> rfl
  all_goals rfl

theorem sameRunning_handOn (a : Nat) (b : Byte) : SameRunning s (s.handOn a b) := by
  unfold State.handOn
  split
  · split
    · unfold State.guardSlot
      simp only
      split_ifs <;> rfl
    · rfl
  · rfl

theorem sameRunning_foldl {α : Type} {f : State → α → State} (hf : ∀ u a, SameRunning u (f u a)) (l : List α) :
    SameRunning s (l.foldl f s) := by
  induction l generalizing s with
  | nil => rfl
  | cons a l ih => exact frameRel_sameRunning.trans (hf s a) (ih _)

theorem sameRunning_releaseTrail (seq : Word32) : SameRunning s (s.releaseTrail seq) := by
  unfold State.releaseTrail
  split
  · refine frameRel_sameRunning.frame ?_
    have htrail (v : Trail) : Touches [.mem, .trail] s { s with trail := v } := (touches_trail s v).mono (by simp)
    unfold State.writeGap
    split
    · refine ((touches_writeEvent _ (by simp) (by simp)).mpr (htrail _)).trans ((touches_trail _ _).mono (by simp))
    · exact htrail _
  · rfl

theorem sameRunning_commitWrite (addr : Word16) (data : List Byte) : SameRunning s (s.commitWrite addr data) := by
  have hnoted : SameRunning s (s.clearEchoed.noteLength data) := by
    unfold State.noteLength
    split <;> rfl
  have hcells : SameRunning s (s.wroteCells addr data) :=
    frameRel_sameRunning.trans (frameRel_sameRunning.trans hnoted
      (sameRunning_foldl _ (f := fun u (c : Nat × Byte) => u.judge c.1 c.2) (fun u c => sameRunning_judge u c.1 c.2) _))
      (sameRunning_foldl _ (f := fun u (c : Nat × Byte) => u.handOn c.1 c.2) (fun u c => sameRunning_handOn u c.1 c.2) _)
  rw [commitWrite_eq]
  simp only
  split
  · exact hcells
  · exact frameRel_sameRunning.trans hcells (sameRunning_releaseTrail _ _)

end

/-- What a port command comes to. -/
def RunsPort (c : Instr) (s : State) : Prop :=
  ∃ (dt : Nat) (u : State), exec c s = .next u.settle ∧ Touches [.port, .mem, .req, .trail] (s.advance dt) u ∧
    u.port.running = s.port.running ∧ u.req.handed = s.req.handed

theorem runsPort_of {c : Instr} {s : State} {dt : Nat} {f : State → State} (h : exec c s = .next (s.run dt f))
    (ht : Touches [.port, .mem, .req, .trail] (s.advance dt) (f (s.advance dt))) (hf : ∀ t, SameRunning t (f t)) : RunsPort c s :=
  ⟨dt, f (s.advance dt), h, ht, (Prod.mk.injEq ..).mp (hf _)⟩

theorem runsPort (c : Instr) (s : State) (h : portCommand c = true) : RunsPort c s := by
  have hid (t : State) : SameRunning t t := rfl
  have hclear (t : State) : SameRunning t t.clearEchoed := rfl
  have htransact {dt : Nat} {bytesIn : List Byte} {held : Option Nat} {effect : State → State}
      (hc : exec c s = .next (s.run dt fun t => t.transact bytesIn held effect))
      (he : ∀ u : State, Touches [.port, .mem, .req, .trail] u (effect u)) (hr : ∀ u : State, SameRunning u (effect u)) : RunsPort c s :=
    runsPort_of hc (touches_transact _ _ (by simp) he) fun t => sameRunning_transact t _ _ hr
  have hregister (data : List Byte) {effect : State → State} (he : ∀ u : State, Touches [.port, .mem, .req, .trail] u (effect u))
      (u : State) : Touches [.port, .mem, .req, .trail] u (u.commitRegister data effect) :=
    touches_commitRegister data (by simp) he
  have hportSet (data : List Byte) (u : State) := touches_writePortSet (P := [.port, .mem, .req, .trail]) data (by simp) u
  cases c
  case memRead => exact htransact rfl (fun _ => touches_clearEchoed (by simp)) hclear
  case regRead => exact htransact rfl (fun _ => touches_clearEchoed (by simp)) hclear
  case memWrite =>
    exact htransact rfl (fun _ => touches_commitWrite _ _ (by simp) (by simp) (by simp) (by simp)) fun u =>
      sameRunning_commitWrite u _ _
  case regWriteOther =>
    exact runsPort_of rfl (touches_ite (fun _ => Touches.refl _ _) fun _ => touches_transact _ _ (by simp)
      (hregister _ fun _ => Touches.refl _ _)) fun t => FrameRel.branch (fun _ => hid t) fun _ =>
        sameRunning_transact t _ _ fun u => sameRunning_commitRegister u _ hid
  case portSetEcho => exact htransact rfl (hregister _ (hportSet _)) fun u => sameRunning_commitRegister u _ fun v => sameRunning_writePortSet v _
  case portSetAttnPolarity =>
    exact htransact rfl (hregister _ (hportSet _)) fun u => sameRunning_commitRegister u _ fun v => sameRunning_writePortSet v _
  case portSetAttnDrive =>
    exact htransact rfl (hregister _ (hportSet _)) fun u => sameRunning_commitRegister u _ fun v => sameRunning_writePortSet v _
  case misalign =>
    exact htransact rfl (hregister _ fun u => (touches_port_iff (t := u) _ (by simp)).mpr (Touches.refl _ _)) fun u =>
      sameRunning_commitRegister u _ fun _ => rfl
  case misalignedTransaction =>
    exact runsPort_of rfl (touches_when fun _ => touches_transact _ _ (by simp) fun u =>
      (touches_port_iff (t := u) _ (by simp)).mpr (Touches.refl _ _)) fun t => frameRel_sameRunning.when fun _ =>
        sameRunning_transact t _ _ fun _ => rfl
  case unknownOpcode =>
    exact runsPort_of rfl (touches_when fun _ => touches_transact _ _ (by simp) fun _ => touches_clearEchoed (by simp)) fun t =>
      frameRel_sameRunning.when fun _ => sameRunning_transact t _ _ hclear
  case ignoredTransaction =>
    exact runsPort_of rfl (touches_when fun _ => touches_transact _ _ (by simp) fun _ => Touches.refl _ _) fun t =>
      frameRel_sameRunning.when fun _ => sameRunning_transact t _ _ hid
  all_goals exact absurd h (by simp [portCommand])

/-- A command that is no reset and touches no port leaves the port's record. -/
theorem runsWithin_besidesPort (c : Instr) (s : State) (h : mayReset c = false) (hc : Part.port ∉ touches c) :
    ∃ (dt : Nat) (u : State), exec c s = .next u.settle ∧ Touches (touches c) (s.advance dt) u ∧ u.port = s.port := by
  obtain ⟨dt, u, hu, ht⟩ := runsWithin c s h
  exact ⟨dt, u, hu, ht, (ht .port hc).1⟩

end Sys2Proof.Machine

/-!
O55 and O56, command by command.
-/

namespace Sys2Proof.Machine

/-! ## Operations on one side -/

section
variable {ok : Prop} (s : State) (k : SideId)

theorem besidesDoors_noDoors : ∀ p ∈ [Part.side1, .side2, .port, .settings, .mon], p ∉ Part.census :: besidesDoors := by
  simp [besidesDoors]

theorem doorFit_touchedSide {t : State} (h : Touches [sidePart k, .pub, .summary, .choices, .faultTally] s t)
    (hk : SideFit ok (s.side k) (t.side k)) : DoorFit ok s t := .of_side k h (by simp) hk

theorem doorFit_enterSide (new : DoorState) (cause : DoorCause) (number : Byte)
    (h : SideFit ok (s.side k) ((s.side k).entered new s.now s.settings.closeTimeout)) :
    DoorFit ok s (s.enterSide k new cause number) := by
  refine doorFit_touchedSide s k ((touches_enterSide k (by simp) (by simp) (by simp) (by simp) _ _ _).mpr (Touches.refl _ _)) ?_
  rw [enterSide_side]
  exact h

theorem doorFit_setSide (d : Side) (h : SideFit ok (s.side k) d) : DoorFit ok s (s.setSide k d) := by
  refine doorFit_touchedSide s k ((touches_setSide_iff k d (by simp) (by simp) (by simp)).mpr (Touches.refl _ _)) ?_
  rw [setSide_side]
  exact h

/-- A side is changed, and a cause then arises at it. -/
theorem doorFit_causeArises (d : Side) (f : FaultCause)
    (h : SideFit ok (s.side k) (d.arisen f s.now s.settings.closeTimeout)) : DoorFit ok s ((s.setSide k d).causeArises k f) := by
  refine doorFit_touchedSide s k ((touches_causeArises k (by simp) (by simp) (by simp) (by simp) f (by simp)).mpr
    ((touches_setSide_iff k d (by simp) (by simp) (by simp)).mpr (Touches.refl _ _))) ?_
  rw [causeArises_side, setSide_side, setSide_now, setSide_settings]
  exact h

theorem doorFit_isolateSide (h : (s.side k).state ≠ .absent) : DoorFit False s (s.isolateSide k) :=
  FrameRel.branch (fun _ => .refl _ s) fun _ => doorFit_enterSide s k _ _ _ (sideFit_isolated h)

theorem doorFit_restoreSide (h : (s.side k).state ≠ .absent) : DoorFit False s (s.restoreSide k) :=
  frameRel_doorFit.when fun _ => doorFit_enterSide s k _ _ _ (sideFit_restored h)

theorem doorFit_takeFeedback (high : Bool) (h : (s.side k).state ≠ .absent) : DoorFit False s (s.takeFeedback k high) := by
  unfold State.takeFeedback
  simp only
  refine FrameRel.branch (fun _ => doorFit_setSide s k _ (sideFit_agreed h)) fun _ => ?_
  split
  next hm => exact doorFit_causeArises s k _ _ (sideFit_mismatch h hm)
  next hm => exact doorFit_setSide s k _ (sideFit_differed h hm)

theorem doorFit_lockTrue : DoorFit False s (s.lockTrue k) := by
  have henter (hd : (s.side k).state = .closing ∨ (s.side k).state = .unlocked) :
      DoorFit False s ((s.setSide k (s.side k).locked).enterSide k .closed .lock 0) := by
    refine doorFit_touchedSide s k ((touches_enterSide k (by simp) (by simp) (by simp) (by simp) _ _ _).mpr
      ((touches_setSide_iff k _ (by simp) (by simp) (by simp)).mpr (Touches.refl _ _))) ?_
    rw [enterSide_side, setSide_side]
    exact sideFit_locked_entered hd
  have hstay (hd : (s.side k).state ≠ .closing ∧ (s.side k).state ≠ .unlocked) : DoorFit False s (s.setSide k (s.side k).locked) :=
    doorFit_setSide s k _ (sideFit_locked hd)
  unfold State.lockTrue
  simp only
  split
  next h => exact henter (.inl h)
  next h => exact henter (.inr h)
  all_goals next h => exact hstay (by simp [h])

theorem doorFit_lockFalse : DoorFit False s (s.lockFalse k) := by
  unfold State.lockFalse
  simp only
  split
  next h => exact doorFit_causeArises s k _ _ (sideFit_lockLost h)
  all_goals next h => exact doorFit_setSide s k _ (sideFit_unlocked (by simp [h]))

theorem doorFit_closeTimeout (h : (s.side k).state = .closing) : DoorFit False s (s.causeArises k .closeTimeout) := by
  have := doorFit_causeArises s k (s.side k) .closeTimeout (sideFit_closeTimeout (ok := False) h)
  rwa [setSide_same] at this

theorem doorFit_clearSide (r : Request) : DoorFit False s (s.clearSide k r) := by
  have hdone (u : State) (o : SlotOutcome) : DoorFit False u (u.completeClear k r.slot o) :=
    frameRel_doorFit.frame ((touches_complete _ _ _ _ (by simp [besidesDoors]) (by simp [besidesDoors])).mpr (Touches.refl _ _))
  unfold State.clearSide
  simp only
  refine FrameRel.branch (fun _ => hdone s _) fun _ => FrameRel.branch (fun _ => hdone s _) fun hd =>
    FrameRel.branch (fun _ => hdone s _) fun hl => .trans ?_ (hdone _ _)
  have hfit := sideFit_cleared (ok := False) (now := s.now) (ct := s.settings.closeTimeout) hd (by simpa using hl) (r.param 1)
  split at hfit
  next hc =>
    rw [if_pos hc]
    refine doorFit_touchedSide s k ((touches_enterSide k (by simp) (by simp) (by simp) (by simp) _ _ _).mpr
      ((touches_setSide_iff k _ (by simp) (by simp) (by simp)).mpr (Touches.refl _ _))) ?_
    rw [enterSide_side, setSide_side, setSide_now, setSide_settings]
    exact hfit
  next hc =>
    rw [if_neg hc]
    exact doorFit_setSide s k _ hfit

theorem doorStep_applyAtInstant (i : Nat) : DoorStep s (s.applyAtInstant i k) := by
  unfold State.applyAtInstant
  split
  · exact frameRel_doorStep.when fun _ => .of_side (onlySide_applyPending s k _) (sideStep_applyPending s k _)
  · exact .refl s

theorem sideStep_expired {d : Side} {now ct : Nat} (h : d.state = .released) : SideStep ok d (d.entered d.rest now ct) :=
  sideStep_entered (.inr h) (.inl rfl)

end

/-! ## Commands -/

/-- A command that comes to a fit. -/
theorem doorsHold_of {c : Instr} {s t : State} {dt : Nat} {f : State → State} {ok : State → Prop} (h : exec c s = .next (s.run dt f))
    (hc : exec c s = .next t) (hf : ∀ u, DoorFit (ok u) u (f u)) (hok : ∀ u : State, ok u → u.mayRelease) : DoorsHold s t := by
  obtain rfl : s.run dt f = t := Host.Outcome.next.inj (h.symm.trans hc)
  exact ((hf _).hold (hok _)).settle

theorem doorsHold_fit {c : Instr} {s t : State} {dt : Nat} {f : State → State} (h : exec c s = .next (s.run dt f))
    (hc : exec c s = .next t) (hf : ∀ u, DoorFit False u (f u)) : DoorsHold s t :=
  doorsHold_of (ok := fun _ => False) h hc hf fun _ => False.elim

theorem doorsHold_step {c : Instr} {s t : State} {dt : Nat} {f : State → State} (h : exec c s = .next (s.run dt f))
    (hc : exec c s = .next t) (hf : ∀ u, DoorStep u (f u)) : DoorsHold s t :=
  doorsHold_of (ok := State.mayRelease) h hc (fun u => (hf u).fit) fun _ => id

/-- A command that touches no door. -/
theorem doorsHold_elsewhere {c : Instr} {s t : State} (hc : exec c s = .next t) (hr : mayReset c = false)
    (hP : touches c ⊆ .census :: besidesDoors) : DoorsHold s t := by
  obtain ⟨dt, u, hu, ht⟩ := runsWithin c s hr
  obtain rfl : u.settle = t := Host.Outcome.next.inj (hu.symm.trans hc)
  exact ((frameRel_doorFit.frame (ht.mono hP)).hold False.elim).settle

theorem doorsHold_port {c : Instr} {s t : State} (hc : exec c s = .next t) (hp : portCommand c = true) : DoorsHold s t := by
  obtain ⟨dt, u, hu, ht, hrun, -⟩ := runsPort c s hp
  obtain rfl : u.settle = t := Host.Outcome.next.inj (hu.symm.trans hc)
  have hk (p : Part) (hp : p ∉ [Part.port, .mem, .req, .trail]) : p.kept (s.advance dt) u := (ht p hp).1
  have hmon : u.mon = (s.advance dt).mon := hk .mon (by simp)
  have hfit : DoorFit False (s.advance dt) u :=
    .of_parts (hk .side1 (by simp)) (hk .side2 (by simp)) hrun (hk .settings (by simp)) (by rw [hmon])
  exact (hfit.hold False.elim).settle

theorem doorsHold_reset {s t : State} (h : t.door = State.reset.door ∧ t.port.running = false ∧ t.mon.auxLow = false) : DoorsHold s t := by
  obtain ⟨hdoor, hrun, haux⟩ := h
  refine ⟨fun _ => ?_, fun k hk => ?_⟩
  · refine ⟨by rw [hdoor]; exact sideReset_sound, by rw [hdoor]; exact sideReset_sound, ?_, ?_, by simp [haux]⟩
    · rw [hdoor, hrun]
      simp [State.reset, Side.reset, Door.reset]
    · rw [hdoor, hrun]
      simp [State.reset, Side.reset, Door.reset]
  · have : (t.side k).state = .absent := by
      cases k
      · rw [side_one, hdoor]
        rfl
      · rw [side_two, hdoor]
        rfl
    rw [this] at hk
    simp at hk

end Sys2Proof.Machine

namespace Sys2Proof.Machine

/-! ### Orders and fits of each command -/

section
variable (s : State)

theorem doorStep_exitSpan (x : SpanId) (target : ExitTo) (cause : Cause) : DoorStep s (s.exitSpan x target cause) :=
  frameRel_doorStep.exitSpan links_besidesDoors doorStep_tellLost doorStep_spanDownReport s x target cause

theorem doorStep_exitWhere (p : SpanId → Bool) (target : ExitTo) (cause : Cause) : DoorStep s (s.exitWhere p target cause) :=
  frameRel_doorStep.exitWhere links_besidesDoors doorStep_tellLost doorStep_spanDownReport s p target cause

theorem doorStep_complete (slot : Nat) (o : SlotOutcome) (d : Byte) (r : List Byte) : DoorStep s (s.complete slot o d r) :=
  frameRel_doorStep.frame ((touches_complete _ _ _ _ (by simp [besidesDoors]) (by simp [besidesDoors])).mpr (Touches.refl _ _))

theorem doorStep_withSelector (r : Request) {f : Byte → State → State} (hf : ∀ sel u, DoorStep u (f sel u)) :
    DoorStep s (s.withSelector r f) := by
  unfold State.withSelector
  split
  exacts [hf _ _, doorStep_complete _ _ _ _ _]

theorem doorStep_serve (p : Request → Bool) {f : Request → State → State} (hf : ∀ r u, DoorStep u (f r u)) :
    DoorStep s (s.serve p f) := frameRel_doorStep.serve (by simp [besidesDoors]) hf s p

theorem doorFit_serve (p : Request → Bool) {f : Request → State → State} (hf : ∀ r u, DoorFit False u (f r u)) :
    DoorFit False s (s.serve p f) := frameRel_doorFit.serve (by simp [besidesDoors]) hf s p

theorem doorStep_disable (r : Request) : DoorStep s (s.withSelector r fun sel v =>
    let one (x : SpanId) (w : State) : State := if selects sel x then w.setEnable x false else w
    ((one .b (one .a v)).exitWhere (fun x => selects sel x && (v.span x).state != .off) .off .disabled).completeSpan r.slot .ok) := by
  refine doorStep_withSelector s r fun sel v => ?_
  have hone (x : SpanId) (w : State) : DoorStep w (if selects sel x then w.setEnable x false else w) :=
    frameRel_doorStep.when fun _ => frameRel_doorStep.setSpan links_besidesDoors w x _
  exact (((hone .a v).trans (hone .b _)).trans (doorStep_exitWhere _ _ _ _)).trans (doorStep_complete _ _ _ _ _)

theorem doorStep_restart (r : Request) : DoorStep s (s.withSelector r fun sel v =>
    let isOff (x : SpanId) : Bool := selects sel x && (v.span x).state == .off
    if isOff .a || isOff .b then v.completeSpan r.slot .refusedState
    else (v.exitWhere (selects sel) .probing .hostRestart).completeSpan r.slot .ok) :=
  doorStep_withSelector s r fun _ v => FrameRel.branch (fun _ => doorStep_complete v _ _ _ _) fun _ =>
    (doorStep_exitWhere v _ _ _).trans (doorStep_complete _ _ _ _ _)

theorem doorStep_bypass (v : Bypass) : DoorStep s { s with bypass := v } :=
  frameRel_doorStep.frame ((touches_bypass s v).mono (by simp [besidesDoors]))

theorem doorStep_relay (v : Relay) : DoorStep s { s with relay := v } :=
  frameRel_doorStep.frame ((touches_relay s v).mono (by simp [besidesDoors]))

theorem doorStep_takeOrder (x : SpanId) (f : Frame) (endAt : Nat) : DoorStep s (s.takeOrder x f endAt) := by
  unfold State.takeOrder
  split
  case h_2 | h_3 => exact .refl s
  next o _ _ =>
    refine FrameRel.branch (fun _ => frameRel_doorStep.send links_besidesDoors s x _) fun _ => FrameRel.branch (fun _ => .refl s) fun _ =>
      FrameRel.branch (fun _ => .refl s) fun _ => ?_
    unfold State.memberOrder State.noteLate
    simp only
    generalize ht : (if f.late = true then (_ : State) else _) = t
    have h1 : DoorStep s t := by
      rw [← ht]
      exact FrameRel.branch (fun _ => (doorStep_relay s _).trans (frameRel_doorStep.raise links_besidesDoors _ _ _)) fun _ =>
        doorStep_relay s _
    have h2 := h1.trans (doorStep_handOrder t o f.gen (Machine.applyInstant f endAt) f.late s.table.own)
    generalize t.handOrder o f.gen (Machine.applyInstant f endAt) f.late s.table.own = r at h2 ⊢
    split
    · exact h2.trans ((doorStep_relay _ _).trans (frameRel_doorStep.sendIf links_besidesDoors _ _ _))
    · unfold State.forwardOrder
      simp only
      split
      · exact h2.trans (doorStep_relay _ _)
      · exact h2.trans ((doorStep_relay _ _).trans (frameRel_doorStep.offerOrder links_besidesDoors doorStep_tellLost _ _ _))

theorem doorStep_orders (v : Door) (h : v = { s.door with
    outstanding := v.outstanding, ackEnd := v.ackEnd, inFlight := v.inFlight, lastNumber := v.lastNumber, lastDone := v.lastDone }) :
    DoorStep s { s with door := v } :=
  frameRel_doorStep.frame ((touches_orders s v h).mono (by simp [besidesDoors]))

theorem doorStep_takeDoorOrder (r : Request) (a : Action) : DoorStep s (s.takeDoorOrder r a) := by
  have hend (o : SlotOutcome) (d st og : Byte) : DoorStep s (s.endOutstanding o d st og) :=
    frameRel_doorStep.frame ((touches_endOutstanding (by simp [besidesDoors]) (by simp [besidesDoors]) (by simp [besidesDoors])
      (by simp [besidesDoors]) _ _ _ _).mpr (Touches.refl _ _))
  have h1 := hend .superseded 0 0 0
  unfold State.takeDoorOrder
  simp only
  generalize s.endOutstanding .superseded 0 0 0 = t at h1 ⊢
  split
  · exact ((h1.trans (doorStep_orders t _ rfl)).trans (doorStep_handOrder _ _ _ _ _ _)).trans (doorStep_finishOrder _ _ _ _ _)
  · exact ((h1.trans (doorStep_orders t _ rfl)).trans (doorStep_orders _ _ rfl)).trans
      (frameRel_doorStep.offerOrder links_besidesDoors doorStep_tellLost _ _ _)

theorem doorStep_doorOrder (r : Request) : DoorStep s (s.doorOrder r) := by
  unfold State.doorOrder
  split
  exacts [doorStep_complete _ _ _ _ _, doorStep_takeDoorOrder _ _ _, .refl s]

/-- DOOR_LOCAL reaches no ABSENT side (R110). -/
theorem doorFit_doorLocal (r : Request) {act : SideId → State → State}
    (hact : ∀ (k : SideId) (u : State), (u.side k).state ≠ .absent → DoorFit False u (act k u)) : DoorFit False s (s.doorLocal r act) := by
  have hdone (u : State) (o : SlotOutcome) (d : Byte) (l : List Byte) : DoorFit False u (u.complete r.slot o d l) :=
    frameRel_doorFit.frame ((touches_complete _ _ _ _ (by simp [besidesDoors]) (by simp [besidesDoors])).mpr (Touches.refl _ _))
  unfold State.doorLocal
  simp only
  refine FrameRel.branch (fun _ => hdone s _ _ _) fun _ => FrameRel.branch (fun _ => hdone s _ _ _) fun h => .trans ?_ (hdone _ _ _ _)
  simp only [Bool.or_eq_true, Bool.and_eq_true, beq_iff_eq, not_or, not_and] at h
  obtain ⟨h1, h2⟩ := h
  have hone : DoorFit False s (if selectsSide (r.param 1) .one then act .one s else s) := frameRel_doorFit.when fun hs => hact .one s (h1 hs)
  refine hone.trans (frameRel_doorFit.when fun hs => hact .two _ ?_)
  rw [ne_eq, (hone.sides .two).absent]
  exact h2 hs

theorem doorFit_faultClearDoor (r : Request) : DoorFit False s (s.faultClearDoor r) :=
  FrameRel.branch (fun _ => doorFit_clearSide s .one r) fun _ => FrameRel.branch (fun _ => doorFit_clearSide s .two r) fun _ =>
    frameRel_doorFit.frame ((touches_complete _ _ _ _ (by simp [besidesDoors]) (by simp [besidesDoors])).mpr (Touches.refl _ _))

theorem sampleDue_present {k : SideId} (h : s.sampleDue k = true) : (s.side k).state ≠ .absent := by
  simp only [State.sampleDue, Bool.and_eq_true, bne_iff_ne] at h
  exact h.1.1

theorem doorFit_tick (lck1 lck2 : Bool) : DoorFit False s (s.tick lck1 lck2) := by
  refine ⟨rfl, rfl, rfl, fun k => ?_⟩
  cases k
  exacts [sideFit_sampleLock lck1, sideFit_sampleLock lck2]

theorem doorStep_applyInstant : DoorStep s (match s.earliestApply with
    | some i => if i ≤ s.now then (s.applyAtInstant i .one).applyAtInstant i .two else s
    | none => s) := by
  split
  · exact frameRel_doorStep.when fun _ => (doorStep_applyAtInstant s .one _).trans (doorStep_applyAtInstant _ .two _)
  · exact .refl s

theorem doorFit_completeReading (c : Chan) (block : List (BitVec 12)) : DoorFit False s (s.completeReading c block) := by
  have hmon (u : State) (v : Monitor) (h : v.auxLow = u.mon.auxLow) : DoorFit False u { u with mon := v } :=
    .of_parts rfl rfl rfl rfl h
  have hset (v : Channel) : (s.mon.setChannel c v).auxLow = s.mon.auxLow := by cases c <;> rfl
  have hjudge (u : State) (reading : Nat) : DoorFit False u (u.judgeAux reading) := by
    unfold State.judgeAux
    simp only
    split_ifs <;> exact hmon u _ rfl
  unfold State.completeReading
  simp only
  cases c
  · exact hmon s _ (hset _)
  · refine (hmon s _ (hset _)).trans (frameRel_doorFit.frame ((touches_addReading _ _).mono (by simp [besidesDoors])))
  · exact (hmon s _ (hset _)).trans (hjudge _ _)

/-! ### The AUX timers, CONFIGURE and the resets -/

theorem doorFit_withdrawSide (k : SideId) : DoorFit False s (s.withdrawSide k) :=
  frameRel_doorFit.when fun h => doorFit_enterSide s k _ _ _ (sideStep_expired h).toSideFit

theorem withdrawSide_state (k : SideId) : ((s.withdrawSide k).side k).state ≠ .released := by
  unfold State.withdrawSide
  split
  next h =>
    rw [enterSide_side]
    exact (entered_present _ _ _ (rest_present _)).2
  next h => exact h

/-- Turning AUX LOW withdraws each released side (R108). -/
theorem doorsHold_lowTimer : DoorsHold s (((s.changeAux true 16).withdrawSide .one).withdrawSide .two) := by
  set v := s.changeAux true 16
  have hone : (v.side .one) = s.side .one ∧ (v.side .two) = s.side .two := ⟨rfl, rfl⟩
  have h1 := doorFit_withdrawSide v .one
  have h2 := doorFit_withdrawSide (v.withdrawSide .one) .two
  have hfit := h1.trans h2
  have hreleased : ∀ k, (((v.withdrawSide .one).withdrawSide .two).side k).state ≠ .released := by
    intro k hk
    cases k
    · obtain h | ⟨h, -⟩ := (h2.sides .one).released hk
      exacts [withdrawSide_state v .one h, h]
    · exact withdrawSide_state _ .two hk
  refine ⟨fun ⟨hs1, hs2, ha1, ha2, _⟩ => ⟨(hfit.sides .one).sound hs1, (hfit.sides .two).sound hs2, ?_, ?_, fun _ =>
    ⟨hreleased .one, hreleased .two⟩⟩, fun k hk => absurd hk (hreleased k)⟩
  · rw [hfit.running, hfit.settings]
    exact (hfit.sides .one).absent.trans ha1
  · rw [hfit.running, hfit.settings]
    exact (hfit.sides .two).absent.trans ha2

theorem doorsHold_returnTimer : DoorsHold s (s.changeAux false 17) :=
  ⟨fun ⟨h1, h2, h3, h4, _⟩ => ⟨h1, h2, h3, h4, fun h => absurd h (by simp [State.changeAux])⟩, fun _ hk => .inl hk⟩

theorem startSide_side (k : SideId) (present : Bool) (mask : Byte) : (s.startSide k present mask).side k = if present then
    ({ s.side k with masked := maskCauses mask, halfStart := s.now, sampled := false } : Side).enter (s.side k).rest s.now
      s.settings.closeTimeout else s.side k := by
  unfold State.startSide
  split
  · simp only
    rw [moveSide_side, setSide_side, setSide_now, setSide_settings]
  · rfl

theorem onlySide_startSide (k : SideId) (present : Bool) (mask : Byte) : OnlySide k s (s.startSide k present mask) := by
  unfold State.startSide
  split
  · exact (onlySide_setSide s k _).trans (onlySide_moveSide _ _ _ _ _)
  · exact .refl k s

/-- A side started from ABSENT is sound, and present exactly when the settings say so (R95). -/
theorem startSide_sound {k : SideId} {present : Bool} (mask : Byte) (h : (s.side k).sound) (ha : (s.side k).state = .absent) :
    ((s.startSide k present mask).side k).sound ∧ (((s.startSide k present mask).side k).state = .absent ↔ present = false) ∧
      ((s.startSide k present mask).side k).state ≠ .released := by
  rw [startSide_side]
  cases present
  · simp [h, ha]
  · obtain ⟨hr1, hr2⟩ := rest_present (s.side k)
    refine ⟨started_sound h ha _, ?_, ?_⟩ <;> rw [if_pos rfl, (enter_keeps _ _ _ _).1]
    · simp [hr1]
    · exact hr2

/-- What the adoption leaves for the doors: the two sides started, the part running with its settings and AUX OK (R95, R164). -/
theorem adopt_doors (new : Settings) : ∃ v : State, v.door = s.door ∧
    (s.adopt new).side .one = (v.startSide .one (new.doorSides = 1 ∨ new.doorSides = 3) new.mask1).side .one ∧
    (s.adopt new).side .two = ((v.startSide .one (new.doorSides = 1 ∨ new.doorSides = 3) new.mask1).startSide .two
      (new.doorSides = 2 ∨ new.doorSides = 3) new.mask2).side .two ∧
    (s.adopt new).port.running = true ∧ (s.adopt new).settings = new ∧ (s.adopt new).mon.auxLow = false := by
  set v := State.startSpans { s with settings := new, port := { s.port with running := true } } with hv
  set w1 := v.startSide .one (new.doorSides = 1 ∨ new.doorSides = 3) new.mask1 with hw1
  set w := w1.startSide .two (new.doorSides = 2 ∨ new.doorSides = 3) new.mask2 with hw
  have htouch : Touches [.heat, .fire, .mon, .pub, .choices] w (s.adopt new) := by
    have hheat : Touches [.heat, .fire, .mon, .pub, .choices] w w.startHeat := by
      unfold State.startHeat
      rw [touches_setCap _ _ (by simp) (by simp) (by simp)]
      exact (touches_heat w _).mono (by simp)
    have hmon (u : State) : Touches [.heat, .fire, .mon, .pub, .choices] u u.startMonitor := (touches_mon u _).mono (by simp)
    exact (touches_raise _ _ (by simp)).mpr (((touches_startPeriod s.now (by simp) (by simp)).mpr hheat).trans (hmon _))
  have hport : w.port = v.port ∧ w.settings = v.settings := by
    obtain ⟨_, _, _, h1⟩ := (onlySide_startSide v .one (new.doorSides = 1 ∨ new.doorSides = 3) new.mask1).onlySides
    obtain ⟨_, _, _, h2⟩ := (onlySide_startSide w1 .two (new.doorSides = 2 ∨ new.doorSides = 3) new.mask2).onlySides
    rw [← hw1] at h1
    rw [← hw] at h2
    rw [h2, h1]
    exact ⟨rfl, rfl⟩
  have hk (p : Part) (hp : p ∉ [Part.heat, .fire, .mon, .pub, .choices]) : p.kept w (s.adopt new) := (htouch p hp).1
  have hp : (s.adopt new).port = w.port := hk .port (by simp)
  have hs : (s.adopt new).settings = w.settings := hk .settings (by simp)
  have h1 : (s.adopt new).side .one = w.side .one := hk .side1 (by simp)
  refine ⟨v, rfl, ?_, hk .side2 (by simp), ?_, ?_, rfl⟩
  · rw [h1]
    exact (onlySide_startSide w1 .two _ _).other (by simp)
  · rw [hp, hport.1]
    rfl
  · rw [hs, hport.2]
    rfl

theorem startSide_released {k : SideId} {present : Bool} (mask : Byte)
    (h : ((s.startSide k present mask).side k).state = .released) : (s.side k).state = .released := by
  rw [startSide_side] at h
  split at h
  · rw [(enter_keeps _ _ _ _).1] at h
    exact absurd h (rest_present _).2
  · exact h

theorem doorsHold_adopt (new : Settings) (hrun : s.port.running = false) : DoorsHold s (s.adopt new) := by
  obtain ⟨v, hdoor, hone, htwo, hr, hset, haux⟩ := adopt_doors s new
  have hv1 : v.side .one = s.side .one := by rw [side_one, hdoor, side_one]
  have hv2 : v.side .two = s.side .two := by rw [side_two, hdoor, side_two]
  set w := v.startSide .one (new.doorSides = 1 ∨ new.doorSides = 3) new.mask1
  have hw2 : w.side .two = s.side .two := ((onlySide_startSide v .one _ _).other (by simp)).trans hv2
  constructor
  · rintro ⟨h1, h2, ha1, ha2, -⟩
    obtain ⟨hs1, hab1, -⟩ := startSide_sound v (k := .one) (present := new.doorSides = 1 ∨ new.doorSides = 3) new.mask1
      (by rw [hv1]; exact h1) (by rw [hv1]; exact ha1.mpr (.inl hrun))
    obtain ⟨hs2, hab2, -⟩ := startSide_sound w (k := .two) (present := new.doorSides = 2 ∨ new.doorSides = 3) new.mask2
      (by rw [hw2]; exact h2) (by rw [hw2]; exact ha2.mpr (.inl hrun))
    rw [← hone] at hs1 hab1
    rw [← htwo] at hs2 hab2
    refine ⟨hs1, hs2, hab1.trans ?_, hab2.trans ?_, fun h => absurd h (by simp [haux])⟩
    · simp [hr, hset]
    · simp [hr, hset]
  · intro k hk
    cases k
    · rw [hone] at hk
      exact .inl (hv1 ▸ startSide_released v _ hk)
    · rw [htwo] at hk
      exact .inl (hw2 ▸ startSide_released w _ hk)

theorem DoorsHold.refl : DoorsHold s s := ⟨id, fun _ h => .inl h⟩

/-- An operation that touches no door, before and after. -/
theorem DoorsHold.after {s t u : State} (h : DoorFit False s t) (hdoor : t.door = s.door) (hcensus : t.census = s.census)
    (h' : DoorsHold t u) : DoorsHold s u := by
  have hs (k : SideId) : t.side k = s.side k := by cases k <;> simp [hdoor]
  have hmay : t.mayRelease = s.mayRelease := by rw [State.mayRelease, State.mayRelease, hcensus, h.aux]
  refine ⟨fun hd => h'.sound ((h.hold False.elim).sound hd), fun k hk => ?_⟩
  have := h'.released k hk
  rwa [hs k, hmay] at this

theorem DoorsHold.before {s u v : State} (h : DoorsHold s u) (h' : DoorFit False u v) (hdoor : v.door = u.door) : DoorsHold s v := by
  have hv (k : SideId) : v.side k = u.side k := by cases k <;> simp [hdoor]
  refine ⟨fun hd => (h'.hold False.elim).sound (h.sound hd), fun k hk => ?_⟩
  rw [hv k] at hk ⊢
  exact h.released k hk

theorem doorsHold_configureRequest (r : Request) : DoorsHold s (s.configure r) := by
  have hdone (u : State) (slot : Nat) (o : SlotOutcome) (d : Byte) (l : List Byte) : DoorFit False u (u.complete slot o d l) :=
    frameRel_doorFit.frame ((touches_complete _ _ _ _ (by simp [besidesDoors]) (by simp [besidesDoors])).mpr (Touches.refl _ _))
  unfold State.configure
  split
  · exact (hdone _ _ _ _ _).hold False.elim
  next hrun =>
    simp only
    split
    · exact (hdone _ _ _ _ _).hold False.elim
    · exact (doorsHold_adopt s _ (by simpa using hrun)).before (hdone _ _ _ _ _) (complete_door ..)

theorem doorsHold_configure : DoorsHold s (s.serve (fun r => r.kind == .configure) fun r u => u.configure r) := by
  have htaken (v : Requests) : DoorFit False s { s with req := v } :=
    frameRel_doorFit.frame ((touches_req s v).mono (by simp [besidesDoors]))
  unfold State.serve
  split
  next r rest _ => exact DoorsHold.after (htaken { s.req with handed := rest }) rfl rfl (doorsHold_configureRequest _ r)
  · exact .refl s

theorem doorsHold_resetWord (data : Sent (List Byte)) : DoorsHold s (s.transact (headerOf 0x04 3 ++ data.whole) data.held
    fun u => u.commitRegister data.whole (State.writeResetWord data.whole)) := by
  have hport (u : State) (v : Port) (hv : v.running = u.port.running) : DoorFit False u { u with port := v } := .of_parts rfl rfl hv rfl rfl
  have hnoted (u : State) : DoorFit False u (u.clearEchoed.noteLength data.whole) := by
    unfold State.noteLength
    split <;> exact hport u _ rfl
  unfold State.transact
  simp only
  split
  · generalize hv : (Port.mk .. : Port) = v
    have hrun : v.running = s.port.running := by rw [← hv]
    split
    · exact (hport s v hrun).hold False.elim
    · unfold State.commitRegister State.writeResetWord
      split
      · exact doorsHold_reset ⟨rfl, rfl, rfl⟩
      · exact ((hport s v hrun).trans (hnoted _)).hold False.elim
  · exact .refl s

end

end Sys2Proof.Machine

namespace Sys2Proof.Machine

/-! ## Every command -/

theorem doorsHold_run {c : Instr} {s t : State} {dt : Nat} {f : State → State} (h : exec c s = .next (s.run dt f))
    (hc : exec c s = .next t) (hf : ∀ u, DoorsHold u (f u)) : DoorsHold s t := by
  obtain rfl : s.run dt f = t := Host.Outcome.next.inj (h.symm.trans hc)
  exact (hf _).settle

/-- The commands that touch a side or what its soundness reads, none of which may be passed by its frame alone. -/
def reachesDoors : Instr → Bool
  | .configure _ | .spanControlDisable _ | .spanControlRestart _ | .spanControlBypass _ | .hello _ _ | .keepalive _ _ | .silence _ _
  | .errors _ _ | .jamEnd _ _ | .frameCompleted _ _ | .order _ _ | .doorOrder _ | .doorLocalIsolate _ | .doorLocalRestore _
  | .faultClearDoor _ | .lockLevelChanged _ _ | .driveMismatch _ _ | .driveMismatchEnded _ _ | .applyInstant _ | .leaseExpired _ _
  | .closeTimeout _ _ | .readingCompleted _ _ _ | .lowTimerExpired _ | .returnTimerExpired _ | .releaseHalfPeriod _ _
  | .feedbackSample _ _ _ | .millisecondTick _ _ _ => true
  | _ => false

theorem touches_besidesDoors (c : Instr) (hr : mayReset c = false) (hp : portCommand c = false) (hd : reachesDoors c = false) :
    touches c ⊆ .census :: besidesDoors := by
  cases c
  case probe dt x _ | listenWindowEnd dt x _ | foreignProbe dt x _ _ | probeAnswer dt x | frameReceived dt x _ |
    greetingHelloDue dt x | greetTimeout dt x | keepaliveDue dt x | transmitAttempt dt x _ | backoffEnd dt x =>
    cases x <;> simp [touches, spanPart, besidesDoors, eventParts]
  case collision dt pin => cases h : pin.span <;> simp [touches, spanPart, besidesDoors, h]
  case powerOn | resetn | resetWord => simp [mayReset] at hr
  case memRead | memWrite | regRead | regWriteOther | portSetEcho | portSetAttnPolarity | portSetAttnDrive | misalign |
    misalignedTransaction | unknownOpcode | ignoredTransaction => simp [portCommand] at hp
  case take | spanControlEnable | spanControlUnbypass | relaySwitched | takeLead | censusStart | dropLead | call | report | table |
    tableAck | void | brk | censusTimerExpired | settleTimerExpired | orderAck | ackWaitTimeout | grant | doorStateRoll | demandRoll |
    originationTimer | substituteOrigination | doorOrderTimedOut | rollAgeTimerExpired | faultClearHeating | heatDemand |
    demandLeaseExpired | heatSupply | allocationTimerExpired | grantHoldExpired | periodStart | windowStart | windowEnd =>
    simp only [touches]
    decide
  all_goals simp [reachesDoors] at hd

theorem doorsHold_reaches {c : Instr} {s t : State} (hc : exec c s = .next t) (hd : reachesDoors c = true) : DoorsHold s t := by
  cases c
  case configure => exact doorsHold_run rfl hc doorsHold_configure
  case spanControlDisable => exact doorsHold_step rfl hc fun u => doorStep_serve u _ fun r v => doorStep_disable v r
  case spanControlRestart => exact doorsHold_step rfl hc fun u => doorStep_serve u _ fun r v => doorStep_restart v r
  case spanControlBypass =>
    refine doorsHold_step rfl hc fun u => doorStep_serve u _ fun r v => ?_
    split
    · exact (doorStep_bypass v _).trans (doorStep_exitWhere _ _ _ _)
    · exact doorStep_complete _ _ _ _ _
    · exact doorStep_complete _ _ _ _ _
  case hello dt x =>
    exact doorsHold_step rfl hc fun u => frameRel_doorStep.takeFrame links_besidesDoors (fun r v =>
      frameRel_doorStep.takeHello links_besidesDoors doorStep_tellLost doorStep_spanDownReport doorStep_spanUpReport v x r.frame) u x _
  case keepalive dt x =>
    exact doorsHold_step rfl hc fun u => frameRel_doorStep.takeFrame links_besidesDoors (fun r v =>
      frameRel_doorStep.takeKeepalive links_besidesDoors doorStep_tellLost doorStep_spanDownReport v x r.frame) u x _
  case silence => exact doorsHold_step rfl hc fun u => frameRel_doorStep.when fun _ => doorStep_exitSpan u _ _ _
  case errors => exact doorsHold_step rfl hc fun u => frameRel_doorStep.when fun _ => doorStep_exitSpan u _ _ _
  case jamEnd =>
    refine doorsHold_step rfl hc fun u => ?_
    split
    · exact frameRel_doorStep.when fun _ => frameRel_doorStep.endJam links_besidesDoors doorStep_tellLost u _ _
    all_goals exact .refl u
  case frameCompleted =>
    refine doorsHold_step rfl hc fun u => ?_
    split
    · exact frameRel_doorStep.when fun _ => frameRel_doorStep.completeFrame links_besidesDoors doorStep_leadOrderCompleted u _ _ _ _
    · exact .refl u
  case order dt x =>
    exact doorsHold_step rfl hc fun u => frameRel_doorStep.takeWave links_besidesDoors (fun f n v => doorStep_takeOrder v x f n) u x _
  case doorOrder => exact doorsHold_step rfl hc fun u => doorStep_serve u _ fun r v => doorStep_doorOrder v r
  case doorLocalIsolate =>
    exact doorsHold_fit rfl hc fun u => doorFit_serve u _ fun r v => doorFit_doorLocal v r fun k w => doorFit_isolateSide w k
  case doorLocalRestore =>
    exact doorsHold_fit rfl hc fun u => doorFit_serve u _ fun r v => doorFit_doorLocal v r fun k w => doorFit_restoreSide w k
  case faultClearDoor => exact doorsHold_fit rfl hc fun u => doorFit_serve u _ fun r v => doorFit_faultClearDoor v r
  case lockLevelChanged dt k =>
    exact doorsHold_fit rfl hc fun u => frameRel_doorFit.when fun _ => FrameRel.branch (fun _ => doorFit_lockFalse u k) fun _ =>
      doorFit_lockTrue u k
  case driveMismatch dt k =>
    exact doorsHold_fit rfl hc fun u => frameRel_doorFit.when fun h => doorFit_takeFeedback u k _
      (sampleDue_present u ((Bool.and_eq_true _ _).mp h).1)
  case driveMismatchEnded dt k =>
    exact doorsHold_fit rfl hc fun u => frameRel_doorFit.when fun h => doorFit_takeFeedback u k _ (sampleDue_present u h)
  case feedbackSample dt k high =>
    exact doorsHold_fit rfl hc fun u => frameRel_doorFit.when fun h => doorFit_takeFeedback u k _ (sampleDue_present u h)
  case applyInstant => exact doorsHold_step rfl hc doorStep_applyInstant
  case leaseExpired dt k =>
    exact doorsHold_fit rfl hc fun u => frameRel_doorFit.when fun h => doorFit_enterSide u k _ _ _ (sideStep_expired h.1).toSideFit
  case closeTimeout dt k => exact doorsHold_fit rfl hc fun u => frameRel_doorFit.when fun h => doorFit_closeTimeout u k h.1
  case readingCompleted => exact doorsHold_fit rfl hc fun u => frameRel_doorFit.when fun _ => doorFit_completeReading u _ _
  case lowTimerExpired =>
    refine doorsHold_run rfl hc fun u => ?_
    split
    exacts [doorsHold_lowTimer u, DoorsHold.refl u]
  case returnTimerExpired =>
    refine doorsHold_run rfl hc fun u => ?_
    split
    exacts [doorsHold_returnTimer u, DoorsHold.refl u]
  case releaseHalfPeriod dt k =>
    exact doorsHold_fit rfl hc fun u => frameRel_doorFit.when fun _ => doorFit_setSide u k _ (sideFit_halfPeriod _)
  case millisecondTick => exact doorsHold_fit rfl hc fun u => frameRel_doorFit.when fun _ => doorFit_tick u _ _
  all_goals exact absurd hd (by simp [reachesDoors])

theorem doorsHold_resets {c : Instr} {s t : State} (hc : exec c s = .next t) (h : mayReset c = true) : DoorsHold s t := by
  cases c
  case powerOn =>
    obtain rfl : s.hardReset = t := Host.Outcome.next.inj hc
    exact doorsHold_reset ⟨rfl, rfl, rfl⟩
  case resetn =>
    obtain rfl : s.hardReset = t := Host.Outcome.next.inj hc
    exact doorsHold_reset ⟨rfl, rfl, rfl⟩
  case resetWord => exact doorsHold_run rfl hc fun u => doorsHold_resetWord u _
  all_goals exact absurd h (by simp [mayReset])

theorem exec_doorsHold {c : Instr} {s t : State} (hc : exec c s = .next t) : DoorsHold s t := by
  cases hr : mayReset c
  · cases hp : portCommand c
    · cases hd : reachesDoors c
      · exact doorsHold_elsewhere hc hr (touches_besidesDoors c hr hp hd)
      · exact doorsHold_reaches hc hd
    · exact doorsHold_port hc hp
  · exact doorsHold_resets hc hr

/-- A step is a command on the queue's rest, or idles (log 4). -/
theorem step_cases {s t : State} (h : step s = .next t) :
    (s.pending = [] ∧ t = s) ∨ ∃ c rest, s.pending = c :: rest ∧ exec c { s with pending := rest } = .next t := by
  unfold step at h
  split at h
  next hp => exact .inl ⟨hp, (Host.Outcome.next.inj h).symm⟩
  next c rest hp => exact .inr ⟨c, rest, hp, h⟩

theorem step_doorsHold {s t : State} (h : step s = .next t) : DoorsHold s t := by
  obtain ⟨-, rfl⟩ | ⟨c, rest, -, hc⟩ := step_cases h
  · exact .refl t
  · obtain ⟨hs, hr⟩ := exec_doorsHold hc
    exact ⟨hs, hr⟩

/-- Settles O55: every operation keeps each side's clauses, and RELEASED needs AUX OK (R105, R108). -/
theorem doorSidesStaySound : Obligations.DoorSidesStaySound := by
  unfold Obligations.DoorSidesStaySound
  intro s t hs h
  exact (step_doorsHold h).sound hs

/-- Settles O56: a side becomes RELEASED by an order alone, whose application checks the car as the step found it (R105). -/
theorem releaseNeedsValidAndAux : Obligations.ReleaseNeedsValidAndAux := by
  unfold Obligations.ReleaseNeedsValidAndAux
  intro s t k h hs ht
  obtain ⟨⟨hv, ha⟩, hl, hr⟩ := ((step_doorsHold h).released k ht).resolve_left hs
  exact ⟨hv, ha, hl, hr⟩

end Sys2Proof.Machine

/-!
The arithmetic of heating: what a period expects to draw, and what an allocation grants (R138, R146).
-/

namespace Sys2Proof.Machine

/-! ## Settings in force, demand and the period's current -/

/-- Every field of settings without a fault is within its values (R163). -/
theorem settingsFault_none {c : Settings} (h : settingsFault c = none) {x : Nat × Bool} (hx : x ∈ settingsChecks c) : x.2 = true := by
  unfold settingsFault at h
  rw [Option.map_eq_none_iff, List.find?_eq_none] at h
  simpa using h x hx

theorem ceiling_le {c : Settings} (h : settingsFault c = none) : c.ceiling ≤ 4000 := by
  have := settingsFault_none h (x := (24, decide (c.ceiling ≤ 4000))) (by simp [settingsChecks])
  simpa using this

/-- A sum of products scaled down stays within the sum scaled down. -/
theorem total_scaled_le (r k : Stages Nat) (c d : Nat) :
    (Stages.zip (· * ·) r (k.map fun n => n * c / d)).total * d ≤ (Stages.zip (· * ·) r k).total * c := by
  have hone (a b : Nat) : a * (b * c / d) * d ≤ a * b * c := by
    calc a * (b * c / d) * d = a * (b * c / d * d) := by ring
      _ ≤ a * (b * c) := Nat.mul_le_mul_left _ (Nat.div_mul_le_self _ _)
      _ = a * b * c := by ring
  have h0 := hone r.s0 k.s0
  have h1 := hone r.s1 k.s1
  have h2 := hone r.s2 k.s2
  have h3 := hone r.s3 k.s3
  simp only [Stages.total, Stages.zip, Stages.map, Nat.add_mul]
  omega

/-- The expected current of a period never exceeds its cap (R146). -/
theorem expectedCurrent_le (r k : Stages Nat) (c d : Nat) (h : d = 0 ∨ d = demandOf r k) :
    expectedCurrent r (k.map (scaledOnTime c d)) ≤ c := by
  unfold expectedCurrent
  by_cases hd : d = 0
  · have : k.map (scaledOnTime c d) = { s0 := 0, s1 := 0, s2 := 0, s3 := 0 } := by simp [Stages.map, scaledOnTime, hd]
    rw [this]
    simp [Stages.zip, Stages.total]
  have hdem : d = ((Stages.zip (· * ·) r k).total + 255) / 256 := h.resolve_left hd
  by_cases hc : d ≤ c
  · have : k.map (scaledOnTime c d) = k := by simp [Stages.map, scaledOnTime, hd, hc]
    rw [this]
    omega
  · have : k.map (scaledOnTime c d) = k.map fun n => n * c / d := by simp [Stages.map, scaledOnTime, hd, hc]
    rw [this]
    have hsum := total_scaled_le r k c d
    have hle : (Stages.zip (· * ·) r k).total ≤ 256 * d := by omega
    have hbound : (Stages.zip (· * ·) r (k.map fun n => n * c / d)).total ≤ 256 * c := by
      refine Nat.le_of_mul_le_mul_right (hsum.trans ?_) (Nat.pos_of_ne_zero hd)
      calc (Stages.zip (· * ·) r k).total * c ≤ 256 * d * c := Nat.mul_le_mul_right _ hle
        _ = 256 * c * d := by ring
    omega

theorem demand_cases (s : State) : s.demand = 0 ∨ s.demand = demandOf s.settings.ratings s.heat.onTimes := by
  unfold State.demand
  split <;> simp

/-- No stage fires on an empty demand. -/
theorem scaledOnTime_zero (c k : Nat) : scaledOnTime c 0 k = 0 := if_pos rfl

/-! ## Grants within the greatest demand (R138) -/

theorem handOut_grant_le (level : Nat) : ∀ (r : Nat) (es : List (Nat × Nat)), ∀ x ∈ handOut level r es,
    x.grant ≤ x.demand ∧ ∃ e ∈ es, x.demand = e.2
  | _, [], x, hx => by simp [handOut] at hx
  | r, (p, d) :: rest, x, hx => by
    have hrest {q : Nat} (h : x ∈ handOut level q rest) : x.grant ≤ x.demand ∧ ∃ e ∈ (p, d) :: rest, x.demand = e.2 := by
      obtain ⟨hle, e, he, hd⟩ := handOut_grant_le level q rest x h
      exact ⟨hle, e, List.mem_cons_of_mem _ he, hd⟩
    unfold handOut at hx
    split at hx
    next hc =>
      obtain rfl | hx := List.mem_cons.mp hx
      exacts [⟨hc.1, _, List.mem_cons_self, rfl⟩, hrest hx]
    next hc =>
      obtain rfl | hx := List.mem_cons.mp hx
      exacts [⟨Nat.min_le_left _ _, _, List.mem_cons_self, rfl⟩, hrest hx]

/-- A share's grant is at most its demand, and its demand at most 4000. -/
theorem divide_share_le (leff : Nat) (es : List (Nat × Nat)) : ∀ x ∈ (divide leff es).shares, x.grant ≤ x.demand ∧ x.demand ≤ 4000 := by
  intro x hx
  unfold divide at hx
  simp only at hx
  split at hx
  · obtain ⟨e, he, rfl⟩ := List.mem_map.mp hx
    obtain ⟨e', -, rfl⟩ := List.mem_map.mp he
    simp
  · obtain ⟨hle, e, he, hd⟩ := handOut_grant_le _ _ _ x hx
    obtain ⟨e', -, rfl⟩ := List.mem_map.mp he
    rw [hd] at hle ⊢
    simp only at hle ⊢
    omega

theorem grantAt_divide_le (leff : Nat) (es : List (Nat × Nat)) (p : Nat) : grantAt (divide leff es).shares p ≤ 4000 := by
  unfold grantAt
  split
  next x hx =>
    obtain ⟨h1, h2⟩ := divide_share_le leff es x (List.mem_of_find?_eq_some hx)
    omega
  · simp

end Sys2Proof.Machine

/-!
A property of states that the blocks' primitive operations keep is kept by every operation of the census engine, the wave relay and
the lead's orders, which are made of them.
-/

namespace Sys2Proof.Machine

theorem takeFor_length (c : Consumer) (l : List RxFrame) : (takeFor c l).2.length ≤ l.length := by
  induction l with
  | nil => simp [takeFor]
  | cons f l ih =>
    unfold takeFor
    split
    · simp
    · simpa using ih

/-- What the operations of the blocks touch without a word to the spans, the slots, the engine or the heating share unit. -/
def coreParts : List Part :=
  [.now, .clock, .choices, .pending, .pub, .slotTally, .faultTally, .table, .relay, .side1, .side2, .summary]

/-- A property that the primitive operations keep: a frame offered to a span by another block, one taken from its receive queue, a
change of the engine beside its slot, the answer to that slot, a change of the lead's orders beside their slot, the answer to that
one, and the heating share unit's own operations. -/
structure OpsKeep (K : State → Prop) : Prop where
  frame : ∀ {s t : State}, Touches coreParts s t → K s → K t
  offer : ∀ (s : State) (x : SpanId) (f : TxFrame), f.frame.kind.consumer ≠ .spanUnit → K s → K (s.offer x f).1
  taken : ∀ (s : State) (x : SpanId) (l : List RxFrame), l.length ≤ (s.span x).rxq.length → K s →
    K (s.setSpan x { s.span x with rxq := l })
  census : ∀ (s : State) (c : Census), c.slot = s.census.slot → K s → K (s.setCensus c)
  answer : ∀ (s : State) (o : SlotOutcome) (d : Byte) (n : Nat) (p : Byte), K s → K (s.completeCensusSlot o d n p)
  orders : ∀ (s : State) (v : Door), v.outstanding.map (fun o => o.slot) = s.door.outstanding.map (fun o => o.slot) → K s →
    K { s with door := v }
  finish : ∀ (s : State) (o : Outstanding) (m : OrderAck) (oc : SlotOutcome) (d : Byte),
    s.door.outstanding.map (fun o => o.slot) = some o.slot → K s → K (s.finishOrder o m oc d)
  heat : ∀ (s : State) (v : Heat), v.cap = s.heat.cap → v.holdEnd = s.heat.holdEnd → v.lastGrant = s.heat.lastGrant → K s →
    K { s with heat := v }
  generation : ∀ s : State, K s → K s.generationChanged
  takeGrant : ∀ (s : State) (value : Nat) (gen alloc : Word16), value ≤ 4000 → K s → K (s.takeGrant value gen alloc)

theorem iteClosed {K : State → Prop} {s t : State} {p : Prop} [Decidable p] (hs : K s) (ht : K t) : K (if p then s else t) := by
  split
  exacts [hs, ht]

section
variable {K : State → Prop} (hK : OpsKeep K)
include hK

/-! ## Small operations -/

theorem OpsKeep.raise (s : State) (g : Nat) (e : Event) (h : K s) : K (s.raise g e) :=
  hK.frame ((touches_raised s _).mono (by simp [coreParts])) h

theorem OpsKeep.setCensus (s : State) (c : Census) (h : K s) (hslot : c.slot = s.census.slot := by rfl) : K (s.setCensus c) :=
  hK.census s c hslot h

theorem OpsKeep.relay (s : State) (v : Relay) (h : K s) : K { s with relay := v } :=
  hK.frame ((touches_relay s v).mono (by simp [coreParts])) h

theorem OpsKeep.table (s : State) (v : Table) (h : K s) : K { s with table := v } :=
  hK.frame ((touches_table s v).mono (by simp [coreParts])) h

theorem OpsKeep.send (s : State) (x : SpanId) (f : Frame) (h : K s) (hf : f.kind.consumer ≠ .spanUnit := by nofun) : K (s.send x f) :=
  hK.offer s x _ hf h

theorem OpsKeep.sendIf (s : State) (x : Option SpanId) (f : Frame) (h : K s) (hf : f.kind.consumer ≠ .spanUnit := by nofun) :
    K (s.sendIf x f) := by
  cases x
  exacts [h, hK.send s _ f h hf]

theorem OpsKeep.clearAllocations (s : State) (h : K s) : K s.clearAllocations := hK.heat s _ rfl rfl rfl h

theorem OpsKeep.endOutstanding (s : State) (o : SlotOutcome) (d st og : Byte) (h : K s) : K (s.endOutstanding o d st og) := by
  unfold State.endOutstanding
  split
  next out hout => exact hK.finish s out _ _ _ (by rw [hout]; rfl) h
  · exact h

theorem OpsKeep.dropHeldRoll (s : State) (h : K s) : K s.dropHeldRoll := hK.orders s _ rfl h

theorem OpsKeep.noteDemands (s : State) (es : List (Nat × Nat)) (h : K s) : K (s.noteDemands es) :=
  hK.frame ((touches_noteDemands (by simp [coreParts]) (by simp [coreParts]) es).mpr (Touches.refl _ _)) h

theorem OpsKeep.publishImage (s : State) (h : K s) : K s.publishImage :=
  hK.frame ((touches_publishImage (by simp [coreParts])).mpr (Touches.refl _ _)) h

theorem OpsKeep.eitherOrder {f g : State → State} (hf : ∀ s, K s → K (f s)) (hg : ∀ s, K s → K (g s)) (s : State) (h : K s) :
    K (s.eitherOrder f g) := by
  have hc : K { s with choices := s.choices + 1 } := hK.frame ((touches_choices s _).mono (by simp [coreParts])) h
  exact iteClosed (hg _ (hf _ hc)) (hf _ (hg _ hc))

theorem OpsKeep.takeFrame {f : RxFrame → State → State} (hf : ∀ r s, K s → K (f r s)) (s : State) (x : SpanId) (k : FrameKind)
    (h : K s) : K (s.takeFrame x k f) := by
  unfold State.takeFrame
  simp only
  split
  next r rest hr =>
    refine iteClosed (hf _ _ (hK.taken s x rest ?_ h)) h
    have := takeFor_length k.consumer (s.span x).rxq
    rwa [hr] at this
  · exact h

theorem OpsKeep.takeWhileUp {f : Frame → Nat → State → State} (hf : ∀ r n s, K s → K (f r n s)) (s : State) (x : SpanId)
    (k : FrameKind) (h : K s) : K (s.takeWhileUp x k f) :=
  hK.takeFrame (fun _ _ hs => iteClosed (hf _ _ _ hs) hs) s x k h

theorem OpsKeep.takeWave {f : Frame → Nat → State → State} (hf : ∀ r n s, K s → K (f r n s)) (s : State) (x : SpanId)
    (k : FrameKind) (h : K s) : K (s.takeWave x k f) :=
  hK.takeWhileUp (fun _ _ _ hs => iteClosed (hf _ _ _ hs) hs) s x k h

/-! ## The wave relay -/

theorem OpsKeep.originate (s : State) (k : RollKind) (h : K s) : K (s.originate k) := by
  cases k
  exacts [hK.sendIf s _ _ h, hK.sendIf _ _ _ (hK.noteDemands s _ h)]

theorem OpsKeep.reviewEnd (s : State) (h : K s) : K s.reviewEnd := by
  have hend : K s.becomeEnd := by
    unfold State.becomeEnd
    exact hK.originate _ _ (hK.originate _ _ (hK.relay s _ h))
  exact iteClosed (iteClosed (iteClosed h hend) (iteClosed h (hK.relay s _ h))) h

theorem OpsKeep.sendAck (s : State) (m : OrderAck) (gen : Word16) (h : K s) : K (s.sendAck m gen) := hK.sendIf s _ _ h

theorem OpsKeep.endOpenOrder (s : State) (why : StopReason) (h : K s) : K (s.endOpenOrder why) := by
  unfold State.endOpenOrder
  split
  exacts [h, hK.sendAck _ _ _ (hK.relay s _ h)]

theorem OpsKeep.forwardedLost (s : State) (gen : Word16) (number : Byte) (why : StopReason) (h : K s) :
    K (s.forwardedLost gen number why) := by
  unfold State.forwardedLost
  split
  exacts [h, iteClosed (hK.endOpenOrder s _ h) h]

theorem OpsKeep.relaySpanDown (s : State) (x : SpanId) (h : K s) : K (s.relaySpanDown x) := iteClosed (hK.endOpenOrder s _ h) h

/-- An allocation (R137 to R139). -/
theorem OpsKeep.allocate (s : State) (h : K s) : K s.allocate := by
  unfold State.allocate
  simp only
  generalize hw : State.takeGrant _ _ _ _ = w
  have hgranted : K w := by
    rw [← hw]
    exact hK.takeGrant _ _ _ _ (grantAt_divide_le _ _ _) (hK.heat _ _ rfl rfl rfl (hK.publishImage s h))
  have hrecorded (rs : List ImageRecord) (a : AllocRecord) :
      K { w.setRecords rs with heat := { w.heat with lastAlloc := a } } :=
    hK.heat (w.setRecords rs) _ rfl rfl rfl (hK.table w _ hgranted)
  exact iteClosed (hK.send _ _ _ (hrecorded _ _)) (hrecorded _ _)

/-! ## The census engine -/

theorem OpsKeep.enterCensus (s : State) (c : CensusState) (h : K s) : K (s.enterCensus c) := by
  unfold State.enterCensus
  simp only
  refine iteClosed (hK.setCensus _ _ h) ?_
  have hu := hK.clearAllocations _ (hK.relay _ Relay.empty (hK.setCensus s { s.census with
    state := c, timerEnd := (censusTime c).map (fun d => s.now + d), settleEnd := if c.busy then none else s.census.settleEnd } h))
  split
  · exact hu
  · exact hK.dropHeldRoll _ (hK.endOutstanding _ _ _ _ _ hu)

theorem OpsKeep.leaveCensus (s : State) (h : K s) : K s.leaveCensus := hK.enterCensus s _ h

theorem OpsKeep.writeTable (s : State) (own : Nat) (gen number : Word16) (lead : Word32) (rs : List CarRecord) (h : K s) :
    K (s.writeTable own gen number lead rs) := iteClosed (hK.table s _ h) (hK.generation _ (hK.table s _ h))

theorem OpsKeep.sendVoid (s : State) (x : SpanId) (m : VoidMark) (h : K s) : K (s.sendVoid x m) := iteClosed (hK.send s x _ h) h

theorem OpsKeep.startSettle (s : State) (retry : Nat) (h : K s) : K (s.startSettle retry) := iteClosed (hK.setCensus s _ h) h

theorem OpsKeep.failCensus (s : State) (reason : FailReason) (p : Byte) (h : K s) : K (s.failCensus reason p) := by
  unfold State.failCensus State.censusFailedEvent
  refine iteClosed (hK.startSettle _ _ (hK.raise _ _ _ ?_)) (hK.raise _ _ _ ?_) <;>
    exact hK.answer _ _ _ _ _ (hK.sendVoid _ _ _ (hK.enterCensus s _ h))

theorem OpsKeep.completeCensus (s : State) (h : K s) : K s.completeCensus :=
  hK.answer _ _ _ _ _ (hK.raise _ _ _ (hK.setCensus _ _ (hK.enterCensus s _ h)))

theorem OpsKeep.startAllocations (s : State) (h : K s) : K s.startAllocations :=
  hK.allocate _ (hK.heat s _ rfl rfl rfl h)

theorem OpsKeep.buildSingle (s : State) (h : K s) : K s.buildSingle :=
  hK.startAllocations _ (hK.completeCensus _ (hK.clearAllocations _ (hK.writeTable s _ _ _ _ _ h)))

theorem OpsKeep.startCensus (s : State) (slot : Option Nat)
    (h : K (s.setCensus { s.census with number := nextNumber s.census.number, slot := slot, settleEnd := none })) :
    K (s.startCensus slot) :=
  iteClosed (hK.failCensus _ _ _ h) (iteClosed (hK.send _ _ _ (hK.enterCensus _ _ h)) (hK.buildSingle _ h))

theorem OpsKeep.becomeLead (s : State) (h : K s) : K s.becomeLead :=
  hK.clearAllocations _ (hK.relay _ _ (hK.setCensus s _ h))

theorem OpsKeep.becomeMember (s : State) (h : K s) : K s.becomeMember :=
  hK.clearAllocations _ (hK.heat _ _ rfl rfl rfl (hK.setCensus _ _ (hK.enterCensus s _ h)))

theorem OpsKeep.goStale (s : State) (p e c : Byte) (h : K s) : K (s.goStale p e c) :=
  iteClosed (hK.raise _ _ _ (hK.enterCensus s _ h)) h

theorem OpsKeep.sendBreak (s : State) (x : SpanId) (c : Byte) (h : K s) : K (s.sendBreak x c) := hK.sendIf s _ _ h

theorem OpsKeep.leadSpanEvent (s : State) (x : SpanId) (c : Byte) (h : K s) : K (s.leadSpanEvent x c) :=
  hK.startSettle _ _ (hK.goStale s _ _ _ h)

theorem OpsKeep.censusSpanUp (s : State) (x : SpanId) (h : K s) : K (s.censusSpanUp x) := by
  unfold State.censusSpanUp
  split
  · exact iteClosed (iteClosed (hK.failCensus s _ _ h) h) (hK.leadSpanEvent s _ _ h)
  · exact iteClosed (hK.goStale _ _ _ _ (hK.sendBreak s _ _ h)) h

theorem OpsKeep.reportSilent (s : State) (c : Context) (h : K s) : K (s.reportSilent c) := hK.leaveCensus _ (hK.send s _ _ h)

theorem OpsKeep.memberSpanLost (s : State) (x : SpanId) (c : Byte) (h : K s) : K (s.memberSpanLost x c) :=
  iteClosed (hK.goStale _ _ _ _ (hK.sendBreak s _ _ h)) (iteClosed (hK.leaveCensus _ (hK.sendVoid s _ _ h)) h)

theorem OpsKeep.censusSpanDown (s : State) (x : SpanId) (cause : Cause) (h : K s) : K (s.censusSpanDown x cause) := by
  unfold State.censusSpanDown
  split
  · exact iteClosed (iteClosed (hK.failCensus s _ _ h) h) (hK.leadSpanEvent s _ _ h)
  · split
    case h_1 => exact iteClosed (hK.leaveCensus s h) (hK.reportSilent s _ h)
    case h_2 => exact iteClosed (hK.leaveCensus s h) h
    case h_8 | h_9 => exact hK.memberSpanLost s _ _ h
    all_goals exact h

theorem OpsKeep.spanUpReport (s : State) (x : SpanId) (p : Partner) (h : K s) : K (s.spanUpReport x p) :=
  hK.reviewEnd _ (hK.censusSpanUp _ _ (hK.raise s _ _ h))

theorem OpsKeep.spanDownReport (s : State) (x : SpanId) (cause : Cause) (lost : Word32) (h : K s) :
    K (s.spanDownReport x cause lost) :=
  hK.reviewEnd _ (hK.censusSpanDown _ _ _ (hK.relaySpanDown _ _ (hK.raise s _ _ h)))

/-! ## The census commands -/

theorem OpsKeep.dropLead (s : State) (h : K s) : K s.dropLead := by
  have h2 (c : Census) hc := hK.census _ c hc (hK.sendVoid s s.trainSpan
    { number := s.census.number, lead := s.settings.identity, reason := FailReason.leadDropped.code } h)
  exact iteClosed (hK.answer _ _ _ _ _ (hK.becomeMember _ (hK.raise _ _ _ (h2 _ rfl)))) (hK.becomeMember _ (h2 _ rfl))

theorem OpsKeep.adoptCall (s : State) (x : SpanId) (m : CallMsg) (h : K s) : K (s.adoptCall x m) := by
  have h1 (c : Census) (hc : c.slot = s.census.slot) := hK.census s c hc h
  exact iteClosed (iteClosed (hK.enterCensus _ _ (hK.send _ _ _ (h1 _ rfl))) (hK.leaveCensus _ (hK.send _ _ _ (h1 _ rfl))))
    (hK.enterCensus _ _ (hK.send _ _ _ (h1 _ rfl)))

theorem OpsKeep.takeCall (s : State) (x : SpanId) (f : Frame) (h : K s) : K (s.takeCall x f) := by
  unfold State.takeCall
  split
  · exact h
  split
  · unfold State.memberCall State.memberConflict
    refine iteClosed h ?_
    split
    · exact hK.adoptCall s _ _ h
    · exact iteClosed (iteClosed (hK.adoptCall s _ _ h) h) (iteClosed
        (hK.raise _ _ _ (hK.leaveCensus _ (hK.send _ _ _ (hK.send s _ _ h)))) (hK.adoptCall s _ _ h))
  · exact iteClosed h (iteClosed (hK.failCensus _ _ _ (hK.raise _ _ _ (hK.send s _ _ h))) (hK.raise _ _ _ (hK.send s _ _ h)))

theorem OpsKeep.takeReport (s : State) (x : SpanId) (f : Frame) (h : K s) : K (s.takeReport x f) := by
  unfold State.takeReport
  split
  · exact h
  split
  · unfold State.memberReport
    split
    · exact iteClosed (iteClosed (hK.enterCensus _ _ (hK.setCensus _ _ (hK.send s _ _ h))) (hK.leaveCensus _ (hK.send s _ _ h))) h
    · exact h
  · unfold State.leadReport
    refine iteClosed ?_ h
    have hfail := hK.failCensus s
    have hbuild (rs : List CarRecord) : K (s.buildTable rs) := by
      unfold State.buildTable
      exact hK.enterCensus _ _ (hK.send _ _ _ (hK.writeTable s _ _ _ _ _ h))
    split
    exacts [hfail _ _ h, hfail _ _ h, hfail _ _ h, iteClosed (hfail _ _ h) (hbuild _)]

theorem OpsKeep.takeTable (s : State) (x : SpanId) (f : Frame) (h : K s) : K (s.takeTable x f) := by
  have hrefuse (c : Context) : K (s.refuseTable c) := hK.send _ _ _ (hK.leaveCensus s h)
  have hadopt (m : TableMsg) (c : Context) (payload : List Byte) : K (s.adoptTable m c payload) := by
    have ht := hK.enterCensus _ .valid (hK.writeTable s c.position m.gen m.number m.lead m.records h)
    exact iteClosed (hK.send _ _ _ ht) (iteClosed (hK.goStale _ _ _ _ (hK.sendBreak _ _ _ (hK.send _ _ _ ht))) (hK.send _ _ _ ht))
  unfold State.takeTable
  split
  · unfold State.memberTable
    split
    · exact h
    · exact iteClosed (iteClosed (iteClosed (hadopt _ _ _) (hrefuse _)) (iteClosed h (hrefuse _))) h
  · exact h
  · exact h

theorem OpsKeep.takeTableAck (s : State) (x : SpanId) (f : Frame) (h : K s) : K (s.takeTableAck x f) := by
  unfold State.takeTableAck
  split
  · exact h
  split
  · unfold State.memberTableAck
    split
    · exact h
    · exact iteClosed (hK.setCensus _ _ (hK.send s _ _ h)) h
  · exact iteClosed (iteClosed (hK.completeCensus s h) (hK.failCensus s _ _ h)) h

theorem OpsKeep.takeVoid (s : State) (x : SpanId) (f : Frame) (h : K s) : K (s.takeVoid x f) := by
  unfold State.takeVoid
  split
  · unfold State.memberVoid
    split
    · exact h
    · have h1 (c : Census) hc := hK.census _ c hc (hK.leaveCensus s h)
      exact iteClosed (iteClosed (hK.send _ _ _ (h1 _ rfl)) (h1 _ rfl)) h
  · exact h
  · exact h

theorem OpsKeep.takeBreak (s : State) (x : SpanId) (f : Frame) (h : K s) : K (s.takeBreak x f) := by
  unfold State.takeBreak
  split
  · exact h
  split
  · exact iteClosed (hK.sendIf _ _ _ (hK.goStale s _ _ _ h)) h
  · unfold State.leadBreak
    refine iteClosed ?_ h
    split
    exacts [hK.startSettle _ _ (hK.goStale s _ _ _ h), hK.startSettle s _ h, hK.startSettle s _ h, hK.failCensus s _ _ h, h, h, h]

theorem OpsKeep.censusTimeout (s : State) (h : K s) : K s.censusTimeout := by
  unfold State.censusTimeout
  split
  exacts [hK.failCensus s _ _ h, hK.failCensus s _ _ h, hK.reportSilent s _ h, hK.leaveCensus s h, hK.leaveCensus s h, h, h, h]

end

end Sys2Proof.Machine

/-!
The lead's orders, the frames told lost and the wave commands keep what the primitive operations keep.
-/

namespace Sys2Proof.Machine

theorem handOrder_outstanding (s : State) (o : Order) (gen : Word16) (applyAt : Nat) (late : Bool) (p : Nat) :
    (s.handOrder o gen applyAt late p).1.door.outstanding = s.door.outstanding := by
  have h : Touches [.side1, .side2, .pub, .summary, .choices] s (s.handOrder o gen applyAt late p).1 :=
    (touches_handOrder (by simp) (by simp) (by simp) (by simp) (by simp) _ _ _ _ _).mpr (Touches.refl _ _)
  have hlead : (s.handOrder o gen applyAt late p).1.door = { s.door with
      side1 := (s.handOrder o gen applyAt late p).1.door.side1, side2 := (s.handOrder o gen applyAt late p).1.door.side2
      summary := (s.handOrder o gen applyAt late p).1.door.summary } := (h .doorLead (by simp)).1
  rw [hlead]

section
variable {K : State → Prop} (hK : OpsKeep K)
include hK

/-! ## Orders of the lead -/

theorem OpsKeep.handOrder (s : State) (o : Order) (gen : Word16) (applyAt : Nat) (late : Bool) (p : Nat) (h : K s) :
    K (s.handOrder o gen applyAt late p).1 :=
  hK.frame ((touches_handOrder (by simp [coreParts]) (by simp [coreParts]) (by simp [coreParts]) (by simp [coreParts])
    (by simp [coreParts]) _ _ _ _ _).mpr (Touches.refl _ _)) h

theorem OpsKeep.inFlight (s : State) (l : List Flight) (h : K s) : K { s with door := { s.door with inFlight := l } } :=
  hK.orders s _ rfl h

/-- A change of the outstanding order beside its slot. -/
theorem OpsKeep.outstanding (s : State) (o o' : Outstanding) (ho : s.door.outstanding = some o) (hslot : o'.slot = o.slot) (h : K s) :
    K { s with door := { s.door with outstanding := some o' } } :=
  hK.orders s _ (by simp [ho, hslot]) h

theorem OpsKeep.leadTakesOwn (s : State) (f : Flight) (applyAt : Nat) (h : K s) : K (s.leadTakesOwn f applyAt) := by
  have hhand := hK.handOrder s f.order f.gen applyAt false 1 h
  unfold State.leadTakesOwn
  simp only
  split
  · exact hhand
  next o ho => exact iteClosed (hK.outstanding _ o _ ho rfl hhand) hhand

theorem OpsKeep.leadTakesAck (s : State) (m : OrderAck) (h : K s) : K (s.leadTakesAck m) := by
  unfold State.leadTakesAck
  split
  · exact h
  next o ho =>
    refine iteClosed h ?_
    split
    exacts [hK.outstanding s o _ ho rfl h, hK.finish s o _ _ _ (by rw [ho]; rfl) h]

theorem OpsKeep.leadOrderCompleted (s : State) (number : Byte) (start : Nat) (h : K s) : K (s.leadOrderCompleted number start) := by
  unfold State.leadOrderCompleted
  split
  · exact h
  next f rest _ =>
    simp only
    generalize hw : State.leadTakesOwn _ _ _ = w
    have hown : K w := hw ▸ hK.leadTakesOwn _ _ _ (hK.inFlight s rest h)
    split
    · refine iteClosed ?_ hown
      split
      exacts [hK.leadTakesAck w _ hown, hown]
    · exact hown

theorem OpsKeep.leadOrderLost (s : State) (number : Byte) (why : StopReason) (h : K s) : K (s.leadOrderLost number why) := by
  unfold State.leadOrderLost
  split
  · exact h
  next f rest _ =>
    simp only
    generalize hw : State.leadTakesOwn _ _ _ = w
    have hown : K w := hw ▸ hK.leadTakesOwn _ _ _ (hK.inFlight s rest h)
    split
    next o ho => exact iteClosed (hK.finish w o _ _ _ (by rw [ho]; rfl) hown) hown
    · exact hown

/-! ## Lost and completed frames -/

theorem OpsKeep.tellLost (s : State) (why : StopReason) (f : TxFrame) (h : K s) : K (s.tellLost why f) := by
  unfold State.tellLost
  split
  exacts [h, hK.leadOrderLost s _ _ h, hK.forwardedLost s _ _ _ h]

theorem OpsKeep.tellCompleted (s : State) (f : TxFrame) (start : Nat) (h : K s) : K (s.tellCompleted f start) := by
  unfold State.tellCompleted
  split
  exacts [h, h, hK.leadOrderCompleted s _ _ h]

theorem OpsKeep.offerOrder (s : State) (x : SpanId) (f : TxFrame) (hf : f.frame.kind.consumer ≠ .spanUnit) (h : K s) :
    K (s.offerOrder x f) := by
  have hoffer := hK.offer s x f hf h
  unfold State.offerOrder
  split
  all_goals
    rename_i heq
    rw [heq] at hoffer
  exacts [hoffer, hK.tellLost _ _ _ hoffer, hK.tellLost _ _ _ hoffer]

theorem OpsKeep.exitFollows (s : State) (x : SpanId) (u : Span) (cause : Cause) (h : K s) : K (s.exitFollows x u cause) := by
  have htell (fs : List TxFrame) (v : State) (hv : K v) : K (fs.foldl (fun w f => w.tellLost .spanEnd f) v) := by
    induction fs generalizing v with
    | nil => exact hv
    | cons f fs ih => exact ih _ (hK.tellLost v _ f hv)
  unfold State.exitFollows
  simp only
  exact iteClosed h (iteClosed (hK.spanDownReport s _ _ _ h)
    (hK.eitherOrder (htell u.queued) (fun v hv => hK.spanDownReport v _ _ _ hv) s h))

theorem OpsKeep.exitSpan (s : State) (x : SpanId) (target : ExitTo) (cause : Cause)
    (h : K (s.setSpan x ((s.span x).exit s.now cause target))) : K (s.exitSpan x target cause) := hK.exitFollows _ _ _ _ h

theorem OpsKeep.exitWhere (s : State) (p : SpanId → Bool) (target : ExitTo) (cause : Cause)
    (h : K { s with
      spanA := if p .a then s.spanA.exit s.now cause target else s.spanA
      spanB := if p .b then s.spanB.exit s.now cause target else s.spanB }) : K (s.exitWhere p target cause) := by
  have hfollow (x : SpanId) (u : Span) (v : State) (hv : K v) : K (if p x then v.exitFollows x u cause else v) :=
    iteClosed (hK.exitFollows v x u cause hv) hv
  exact iteClosed (hK.eitherOrder (hfollow .a s.spanA) (hfollow .b s.spanB) _ h) (hfollow .b s.spanB _ (hfollow .a s.spanA _ h))

/-- A DOOR_ORDER that passes its checks: the outstanding order takes the request's slot (R116). -/
theorem OpsKeep.takeDoorOrder (s : State) (r : Request) (a : Action)
    (h : ∀ v : Door, v.outstanding.map (fun o => o.slot) = some r.slot → K { s.endOutstanding .superseded 0 0 0 with door := v }) :
    K (s.takeDoorOrder r a) := by
  unfold State.takeDoorOrder
  simp only
  generalize s.endOutstanding .superseded 0 0 0 = t at h ⊢
  have hstart (n : Byte) (out : Outstanding) (e : Option Nat) (hout : out.slot = r.slot) :
      K { t with door := { t.door with lastNumber := n, outstanding := some out, ackEnd := e } } :=
    h _ (by rw [Option.map_some, hout])
  split
  · refine hK.finish _ _ _ _ _ ?_ (hK.handOrder _ _ _ _ _ _ (hstart _ _ _ rfl))
    rw [handOrder_outstanding]
    rfl
  · exact hK.offerOrder _ _ _ nofun (hK.inFlight _ _ (hstart _ _ _ rfl))

/-! ## The wave commands -/

theorem OpsKeep.setWatch (s : State) (k : RollKind) (w : RollWatch) (h : K s) : K (s.setWatch k w) := hK.relay s _ h

theorem OpsKeep.noteRoll (s : State) (k : RollKind) (h : K s) : K (s.noteRoll k) := hK.setWatch s k _ h

theorem OpsKeep.takeOrder (s : State) (x : SpanId) (f : Frame) (endAt : Nat) (h : K s) : K (s.takeOrder x f endAt) := by
  unfold State.takeOrder
  split
  case h_1 o _ _ =>
    refine iteClosed (hK.send s _ _ h) (iteClosed h (iteClosed h ?_))
    unfold State.memberOrder State.noteLate
    simp only
    generalize ht : (if f.late = true then (_ : State) else _) = t
    have h1 : K t := by
      rw [← ht]
      exact iteClosed (hK.raise _ _ _ (hK.relay s _ h)) (hK.relay s _ h)
    have h2 := hK.handOrder t o f.gen (Machine.applyInstant f endAt) f.late s.table.own h1
    generalize t.handOrder o f.gen (Machine.applyInstant f endAt) f.late s.table.own = r at h2 ⊢
    refine iteClosed (hK.sendAck _ _ _ (hK.relay _ _ h2)) ?_
    unfold State.forwardOrder
    simp only
    split
    exacts [hK.relay _ _ h2, hK.offerOrder _ _ _ nofun (hK.relay _ _ h2)]
  all_goals exact h

theorem OpsKeep.takeOrderAck (s : State) (x : SpanId) (f : Frame) (h : K s) : K (s.takeOrderAck x f) := by
  unfold State.takeOrderAck
  split
  · exact h
  refine iteClosed ?_ h
  split
  · unfold State.memberOrderAck
    split
    exacts [h, iteClosed (hK.sendAck _ _ _ (hK.relay s _ h)) h]
  · exact hK.leadTakesAck s _ h

omit hK in
/-- A valid GRANT carries no grant above 4000 (R139). -/
theorem parseGrant_le {f : Frame} {n : Nat} {m : GrantMsg} (hm : parseGrant f n = some m) (i : Nat) : m.grants.getD i 0 ≤ 4000 := by
  have hle : ∀ g ∈ m.grants, g ≤ 4000 := by
    unfold parseGrant at hm
    simp only at hm
    split at hm
    next hc =>
      obtain ⟨-, -, -, hall⟩ := hc
      obtain rfl := Option.some.inj hm
      simpa using hall
    next => exact absurd hm (by simp)
  rw [List.getD_eq_getElem?_getD]
  cases hg : m.grants[i]? with
  | none => simp
  | some g => exact hle g (List.mem_of_getElem? hg)

theorem OpsKeep.takeGrantFrame (s : State) (x : SpanId) (f : Frame) (h : K s) : K (s.takeGrantFrame x f) := by
  unfold State.takeGrantFrame
  split
  next m _ hm =>
    refine iteClosed ?_ h
    have h2 := hK.takeGrant _ _ f.gen m.alloc (parseGrant_le hm (s.table.own - 1))
      (hK.relay s { s.relay with lastGrant := some (f.gen, m.alloc) } h)
    unfold State.memberGrant
    simp only
    exact iteClosed (hK.table _ _ h2) (hK.sendIf _ _ _ (hK.table _ _ h2))
  all_goals exact h

theorem OpsKeep.takeDoorState (s : State) (x : SpanId) (f : Frame) (h : K s) : K (s.takeDoorState x f) := by
  unfold State.takeDoorState
  split
  · exact h
  refine iteClosed ?_ h
  split
  exacts [hK.sendIf _ _ _ (hK.noteRoll s _ h), hK.orders (s.setRecords _) _ rfl (hK.table s _ h)]

theorem OpsKeep.takeDemand (s : State) (x : SpanId) (f : Frame) (h : K s) : K (s.takeDemand x f) := by
  unfold State.takeDemand
  split
  · exact h
  refine iteClosed ?_ h
  split
  · exact hK.sendIf _ _ _ (hK.noteDemands _ _ (hK.noteRoll s _ h))
  · exact hK.allocate _ (hK.noteDemands _ _ (hK.heat s _ rfl rfl rfl h))

theorem OpsKeep.originateDue (s : State) (k : RollKind) (h : K s) : K (s.originateDue k) := by
  unfold State.originateDue
  simp only
  split
  exacts [iteClosed (hK.originate _ _ (hK.setWatch s _ _ h)) h, h]

theorem OpsKeep.substitute (s : State) (k : RollKind) (w : RollWatch) (h : K s) : K ((s.setWatch k w).originate k) :=
  hK.originate _ _ (hK.setWatch s k w h)

/-! ## The commands made of these operations alone -/

/-- The commands of the census and the waves, but for the requests and the settle timer, which give the engine a slot. -/
def opsCommand : Instr → Bool
  | .call _ _ | .report _ _ | .table _ _ | .tableAck _ _ | .void _ _ | .brk _ _ | .censusTimerExpired _ | .order _ _ | .orderAck _ _
  | .ackWaitTimeout _ | .grant _ _ | .doorStateRoll _ _ | .demandRoll _ _ | .originationTimer _ _ | .substituteOrigination _ _
  | .doorOrderTimedOut _ | .allocationTimerExpired _ => true
  | _ => false

theorem OpsKeep.of_run {c : Instr} {s t : State} {dt : Nat} {f : State → State} (h : exec c s = .next (s.run dt f))
    (hc : exec c s = .next t) (hf : ∀ u, K u → K (f u)) (hs : K s) : ∃ u : State, t = u.settle ∧ K u := by
  obtain rfl : s.run dt f = t := Host.Outcome.next.inj (h.symm.trans hc)
  exact ⟨f (s.advance dt), by rw [State.run], hf _ (hK.frame ((touches_now s _).mono (by simp [coreParts])) hs)⟩

/-- Such a command keeps the property up to the end of its step. -/
theorem OpsKeep.exec_unsettled {c : Instr} {s t : State} (hc : exec c s = .next t) (ho : opsCommand c = true) (hs : K s) :
    ∃ u : State, t = u.settle ∧ K u := by
  revert hs
  have hcensus {dt : Nat} {x : SpanId} {k : FrameKind} {f : State → SpanId → Frame → State}
      (h : Machine.exec c s = .next (s.run dt fun u => u.takeWhileUp x k fun g _ v => (f v x g).reviewEnd))
      (hf : ∀ v g, K v → K (f v x g)) : K s → ∃ u : State, t = u.settle ∧ K u :=
    hK.of_run h hc fun u => hK.takeWhileUp (fun g _ v hv => hK.reviewEnd _ (hf v g hv)) u x k
  have hwave {dt : Nat} {x : SpanId} {k : FrameKind} {f : Frame → Nat → State → State}
      (h : Machine.exec c s = .next (s.run dt fun u => u.takeWave x k f)) (hf : ∀ g n v, K v → K (f g n v)) :
      K s → ∃ u : State, t = u.settle ∧ K u :=
    hK.of_run h hc fun u => hK.takeWave hf u x k
  cases c
  case call => exact hcensus rfl fun v => hK.takeCall v _
  case report => exact hcensus rfl fun v => hK.takeReport v _
  case table => exact hcensus rfl fun v => hK.takeTable v _
  case tableAck => exact hcensus rfl fun v => hK.takeTableAck v _
  case void => exact hcensus rfl fun v => hK.takeVoid v _
  case brk => exact hcensus rfl fun v => hK.takeBreak v _
  case order => exact hwave rfl fun f n v => hK.takeOrder v _ f n
  case orderAck => exact hwave rfl fun f _ v => hK.takeOrderAck v _ f
  case grant => exact hwave rfl fun f _ v => hK.takeGrantFrame v _ f
  case doorStateRoll => exact hwave rfl fun f _ v => hK.takeDoorState v _ f
  case demandRoll => exact hwave rfl fun f _ v => hK.takeDemand v _ f
  case censusTimerExpired => exact hK.of_run rfl hc fun u h => iteClosed (hK.reviewEnd _ (hK.censusTimeout u h)) h
  case ackWaitTimeout => exact hK.of_run rfl hc fun u h => iteClosed (hK.endOpenOrder u _ h) h
  case originationTimer => exact hK.of_run rfl hc fun u => hK.originateDue u _
  case substituteOrigination => exact hK.of_run rfl hc fun u h => iteClosed (hK.substitute u _ _ h) h
  case doorOrderTimedOut => exact hK.of_run rfl hc fun u h => iteClosed (hK.endOutstanding u _ _ _ _ h) h
  case allocationTimerExpired =>
    refine hK.of_run rfl hc fun u h => ?_
    split
    exacts [iteClosed (hK.allocate _ (hK.heat u _ rfl rfl rfl h)) h, h]
  all_goals exact absurd ho (by simp [opsCommand])

theorem OpsKeep.exec {c : Instr} {s t : State} (hc : exec c s = .next t) (ho : opsCommand c = true)
    (hsettle : ∀ u, K u → K u.settle) (hs : K s) : K t := by
  obtain ⟨u, hu, hk⟩ := hK.exec_unsettled hc ho hs
  rw [hu]
  exact hsettle u hk

end

end Sys2Proof.Machine

/-!
O59: the heating share unit, the firing unit and the line monitor stay in agreement.
-/

namespace Sys2Proof.Machine

/-! ## The invariant through the heating operations -/

/-- The parts that neither the heating share unit nor the firing unit reads for its soundness. -/
def besidesHeat : List Part :=
  [.now, .clock, .choices, .pending, .mem, .pub, .trail, .req, .slotTally, .faultTally, .bypass, .spanA, .spanB, .census, .table,
    .relay, .side1, .side2, .doorLead, .summary]

/-- What of the heating share unit the invariant reads beside the firing unit and the monitor. -/
theorem heatSound_of {s t : State} (h : s.heatSound) (hport : t.port.running = s.port.running) (hset : t.settings = s.settings)
    (hfire : t.fire = s.fire) (hmon : t.mon.running = s.mon.running)
    (hcap : t.heat.cap = s.heat.cap ∨ (s.heat.cap = .granted ∨ s.heat.cap = .fallback) ∧ (t.heat.cap = .granted ∨ t.heat.cap = .fallback))
    (hhold : t.heat.holdEnd.isSome = true ↔ t.heat.cap = .granted) (hgrant : t.heat.lastGrant.value ≤ 4000) : t.heatSound := by
  obtain ⟨h1, h2, h3, h4, h5, h6, h7, h8, h9, h10⟩ := h
  have hstopped : t.heat.cap = .stopped ↔ s.heat.cap = .stopped := by
    obtain h | ⟨h | h, h' | h'⟩ := hcap <;> simp_all
  have hfaulted : t.heat.cap = .faulted ↔ s.heat.cap = .faulted := by
    obtain h | ⟨h | h, h' | h'⟩ := hcap <;> simp_all
  refine ⟨by rw [hstopped, h1, hport], by rw [hfire, hport]; exact h2, by rw [hmon, hport]; exact h3, by rw [hport, hset]; exact h4,
    hhold, hgrant, ?_, by rw [hfaulted, hstopped, hfire]; exact h8, by rw [hfire]; exact h9, by rw [hfire]; exact h10⟩
  unfold State.cap
  cases hc : t.heat.cap <;> simp only
  case stopped | faulted => simp
  case granted => exact hgrant
  case fallback =>
    have hrun : s.port.running = true := by
      by_contra hr
      rw [hstopped.mpr (h1.mpr (by simpa using hr))] at hc
      simp at hc
    rw [hset]
    exact ceiling_le (h4 hrun)

theorem heatSound_frame {s t : State} (ht : Touches besidesHeat s t) (h : s.heatSound) : t.heatSound := by
  have hk (p : Part) (hp : p ∉ besidesHeat) : p.kept s t := (ht p hp).1
  have hport : t.port = s.port := hk .port (by simp [besidesHeat])
  have hmon : t.mon = s.mon := hk .mon (by simp [besidesHeat])
  have hheat : t.heat = s.heat := hk .heat (by simp [besidesHeat])
  obtain ⟨-, -, -, -, h5, h6, -⟩ := id h
  exact heatSound_of h (by rw [hport]) (hk .settings (by simp [besidesHeat])) (hk .fire (by simp [besidesHeat])) (by rw [hmon])
    (.inl (by rw [hheat])) (by rw [hheat]; exact h5) (by rw [hheat]; exact h6)

/-- Fields of the heating record that the invariant does not read. -/
theorem heatSound_heat {s : State} {v : Heat} (h : s.heatSound) (hcap : v.cap = s.heat.cap) (hhold : v.holdEnd = s.heat.holdEnd)
    (hgrant : v.lastGrant = s.heat.lastGrant) : State.heatSound { s with heat := v } := by
  obtain ⟨-, -, -, -, h5, h6, -⟩ := id h
  refine heatSound_of h rfl rfl rfl rfl (.inl hcap) ?_ ?_
  · rw [show ({ s with heat := v } : State).heat = v from rfl, hcap, hhold]
    exact h5
  · rw [show ({ s with heat := v } : State).heat = v from rfl, hgrant]
    exact h6

theorem heatSound_fallback {s : State} (cause : CapCause) (h : s.heatSound) (hc : s.heat.cap = .granted) :
    (s.setCap .fallback cause).heatSound := by
  obtain ⟨-, -, -, -, h5, h6, -⟩ := id h
  have hkeep := setCap_keeps s .fallback cause
  have hheat := setCap_heat s .fallback cause
  refine heatSound_of h (by rw [hkeep]) (by rw [hkeep]) (by rw [hkeep]) (by rw [hkeep]) (.inr ⟨.inl hc, .inr (by rw [hheat])⟩) ?_ ?_
  · rw [hheat]
    simp
  · rw [hheat]
    exact h6

theorem heatSound_takeGrant {s : State} (value : Nat) (gen alloc : Word16) (h : s.heatSound) (hv : value ≤ 4000) :
    (s.takeGrant value gen alloc).heatSound := by
  obtain ⟨-, -, -, -, h5, h6, -⟩ := id h
  have hkeep := takeGrant_keeps s value gen alloc
  have hheat := takeGrant_heat s value gen alloc
  refine heatSound_of h (by rw [hkeep]) (by rw [hkeep]) (by rw [hkeep]) (by rw [hkeep]) ?_ ?_ (by rw [hheat]; exact hv)
  · rw [hheat]
    cases hc : s.heat.cap <;> simp
  · rw [hheat]
    cases hc : s.heat.cap <;> simp [hc, h5]

theorem opsKeep_heatSound : OpsKeep State.heatSound := by
  have hcore {s t : State} (h : Touches coreParts s t) : s.heatSound → t.heatSound :=
    heatSound_frame (h.mono (by decide))
  have hspan (s : State) (x : SpanId) (u : Span) : s.heatSound → (s.setSpan x u).heatSound :=
    heatSound_frame ((touches_setSpan s x u).mono (by cases x <;> simp [besidesHeat, spanPart]))
  have hdoor (s : State) (v : Door) : s.heatSound → State.heatSound { s with door := v } := id
  refine ⟨hcore, fun s x f _ => ?_, fun s x l _ => hspan s x _, fun s c _ => ?_, fun s o d n p => ?_, fun s v _ => hdoor s v,
    fun s o m oc d _ => ?_, fun s v hc hh hg h => heatSound_heat h hc hh hg, fun s h => ?_, fun s v g a hv h =>
    heatSound_takeGrant v g a h hv⟩
  · exact heatSound_frame ((touches_offer x f (spanPart_mem (by simp [besidesHeat]) (by simp [besidesHeat]) x)
      (by simp [besidesHeat])).mpr (Touches.refl _ _))
  · exact heatSound_frame ((touches_setCensus s c).mono (by simp [besidesHeat]))
  · unfold State.completeCensusSlot
    exact heatSound_frame ((touches_completeIf _ _ _ _ (by simp [besidesHeat]) (by simp [besidesHeat])).mpr
      ((touches_setCensus s _).mono (by simp [besidesHeat])))
  · exact heatSound_frame ((touches_finishOrder (by simp [besidesHeat]) (by simp [besidesHeat]) (by simp [besidesHeat])
      (by simp [besidesHeat]) o m oc d).mpr (Touches.refl _ _))
  · unfold State.generationChanged
    split
    next hc => exact heatSound_fallback _ h hc
    all_goals exact h

/-! ## Firing -/

/-- Fields of the firing record that the invariant does not read, while none of its windows is touched in FAULTED. -/
theorem heatSound_fire {s : State} {v : Fire} (h : s.heatSound) (hp : v.periodStart.isSome = s.fire.periodStart.isSome)
    (hw : s.heat.cap = .faulted ∨ s.heat.cap = .stopped → v.starts = Stages.all none ∧ v.ends = Stages.all none)
    (ho : v.overdraw ≤ 2) (he : v.expected ≤ v.cap) : State.heatSound { s with fire := v } := by
  obtain ⟨h1, h2, h3, h4, h5, h6, h7, h8, h9, h10⟩ := h
  refine ⟨h1, ?_, h3, h4, h5, h6, h7, hw, ho, he⟩
  show v.periodStart.isSome = true ↔ _
  rw [hp]
  exact h2

theorem heatSound_judgePeriod {s : State} (h : s.heatSound) : s.judgePeriod.heatSound := by
  obtain ⟨h1, h2, h3, h4, h5, h6, h7, h8, h9, h10⟩ := id h
  unfold State.judgePeriod
  simp only
  generalize hj : ((s.heat.cap == .granted || s.heat.cap == .fallback) && s.fire.readings != 0) = judged
  generalize hx : overdrawn (s.fire.sum / s.fire.readings) s.fire.expected = exceeds
  generalize hcount : (if judged = true then (if exceeds = true then s.fire.overdraw + 1 else 0) else s.fire.overdraw) = count
  split
  next hf =>
    simp only [Bool.and_eq_true, decide_eq_true_eq] at hf
    obtain ⟨hjt, -⟩ := hf
    rw [hjt] at hj
    have hfiring : s.heat.cap = .granted ∨ s.heat.cap = .fallback := by
      simp only [Bool.and_eq_true, Bool.or_eq_true, beq_iff_eq] at hj
      exact hj.1
    have hrun : ¬s.port.running = false := fun hr => by
      have := h1.mpr hr
      obtain h | h := hfiring <;> simp [h] at this
    unfold State.overdrawFault
    simp only
    generalize (Judgement.overdraw : Judgement) = j
    refine heatSound_frame ((touches_publishFire (by simp [besidesHeat])).mpr (Touches.refl _ _)) ?_
    generalize hu : State.raise _ _ _ = u
    have hkeep := setCap_keeps u .faulted .overdraw
    have hheat := setCap_heat u .faulted .overdraw
    have hue : u.port = s.port ∧ u.settings = s.settings ∧ u.mon = s.mon ∧ u.heat = s.heat ∧
        u.fire.periodStart = s.fire.periodStart ∧ u.fire.expected = s.fire.expected ∧ u.fire.cap = s.fire.cap := by
      rw [← hu]
      exact ⟨rfl, rfl, rfl, rfl, rfl, rfl, rfl⟩
    obtain ⟨e1, e2, e3, e4, e5, e6, e7⟩ := hue
    refine ⟨?_, ?_, ?_, ?_, ?_, ?_, ?_, fun _ => ⟨rfl, rfl⟩, by simp, ?_⟩
    · rw [hkeep, hheat]
      simp [e1, hrun]
    · rw [hkeep]
      simpa [e1, e5] using h2
    · rw [hkeep]
      simpa [e1, e3] using h3
    · rw [hkeep]
      simpa [e1, e2] using h4
    · rw [hheat]
      simp
    · rw [hheat]
      simpa [e4] using h6
    · simp [State.cap, hheat]
    · rw [hkeep]
      simpa [e6, e7] using h10
  next hf =>
    refine heatSound_fire h rfl h8 ?_ h10
    show count ≤ 2
    rw [← hcount] at hf ⊢
    simp only [Bool.and_eq_true, decide_eq_true_eq, not_and] at hf
    split
    next hjt =>
      have := hf hjt
      rw [if_pos hjt] at this
      omega
    next => exact h9

theorem heatSound_startPeriod {s : State} (start : Nat) (h : s.heatSound) (hp : s.fire.periodStart.isSome = true)
    : (s.startPeriod start).heatSound := by
  obtain ⟨-, -, -, -, -, -, -, h8, h9, -⟩ := id h
  unfold State.startPeriod
  simp only
  refine heatSound_frame ((touches_publishFire (by simp [besidesHeat])).mpr (Touches.refl _ _)) (heatSound_fire h ?_ ?_ h9 ?_)
  · exact hp.symm
  · intro hc
    have hd : s.demand = 0 := by
      unfold State.demand
      obtain hc | hc := hc <;> simp [hc]
    refine ⟨?_, (h8 hc).2⟩
    simp [hd, Stages.map, Stages.zip, scaledOnTime_zero, Stages.all]
  · exact expectedCurrent_le _ _ _ _ (demand_cases s)

theorem heatSound_openWindow {s : State} (stage : Fin 4) (h : s.heatSound) : (s.openWindow stage).heatSound := by
  obtain ⟨-, -, -, -, -, -, -, h8, h9, h10⟩ := id h
  unfold State.openWindow
  split
  next a ha =>
    refine iteClosed (heatSound_fire h rfl (fun hc => ?_) h9 h10) h
    rw [(h8 hc).1] at ha
    fin_cases stage <;> simp [Stages.all, Stages.get] at ha
  · exact h

theorem heatSound_endWindow {s : State} (stage : Fin 4) (h : s.heatSound) : (s.endWindow stage).heatSound := by
  obtain ⟨-, -, -, -, -, -, -, h8, h9, h10⟩ := id h
  unfold State.endWindow
  split
  next a ha =>
    refine iteClosed h (iteClosed (heatSound_openWindow stage h) (heatSound_fire h rfl (fun hc => ?_) h9 h10))
    rw [(h8 hc).2] at ha
    fin_cases stage <;> simp [Stages.all, Stages.get] at ha
  · exact h

/-! ## The line monitor -/

theorem heatSound_mon {s : State} {v : Monitor} (h : s.heatSound) (hr : v.running = s.mon.running) :
    State.heatSound { s with mon := v } := by
  obtain ⟨h1, h2, h3, h4, h5, h6, h7, h8, h9, h10⟩ := h
  exact ⟨h1, h2, hr.trans h3, h4, h5, h6, h7, h8, h9, h10⟩

theorem heatSound_completeReading {s : State} (c : Chan) (block : List (BitVec 12)) (h : s.heatSound) :
    (s.completeReading c block).heatSound := by
  have hset (v : Channel) : (s.mon.setChannel c v).running = s.mon.running := by cases c <;> rfl
  have hjudge (u : State) (reading : Nat) (hu : u.heatSound) : (u.judgeAux reading).heatSound := by
    unfold State.judgeAux
    exact iteClosed (iteClosed (heatSound_mon hu rfl) (heatSound_mon hu rfl)) (iteClosed (heatSound_mon hu rfl) (heatSound_mon hu rfl))
  have hadd (u : State) (reading : Nat) (hu : u.heatSound) : (u.addReading reading).heatSound := by
    obtain ⟨-, -, -, -, -, -, -, h8, h9, h10⟩ := id hu
    exact iteClosed (heatSound_fire hu rfl h8 h9 h10) hu
  unfold State.completeReading
  simp only
  cases c
  · exact heatSound_mon h (hset _)
  · exact hadd _ _ (heatSound_mon h (hset _))
  · exact hjudge _ _ (heatSound_mon h (hset _))

end Sys2Proof.Machine

/-!
O59, command by command.
-/

namespace Sys2Proof.Machine

/-- The heating units stay in agreement. -/
def HeatKept (s t : State) : Prop := s.heatSound → t.heatSound

theorem frameRel_heatKept : FrameRel besidesHeat HeatKept where
  frame := heatSound_frame
  trans h h' hs := h' (h hs)

theorem links_besidesHeat : [.choices, .spanA, .spanB] ⊆ besidesHeat := by simp [besidesHeat]

theorem req_besidesHeat : Part.req ∈ besidesHeat := by simp [besidesHeat]

theorem heatKept_settle (s : State) : HeatKept s s.settle := by
  unfold HeatKept State.heatSound State.cap
  simp only [settle_port, settle_settings, settle_heat, settle_fire, settle_mon]
  exact id

section
variable (s : State)

/-! ## Spans -/

theorem heatKept_complete (k : Nat) (o : SlotOutcome) (d : Byte) (r : List Byte) : HeatKept s (s.complete k o d r) :=
  frameRel_heatKept.frame
  ((touches_complete k o d r (by simp [besidesHeat]) (by simp [besidesHeat])).mpr (Touches.refl _ s))

theorem heatKept_tellLost (why : StopReason) (f : TxFrame) : HeatKept s (s.tellLost why f) := opsKeep_heatSound.tellLost s why f

theorem heatKept_exitSpan (x : SpanId) (target : ExitTo) (cause : Cause) : HeatKept s (s.exitSpan x target cause) :=
  frameRel_heatKept.exitSpan links_besidesHeat heatKept_tellLost (fun u x c l => opsKeep_heatSound.spanDownReport u x c l) s x target cause

theorem heatKept_exitWhere (p : SpanId → Bool) (target : ExitTo) (cause : Cause) : HeatKept s (s.exitWhere p target cause) :=
  frameRel_heatKept.exitWhere links_besidesHeat heatKept_tellLost (fun u x c l => opsKeep_heatSound.spanDownReport u x c l) s p target cause

theorem heatKept_withSelector (r : Request) {f : Byte → State → State} (hf : ∀ sel u, HeatKept u (f sel u)) :
    HeatKept s (s.withSelector r f) :=
  FrameRel.branch (fun _ => hf _ _) fun _ => heatKept_complete s _ _ _ _

theorem heatKept_setSpan (x : SpanId) (u : Span) : HeatKept s (s.setSpan x u) :=
  frameRel_heatKept.setSpan links_besidesHeat s x u

theorem heatKept_disable (r : Request) : HeatKept s (s.withSelector r fun sel v =>
    let one (x : SpanId) (w : State) : State := if selects sel x then w.setEnable x false else w
    ((one .b (one .a v)).exitWhere (fun x => selects sel x && (v.span x).state != .off) .off .disabled).completeSpan r.slot .ok) := by
  refine heatKept_withSelector s r fun sel v => ?_
  have hone (x : SpanId) (w : State) : HeatKept w (if selects sel x then w.setEnable x false else w) :=
    frameRel_heatKept.when fun _ => heatKept_setSpan w x _
  exact frameRel_heatKept.trans (frameRel_heatKept.trans (frameRel_heatKept.trans (hone .a v) (hone .b _)) (heatKept_exitWhere _ _ _ _))
    (heatKept_complete _ _ _ _ _)

theorem heatKept_restart (r : Request) : HeatKept s (s.withSelector r fun sel v =>
    let isOff (x : SpanId) : Bool := selects sel x && (v.span x).state == .off
    if isOff .a || isOff .b then v.completeSpan r.slot .refusedState
    else (v.exitWhere (selects sel) .probing .hostRestart).completeSpan r.slot .ok) :=
  heatKept_withSelector s r fun _ v => FrameRel.branch (fun _ => heatKept_complete v _ _ _ _) fun _ =>
    frameRel_heatKept.trans (heatKept_exitWhere v _ _ _) (heatKept_complete _ _ _ _ _)

theorem heatKept_bypass (r : Request) :
    HeatKept s ((s.switchRelay false r.slot).exitWhere (fun x => (s.span x).state != .off) .off .bypassed) :=
  frameRel_heatKept.trans (frameRel_heatKept.frame ((touches_bypass s _).mono (by simp [besidesHeat]))) (heatKept_exitWhere _ _ _ _)

/-! ## The requests of the census engine -/

theorem heatKept_startCensus (slot : Option Nat) : HeatKept s (s.startCensus slot) := fun h =>
  opsKeep_heatSound.startCensus s slot (heatSound_frame ((touches_setCensus s _).mono (by simp [besidesHeat])) h)

theorem heatKept_takeLead (r : Request) : HeatKept s (s.takeLead r) := by
  have hdone := heatKept_complete s r.slot
  unfold State.takeLead
  refine FrameRel.branch (fun _ => hdone _ _ _) fun _ => FrameRel.branch (fun _ => hdone _ _ _) fun _ => ?_
  split
  exacts [frameRel_heatKept.trans (opsKeep_heatSound.becomeLead s) (heatKept_startCensus _ _), heatKept_startCensus s _]

theorem heatKept_censusStart (r : Request) : HeatKept s (s.censusStart r) := by
  unfold State.censusStart
  split
  · exact heatKept_complete s _ _ _ _
  · exact FrameRel.branch (fun _ => heatKept_complete s _ _ _ _) fun _ =>
      frameRel_heatKept.trans (fun h => opsKeep_heatSound.setCensus s _ h) (heatKept_startCensus _ _)

/-! ## The heating share unit -/

theorem heatKept_heatDemand (r : Request) : HeatKept s (s.heatDemand r) := fun h =>
  heatKept_complete _ _ _ _ _ (heatSound_heat h rfl rfl rfl)

theorem heatKept_standby :
    HeatKept s { s with heat := { s.heat with source := .standby, onTimes := s.settings.standby, leaseEnd := none } } := fun h =>
  heatSound_heat h rfl rfl rfl

theorem heatKept_heatSupply (r : Request) : HeatKept s (s.heatSupply r) := by
  unfold State.heatSupply
  simp only
  generalize (Supply.mk ..) = supply
  refine FrameRel.branch (fun _ => heatKept_complete s _ _ _ _) fun _ => FrameRel.branch (fun _ => heatKept_complete s _ _ _ _) fun _ h => ?_
  have h1 : State.heatSound { s with heat := { s.heat with supply := supply } } := heatSound_heat h rfl rfl rfl
  exact heatKept_complete _ _ _ _ _ (iteClosed (opsKeep_heatSound.allocate _ h1) h1)

theorem heatKept_faultClear (r : Request) : HeatKept s (s.faultClearHeating r) := by
  unfold State.faultClearHeating
  simp only
  refine FrameRel.branch (fun hc h => heatKept_complete _ _ _ _ _ ?_) fun _ => heatKept_complete s _ _ _ _
  obtain ⟨h1, h2, h3, h4, h5, h6, h7, h8, h9, h10⟩ := h
  have hrun : s.port.running = true := by
    by_contra hr
    have := h1.mpr (by simpa using hr)
    rw [hc] at this
    simp at this
  have hkeep := setCap_keeps { s with fire := { s.fire with overdraw := 0 } } .fallback .cleared
  have hheat := setCap_heat { s with fire := { s.fire with overdraw := 0 } } .fallback .cleared
  generalize State.setCap _ _ _ = t at hkeep hheat ⊢
  have hport : t.port = s.port := by rw [hkeep]
  have hset : t.settings = s.settings := by rw [hkeep]
  have hfire : t.fire = { s.fire with overdraw := 0 } := by rw [hkeep]
  have hmon : t.mon = s.mon := by rw [hkeep]
  refine ⟨by simp [hheat, hport, hrun], by rw [hfire, hport]; exact h2, by rw [hmon, hport]; exact h3, by rw [hport, hset]; exact h4,
    by simp [hheat], by simpa [hheat] using h6, ?_, by simp [hheat], by simp [hfire], by simpa [hfire] using h10⟩
  simp only [State.cap, hheat, hset]
  exact ceiling_le (h4 hrun)

/-! ## Firing, readings and the AUX state -/

theorem judgePeriod_periodStart : s.judgePeriod.publishHeat.fire.periodStart = s.fire.periodStart := by
  have hpub (u : State) : u.publishHeat.fire = u.fire := by unfold State.publishHeat; split <;> rfl
  have hfault (u : State) (e m : Nat) : (u.overdrawFault e m).fire.periodStart = u.fire.periodStart := by
    unfold State.overdrawFault State.publishFire
    simp only
    have hkeep (v : State) := congrArg State.fire (setCap_keeps v .faulted .overdraw)
    split <;> simp only [hkeep] <;> rfl
  rw [hpub]
  unfold State.judgePeriod
  exact iteClosed (K := fun u => u.fire.periodStart = s.fire.periodStart) (hfault _ _ _) rfl

theorem heatKept_nextPeriod (p : Nat) (hp : s.fire.periodStart = some p) :
    HeatKept s (s.judgePeriod.publishHeat.startPeriod (p + periodTime)) := by
  intro h
  have hjudged : s.judgePeriod.publishHeat.heatSound :=
    heatSound_frame ((touches_publishHeat (by simp [besidesHeat])).mpr (Touches.refl _ _)) (heatSound_judgePeriod h)
  exact heatSound_startPeriod _ hjudged (by simp [judgePeriod_periodStart, hp])

theorem heatKept_changeAux (low : Bool) (kind : Byte) : HeatKept s (s.changeAux low kind) := by
  intro h
  unfold State.changeAux
  exact opsKeep_heatSound.raise _ _ _ (heatSound_mon h rfl)

theorem heatKept_withdrawSide (k : SideId) : HeatKept s (s.withdrawSide k) :=
  frameRel_heatKept.frame (touches_withdrawSide k (by cases k <;> simp [besidesHeat, sidePart]) (by simp [besidesHeat])
    (by simp [besidesHeat]) (by simp [besidesHeat]) s)

/-! ## CONFIGURE and the resets -/

theorem startPeriod_fire (start : Nat) : (s.startPeriod start).fire.periodStart = some start ∧
    (s.startPeriod start).fire.overdraw = s.fire.overdraw ∧
    (s.startPeriod start).fire.expected ≤ (s.startPeriod start).fire.cap := by
  have hpub (u : State) : u.publishFire.fire = u.fire := by unfold State.publishFire; split <;> rfl
  unfold State.startPeriod
  rw [hpub]
  exact ⟨rfl, rfl, expectedCurrent_le _ _ _ _ (demand_cases s)⟩

theorem startHeat_fields : s.startHeat.heat.cap = .fallback ∧ s.startHeat.heat.holdEnd = none ∧
    s.startHeat.heat.lastGrant = s.heat.lastGrant ∧ s.startHeat.fire = s.fire ∧ s.startHeat.settings = s.settings ∧
    s.startHeat.port = s.port := by
  unfold State.startHeat
  have hkeep := setCap_keeps { s with heat := { s.heat with source := .standby, onTimes := s.settings.standby, leaseEnd := none } }
    .fallback .configured
  rw [setCap_heat, hkeep]
  exact ⟨rfl, rfl, rfl, rfl, rfl, rfl⟩

/-- The adoption starts the three units together (R129, R145, R152, R164). -/
theorem heatKept_adopt (new : Settings) (hnew : settingsFault new = none) : HeatKept s (s.adopt new) := by
  intro h
  obtain ⟨-, -, -, -, -, h6, -, -, h9, -⟩ := h
  unfold State.adopt
  simp only
  refine opsKeep_heatSound.raise _ _ _ ?_
  set v := State.startSpans { s with settings := new, port := { s.port with running := true } } with hv
  generalize hw : State.startSide (State.startSide v .one _ _) .two _ _ = w
  have hsides : Touches [.side1, .side2, .summary, .pub, .choices] v w := by
    rw [← hw, touches_startSide .two _ _ (by simp [sidePart]) (by simp) (by simp) (by simp),
      touches_startSide .one _ _ (by simp [sidePart]) (by simp) (by simp) (by simp)]
    exact Touches.refl _ _
  have hheat : w.heat = s.heat := (hsides .heat (by simp)).1
  have hfire : w.fire = s.fire := (hsides .fire (by simp)).1
  have hport : w.port = { s.port with running := true } := (hsides .port (by simp)).1
  have hset : w.settings = new := (hsides .settings (by simp)).1
  obtain ⟨hcap, hhold, hgrant, hfire', hset', hport'⟩ := startHeat_fields w
  generalize w.startHeat = x at *
  obtain ⟨hstart, hover, hexpected⟩ := startPeriod_fire x s.now
  have hperiod : Touches [.fire, .pub] x (x.startPeriod s.now) :=
    (touches_startPeriod s.now (by simp) (by simp)).mpr (Touches.refl _ _)
  have hheat'' : (x.startPeriod s.now).heat = x.heat := (hperiod .heat (by simp)).1
  have hport'' : (x.startPeriod s.now).port = x.port := (hperiod .port (by simp)).1
  have hset'' : (x.startPeriod s.now).settings = x.settings := (hperiod .settings (by simp)).1
  generalize x.startPeriod s.now = y at *
  have hc : y.heat.cap = .fallback := by rw [hheat'', hcap]
  have hrun : y.port.running = true := by rw [hport'', hport', hport]
  have hs : y.settings = new := by rw [hset'', hset', hset]
  refine ⟨?_, ?_, ?_, fun _ => ?_, ?_, ?_, ?_, ?_, ?_, hexpected⟩
  · show y.heat.cap = .stopped ↔ y.port.running = false
    simp [hc, hrun]
  · show y.fire.periodStart.isSome = true ↔ y.port.running = true
    simp [hstart, hrun]
  · exact hrun.symm
  · show settingsFault y.settings = none
    rw [hs, hnew]
  · show y.heat.holdEnd.isSome = true ↔ y.heat.cap = .granted
    simp [hheat'', hhold, hcap]
  · show y.heat.lastGrant.value ≤ 4000
    rw [hheat'', hgrant, hheat]
    exact h6
  · show y.cap ≤ 4000
    simp only [State.cap, hc, hs]
    exact ceiling_le hnew
  · show y.heat.cap = .faulted ∨ y.heat.cap = .stopped → _
    simp [hc]
  · show y.fire.overdraw ≤ 2
    rw [hover, hfire', hfire]
    exact h9

theorem heatKept_configure (r : Request) : HeatKept s (s.configure r) := by
  unfold State.configure
  refine FrameRel.branch (fun _ => heatKept_complete s _ _ _ _) fun _ => ?_
  simp only
  split
  · exact heatKept_complete s _ _ _ _
  next hnew => exact frameRel_heatKept.trans (heatKept_adopt s _ hnew) (heatKept_complete _ _ _ _ _)

theorem heatSound_resets {s t : State} (h : t.heat = State.reset.heat ∧ t.fire = State.reset.fire ∧ t.mon = State.reset.mon ∧
    t.port.running = false) : HeatKept s t := by
  obtain ⟨hheat, hfire, hmon, hrun⟩ := h
  obtain ⟨-, -, -, -, h5, h6, h7, h8, h9, h10⟩ := reset_heatSound
  intro _
  refine ⟨by simp [hheat, hrun]; rfl, by simp [hfire, hrun]; rfl, by rw [hmon, hrun]; rfl, by simp [hrun], by rw [hheat]; exact h5,
    by rw [hheat]; exact h6, ?_, by rw [hheat, hfire]; exact h8, by rw [hfire]; exact h9, by rw [hfire]; exact h10⟩
  rw [show t.cap = 0 by simp only [State.cap, hheat]; rfl]
  exact Nat.zero_le _

theorem heatKept_resetWord (data : Sent (List Byte)) : HeatKept s (s.transact (headerOf 0x04 3 ++ data.whole) data.held
    fun u => u.commitRegister data.whole (State.writeResetWord data.whole)) := by
  have hport (u : State) (v : Port) (hv : v.running = u.port.running) : HeatKept u { u with port := v } := by
    intro h
    obtain ⟨-, -, -, -, h5, h6, -⟩ := id h
    exact heatSound_of h hv rfl rfl rfl (.inl rfl) h5 h6
  have hnoted (u : State) : HeatKept u (u.clearEchoed.noteLength data.whole) := by
    unfold State.noteLength
    split <;> exact hport u _ rfl
  unfold State.transact
  simp only
  split
  · generalize hv : (Port.mk .. : Port) = v
    have hrun : v.running = s.port.running := by rw [← hv]
    split
    · exact hport s v hrun
    · unfold State.commitRegister State.writeResetWord
      split
      · exact heatSound_resets ⟨rfl, rfl, rfl, rfl⟩
      · exact frameRel_heatKept.trans (hport s v hrun) (hnoted _)
  · exact id

end

end Sys2Proof.Machine

namespace Sys2Proof.Machine

/-! ## O59: every command -/

/-- The commands that touch what the heating units' agreement reads. -/
def reachesHeat : Instr → Bool
  | .configure _ | .spanControlDisable _ | .spanControlRestart _ | .spanControlBypass _ | .hello _ _ | .keepalive _ _ | .silence _ _
  | .errors _ _ | .takeLead _ | .censusStart _ | .dropLead _ | .settleTimerExpired _ | .faultClearHeating _ | .heatDemand _
  | .demandLeaseExpired _ | .heatSupply _ | .grantHoldExpired _ | .periodStart _ | .windowStart _ _ | .windowEnd _ _ | .readingCompleted _ _ _ | .lowTimerExpired _ | .returnTimerExpired _ => true
  | _ => false

theorem touches_besidesHeat (c : Instr) (hr : mayReset c = false) (hp : portCommand c = false) (ho : opsCommand c = false)
    (hd : reachesHeat c = false) :
    touches c ⊆ besidesHeat := by
  cases c
  case probe dt x _ | listenWindowEnd dt x _ | foreignProbe dt x _ _ | probeAnswer dt x | frameReceived dt x _ |
    greetingHelloDue dt x | greetTimeout dt x | keepaliveDue dt x | transmitAttempt dt x _ | backoffEnd dt x | frameCompleted dt x =>
    cases x <;> simp [touches, spanPart, besidesHeat, eventParts, sideParts]
  case lockLevelChanged dt k | driveMismatch dt k | driveMismatchEnded dt k | leaseExpired dt k | closeTimeout dt k |
    releaseHalfPeriod dt k | feedbackSample dt k _ =>
    cases k <;> simp [touches, sidePart, besidesHeat, eventParts, sideParts]
  case collision dt pin => cases h : pin.span <;> simp [touches, spanPart, besidesHeat, h]
  case powerOn | resetn | resetWord => simp [mayReset] at hr
  case memRead | memWrite | regRead | regWriteOther | portSetEcho | portSetAttnPolarity | portSetAttnDrive | misalign |
    misalignedTransaction | unknownOpcode | ignoredTransaction => simp [portCommand] at hp
  case take | spanControlEnable | spanControlUnbypass | relaySwitched | jamEnd | doorOrder | rollAgeTimerExpired | doorLocalIsolate |
    doorLocalRestore | faultClearDoor | applyInstant | millisecondTick =>
    simp only [touches]
    decide
  case call | report | table | tableAck | void | brk | censusTimerExpired | order | orderAck | ackWaitTimeout | grant | doorStateRoll |
    demandRoll | originationTimer | substituteOrigination | doorOrderTimedOut | allocationTimerExpired => simp [opsCommand] at ho
  all_goals simp [reachesHeat] at hd

theorem heatKept_elsewhere {c : Instr} {s t : State} (hc : exec c s = .next t) (hr : mayReset c = false)
    (hP : touches c ⊆ besidesHeat) : HeatKept s t := by
  obtain ⟨dt, u, hu, ht⟩ := runsWithin c s hr
  obtain rfl : u.settle = t := Host.Outcome.next.inj (hu.symm.trans hc)
  have hadvance : HeatKept s (s.advance dt) := id
  exact frameRel_heatKept.trans hadvance (frameRel_heatKept.trans (frameRel_heatKept.frame (ht.mono hP)) (heatKept_settle u))

theorem heatKept_port {c : Instr} {s t : State} (hc : exec c s = .next t) (hp : portCommand c = true) : HeatKept s t := by
  obtain ⟨dt, u, hu, ht, hrun, -⟩ := runsPort c s hp
  obtain rfl : u.settle = t := Host.Outcome.next.inj (hu.symm.trans hc)
  have hk (p : Part) (hp : p ∉ [Part.port, .mem, .req, .trail]) : p.kept (s.advance dt) u := (ht p hp).1
  have hheat : u.heat = s.heat := hk .heat (by simp)
  have hmon : u.mon = s.mon := hk .mon (by simp)
  refine frameRel_heatKept.trans (fun h => ?_) (heatKept_settle u)
  obtain ⟨-, -, -, -, h5, h6, -⟩ := id h
  exact heatSound_of h hrun (hk .settings (by simp)) (hk .fire (by simp)) (by rw [hmon]) (.inl (by rw [hheat]))
    (by rw [hheat]; exact h5) (by rw [hheat]; exact h6)

theorem heatKept_run {c : Instr} {s t : State} {dt : Nat} {f : State → State} (h : exec c s = .next (s.run dt f))
    (hc : exec c s = .next t) (hf : ∀ u, HeatKept u (f u)) : HeatKept s t := by
  obtain rfl : s.run dt f = t := Host.Outcome.next.inj (h.symm.trans hc)
  have hadvance : HeatKept s (s.advance dt) := id
  exact frameRel_heatKept.trans hadvance (frameRel_heatKept.trans (hf _) (heatKept_settle _))

theorem heatKept_serve {c : Instr} {s t : State} {dt : Nat} {p : Request → Bool} {f : Request → State → State}
    (h : exec c s = .next (s.run dt fun u => u.serve p f)) (hc : exec c s = .next t) (hf : ∀ r u, HeatKept u (f r u)) : HeatKept s t :=
  heatKept_run h hc fun u => frameRel_heatKept.serve req_besidesHeat hf u p

theorem heatKept_reaches {c : Instr} {s t : State} (hc : exec c s = .next t) (hd : reachesHeat c = true) : HeatKept s t := by
  have hK := opsKeep_heatSound
  have hdown (u : State) (x : SpanId) (cause : Cause) (lost : Word32) : HeatKept u (u.spanDownReport x cause lost) :=
    hK.spanDownReport u x cause lost
  cases c
  case configure => exact heatKept_serve rfl hc fun r u => heatKept_configure u r
  case spanControlDisable => exact heatKept_serve rfl hc fun r u => heatKept_disable u r
  case spanControlRestart => exact heatKept_serve rfl hc fun r u => heatKept_restart u r
  case spanControlBypass =>
    refine heatKept_serve rfl hc fun r u => ?_
    split
    exacts [heatKept_bypass u r, heatKept_complete u _ _ _ _, heatKept_complete u _ _ _ _]
  case hello dt x =>
    exact heatKept_run rfl hc fun u => frameRel_heatKept.takeFrame links_besidesHeat (fun r v =>
      frameRel_heatKept.takeHello links_besidesHeat heatKept_tellLost hdown (fun w y p => hK.spanUpReport w y p) v x r.frame) u x _
  case keepalive dt x =>
    exact heatKept_run rfl hc fun u => frameRel_heatKept.takeFrame links_besidesHeat (fun r v =>
      frameRel_heatKept.takeKeepalive links_besidesHeat heatKept_tellLost hdown v x r.frame) u x _
  case silence => exact heatKept_run rfl hc fun u => frameRel_heatKept.when fun _ => heatKept_exitSpan u _ _ _
  case errors => exact heatKept_run rfl hc fun u => frameRel_heatKept.when fun _ => heatKept_exitSpan u _ _ _
  case takeLead => exact heatKept_serve rfl hc fun r u h => hK.reviewEnd _ (heatKept_takeLead u r h)
  case censusStart => exact heatKept_serve rfl hc fun r u h => hK.reviewEnd _ (heatKept_censusStart u r h)
  case dropLead =>
    refine heatKept_serve rfl hc fun r u => ?_
    split
    · exact heatKept_complete u _ _ _ _
    · exact fun h => heatKept_complete _ _ _ _ _ (hK.reviewEnd _ (hK.dropLead u h))
  case settleTimerExpired =>
    exact heatKept_run rfl hc fun u => frameRel_heatKept.when fun _ h => hK.reviewEnd _ (heatKept_startCensus u _ h)
  case faultClearHeating => exact heatKept_serve rfl hc fun r u => heatKept_faultClear u r
  case heatDemand => exact heatKept_serve rfl hc fun r u => heatKept_heatDemand u r
  case demandLeaseExpired =>
    exact heatKept_run rfl hc fun u => frameRel_heatKept.when fun _ => heatKept_standby u
  case heatSupply => exact heatKept_serve rfl hc fun r u => heatKept_heatSupply u r
  case grantHoldExpired =>
    exact heatKept_run rfl hc fun u => frameRel_heatKept.when fun hg h => heatSound_fallback _ h hg.1
  case periodStart =>
    refine heatKept_run rfl hc fun u => ?_
    split
    next p hp => exact frameRel_heatKept.when fun _ => heatKept_nextPeriod u p hp
    · exact id
  case windowStart => exact heatKept_run rfl hc fun u => heatSound_openWindow _
  case windowEnd => exact heatKept_run rfl hc fun u => heatSound_endWindow _
  case readingCompleted => exact heatKept_run rfl hc fun u => frameRel_heatKept.when fun _ => heatSound_completeReading _ _
  case lowTimerExpired =>
    refine heatKept_run rfl hc fun u => frameRel_heatKept.when fun _ => ?_
    exact frameRel_heatKept.trans (frameRel_heatKept.trans (heatKept_changeAux u _ _) (heatKept_withdrawSide _ _))
      (heatKept_withdrawSide _ _)
  case returnTimerExpired => exact heatKept_run rfl hc fun u => frameRel_heatKept.when fun _ => heatKept_changeAux u _ _
  all_goals exact absurd hd (by simp [reachesHeat])

theorem exec_heatKept {c : Instr} {s t : State} (hc : exec c s = .next t) : HeatKept s t := by
  cases hr : mayReset c
  · cases hp : portCommand c
    · cases ho : opsCommand c
      · cases hd : reachesHeat c
        · exact heatKept_elsewhere hc hr (touches_besidesHeat c hr hp ho hd)
        · exact heatKept_reaches hc hd
      · exact opsKeep_heatSound.exec hc ho heatKept_settle
    · exact heatKept_port hc hp
  · cases c
    case powerOn | resetn =>
      obtain rfl : s.hardReset = t := Host.Outcome.next.inj hc
      exact heatSound_resets ⟨rfl, rfl, rfl, rfl⟩
    case resetWord => exact heatKept_run rfl hc fun u => heatKept_resetWord u _
    all_goals exact absurd hr (by simp [mayReset])

/-- Settles O59: every operation keeps the cap within 4000 and the expected current within the cap (R146). -/
theorem heatingStaysSound : Obligations.HeatingStaysSound := by
  unfold Obligations.HeatingStaysSound
  intro s t hs h
  obtain ⟨-, rfl⟩ | ⟨c, rest, -, hc⟩ := step_cases h
  · exact hs
  · exact exec_heatKept hc hs

end Sys2Proof.Machine

/-!
A span unit stays in agreement with its state through each of its own operations (O57).
-/

namespace Sys2Proof.Machine

/-! ## The register never holds 0 (R5) -/

theorem lfsrStep_ne_zero {r : Word16} (h : r ≠ 0) : lfsrStep r ≠ 0 := by
  intro h0
  have hbit (i : Nat) : (lfsrStep r).getLsbD i = false := by rw [h0]; simp
  have hlow (i : Nat) (hi : i < 15) : r.getLsbD i = false := by
    have := hbit (i + 1)
    simp only [lfsrStep, BitVec.getLsbD_or, Bool.or_eq_false_iff, BitVec.getLsbD_shiftLeft] at this
    simpa [show i + 1 < 16 by omega] using this.1
  have htop : r.getLsbD 15 = false := by
    have := hbit 0
    simp only [lfsrStep, BitVec.getLsbD_or, Bool.or_eq_false_iff, hlow 13 (by omega), hlow 12 (by omega), hlow 10 (by omega)] at this
    simpa using this.2
  refine h (BitVec.eq_of_getLsbD_eq fun i hi => ?_)
  obtain rfl | hi' : i = 15 ∨ i < 15 := by omega
  · simpa using htop
  · simpa using hlow i hi'

theorem lfsrDraw_ne_zero {r : Word16} (h : r ≠ 0) : lfsrDraw r ≠ 0 := by
  have hiter (n : Nat) : ∀ w : Word16, w ≠ 0 → iterate lfsrStep n w ≠ 0 := by
    induction n with
    | zero => exact fun _ hw => hw
    | succ n ih => exact fun _ hw => ih _ (lfsrStep_ne_zero hw)
  exact hiter 8 r h

theorem lfsrSeed_ne_zero (w : Word16) : lfsrSeed w ≠ 0 := by
  unfold lfsrSeed
  split
  · decide
  · assumption

section
variable {u : Span} (h : u.sound)
include h

/-! ## Queues, buffers and the register -/

theorem Span.sound_rxq {l : List RxFrame} (hl : l.length ≤ u.rxq.length) : Span.sound { u with rxq := l } := by
  obtain ⟨⟨hrx, hbounds⟩, hno, hoff, hrest⟩ := h
  refine ⟨⟨hl.trans hrx, hbounds⟩, hno, fun hs => ?_, hrest⟩
  obtain ⟨hempty, hidle⟩ := hoff hs
  rw [hempty] at hl
  exact ⟨List.eq_nil_of_length_eq_zero (Nat.le_zero.mp hl), hidle⟩

/-- A queue that keeps to its bound, in a state that sends or as empty as it was (R32). -/
theorem Span.sound_txq {q : List TxFrame} {d : Word16} (hq : q = u.txq ∨ u.state.sends = true ∧ q.length + (if u.cur.isSome then 1 else 0) ≤ 8) :
    Span.sound { u with txq := q, drops := d } := by
  obtain ⟨⟨hrx, hdepth, hbounds⟩, hno, hrest⟩ := h
  obtain rfl | ⟨hs, hq⟩ := hq
  · exact ⟨⟨hrx, hdepth, hbounds⟩, hno, hrest⟩
  · exact ⟨⟨hrx, hq, hbounds⟩, fun hn => absurd hs (by simp [show u.state.sends = false from hn]), hrest⟩

theorem Span.sound_draw : u.draw.1.sound := by
  obtain ⟨⟨hrx, hdepth, hbucket, hlen, hsamples, hdelay, hecho, hlfsr⟩, hrest⟩ := h
  exact ⟨⟨hrx, hdepth, hbucket, hlen, hsamples, hdelay, hecho, lfsrDraw_ne_zero hlfsr⟩, hrest⟩

theorem Span.sound_bucket {b : Nat} (hb : b ≤ 255) : Span.sound { u with bucket := b } := by
  obtain ⟨⟨hrx, hdepth, -, hbounds⟩, hrest⟩ := h
  exact ⟨⟨hrx, hdepth, hb, hbounds⟩, hrest⟩

/-! ## Exits (R11, R19, R20) -/

/-- Nothing runs and nothing is held in a cleared unit (R40). -/
theorem Span.sound_exit (now : Nat) (cause : Cause) (target : ExitTo) : (u.exit now cause target).sound := by
  obtain ⟨⟨-, -, -, -, -, -, -, hlfsr⟩, -⟩ := h
  have hdraw : ¬lfsrDraw u.lfsr = 0#16 := lfsrDraw_ne_zero hlfsr
  have hlfsr : ¬u.lfsr = 0#16 := hlfsr
  cases target <;> simp [Span.sound, Span.exit, Span.clear, Span.toProbing, Span.draw, Span.depth, SpanState.sends,
    SpanState.searching, Drive.sending, hdraw, hlfsr]

end

/-! ## Agreement by states -/

/-- Queues and buffers within their bounds, the register away from 0 (R5, R10, R30, R32). -/
def Span.Bounds (u : Span) : Prop :=
  u.rxq.length ≤ 4 ∧ u.depth ≤ 8 ∧ u.bucket ≤ 255 ∧ u.history.length ≤ 4 ∧ (∀ d ∈ u.history, d ≤ 4000) ∧ u.delay ≤ 4000 ∧
    u.echo.length = 4 ∧ u.lfsr ≠ 0

/-- A span in search of a partner holds nothing to send, and its next probe is due (R6, R32). -/
def Span.Searches (u : Span) : Prop :=
  (u.txq = [] ∧ u.cur = none ∧ u.attempt = 0 ∧ u.backoffEnd = none ∧ u.heard = 0) ∧ u.probeDue.isSome = true ∧
    u.greetEnd = none ∧ u.helloDue = none ∧ u.silenceEnd = none ∧ u.partner = none ∧ u.drive.sending = false

/-- A span that sends has a frame to drive, and none is tried more than eight times (R36 to R39). -/
def Span.Sends (u : Span) : Prop :=
  (u.drive.sending = true → u.cur.isSome = true) ∧ (u.cur = none → u.attempt = 0) ∧ u.attempt ≤ 8 ∧
    (u.attempt = 8 → u.drive.sending = true)

/-- The probe engine is stopped (R6). -/
def Span.Stopped (u : Span) : Prop := u.probeDue = none ∧ u.window = none ∧ u.answers = []

section
variable {u : Span}

theorem Span.sound_bounds (h : u.sound) : u.Bounds := h.1

theorem Span.sound_probing (hs : u.state = .probing) : u.sound ↔ u.Bounds ∧ u.Searches ∧ u.runCount = 0 := by
  simp only [Span.sound, Span.Bounds, Span.Searches, hs, SpanState.sends, SpanState.searching, Bool.eq_false_iff]
  constructor
  · rintro ⟨hb, hno, hoff, hprobe, hwindow, hgreet, hhello, hsilence, hpartner, hrun, hsending, hcur, hattempt, height⟩
    simp_all
  · rintro ⟨hb, ⟨hq, hprobe, hgreet, hhello, hsilence, hpartner, hsending⟩, hrun⟩
    simp_all

theorem Span.sound_sensed (hs : u.state = .sensed) : u.sound ↔ u.Bounds ∧ u.Searches ∧ (u.runCount = 1 ∨ u.runCount = 2) := by
  simp only [Span.sound, Span.Bounds, Span.Searches, hs, SpanState.sends, SpanState.searching, Bool.eq_false_iff]
  constructor
  · rintro ⟨hb, hno, hoff, hprobe, hwindow, hgreet, hhello, hsilence, hpartner, hrun, hsending, hcur, hattempt, height⟩
    simp_all
  · rintro ⟨hb, ⟨hq, hprobe, hgreet, hhello, hsilence, hpartner, hsending⟩, hrun⟩
    simp_all

theorem Span.sound_greeting (hs : u.state = .greeting) : u.sound ↔ u.Bounds ∧ u.Sends ∧ u.Stopped ∧
    u.greetEnd.isSome = true ∧ u.helloDue.isSome = true ∧ u.silenceEnd = none ∧ u.partner = none := by
  simp only [Span.sound, Span.Bounds, Span.Sends, Span.Stopped, hs, SpanState.sends, SpanState.searching, Bool.eq_false_iff]
  constructor
  · rintro ⟨hb, hno, hoff, hprobe, hwindow, hgreet, hhello, hsilence, hpartner, hrun, hsending, hcur, hattempt, height⟩
    simp_all
  · rintro ⟨hb, ⟨hsending, hcur, hattempt, height⟩, ⟨hprobe, hwindow, hanswers⟩, hgreet, hhello, hsilence, hpartner⟩
    simp_all

theorem Span.sound_up (hs : u.state = .up) : u.sound ↔ u.Bounds ∧ u.Sends ∧ u.Stopped ∧
    u.greetEnd = none ∧ u.helloDue = none ∧ u.silenceEnd.isSome = true ∧ u.partner.isSome = true := by
  simp only [Span.sound, Span.Bounds, Span.Sends, Span.Stopped, hs, SpanState.sends, SpanState.searching, Bool.eq_false_iff]
  constructor
  · rintro ⟨hb, hno, hoff, hprobe, hwindow, hgreet, hhello, hsilence, hpartner, hrun, hsending, hcur, hattempt, height⟩
    simp_all
  · rintro ⟨hb, ⟨hsending, hcur, hattempt, height⟩, ⟨hprobe, hwindow, hanswers⟩, hgreet, hhello, hsilence, hpartner⟩
    simp_all

end

end Sys2Proof.Machine

/-!
O57: the span unit's own operations.
-/

namespace Sys2Proof.Machine

theorem SpanState.searching_iff {p : SpanState} : p.searching = true ↔ p = .probing ∨ p = .sensed := by
  cases p <;> simp [SpanState.searching]

theorem SpanState.sends_iff {p : SpanState} : p.sends = true ↔ p = .greeting ∨ p = .up := by
  cases p <;> simp [SpanState.sends]

section
variable {u : Span}

theorem Span.sound_searching (hs : u.state.searching = true) : u.sound ↔ u.Bounds ∧ u.Searches ∧
    (u.state = .probing → u.runCount = 0) ∧ (u.state = .sensed → u.runCount = 1 ∨ u.runCount = 2) := by
  obtain hs | hs := SpanState.searching_iff.mp hs
  · rw [Span.sound_probing hs]
    simp [hs]
  · rw [Span.sound_sensed hs]
    simp [hs]

/-- A span that sends: what concerns the frames is the same in GREETING and UP. -/
theorem Span.sound_sends (hs : u.state.sends = true) : u.sound ↔ u.Bounds ∧ u.Sends ∧ u.Stopped ∧
    (u.greetEnd.isSome = true ↔ u.state = .greeting) ∧ (u.helloDue.isSome = true ↔ u.state = .greeting) ∧
    (u.silenceEnd.isSome = true ↔ u.state = .up) ∧ (u.partner.isSome = true ↔ u.state = .up) := by
  obtain hs | hs := SpanState.sends_iff.mp hs
  · rw [Span.sound_greeting hs]
    simp [hs]
  · rw [Span.sound_up hs]
    simp [hs]

/-! ## The probe engine (R6 to R12) -/

theorem Span.sound_probed (h : u.sound) (hs : u.state.searching = true) (now due busy : Nat) : Span.sound { u with
    drive := .probe now, window := some now, busyUntil := busy, probeDue := some due } := by
  obtain ⟨hbounds, ⟨hq, -, hgreet, hhello, hsilence, hpartner, -⟩, hrun⟩ := (Span.sound_searching hs).mp h
  exact (Span.sound_searching (by exact hs)).mpr ⟨hbounds, ⟨hq, rfl, hgreet, hhello, hsilence, hpartner, rfl⟩, hrun⟩

theorem Span.sound_answers (h : u.sound) (hs : u.state.searching = true) (l : List Nat) (busy : Nat) :
    Span.sound { u with answers := l, busyUntil := busy } := by
  obtain ⟨hbounds, hsearch, hrun⟩ := (Span.sound_searching hs).mp h
  exact (Span.sound_searching (by exact hs)).mpr ⟨hbounds, hsearch, hrun⟩

theorem Span.sound_answering (h : u.sound) (hs : u.state.searching = true) (a busy deaf : Nat) (l : List Nat) :
    Span.sound { u with drive := .answer a, answers := l, busyUntil := busy, deafUntil := deaf } := by
  obtain ⟨hbounds, ⟨hq, hdue, hgreet, hhello, hsilence, hpartner, -⟩, hrun⟩ := (Span.sound_searching hs).mp h
  exact (Span.sound_searching (by exact hs)).mpr ⟨hbounds, ⟨hq, hdue, hgreet, hhello, hsilence, hpartner, rfl⟩, hrun⟩

/-- A probe's window closes with its echo copied (R7, R9). -/
theorem Span.sound_classified (h : u.sound) (hs : u.state.searching = true) (e : List Excursion) (he : e.length = 4) (c : ProbeClass) :
    Span.sound { u with window := none, echo := e, lastClass := c } := by
  obtain ⟨⟨hrx, hdepth, hbucket, hlen, hsamples, hdelay, -, hlfsr⟩, hsearch, hrun⟩ := (Span.sound_searching hs).mp h
  exact (Span.sound_searching (by exact hs)).mpr ⟨⟨hrx, hdepth, hbucket, hlen, hsamples, hdelay, he, hlfsr⟩, hsearch, hrun⟩

theorem echoBuffer_length (es : List Excursion) : (echoBuffer es).length = 4 := by
  simp [echoBuffer]
  omega

theorem sum_le_of_forall_le {l : List Nat} {b : Nat} (h : ∀ d ∈ l, d ≤ b) : l.sum ≤ l.length * b := by
  simpa using List.sum_le_card_nsmul l b h

/-- The mean of samples within a bound is within it (R10). -/
theorem meanHalfUp_le {l : List Nat} {b : Nat} (h : ∀ d ∈ l, d ≤ b) : meanHalfUp l ≤ b := by
  unfold meanHalfUp
  have hsum := sum_le_of_forall_le h
  rcases Nat.eq_zero_or_pos l.length with h0 | h0
  · simp [h0]
  · refine Nat.lt_succ_iff.mp ((Nat.div_lt_iff_lt_mul (by omega)).mpr ?_)
    calc 2 * l.sum + l.length < 2 * (l.length * b) + 2 * l.length := by omega
      _ = (b + 1) * (2 * l.length) := by ring

/-- The history holds at most the last four samples (R10). -/
theorem Span.sound_addSample (h : u.sound) {r d : Nat} (hd : d ≤ 4000) (hs : u.state ≠ .off ∧ u.state ≠ .held) : (u.addSample r d).sound := by
  obtain ⟨⟨hrx, hdepth, hbucket, hlen, hsamples, hdelay, hecho, hlfsr⟩, hno, hoff, hrest⟩ := h
  have hjoined : ∀ x ∈ u.history ++ [d], x ≤ 4000 := by
    simp only [List.mem_append, List.mem_singleton]
    rintro x (hx | rfl)
    exacts [hsamples x hx, hd]
  have hhist : ∀ x ∈ (u.history ++ [d]).drop ((u.history ++ [d]).length - 4), x ≤ 4000 := fun x hx => hjoined x (List.mem_of_mem_drop hx)
  refine ⟨⟨hrx, hdepth, hbucket, ?_, hhist, meanHalfUp_le fun x hx => hhist x (List.mem_of_mem_drop hx), hecho, hlfsr⟩, hno, fun ho => ?_, hrest⟩
  · show ((u.history ++ [d]).drop ((u.history ++ [d]).length - 4)).length ≤ 4
    rw [List.length_drop]
    omega
  · exact absurd ho (by simp [Span.addSample, hs])

/-! ## The debounce and the greeting (R12 to R14) -/

theorem Span.sound_sense (h : u.sound) (hs : u.state.searching = true) {n : Nat} (hn : n = 1 ∨ n = 2) (t : Nat) :
    Span.sound { u with state := .sensed, runCount := n, runRef := t } := by
  obtain ⟨hbounds, hsearch, -⟩ := (Span.sound_searching hs).mp h
  exact (Span.sound_sensed rfl).mpr ⟨hbounds, hsearch, hn⟩

theorem Span.sound_lose (h : u.sound) (hs : u.state.searching = true) :
    Span.sound { u with state := .probing, runCount := 0, runRef := 0 } := by
  obtain ⟨hbounds, hsearch, -⟩ := (Span.sound_searching hs).mp h
  exact (Span.sound_probing rfl).mpr ⟨hbounds, hsearch, rfl⟩

theorem Span.sound_greet (h : u.sound) (hs : u.state.searching = true) (n : Nat) (greet hello : Nat) : Span.sound { u with
    runCount := n, state := .greeting, probeDue := none, window := none, answers := [], heard := 0, greetEnd := some greet
    helloDue := some hello } := by
  obtain ⟨hbounds, ⟨⟨-, hcur, hattempt, -, -⟩, -, -, -, hsilence, hpartner, hsending⟩, -⟩ := (Span.sound_searching hs).mp h
  refine (Span.sound_greeting rfl).mpr ⟨hbounds, ⟨?_, fun _ => hattempt, ?_, ?_⟩, ⟨rfl, rfl, rfl⟩, rfl, rfl, hsilence, hpartner⟩
  · simp [show u.drive.sending = false from hsending]
  · simp [show u.attempt = 0 from hattempt]
  · simp [show u.attempt = 0 from hattempt]

theorem Span.sound_heard (h : u.sound) (hs : u.state.sends = true) (w : Word32) : Span.sound { u with heard := w } := by
  exact (Span.sound_sends (by exact hs)).mpr ((Span.sound_sends hs).mp h)

theorem Span.sound_enterUp (h : u.sound) (hs : u.state = .greeting) (p : Partner) (silence now : Nat) : Span.sound { u with
    state := .up, partner := some p, bucket := 0, greetEnd := none, helloDue := none, silenceEnd := some silence, idleFrom := now } := by
  obtain ⟨⟨hrx, hdepth, -, hbounds⟩, hsends, hstopped, -⟩ := (Span.sound_greeting hs).mp h
  exact (Span.sound_up rfl).mpr ⟨⟨hrx, hdepth, Nat.zero_le _, hbounds⟩, hsends, hstopped, rfl, rfl, rfl, rfl⟩

theorem Span.sound_partner (h : u.sound) (hs : u.state = .up) (p : Partner) : Span.sound { u with partner := some p } := by
  obtain ⟨hbounds, hsends, hstopped, hgreet, hhello, hsilence, -⟩ := (Span.sound_up hs).mp h
  exact (Span.sound_up (by exact hs)).mpr ⟨hbounds, hsends, hstopped, hgreet, hhello, hsilence, rfl⟩

theorem Span.sound_helloDue (h : u.sound) (hs : u.state = .greeting) (t : Nat) : Span.sound { u with helloDue := some t } := by
  obtain ⟨hbounds, hsends, hstopped, hgreet, -, hsilence, hpartner⟩ := (Span.sound_greeting hs).mp h
  exact (Span.sound_greeting (by exact hs)).mpr ⟨hbounds, hsends, hstopped, hgreet, rfl, hsilence, hpartner⟩

/-! ## Reception (R27 to R31) -/

/-- Fields that the agreement does not read. -/
theorem Span.sound_busyUntil (h : u.sound) (b : Nat) : Span.sound { u with busyUntil := b } := h

theorem Span.sound_rejected (h : u.sound) (why : Rejection) : Span.sound { u.spoil.countReject why with lastReject := why } := by
  have hspoil : u.spoil.sound := Span.sound_bucket h (Nat.min_le_left _ _)
  cases why <;> exact hspoil

theorem Span.sound_accepted (h : u.sound) (n : Word32) (b : Nat) (hb : b ≤ 255) (silence : Option Nat)
    (hs : silence.isSome = true ↔ u.state = .up) : Span.sound { u with accepted := n, bucket := b, silenceEnd := silence } := by
  obtain ⟨⟨hrx, hdepth, -, hbounds⟩, hno, hoff, hprobe, hwindow, hgreet, hhello, -, hrest⟩ := h
  exact ⟨⟨hrx, hdepth, hb, hbounds⟩, hno, hoff, hprobe, hwindow, hgreet, hhello, hs, hrest⟩

theorem Span.sound_received (h : u.sound) (f : RxFrame) (hr : u.state.receives = true) (hl : u.rxq.length < 4) :
    Span.sound { u with rxq := u.rxq ++ [f] } := by
  obtain ⟨⟨-, hbounds⟩, hno, -, hrest⟩ := h
  refine ⟨⟨by simpa using hl, hbounds⟩, hno, fun ho => ?_, hrest⟩
  obtain ho | ho := ho <;> simp [show u.state = _ from ho, SpanState.receives] at hr

/-! ## Attempts (R34 to R39) -/

theorem Span.sound_attempt (h : u.sound) (hs : u.state.sends = true) (hfree : u.drive.sending = false) {q : List TxFrame} {f : TxFrame}
    (hq : q.length + 1 ≤ u.depth) (t : Nat) (bytes : List Byte) : Span.sound { u with
      txq := q, cur := some f, attempt := u.attempt + 1, backoffEnd := none, drive := .frame t bytes } := by
  obtain ⟨⟨hrx, hdepth, hbounds⟩, ⟨-, -, hattempt, height⟩, hrest⟩ := (Span.sound_sends hs).mp h
  have hne : u.attempt ≠ 8 := fun h8 => by simp [height h8] at hfree
  refine (Span.sound_sends (by exact hs)).mpr ⟨⟨hrx, ?_, hbounds⟩, ⟨fun _ => rfl, by simp, ?_, fun _ => rfl⟩, hrest⟩
  · simp only [Span.depth, Option.isSome_some, if_true]
    omega
  · show u.attempt + 1 ≤ 8
    omega

theorem Span.sound_jam (h : u.sound) (hd : u.drive.sending = true) (t : Nat) (b : Bool) (n : Word16) :
    Span.sound { u with drive := .jam t b, collisions := n } := by
  obtain ⟨hbounds, hno, hoff, hprobe, hwindow, hgreet, hhello, hsilence, hpartner, hrun, hsending, hcur, hattempt, height⟩ := h
  refine ⟨hbounds, hno, fun ho => ?_, hprobe, hwindow, hgreet, hhello, hsilence, hpartner, hrun, fun _ => hsending hd, hcur, hattempt,
    fun _ => rfl⟩
  obtain ⟨-, hidle, -⟩ := hoff ho
  simp [hidle, Drive.sending] at hd

/-- The current frame is given up or complete: nothing is tried (R35, R39). -/
theorem Span.sound_free (h : u.sound) : Span.sound { u with drive := .idle, cur := none, attempt := 0 } := by
  obtain ⟨⟨hrx, hdepth, hbounds⟩, hno, hoff, hprobe, hwindow, hgreet, hhello, hsilence, hpartner, hrun, -⟩ := h
  refine ⟨⟨hrx, ?_, hbounds⟩, fun hs => ?_, fun ho => ?_, hprobe, hwindow, hgreet, hhello, hsilence, hpartner, hrun, by simp [Drive.sending],
    fun _ => rfl, by simp, by simp⟩
  · simp only [Span.depth] at hdepth ⊢
    simp only [Option.isSome_none, Bool.false_eq_true, if_false]
    omega
  · obtain ⟨hq, -, hback, hheard⟩ := hno hs
    exact ⟨hq, rfl, hback, hheard⟩
  · obtain ⟨hrxq, -, hhist⟩ := hoff ho
    exact ⟨hrxq, rfl, hhist⟩

/-- A jam ends before the eighth attempt (R38). -/
theorem Span.sound_jamEnded (h : u.sound) (ha : u.attempt < 8) : Span.sound { u with drive := .idle } := by
  obtain ⟨hbounds, hno, hoff, hprobe, hwindow, hgreet, hhello, hsilence, hpartner, hrun, -, hcur, hattempt, height⟩ := h
  refine ⟨hbounds, hno, fun ho => ?_, hprobe, hwindow, hgreet, hhello, hsilence, hpartner, hrun, by simp [Drive.sending], hcur, hattempt,
    fun h8 => absurd ha (by simp [show u.attempt = 8 from h8])⟩
  obtain ⟨hrxq, -, hhist⟩ := hoff ho
  exact ⟨hrxq, rfl, hhist⟩

theorem Span.sound_backoff (h : u.sound) {e : Option Nat} (hs : e = none ∨ u.state.sends = true) :
    Span.sound { u with backoffEnd := e } := by
  obtain ⟨hbounds, hno, hrest⟩ := h
  refine ⟨hbounds, fun hn => ?_, hrest⟩
  obtain ⟨hq, hcur, -, hheard⟩ := hno hn
  obtain rfl | hs := hs
  · exact ⟨hq, hcur, rfl, hheard⟩
  · exact absurd hs (by simp [show u.state.sends = false from hn])

/-- A span leaves OFF for the search (R6, R11). -/
theorem Span.sound_search (h : u.sound) (hs : u.state = .off) (now d : Nat) : Span.sound { u.toProbing now with deafUntil := d } := by
  obtain ⟨⟨hrx, hdepth, hbucket, hlen, hsamples, hdelay, hecho, hlfsr⟩, hno, hoff, -, -, hgreet, hhello, hsilence, hpartner, -, -, hcur,
    hattempt, height⟩ := h
  obtain ⟨hq, hcur', hback, hheard⟩ := hno (by simp [hs, SpanState.sends])
  obtain ⟨-, hidle, -⟩ := hoff (.inl hs)
  have hnone {α : Type} {o : Option α} {p : SpanState} (ho : o.isSome = true ↔ u.state = p) (hp : p ≠ .off) : o = none := by
    rw [hs] at ho
    cases o
    · rfl
    · exact absurd (ho.mp rfl).symm hp
  exact (Span.sound_probing rfl).mpr ⟨⟨hrx, hdepth, hbucket, hlen, hsamples, hdelay, hecho, lfsrDraw_ne_zero hlfsr⟩,
    ⟨⟨hq, hcur', hcur hcur', hback, hheard⟩, rfl, hnone hgreet (by simp), hnone hhello (by simp), hnone hsilence (by simp),
      hnone hpartner (by simp), by simp [Span.toProbing, Span.draw, hidle, Drive.sending]⟩, rfl⟩

end

end Sys2Proof.Machine

/-!
O57: both spans, the relay and the requests handed on, through the operations of every block.
-/

namespace Sys2Proof.Machine

/-- The parts that the spans' agreement does not read. -/
def besidesSpans : List Part :=
  [.now, .clock, .choices, .pending, .mem, .pub, .trail, .settings, .slotTally, .faultTally, .census, .table, .relay, .side1, .side2,
    .doorLead, .summary, .heat, .fire, .mon]

/-- The spans stay in agreement. -/
def SpansKept (s t : State) : Prop := s.spansSound → t.spansSound

theorem spansSound_frame {s t : State} (h : Touches besidesSpans s t) (hs : s.spansSound) : t.spansSound := by
  have hk (p : Part) (hp : p ∉ besidesSpans) : p.kept s t := (h p hp).1
  have ha : t.spanA = s.spanA := hk .spanA (by simp [besidesSpans])
  have hb : t.spanB = s.spanB := hk .spanB (by simp [besidesSpans])
  have hby : t.bypass = s.bypass := hk .bypass (by simp [besidesSpans])
  have hport : t.port = s.port := hk .port (by simp [besidesSpans])
  have hreq : t.req = s.req := hk .req (by simp [besidesSpans])
  unfold State.spansSound
  rw [ha, hb, hby, hport, hreq]
  exact hs

theorem frameRel_spansKept : FrameRel besidesSpans SpansKept where
  frame := spansSound_frame
  trans h h' hs := h' (h hs)

theorem spansKept_settle (s : State) : SpansKept s s.settle := by
  unfold SpansKept State.spansSound
  simp only [settle_spanA, settle_spanB, settle_bypass, settle_port, settle_req]
  exact id

theorem State.spansSound.span {s : State} (h : s.spansSound) (x : SpanId) : (s.span x).sound := by
  obtain ⟨ha, hb, -⟩ := h
  cases x
  exacts [ha, hb]

/-- A span that was OFF stays OFF. -/
theorem spansSound_setSpan {s : State} (h : s.spansSound) {x : SpanId} {u : Span} (hu : u.sound)
    (hoff : (s.span x).state = .off → u.state = .off) : (s.setSpan x u).spansSound := by
  obtain ⟨ha, hb, hrelay, hrest⟩ := h
  cases x
  · exact ⟨hu, hb, fun hr => ⟨hoff (hrelay hr).1, (hrelay hr).2⟩, hrest⟩
  · exact ⟨ha, hu, fun hr => ⟨(hrelay hr).1, hoff (hrelay hr).2⟩, hrest⟩

/-! ## Offers -/

theorem dropYoungest_length {c : Nat} {q q' : List TxFrame} {g : TxFrame} (h : dropYoungest c q = (some g, q')) :
    q.length = q'.length + 1 := by
  obtain ⟨-, before, after, rfl, rfl, -⟩ := dropYoungest_some h
  simp
  omega

/-- What an offer makes of the queue. -/
theorem offer_txq (s : State) (x : SpanId) (f : TxFrame) (hd : (s.span x).depth ≤ 8) :
    ((s.offer x f).1.span x).txq = (s.span x).txq ∨ (f.frame.kind.consumer = .spanUnit ∨ (s.span x).state = .up) ∧
      ((s.offer x f).1.span x).txq.length + (if (s.span x).cur.isSome then 1 else 0) ≤ 8 := by
  have hset (v : Span) : (s.setSpan x v).span x = v := by cases x <;> rfl
  have hdrop (t : State) (k : FrameKind) : ((t.queueDrop x k).span x).txq = (t.span x).txq := by cases x <;> rfl
  unfold Span.depth at hd
  unfold State.offer
  simp only
  split
  · exact .inl rfl
  next hc =>
  have hpass : f.frame.kind.consumer = .spanUnit ∨ (s.span x).state = .up := by
    by_contra hn
    exact hc ⟨fun h => hn (.inl h), fun h => hn (.inr h)⟩
  split
  next hroom =>
    unfold Span.depth at hroom
    refine .inr ⟨hpass, ?_⟩
    rw [hset]
    simp only [List.length_append, List.length_singleton]
    omega
  · split
    · split
      next g q hq =>
        refine .inr ⟨hpass, ?_⟩
        rw [hdrop, hset]
        have := dropYoungest_length hq
        simp only [List.length_append, List.length_singleton]
        omega
      · exact .inl (hdrop s _)
    · exact .inl (hdrop s _)

theorem spansSound_offer {s : State} (h : s.spansSound) (x : SpanId) (f : TxFrame)
    (hf : f.frame.kind.consumer ≠ .spanUnit ∨ (s.span x).state.sends = true) : (s.offer x f).1.spansSound := by
  have hx := h.span x
  have hdepth : (s.span x).depth ≤ 8 := hx.1.2.1
  rw [offer_keeps]
  refine spansSound_frame (s := s.setSpan x ((s.offer x f).1.span x)) ((touches_raised _ _).mono (by simp [besidesSpans])) ?_
  rw [offer_span]
  refine spansSound_setSpan h (Span.sound_txq hx ?_) id
  refine (offer_txq s x f hdepth).imp_right fun ⟨hpass, hlen⟩ => ⟨?_, hlen⟩
  obtain hf | hf := hf
  · rw [hpass.resolve_left hf]
    rfl
  · exact hf

theorem touches_doors (t : State) (v : Door) : Touches [.side1, .side2, .doorLead, .summary, .pub] t { t with door := v } := by
  intro p hp
  cases p
  case side1 | side2 | doorLead | summary | pub => simp at hp
  all_goals repeat' constructor

/-- A property of the spans' agreement that the offers and takes of frames keep is kept by the operations of the engine, the relay and
the heating share unit. -/
theorem opsKeep_of_spans {K : State → Prop} (hframe : ∀ {s t : State}, Touches besidesSpans s t → K s → K t)
    (hoffer : ∀ (s : State) (x : SpanId) (f : TxFrame), f.frame.kind.consumer ≠ .spanUnit → K s → K (s.offer x f).1)
    (htaken : ∀ (s : State) (x : SpanId) (l : List RxFrame), l.length ≤ (s.span x).rxq.length → K s →
      K (s.setSpan x { s.span x with rxq := l })) : OpsKeep K := by
  have hheat (s : State) (v : Heat) : K s → K { s with heat := v } := hframe ((touches_heat s v).mono (by decide))
  refine ⟨fun h => hframe (h.mono (by decide)), hoffer, htaken, fun s c _ => hframe ((touches_setCensus s c).mono (by decide)),
    fun s o d n p => hframe ?_, fun s v _ => hframe ((touches_doors s v).mono (by decide)), fun s o m oc d _ => hframe ?_,
    fun s v _ _ _ => hheat s v, fun s => hframe ?_, fun s v g a _ => hframe ?_⟩
  · unfold State.completeCensusSlot
    exact (touches_completeIf _ _ _ _ (by decide) (by decide)).mpr ((touches_setCensus s _).mono (by decide))
  · exact (touches_finishOrder (by decide) (by decide) (by decide) (by decide) o m oc d).mpr (Touches.refl _ _)
  · unfold State.generationChanged
    split
    case h_1 => exact (touches_setCap _ _ (by decide) (by decide) (by decide)).mpr (Touches.refl _ s)
    all_goals exact Touches.refl _ s
  · exact (touches_takeGrant _ _ _ (by decide) (by decide) (by decide)).mpr (Touches.refl _ s)

theorem opsKeep_spansSound : OpsKeep State.spansSound :=
  opsKeep_of_spans spansSound_frame (fun _ x f hf h => spansSound_offer h x f (.inl hf)) fun _ x _ hl h =>
    spansSound_setSpan h (Span.sound_rxq (h.span x) hl) id

end Sys2Proof.Machine

/-!
O57: the span commands.
-/

namespace Sys2Proof.Machine

section
variable (s : State)

theorem spansKept_complete (k : Nat) (o : SlotOutcome) (d : Byte) (r : List Byte) : SpansKept s (s.complete k o d r) :=
  frameRel_spansKept.frame ((touches_complete k o d r (by simp [besidesSpans]) (by simp [besidesSpans])).mpr (Touches.refl _ s))

/-! ## Exits and the greeting -/

/-- A span leaves for OFF, or leaves a state that is not OFF (R11, R19, R20). -/
theorem spansKept_exitSpan (x : SpanId) (target : ExitTo) (cause : Cause) (hs : (s.span x).state ≠ .off) :
    SpansKept s (s.exitSpan x target cause) := fun h =>
  opsKeep_spansSound.exitSpan s x target cause (spansSound_setSpan h (Span.sound_exit (h.span x) _ _ _) fun ho => absurd ho hs)

theorem spansSound_enqueueHello {s : State} (h : s.spansSound) (x : SpanId) (hs : (s.span x).state.sends = true) :
    (s.enqueueHello x).spansSound := spansSound_offer h x _ (.inr hs)

theorem spansKept_enterUp (x : SpanId) (p : Partner) (hs : (s.span x).state = .greeting) : SpansKept s (s.enterUp x p) := fun h => by
  have hup := spansSound_setSpan (x := x) h (Span.sound_enterUp (h.span x) hs p (s.now + 20 * ms) s.now) (by simp [hs])
  exact opsKeep_spansSound.spanUpReport _ _ _ (spansSound_enqueueHello hup x (by simp [SpanState.sends]))

theorem spansKept_greet (x : SpanId) (m : HelloMsg) (hs : (s.span x).state = .greeting) : SpansKept s (s.greet x m) :=
  FrameRel.branch (fun _ => spansKept_exitSpan s x _ _ (by simp [hs])) fun _ => FrameRel.branch (fun _ => spansKept_enterUp s x _ hs)
    fun _ h => spansSound_setSpan h (Span.sound_heard (h.span x) (by simp [hs, SpanState.sends]) _) id

/-- What the entry to GREETING makes of the unit (R14). -/
theorem spansSound_enterGreeting {s : State} {x : SpanId} {n : Nat} (h : s.spansSound) (hs : (s.span x).state.searching = true) :
    ((s.setSpan x { s.span x with runCount := n }).enterGreeting x).spansSound := by
  have hgreet := spansSound_setSpan h (Span.sound_greet (h.span x) hs n (s.now + 100 * ms) (s.now + 2 * ms)) (x := x)
    (fun ho => by simp [ho, SpanState.searching] at hs)
  unfold State.enterGreeting
  simp only [setSpan_span, setSpan_setSpan, setSpan_now]
  exact spansSound_enqueueHello hgreet x (by simp [SpanState.sends])

theorem enterGreeting_state (x : SpanId) : ((s.enterGreeting x).span x).state = .greeting := by
  unfold State.enterGreeting State.enqueueHello State.send
  rw [offer_span]
  simp

theorem spansKept_helloWhileSearching (x : SpanId) (m : HelloMsg) (hs : (s.span x).state.searching = true) :
    SpansKept s (s.helloWhileSearching x m) := by
  have hnot : (s.span x).state ≠ .off := fun ho => by simp [ho, SpanState.searching] at hs
  refine FrameRel.branch (fun _ => spansKept_exitSpan s x _ _ hnot) fun _ => frameRel_spansKept.branch_refl fun _ h => ?_
  have hgreeting : (s.enterGreeting x).spansSound := by
    have := spansSound_enterGreeting (n := (s.span x).runCount) h hs
    rwa [show ({ s.span x with runCount := (s.span x).runCount } : Span) = s.span x from rfl, setSpan_same] at this
  exact spansKept_greet _ x m (enterGreeting_state s x) hgreeting

theorem spansKept_helloWhileUp (x : SpanId) (m : HelloMsg) (hs : (s.span x).state = .up) : SpansKept s (s.helloWhileUp x m) := by
  have hexit (target : ExitTo) (cause : Cause) := spansKept_exitSpan s x target cause (by simp [hs])
  unfold State.helloWhileUp
  split
  · exact id
  next p _ =>
    refine FrameRel.branch (fun _ => hexit _ _) fun _ => FrameRel.branch (fun _ => hexit _ _) fun _ => FrameRel.branch
      (fun _ => hexit _ _) fun _ h => ?_
    have hpartner := spansSound_setSpan h (Span.sound_partner (h.span x) hs { p with gen := m.gen }) id
    exact iteClosed (spansSound_enqueueHello hpartner x (by simp [hs, SpanState.sends])) hpartner

theorem spansKept_takeHello (x : SpanId) (f : Frame) : SpansKept s (s.takeHello x f) := by
  unfold State.takeHello
  split
  · exact id
  split
  next hs => exact spansKept_helloWhileSearching s x _ (by simp [hs, SpanState.searching])
  next hs => exact spansKept_helloWhileSearching s x _ (by simp [hs, SpanState.searching])
  next hs => exact spansKept_greet s x _ hs
  next hs => exact spansKept_helloWhileUp s x _ hs
  all_goals exact id

theorem spansKept_takeKeepalive (x : SpanId) (f : Frame) : SpansKept s (s.takeKeepalive x f) := by
  unfold State.takeKeepalive
  split
  next hs _ _ =>
    exact FrameRel.branch (fun _ => spansKept_exitSpan s x _ _ (by simp [hs])) fun _ h =>
      spansSound_setSpan h (Span.sound_partner (h.span x) hs _) id
  · exact id

theorem spansKept_periodicHello (x : SpanId) : SpansKept s (s.periodicHello x) := by
  unfold State.periodicHello
  simp only
  split
  next t _ =>
    refine frameRel_spansKept.when fun ⟨hs, _⟩ h => ?_
    have hdue := spansSound_setSpan h (Span.sound_helloDue (h.span x) hs (t + 2 * ms)) id
    exact iteClosed hdue (spansSound_enqueueHello hdue x (by simp [hs, SpanState.sends]))
  · exact id

/-! ## The probe engine -/

theorem spansKept_sendProbe (x : SpanId) (hs : (s.span x).state.searching = true) : SpansKept s (s.sendProbe x) := fun h =>
  spansSound_setSpan h (Span.sound_probed (Span.sound_draw (h.span x)) hs _ _ _) id

theorem spansKept_debounce (x : SpanId) (answer : Option Nat) (hs : (s.span x).state.searching = true) :
    SpansKept s (s.debounce x answer) := fun h => by
  have hx := h.span x
  have hset (u : Span) (hu : u.sound) : (s.setSpan x u).spansSound :=
    spansSound_setSpan h hu fun ho => by simp [ho, SpanState.searching] at hs
  unfold State.debounce
  simp only
  split
  case h_1 => exact hset _ (Span.sound_sense hx hs (.inl rfl) _)
  case h_3 t hsensed =>
    have hrun := ((Span.sound_sensed hsensed).mp hx).2.2
    refine iteClosed ?_ ?_
    · split
      · exact spansSound_enterGreeting h hs
      next hn =>
        refine hset _ ?_
        have := Span.sound_sense hx hs (n := (s.span x).runCount + 1) (by omega) (s.span x).runRef
        rwa [← hsensed] at this
    · have := Span.sound_sense hx hs (.inl rfl) t
      rw [← hsensed] at this
      exact hset _ this
  case h_4 => exact hset _ (Span.sound_lose hx hs)
  all_goals exact h

theorem spansKept_classifyProbe (x : SpanId) (es : List Excursion) (hs : (s.span x).state.searching = true) :
    SpansKept s (s.classifyProbe x es) := fun h => by
  have hnot : (s.span x).state ≠ .off ∧ (s.span x).state ≠ .held := by
    constructor <;> intro ho <;> simp [ho, SpanState.searching] at hs
  have hclass := Span.sound_classified (h.span x) hs (echoBuffer es) (echoBuffer_length es) (classify (es.take 4))
  unfold State.classifyProbe
  simp only
  split
  next t _ =>
    have hsample := Span.sound_addSample (r := s.settings.probeRepeat) (d := delaySample t) hclass (Nat.min_le_left _ _) hnot
    refine spansKept_debounce _ x _ ?_ (spansSound_setSpan h hsample id)
    rw [setSpan_span]
    exact hs
  · refine spansKept_debounce _ x _ ?_ (spansSound_setSpan h hclass id)
    rw [setSpan_span]
    exact hs

theorem spansKept_driveAnswer (x : SpanId) : SpansKept s (s.driveAnswer x) := by
  unfold State.driveAnswer
  simp only
  split
  · refine frameRel_spansKept.when fun hc h => ?_
    rw [Bool.and_eq_true] at hc
    exact spansSound_setSpan h (Span.sound_answering (h.span x) hc.1 _ _ _ _) id
  · exact id

/-! ## Reception -/

theorem spansKept_receiveLine (x : SpanId) (line : List Level) : SpansKept s (s.receiveLine x line) := by
  unfold State.receiveLine
  simp only
  refine frameRel_spansKept.branch_refl fun hc h => ?_
  simp only [not_or, Bool.not_eq_false] at hc
  obtain ⟨hreceives, -⟩ := hc
  have hbusy := spansSound_setSpan (x := x) h (Span.sound_busyUntil (h.span x) (max (s.span x).busyUntil s.now)) id
  have hrejected {t : State} (ht : t.spansSound) (why : Rejection) : (t.rejectFrame x why).spansSound :=
    spansSound_setSpan ht (Span.sound_rejected (ht.span x) why) fun ho => by cases why <;> exact ho
  generalize hu : ({ s.span x with busyUntil := max (s.span x).busyUntil s.now } : Span) = u at hbusy ⊢
  have hreceives' : u.state.receives = true := by rw [← hu]; exact hreceives
  split
  · exact hbusy
  · exact hrejected hbusy _
  · unfold State.receiveBytes
    split
    · exact hrejected hbusy _
    split
    · exact spansSound_setSpan hbusy (hbusy.span x) id
    next f _ =>
      have hx := hbusy.span x
      rw [setSpan_span] at hx
      unfold State.acceptFrame
      simp only [setSpan_span, setSpan_setSpan, setSpan_now]
      have haccepted := Span.sound_accepted hx (u.accepted + 1) (u.bucket - 1) ((Nat.sub_le _ _).trans hx.1.2.2.1)
        (if u.state = .up then some (s.now + 20 * ms) else u.silenceEnd) (by
          obtain ⟨-, -, -, -, -, -, -, hsilence, -⟩ := hx
          split <;> simp_all)
      have hoff : (s.span x).state = .off → u.state = .off := by rw [← hu]; exact id
      split
      next hroom => exact spansSound_setSpan h (Span.sound_received haccepted _ hreceives' hroom) hoff
      · exact opsKeep_spansSound.raise _ _ _ (spansSound_setSpan h haccepted hoff)

end

end Sys2Proof.Machine

/-!
O57: line access, the span and bypass control, and the requests.
-/

namespace Sys2Proof.Machine

section
variable (s : State)

/-! ## Line access -/

theorem takeClass_length {c : Nat} {f : TxFrame} : ∀ {q q' : List TxFrame}, takeClass c q = (some f, q') → q'.length + 1 = q.length
  | [], _, h => by simp [takeClass] at h
  | g :: q, q', h => by
    unfold takeClass at h
    split at h
    · obtain ⟨-, rfl⟩ := Prod.mk.inj h
      rfl
    · cases ht : takeClass c q with
      | mk o r =>
        simp only [ht] at h
        obtain ⟨rfl, rfl⟩ := Prod.mk.inj h
        simpa using takeClass_length ht

theorem nextFrame_length {u : Span} {f : TxFrame} {q : List TxFrame} (h : u.nextFrame = (some f, q)) : q.length + 1 ≤ u.depth := by
  unfold Span.nextFrame at h
  unfold Span.depth
  split at h
  next g hg =>
    obtain ⟨-, rfl⟩ := Prod.mk.inj h
    simp [hg]
  next hg =>
    have := takeClass_length h
    omega

theorem lineFree_sending {u : Span} {now : Nat} (h : u.lineFree now = true) : u.drive.sending = false := by
  unfold Span.lineFree at h
  split at h <;> simp_all [Drive.sending]

theorem spansKept_startAttempt (x : SpanId) (quiet : Nat) (hm : s.mayAttempt x quiet = true) {f : TxFrame} {q : List TxFrame}
    (hq : (s.span x).nextFrame = (some f, q)) : SpansKept s (s.startAttempt x f q) := fun h => by
  simp only [State.mayAttempt, Bool.and_eq_true] at hm
  obtain ⟨⟨⟨hs, hfree⟩, -⟩, -⟩ := hm
  exact spansSound_setSpan h (Span.sound_attempt (h.span x) hs (lineFree_sending hfree) (nextFrame_length hq) _ _) id

theorem spansKept_tellLost (why : StopReason) (f : TxFrame) : SpansKept s (s.tellLost why f) := opsKeep_spansSound.tellLost s why f

theorem spansKept_endJam (x : SpanId) (jamEnd : Nat) (hd : (s.span x).drive.sending = true) : SpansKept s (s.endJam x jamEnd) := fun h => by
  have hdrawn := Span.sound_draw (h.span x)
  have hoff : (s.span x).state = .off → (s.span x).draw.1.state = .off := id
  have hsends : (s.span x).draw.1.state.sends = true ∧ (s.span x).draw.1.cur.isSome = true := by
    obtain ⟨-, -, -, -, -, -, -, -, -, -, hsending, -⟩ := h.span x
    exact hsending hd
  unfold State.endJam
  simp only
  generalize (s.span x).draw = d at *
  split
  next hcur => simp [hcur] at hsends
  next f _ =>
    split
    · have hfree := Span.sound_bucket (Span.sound_free hdrawn) (Nat.min_le_left 255 (d.1.bucket + 4))
      unfold State.giveUp
      simp only [setSpan_span, setSpan_setSpan]
      exact spansKept_tellLost _ _ _ (opsKeep_spansSound.raise _ _ _ (spansSound_setSpan h hfree hoff))
    next ha =>
      have hended := Span.sound_jamEnded hdrawn (Nat.lt_of_not_le ha)
      unfold State.startBackoff
      simp only [setSpan_span, setSpan_setSpan]
      exact spansSound_setSpan h (Span.sound_backoff hended (.inr hsends.1)) hoff

theorem spansKept_completeFrame (x : SpanId) (f : TxFrame) (start endAt : Nat) : SpansKept s (s.completeFrame x f start endAt) := fun h =>
  opsKeep_spansSound.tellCompleted _ _ _ (spansSound_setSpan h (Span.sound_free (h.span x)) id)

/-! ## SPAN_CONTROL and the relay -/

theorem spansKept_withSelector (r : Request) {f : Byte → State → State} (hf : ∀ sel u, SpansKept u (f sel u)) :
    SpansKept s (s.withSelector r f) :=
  FrameRel.branch (fun _ => hf _ _) fun _ => spansKept_complete s _ _ _ _

theorem spansKept_setEnable (x : SpanId) (b : Bool) : SpansKept s (s.setEnable x b) := fun h =>
  spansSound_setSpan h (h.span x) id

theorem spansKept_searchIfReady (x : SpanId) : SpansKept s (s.searchIfReady x) := by
  refine frameRel_spansKept.when fun ⟨hs, _, _, hrelay⟩ h => ?_
  obtain ⟨ha, hb, -, hrest⟩ := id h
  have hx := Span.sound_search (h.span x) hs s.now s.now
  cases x
  · exact ⟨hx, hb, fun hr => absurd hrelay hr, hrest⟩
  · exact ⟨ha, hx, fun hr => absurd hrelay hr, hrest⟩

theorem spansKept_enable (r : Request) : SpansKept s (s.enableSpans r) := by
  have hone (sel : Byte) (x : SpanId) (w : State) : SpansKept w (if selects sel x then (w.setEnable x true).searchIfReady x else w) :=
    frameRel_spansKept.when fun _ => frameRel_spansKept.trans (spansKept_setEnable w x true) (spansKept_searchIfReady _ x)
  refine FrameRel.branch (fun _ => spansKept_withSelector s r fun sel v => ?_) fun _ => spansKept_complete s _ _ _ _
  exact frameRel_spansKept.trans (frameRel_spansKept.trans (hone sel .a v) (hone sel .b _)) (spansKept_complete _ _ _ _ _)

/-- Both spans after some of them left: those that left for OFF, or from a state that was not OFF. -/
theorem spansSound_exits {s : State} (h : s.spansSound) (p : SpanId → Bool) (target : ExitTo) (cause : Cause)
    (hp : ∀ x, p x = true → target = .off ∨ (s.span x).state ≠ .off) : State.spansSound { s with
      spanA := if p .a then s.spanA.exit s.now cause target else s.spanA
      spanB := if p .b then s.spanB.exit s.now cause target else s.spanB } := by
  have hone {t : State} (ht : t.spansSound) (x : SpanId) (hx : p x = true → target = .off ∨ (t.span x).state ≠ .off) :
      (t.setSpan x (if p x then (t.span x).exit s.now cause target else t.span x)).spansSound := by
    split
    next hpx =>
      refine spansSound_setSpan ht (Span.sound_exit (ht.span x) _ _ _) fun ho => ?_
      obtain rfl | hno := hx hpx
      exacts [rfl, absurd ho hno]
    · rwa [setSpan_same]
  exact hone (hone h .a (hp .a)) .b (hp .b)

theorem spansKept_exitWhere (p : SpanId → Bool) (target : ExitTo) (cause : Cause)
    (hp : ∀ x, p x = true → target = .off ∨ (s.span x).state ≠ .off) : SpansKept s (s.exitWhere p target cause) := fun h =>
  opsKeep_spansSound.exitWhere s p target cause (spansSound_exits h p target cause hp)

theorem spansKept_disable (r : Request) : SpansKept s (s.withSelector r fun sel v =>
    let one (x : SpanId) (w : State) : State := if selects sel x then w.setEnable x false else w
    ((one .b (one .a v)).exitWhere (fun x => selects sel x && (v.span x).state != .off) .off .disabled).completeSpan r.slot .ok) := by
  refine spansKept_withSelector s r fun sel v => ?_
  have hone (x : SpanId) (w : State) : SpansKept w (if selects sel x then w.setEnable x false else w) :=
    frameRel_spansKept.when fun _ => spansKept_setEnable w x false
  exact frameRel_spansKept.trans (frameRel_spansKept.trans (frameRel_spansKept.trans (hone .a v) (hone .b _))
    (spansKept_exitWhere _ _ _ _ fun _ _ => .inl rfl)) (spansKept_complete _ _ _ _ _)

theorem spansKept_restart (r : Request) : SpansKept s (s.withSelector r fun sel v =>
    let isOff (x : SpanId) : Bool := selects sel x && (v.span x).state == .off
    if isOff .a || isOff .b then v.completeSpan r.slot .refusedState
    else (v.exitWhere (selects sel) .probing .hostRestart).completeSpan r.slot .ok) := by
  refine spansKept_withSelector s r fun sel v => FrameRel.branch (fun _ => spansKept_complete v _ _ _ _) fun hoff =>
    frameRel_spansKept.trans (spansKept_exitWhere v _ _ _ fun x hx => .inr ?_) (spansKept_complete _ _ _ _ _)
  simp only [Bool.or_eq_true, Bool.and_eq_true, beq_iff_eq, not_or, not_and] at hoff
  cases x
  exacts [hoff.1 hx, hoff.2 hx]

/-- BYPASS: the relay leaves OPEN as every span goes to OFF (R4). -/
theorem spansKept_bypass (k : Nat) (hr : s.bypass.relay = .opened) :
    SpansKept s ((s.switchRelay false k).exitWhere (fun x => (s.span x).state != .off) .off .bypassed) := fun h => by
  refine opsKeep_spansSound.exitWhere _ _ _ _ ?_
  obtain ⟨ha, hb, -, -, -, -, hrun⟩ := spansSound_exits h (fun x => (s.span x).state != .off) .off .bypassed fun _ _ => .inl rfl
  have hoff (x : SpanId) : (if ((s.span x).state != .off) = true then (s.span x).exit s.now .bypassed .off else s.span x).state = .off := by
    split
    · rfl
    next hs => simpa using hs
  refine ⟨ha, hb, fun _ => ⟨hoff .a, hoff .b⟩, ?_, ?_, ?_, fun hr' => ?_⟩
  · exact ⟨fun _ => rfl, fun _ => rfl⟩
  · exact fun hr' => absurd hr' (by simp [State.switchRelay])
  · exact fun hr' => absurd hr' (by simp [State.switchRelay])
  · have := (hrun hr').1
    simp [hr] at this

/-- UNBYPASS: the relay leaves CLOSED with both spans OFF (R4). -/
theorem spansSound_unbypass {s : State} (k : Nat) (h : s.spansSound) (hr : s.bypass.relay = .closed) (hrun : s.port.running = true) :
    (s.switchRelay true k).spansSound := by
  obtain ⟨ha, hb, hrelay, -, -, -, -⟩ := h
  refine ⟨ha, hb, fun _ => hrelay (by simp [hr]), ⟨fun _ => rfl, fun _ => rfl⟩, ?_, ?_, ?_⟩
  · exact fun hr' => absurd hr' (by simp [State.switchRelay])
  · exact fun hr' => absurd hr' (by simp [State.switchRelay])
  · exact fun hr' => absurd (show s.port.running = false from hr') (by simp [hrun])

/-- The relay reaches its drive's position, the spans OFF until then (R3, R11). -/
theorem spansKept_relaySettles (hd : s.bypass.doneAt.isSome = true) : SpansKept s s.relaySettles := fun h => by
  obtain ⟨ha, hb, hrelay, hdone, -, -, hrun⟩ := h
  have hswitching := hdone.mp hd
  have hoff := hrelay (by simp [hswitching])
  generalize ht : ({ s with bypass := { s.bypass with
    relay := if s.bypass.drive then .opened else .closed, doneAt := none, waiter := none } } : State) = t
  have hsettled : t.spansSound := by
    rw [← ht]
    refine ⟨ha, hb, fun _ => hoff, ?_, ?_, ?_, fun hr => ?_⟩
    · cases s.bypass.drive <;> simp
    · cases s.bypass.drive <;> simp
    · cases s.bypass.drive <;> simp
    · have := (hrun hr).1
      simp [hswitching] at this
  unfold State.relaySettles
  simp only
  rw [ht]
  have hsearch := spansKept_searchIfReady _ .b (spansKept_searchIfReady t .a hsettled)
  split
  exacts [spansKept_complete _ _ _ _ _ hsearch, hsearch]

/-! ## Requests -/

theorem takeRequest_mem {p : Request → Bool} {o : Option Request} : ∀ {l rest : List Request}, takeRequest p l = (o, rest) →
    (∀ r, o = some r → r ∈ l ∧ p r = true) ∧ ∀ r ∈ rest, r ∈ l
  | [], rest, h => by
    obtain ⟨rfl, rfl⟩ := Prod.mk.inj h
    simp
  | q :: l, rest, h => by
    unfold takeRequest at h
    split at h
    next hq =>
      obtain ⟨rfl, rfl⟩ := Prod.mk.inj h
      exact ⟨fun r hr => by simp [← Option.some.inj hr, hq], fun r hr => List.mem_cons_of_mem _ hr⟩
    · cases ht : takeRequest p l with
      | mk o' l' =>
        simp only [ht] at h
        obtain ⟨rfl, rfl⟩ := Prod.mk.inj h
        obtain ⟨h1, h2⟩ := takeRequest_mem ht
        refine ⟨fun r hr => ⟨List.mem_cons_of_mem _ (h1 r hr).1, (h1 r hr).2⟩, fun r hr => ?_⟩
        obtain rfl | hr := List.mem_cons.mp hr
        exacts [List.mem_cons_self, List.mem_cons_of_mem _ (h2 r hr)]

/-- A served request leaves the rest of the handed ones; before CONFIGURE it is a CONFIGURE (R163). -/
theorem spansKept_serve {p : Request → Bool} {f : Request → State → State}
    (hf : ∀ r u, p r = true → (u.port.running = false → r.kind = .configure) → SpansKept u (f r u)) : SpansKept s (s.serve p f) := fun h => by
  unfold State.serve
  split
  next r rest ht =>
    obtain ⟨hmem, hrest⟩ := takeRequest_mem ht
    obtain ⟨hr, hp⟩ := hmem r rfl
    obtain ⟨ha, hb, hrelay, hdone, hopened, hclosed, hrun⟩ := h
    exact hf r _ hp (fun h0 => (hrun h0).2 r hr) ⟨ha, hb, hrelay, hdone, hopened, hclosed, fun hr => ⟨(hrun hr).1, fun q hq =>
      (hrun hr).2 q (hrest q hq)⟩⟩
  · exact h

theorem spansKept_startCensus (slot : Option Nat) : SpansKept s (s.startCensus slot) := fun h =>
  opsKeep_spansSound.startCensus s slot (spansSound_frame ((touches_setCensus s _).mono (by simp [besidesSpans])) h)

theorem spansKept_takeLead (r : Request) : SpansKept s (s.takeLead r) := by
  have hdone := spansKept_complete s r.slot
  unfold State.takeLead
  refine FrameRel.branch (fun _ => hdone _ _ _) fun _ => FrameRel.branch (fun _ => hdone _ _ _) fun _ => ?_
  split
  exacts [frameRel_spansKept.trans (opsKeep_spansSound.becomeLead s) (spansKept_startCensus _ _), spansKept_startCensus s _]

theorem spansKept_censusStart (r : Request) : SpansKept s (s.censusStart r) := by
  unfold State.censusStart
  split
  · exact spansKept_complete s _ _ _ _
  · exact FrameRel.branch (fun _ => spansKept_complete s _ _ _ _) fun _ =>
      frameRel_spansKept.trans (fun h => opsKeep_spansSound.setCensus s _ h) (spansKept_startCensus _ _)

theorem spansKept_doorOrder (r : Request) : SpansKept s (s.doorOrder r) := by
  unfold State.doorOrder
  split
  · exact spansKept_complete s _ _ _ _
  · exact fun h => opsKeep_spansSound.takeDoorOrder s r _ fun v _ => opsKeep_spansSound.endOutstanding s .superseded 0 0 0 h
  · exact id

theorem spansKept_heatSupply (r : Request) : SpansKept s (s.heatSupply r) := by
  unfold State.heatSupply
  simp only
  refine FrameRel.branch (fun _ => spansKept_complete s _ _ _ _) fun _ => FrameRel.branch (fun _ => spansKept_complete s _ _ _ _) fun _ h =>
    spansKept_complete _ _ _ _ _ (iteClosed (opsKeep_spansSound.allocate _ (opsKeep_spansSound.heat s _ rfl rfl rfl h))
      (opsKeep_spansSound.heat s _ rfl rfl rfl h))

/-- What an adoption touches once the settings are in force and the relay has started. -/
def adoptParts : List Part := [.side1, .side2, .summary, .pub, .choices, .heat, .fire, .mon]

theorem touches_adopt_started (new : Settings) :
    Touches adoptParts (State.startSpans { s with settings := new, port := { s.port with running := true } }) (s.adopt new) := by
  have hheat (u : State) : Touches adoptParts u u.startHeat := by
    unfold State.startHeat
    rw [touches_setCap _ _ (by simp [adoptParts]) (by simp [adoptParts]) (by simp [adoptParts])]
    exact (touches_heat u _).mono (by simp [adoptParts])
  have hmonitor (u : State) : Touches adoptParts u u.startMonitor := (touches_mon u _).mono (by simp [adoptParts])
  have hside (u : State) (k : SideId) (b : Bool) (m : Byte) : Touches adoptParts u (u.startSide k b m) :=
    (touches_startSide k b m (by cases k <;> simp [adoptParts, sidePart]) (by simp [adoptParts]) (by simp [adoptParts])
      (by simp [adoptParts])).mpr (Touches.refl _ _)
  unfold State.adopt
  simp only
  exact (touches_raise _ _ (by simp [adoptParts])).mpr ((((hside _ _ _ _).trans (hside _ _ _ _)).trans
    ((touches_startPeriod _ (by simp [adoptParts]) (by simp [adoptParts])).mpr (hheat _))).trans (hmonitor _))

/-- CONFIGURE starts the relay with both spans OFF and their registers seeded (R3, R5, R164). -/
theorem spansKept_adopt (new : Settings) (hrun : s.port.running = false) : SpansKept s (s.adopt new) := fun h => by
  obtain ⟨ha, hb, hrelay, -, -, -, hbefore⟩ := h
  have hseed {u : Span} (hu : u.sound) (w : Word16) (e : Bool) : Span.sound { u with lfsr := lfsrSeed w, enable := e } := by
    obtain ⟨⟨hrx, hdepth, hbucket, hlen, hsamples, hdelay, hecho, -⟩, hrest⟩ := hu
    exact ⟨⟨hrx, hdepth, hbucket, hlen, hsamples, hdelay, hecho, lfsrSeed_ne_zero w⟩, hrest⟩
  have hoff := hrelay (by simp [(hbefore hrun).1])
  refine spansSound_frame ((touches_adopt_started s new).mono (by decide)) ?_
  refine ⟨hseed ha _ _, hseed hb _ _, fun _ => hoff, ⟨fun _ => rfl, fun _ => rfl⟩, ?_, ?_, ?_⟩ <;>
    exact fun hr => absurd hr (by simp [State.startSpans])

theorem spansKept_configure (r : Request) : SpansKept s (s.configure r) := by
  unfold State.configure
  refine FrameRel.branch (fun _ => spansKept_complete s _ _ _ _) fun hrun => ?_
  simp only
  split
  · exact spansKept_complete s _ _ _ _
  · exact frameRel_spansKept.trans (spansKept_adopt s _ (by simpa using hrun)) (spansKept_complete _ _ _ _ _)

/-- Before CONFIGURE only a CONFIGURE is handed on (R163, R167). -/
theorem spansKept_routeRequest (slot : Nat) (code : Byte) (params : List Byte) : SpansKept s (s.routeRequest slot code params) := by
  unfold State.routeRequest
  split
  · exact spansKept_complete s _ _ _ _
  next kind _ =>
    refine FrameRel.branch (fun _ => spansKept_complete s _ _ _ _) fun hc h => ?_
    obtain ⟨ha, hb, hrelay, hdone, hopened, hclosed, hrun⟩ := h
    refine ⟨ha, hb, hrelay, hdone, hopened, hclosed, fun hr => ⟨(hrun hr).1, fun q hq => ?_⟩⟩
    obtain hq | hq := List.mem_append.mp hq
    · exact (hrun hr).2 q hq
    · rw [List.mem_singleton.mp hq]
      by_contra hk
      exact hc ⟨hr, hk⟩

end

end Sys2Proof.Machine

/-!
The requests of the door unit and the heating share unit that end at once: the owner works on its own parts, then completes the slot.
-/

namespace Sys2Proof.Machine

/-- The parts that an owner of such a request works on. -/
def ownerParts : List Part := [.side1, .side2, .summary, .pub, .choices, .heat, .fire]

/-- The owner of request `r` has worked on its parts and completed the slot. -/
def Answered (r : Request) (s t : State) : Prop :=
  ∃ (u : State) (o : SlotOutcome) (d : Byte) (l : List Byte), Touches ownerParts s u ∧ t = u.complete r.slot o d l

theorem Answered.at_once {s : State} {r : Request} (o : SlotOutcome) (d : Byte) (l : List Byte) : Answered r s (s.complete r.slot o d l) :=
  ⟨s, o, d, l, Touches.refl _ s, rfl⟩

theorem Answered.branch {s t u : State} {r : Request} {p : Prop} [Decidable p] (ht : Answered r s t) (hu : Answered r s u) :
    Answered r s (if p then t else u) := by
  split
  exacts [ht, hu]

section
variable (s : State) (r : Request)

theorem answered_doorLocal {act : SideId → State → State} (hact : ∀ (k : SideId) (u : State), Touches ownerParts u (act k u)) :
    Answered r s (s.doorLocal r act) := by
  unfold State.doorLocal
  simp only
  exact .branch (.at_once _ _ _) (.branch (.at_once _ _ _)
    ⟨_, _, _, _, (touches_when fun _ => hact .one s).trans (touches_when fun _ => hact .two _), rfl⟩)

theorem touches_enterSide_owner (k : SideId) (new : DoorState) (cause : DoorCause) (number : Byte) :
    Touches ownerParts s (s.enterSide k new cause number) :=
  (touches_enterSide k (by cases k <;> simp [ownerParts, sidePart]) (by simp [ownerParts]) (by simp [ownerParts]) (by simp [ownerParts])
    _ _ _).mpr (Touches.refl _ s)

theorem answered_isolate : Answered r s (s.doorLocal r State.isolateSide) :=
  answered_doorLocal s r fun k u => touches_ite (fun _ => Touches.refl _ u) fun _ => touches_enterSide_owner u k _ _ _

theorem answered_restore : Answered r s (s.doorLocal r State.restoreSide) :=
  answered_doorLocal s r fun k u => touches_when fun _ => touches_enterSide_owner u k _ _ _

theorem answered_clearSide (k : SideId) : Answered r s (s.clearSide k r) := by
  unfold State.clearSide State.completeClear
  simp only
  refine .branch (.at_once _ _ _) (.branch (.at_once _ _ _) (.branch (.at_once _ _ _) ⟨_, _, _, _, ?_, rfl⟩))
  refine Touches.trans ?_ (touches_when fun _ => touches_enterSide_owner _ k _ _ _)
  exact (touches_setSide s k _).mono (by cases k <;> simp [ownerParts, sidePart])

theorem answered_faultClearDoor : Answered r s (s.faultClearDoor r) :=
  .branch (answered_clearSide s r .one) (.branch (answered_clearSide s r .two) (.at_once _ _ _))

theorem answered_faultClearHeating : Answered r s (s.faultClearHeating r) := by
  unfold State.faultClearHeating
  simp only
  refine .branch ⟨_, _, _, _, ?_, rfl⟩ (.at_once _ _ _)
  rw [touches_setCap _ _ (by simp [ownerParts]) (by simp [ownerParts]) (by simp [ownerParts])]
  exact (touches_fire s _).mono (by simp [ownerParts])

theorem answered_heatDemand : Answered r s (s.heatDemand r) :=
  ⟨_, _, _, _, (touches_heat s _).mono (by simp [ownerParts]), rfl⟩

end

end Sys2Proof.Machine

namespace Sys2Proof.Machine

/-! ## O57: every command -/

/-- The commands that touch what the spans' agreement reads, beside those made of the blocks' primitive operations. -/
def reachesSpans : Instr → Bool
  | .take _ | .configure _ | .spanControlEnable _ | .spanControlDisable _ | .spanControlRestart _ | .spanControlBypass _
  | .spanControlUnbypass _ | .relaySwitched _ | .probe _ _ _ | .listenWindowEnd _ _ _ | .foreignProbe _ _ _ _ | .probeAnswer _ _
  | .frameReceived _ _ _ | .hello _ _ | .keepalive _ _ | .greetingHelloDue _ _ | .greetTimeout _ _ | .silence _ _ | .errors _ _
  | .keepaliveDue _ _ | .transmitAttempt _ _ _ | .collision _ _ | .jamEnd _ _ | .backoffEnd _ _ | .frameCompleted _ _ | .takeLead _
  | .censusStart _ | .dropLead _ | .settleTimerExpired _ | .doorOrder _ | .doorLocalIsolate _ | .doorLocalRestore _
  | .faultClearDoor _ | .faultClearHeating _ | .heatDemand _ | .heatSupply _ => true
  | _ => false

theorem touches_besidesSpans (c : Instr) (hr : mayReset c = false) (hp : portCommand c = false) (ho : opsCommand c = false)
    (hd : reachesSpans c = false) : touches c ⊆ besidesSpans := by
  cases c
  case lockLevelChanged dt k | driveMismatch dt k | driveMismatchEnded dt k | leaseExpired dt k | closeTimeout dt k |
    releaseHalfPeriod dt k | feedbackSample dt k _ =>
    cases k <;> simp [touches, sidePart, besidesSpans, eventParts, sideParts]
  case powerOn | resetn | resetWord => simp [mayReset] at hr
  case memRead | memWrite | regRead | regWriteOther | portSetEcho | portSetAttnPolarity | portSetAttnDrive | misalign |
    misalignedTransaction | unknownOpcode | ignoredTransaction => simp [portCommand] at hp
  case rollAgeTimerExpired | applyInstant | demandLeaseExpired | grantHoldExpired | periodStart | windowStart | windowEnd |
    readingCompleted | lowTimerExpired | returnTimerExpired | millisecondTick =>
    simp only [touches]
    decide
  case call | report | table | tableAck | void | brk | censusTimerExpired | order | orderAck | ackWaitTimeout | grant | doorStateRoll |
    demandRoll | originationTimer | substituteOrigination | doorOrderTimedOut | allocationTimerExpired => simp [opsCommand] at ho
  all_goals simp [reachesSpans] at hd

theorem spansKept_advance (s : State) (dt : Nat) : SpansKept s (s.advance dt) := id

theorem spansKept_elsewhere {c : Instr} {s t : State} (hc : exec c s = .next t) (hr : mayReset c = false)
    (hP : touches c ⊆ besidesSpans) : SpansKept s t := by
  obtain ⟨dt, u, hu, ht⟩ := runsWithin c s hr
  obtain rfl : u.settle = t := Host.Outcome.next.inj (hu.symm.trans hc)
  exact frameRel_spansKept.trans (spansKept_advance s dt) (frameRel_spansKept.trans (frameRel_spansKept.frame (ht.mono hP)) (spansKept_settle u))

theorem spansKept_port {c : Instr} {s t : State} (hc : exec c s = .next t) (hp : portCommand c = true) : SpansKept s t := by
  obtain ⟨dt, u, hu, ht, hrun, hreq⟩ := runsPort c s hp
  obtain rfl : u.settle = t := Host.Outcome.next.inj (hu.symm.trans hc)
  have hk (p : Part) (hp : p ∉ [Part.port, .mem, .req, .trail]) : p.kept (s.advance dt) u := (ht p hp).1
  have ha : u.spanA = s.spanA := hk .spanA (by simp)
  have hb : u.spanB = s.spanB := hk .spanB (by simp)
  have hby : u.bypass = s.bypass := hk .bypass (by simp)
  refine frameRel_spansKept.trans (fun h => ?_) (spansKept_settle u)
  unfold State.spansSound
  rw [ha, hb, hby, hrun, hreq]
  exact h

theorem spansKept_run {c : Instr} {s t : State} {dt : Nat} {f : State → State} (h : exec c s = .next (s.run dt f))
    (hc : exec c s = .next t) (hf : ∀ u, SpansKept u (f u)) : SpansKept s t := by
  obtain rfl : s.run dt f = t := Host.Outcome.next.inj (h.symm.trans hc)
  exact frameRel_spansKept.trans (spansKept_advance s dt) (frameRel_spansKept.trans (hf _) (spansKept_settle _))

theorem spansKept_request {c : Instr} {s t : State} {dt : Nat} {p : Request → Bool} {f : Request → State → State}
    (h : exec c s = .next (s.run dt fun u => u.serve p f)) (hc : exec c s = .next t) (hf : ∀ r u, SpansKept u (f r u)) : SpansKept s t :=
  spansKept_run h hc fun u => spansKept_serve u fun r v _ _ => hf r v

theorem spansKept_answered {r : Request} {s t : State} (h : Answered r s t) : SpansKept s t := by
  obtain ⟨u, o, d, l, hu, rfl⟩ := h
  exact frameRel_spansKept.trans (frameRel_spansKept.frame (hu.mono (by decide))) (spansKept_complete u _ _ _ _)

theorem spansKept_reaches {c : Instr} {s t : State} (hc : exec c s = .next t) (hd : reachesSpans c = true) : SpansKept s t := by
  have hK := opsKeep_spansSound
  have hset {u : State} {x : SpanId} {v : Span} (hv : (u.span x).sound → v.sound) (hoff : (u.span x).state = .off → v.state = .off) :
      SpansKept u (u.setSpan x v) := fun h => spansSound_setSpan h (hv (h.span x)) hoff
  have hsearching {p : SpanState} (h : p.searching = true) : p ≠ .off := fun ho => by simp [ho, SpanState.searching] at h
  cases c
  case take =>
    refine spansKept_run rfl hc fun u => ?_
    split
    · exact id
    next k rest _ =>
      have hreq : SpansKept u { u with req := { u.req with queue := rest } } := id
      exact frameRel_spansKept.trans hreq (spansKept_routeRequest _ _ _ _)
  case configure => exact spansKept_request rfl hc fun r u => spansKept_configure u r
  case spanControlEnable => exact spansKept_request rfl hc fun r u => spansKept_enable u r
  case spanControlDisable => exact spansKept_request rfl hc fun r u => spansKept_disable u r
  case spanControlRestart => exact spansKept_request rfl hc fun r u => spansKept_restart u r
  case spanControlBypass =>
    refine spansKept_request rfl hc fun r u => ?_
    split
    next hr => exact spansKept_bypass u r.slot hr
    all_goals exact spansKept_complete u _ _ _ _
  case spanControlUnbypass =>
    refine spansKept_run rfl hc fun u => spansKept_serve u fun r v hr hrun => ?_
    have hrunning : v.port.running = true := by
      by_contra hn
      simp [Request.spanAction, hrun (by simpa using hn)] at hr
    split
    · exact spansKept_complete v _ _ _ _
    next hclosed => exact fun h => spansSound_unbypass _ h hclosed hrunning
    · exact spansKept_complete v _ _ _ _
  case relaySwitched => exact spansKept_run rfl hc fun u => frameRel_spansKept.when fun h => spansKept_relaySettles u (by
    unfold State.reached at h
    split at h <;> simp_all)
  case probe => exact spansKept_run rfl hc fun u => frameRel_spansKept.when fun h => spansKept_sendProbe u _ (by
    simp only [State.probeReady, Bool.and_eq_true] at h
    exact h.1.1.1)
  case listenWindowEnd => exact spansKept_run rfl hc fun u => frameRel_spansKept.when fun h => spansKept_classifyProbe u _ _ (by
    simp only [Bool.and_eq_true, State.windowEnded] at h
    obtain ⟨⟨h, -⟩, -⟩ := h
    split at h <;> simp_all)
  case foreignProbe =>
    refine spansKept_run rfl hc fun u => frameRel_spansKept.when fun h => ?_
    simp only [State.foreignProbe, Bool.and_eq_true] at h
    obtain ⟨⟨⟨⟨⟨hs, -⟩, -⟩, -⟩, -⟩, -⟩ := h
    exact hset (fun hv => Span.sound_answers hv hs _ _) id
  case probeAnswer => exact spansKept_run rfl hc fun u => spansKept_driveAnswer u _
  case frameReceived => exact spansKept_run rfl hc fun u => spansKept_receiveLine u _ _
  case hello dt x =>
    exact spansKept_run rfl hc fun u => hK.takeFrame (fun r v => spansKept_takeHello v x r.frame) u x _
  case keepalive dt x =>
    exact spansKept_run rfl hc fun u => hK.takeFrame (fun r v => spansKept_takeKeepalive v x r.frame) u x _
  case greetingHelloDue => exact spansKept_run rfl hc fun u => spansKept_periodicHello u _
  case greetTimeout => exact spansKept_run rfl hc fun u => frameRel_spansKept.when fun h => spansKept_exitSpan u _ _ _ (by simp [h.1])
  case silence => exact spansKept_run rfl hc fun u => frameRel_spansKept.when fun h => spansKept_exitSpan u _ _ _ (by simp [h.1])
  case errors => exact spansKept_run rfl hc fun u => frameRel_spansKept.when fun h => spansKept_exitSpan u _ _ _ (by simp [h.1])
  case keepaliveDue =>
    exact spansKept_run rfl hc fun u => frameRel_spansKept.when fun h hs => spansSound_offer hs _ _ (.inr (by simp [h.1, SpanState.sends]))
  case transmitAttempt =>
    refine spansKept_run rfl hc fun u => frameRel_spansKept.when fun h => ?_
    split
    next f rest hf => exact spansKept_startAttempt u _ _ h hf
    · exact id
  case collision =>
    refine spansKept_run rfl hc fun u => ?_
    simp only
    split
    next hd => exact frameRel_spansKept.when fun _ => hset (fun hv => Span.sound_jam hv (by simp [hd, Drive.sending]) _ _ _) id
    all_goals exact id
  case jamEnd =>
    refine spansKept_run rfl hc fun u => ?_
    split
    next hd => exact frameRel_spansKept.when fun _ => spansKept_endJam u _ _ (by simp [hd, Drive.sending])
    all_goals exact id
  case backoffEnd => exact spansKept_run rfl hc fun u => frameRel_spansKept.when fun _ => hset (fun hv => Span.sound_backoff hv (.inl rfl)) id
  case frameCompleted =>
    refine spansKept_run rfl hc fun u => ?_
    split
    · exact frameRel_spansKept.when fun _ => spansKept_completeFrame u _ _ _ _
    · exact id
  case takeLead => exact spansKept_request rfl hc fun r u h => hK.reviewEnd _ (spansKept_takeLead u r h)
  case censusStart => exact spansKept_request rfl hc fun r u h => hK.reviewEnd _ (spansKept_censusStart u r h)
  case dropLead =>
    refine spansKept_request rfl hc fun r u => ?_
    split
    · exact spansKept_complete u _ _ _ _
    · exact fun h => spansKept_complete _ _ _ _ _ (hK.reviewEnd _ (hK.dropLead u h))
  case settleTimerExpired =>
    exact spansKept_run rfl hc fun u => frameRel_spansKept.when fun _ h => hK.reviewEnd _ (spansKept_startCensus u _ h)
  case doorOrder => exact spansKept_request rfl hc fun r u => spansKept_doorOrder u r
  case heatSupply => exact spansKept_request rfl hc fun r u => spansKept_heatSupply u r
  case doorLocalIsolate => exact spansKept_request rfl hc fun r u => spansKept_answered (answered_isolate u r)
  case doorLocalRestore => exact spansKept_request rfl hc fun r u => spansKept_answered (answered_restore u r)
  case faultClearDoor => exact spansKept_request rfl hc fun r u => spansKept_answered (answered_faultClearDoor u r)
  case faultClearHeating => exact spansKept_request rfl hc fun r u => spansKept_answered (answered_faultClearHeating u r)
  case heatDemand => exact spansKept_request rfl hc fun r u => spansKept_answered (answered_heatDemand u r)
  all_goals exact absurd hd (by simp [reachesSpans])

theorem spansSound_resets {s t : State} (h : t.spanA = .reset ∧ t.spanB = .reset ∧ t.bypass = State.reset.bypass ∧ t.req.handed = []) :
    SpansKept s t := by
  obtain ⟨ha, hb, hby, hreq⟩ := h
  intro _
  unfold State.spansSound
  rw [ha, hb, hby, hreq]
  exact ⟨spanReset_sound, spanReset_sound, fun _ => ⟨rfl, rfl⟩, by decide, by decide, by decide, fun _ => ⟨rfl, by simp⟩⟩

theorem spansKept_resetWord (s : State) (data : Sent (List Byte)) : SpansKept s (s.transact (headerOf 0x04 3 ++ data.whole) data.held
    fun u => u.commitRegister data.whole (State.writeResetWord data.whole)) := by
  have hport (u : State) (v : Port) (hv : v.running = u.port.running) : SpansKept u { u with port := v } := by
    unfold SpansKept State.spansSound
    rw [show ({ u with port := v } : State).port.running = u.port.running from hv]
    exact id
  have hnoted (u : State) : SpansKept u (u.clearEchoed.noteLength data.whole) := by
    unfold State.noteLength
    split <;> exact hport u _ rfl
  unfold State.transact
  simp only
  split
  · generalize hv : (Port.mk .. : Port) = v
    have hrun : v.running = s.port.running := by rw [← hv]
    split
    · exact hport s v hrun
    · unfold State.commitRegister State.writeResetWord
      split
      · exact spansSound_resets ⟨rfl, rfl, rfl, rfl⟩
      · exact frameRel_spansKept.trans (hport s v hrun) (hnoted _)
  · exact id

theorem exec_spansKept {c : Instr} {s t : State} (hc : exec c s = .next t) : SpansKept s t := by
  cases hr : mayReset c
  · cases hp : portCommand c
    · cases ho : opsCommand c
      · cases hd : reachesSpans c
        · exact spansKept_elsewhere hc hr (touches_besidesSpans c hr hp ho hd)
        · exact spansKept_reaches hc hd
      · exact opsKeep_spansSound.exec hc ho spansKept_settle
    · exact spansKept_port hc hp
  · cases c
    case powerOn | resetn =>
      obtain rfl : s.hardReset = t := Host.Outcome.next.inj hc
      exact spansSound_resets ⟨rfl, rfl, rfl, rfl⟩
    case resetWord => exact spansKept_run rfl hc fun u => spansKept_resetWord u _
    all_goals exact absurd hr (by simp [mayReset])

/-- Settles O57: each operation keeps both span units in agreement and the relay with them (R3, R11). -/
theorem spansStaySound : Obligations.SpansStaySound := by
  unfold Obligations.SpansStaySound
  intro s t hs h
  obtain ⟨-, rfl⟩ | ⟨c, rest, -, hc⟩ := step_cases h
  · exact hs
  · exact exec_spansKept hc hs

end Sys2Proof.Machine

/-!
The request slots through the operations of every block (O51, O53): while a request is served its slot is loose, held by no block but
TAKEN all the same; an answer writes to the slot it is for and to nothing else.
-/

namespace Sys2Proof.Machine

/-- The slots agree with the post queue and their holders, the slots of `l` counting as held. -/
structure SlotsHeld (l : List Nat) (s : State) : Prop where
  wf : s.mem.wf = true
  queueOnce : s.req.queue.Nodup
  heldOnce : (s.holders ++ l).Nodup
  queueRange : ∀ k ∈ s.req.queue, k < 16
  heldRange : ∀ k ∈ s.holders ++ l, k < 16
  known : ∀ k : Nat, k < 16 → (s.slotState k).toNat ≤ 3
  posted : ∀ k : Nat, k < 16 → (s.slotState k = 1 ↔ k ∈ s.req.queue)
  taken : ∀ k : Nat, k < 16 → (s.slotState k = 2 ↔ k ∈ s.holders ++ l)

/-- The part of the agreement that says who may hold a slot. -/
def State.slotOwners (s : State) : Prop :=
  (s.census.slot.isSome = true → s.census.state.busy = true) ∧ (s.census.state.busy = true → s.census.role = .lead) ∧
    (s.bypass.waiter.isSome = true → s.bypass.relay = .switching)

theorem slotsSound_iff (s : State) : s.slotsSound ↔ SlotsHeld [] s ∧ s.slotOwners := by
  unfold State.slotsSound State.slotOwners
  constructor
  · rintro ⟨hwf, hq, hh, hqr, hhr, hst, howners⟩
    refine ⟨⟨hwf, hq, by simpa using hh, hqr, by simpa using hhr, fun k hk => (hst k hk).1, fun k hk => (hst k hk).2.1, fun k hk => ?_⟩,
      howners⟩
    rw [List.append_nil]
    exact (hst k hk).2.2
  · rintro ⟨h, howners⟩
    have hheld := h.heldOnce
    have hrange := h.heldRange
    have htaken := h.taken
    rw [List.append_nil] at hheld hrange htaken
    exact ⟨h.wf, h.queueOnce, hheld, h.queueRange, hrange, fun k hk => ⟨h.known k hk, h.posted k hk, htaken k hk⟩, howners⟩

/-- What no command but a reset and a MEM_WRITE changes before its events are written: memory outside the slots, tickets and
parameters, a FREE or DONE slot, and the trail (R155, R165, R168). -/
structure MemKept (s t : State) : Prop where
  outside : ∀ a : Nat, a < 0x0100 ∨ 0x0500 ≤ a → t.mem.read a = s.mem.read a
  slots : ∀ k off : Nat, k < 16 → off < 64 → (1 ≤ off ∧ off ≤ 3) ∨ (6 ≤ off ∧ off < 32) ∨ s.slotState k = 0 ∨ s.slotState k = 3 →
    t.mem.read (slotBase k + off) = s.mem.read (slotBase k + off)
  trail : t.trail = s.trail

theorem MemKept.refl (s : State) : MemKept s s := ⟨fun _ _ => rfl, fun _ _ _ _ _ => rfl, rfl⟩

/-- In the step that began in `s0` the slots agree, with those of `l` loose, and memory has changed in held slots only. -/
def SlotsAt (s0 : State) (l : List Nat) (s : State) : Prop := SlotsHeld l s ∧ MemKept s0 s

theorem SlotsHeld.of_states {l l' : List Nat} {s t : State} (h : SlotsHeld l s) (hwf : t.mem.wf = true)
    (hstate : ∀ k : Nat, k < 16 → t.slotState k = s.slotState k) (hqueue : t.req.queue = s.req.queue)
    (hheld : (t.holders ++ l').Perm (s.holders ++ l)) : SlotsHeld l' t where
  wf := hwf
  queueOnce := hqueue ▸ h.queueOnce
  heldOnce := hheld.nodup_iff.mpr h.heldOnce
  queueRange := hqueue ▸ h.queueRange
  heldRange k hk := h.heldRange k (hheld.mem_iff.mp hk)
  known k hk := hstate k hk ▸ h.known k hk
  posted k hk := by rw [hstate k hk, hqueue, h.posted k hk]
  taken k hk := by rw [hstate k hk, hheld.mem_iff, h.taken k hk]

section
variable {s0 : State} {l l' : List Nat} {s t : State}

/-- An operation that leaves memory, trail and queue alone and only hands slots from one holder to another. -/
theorem SlotsAt.moved (h : SlotsAt s0 l s) (hmem : t.mem = s.mem) (htrail : t.trail = s.trail) (hqueue : t.req.queue = s.req.queue)
    (hheld : (t.holders ++ l').Perm (s.holders ++ l)) : SlotsAt s0 l' t := by
  obtain ⟨hs, hk⟩ := h
  have hstate (k : Nat) : t.slotState k = s.slotState k := by unfold State.slotState; rw [hmem]
  refine ⟨hs.of_states (hmem ▸ hs.wf) (fun k _ => hstate k) hqueue hheld, ⟨fun a ha => ?_, fun k off hk16 hoff hc => ?_, htrail.trans hk.trail⟩⟩
  · rw [hmem, hk.outside a ha]
  · rw [hmem, hk.slots k off hk16 hoff hc]

theorem slotBase_inj {j k off : Nat} (h : slotBase j = slotBase k + off) (hoff : off < 64) : j = k ∧ off = 0 := by
  unfold slotBase at h
  omega

theorem complete_slotState (s : State) (k : Nat) (o : SlotOutcome) (d : Byte) (r : List Byte) (h : s.mem.wf = true) (j : Nat) :
    (s.complete k o d r).slotState j = if j = k then 3 else s.slotState j := by
  unfold State.slotState
  rw [complete_read s k o d r h]
  unfold slotBase
  by_cases hj : j = k
  · rw [if_pos (by rw [hj]), if_pos hj]
  · rw [if_neg (by omega), if_neg (by omega), if_neg (by omega), if_neg (by omega), if_neg hj]

/-- An answer to a held slot: the slot is DONE and no longer held (R168). -/
theorem SlotsAt.answered {k : Nat} {o : SlotOutcome} {d : Byte} {r : List Byte} (h : SlotsAt s0 l s) (hwf : t.mem.wf = true)
    (hread : ∀ a : Nat, t.mem.read a = (s.complete k o d r).mem.read a) (htrail : t.trail = s.trail)
    (hqueue : t.req.queue = s.req.queue) (hheld : (s.holders ++ l).Perm (k :: (t.holders ++ l'))) : SlotsAt s0 l' t := by
  obtain ⟨hs, hk⟩ := h
  have hmem : k ∈ s.holders ++ l := hheld.mem_iff.mpr List.mem_cons_self
  have hk16 := hs.heldRange k hmem
  have htaken := (hs.taken k hk16).mpr hmem
  have hnodup := hheld.nodup_iff.mp hs.heldOnce
  have hstate (j : Nat) : t.slotState j = if j = k then 3 else s.slotState j := by
    rw [← complete_slotState s k o d r hs.wf j]
    exact hread _
  have hnot : k ∉ s.req.queue := fun hq => by
    have := (hs.posted k hk16).mpr hq
    rw [htaken] at this
    exact absurd this (by decide)
  refine ⟨⟨hwf, hqueue ▸ hs.queueOnce, (List.nodup_cons.mp hnodup).2, hqueue ▸ hs.queueRange, fun j hj =>
    hs.heldRange j (hheld.mem_iff.mpr (List.mem_cons_of_mem _ hj)), fun j hj => ?_, fun j hj => ?_, fun j hj => ?_⟩,
    ⟨fun a ha => ?_, fun j off hj hoff hc => ?_, htrail.trans hk.trail⟩⟩
  · rw [hstate]
    split
    exacts [by decide, hs.known j hj]
  · rw [hstate, hqueue]
    split
    next hjk => exact iff_of_false (by decide) (hjk ▸ hnot)
    · exact hs.posted j hj
  · rw [hstate]
    split
    next hjk => exact iff_of_false (by decide) (hjk ▸ (List.nodup_cons.mp hnodup).1)
    next hjk => rw [hs.taken j hj, hheld.mem_iff, List.mem_cons, or_iff_right hjk]
  · rw [← hk.outside a ha, hread, complete_read s k o d r hs.wf]
    unfold slotBase
    rw [if_neg (by omega), if_neg (by omega), if_neg (by omega), if_neg (by omega)]
  · have hjk : (1 ≤ off ∧ off ≤ 3) ∨ (6 ≤ off ∧ off < 32) ∨ j ≠ k := by
      obtain hc1 | hc2 | hfree | hdone := hc
      · exact .inl hc1
      · exact .inr (.inl hc2)
      all_goals
        refine .inr (.inr fun hjk => ?_)
        subst hjk
        have hsame := hk.slots j 0 hj (by omega) (by simp [*])
        have hsame' : s.slotState j = s0.slotState j := hsame
        rw [htaken] at hsame'
        simp_all
    rw [← hk.slots j off hj hoff hc, hread, complete_read s k o d r hs.wf]
    unfold slotBase
    rw [if_neg (by omega), if_neg (by omega), if_neg (by omega), if_neg (by omega)]

theorem SlotsAt.complete (k : Nat) (o : SlotOutcome) (d : Byte) (r : List Byte) (h : SlotsAt s0 (k :: l) s) :
    SlotsAt s0 l (s.complete k o d r) :=
  h.answered (complete_wf s k o d r h.1.wf) (fun _ => rfl) rfl rfl List.perm_middle

/-- What says who holds which slot. -/
theorem holders_congr (hreq : t.req = s.req) (hwaiter : t.bypass.waiter = s.bypass.waiter) (hslot : t.census.slot = s.census.slot)
    (hout : t.door.outstanding.map (fun o => o.slot) = s.door.outstanding.map (fun o => o.slot)) : t.holders = s.holders := by
  unfold State.holders
  rw [hreq, hwaiter, hslot, hout]

/-- The parts that neither memory nor a holder is in. -/
def besidesSlots : List Part :=
  [.now, .clock, .choices, .pending, .pub, .port, .settings, .slotTally, .faultTally, .spanA, .spanB, .table, .relay, .side1, .side2,
    .summary, .heat, .fire, .mon]

theorem SlotsAt.frame (ht : Touches besidesSlots s t) (h : SlotsAt s0 l s) : SlotsAt s0 l t := by
  have hk (p : Part) (hp : p ∉ besidesSlots) : p.kept s t := (ht p hp).1
  have hmem : t.mem = s.mem := hk .mem (by simp [besidesSlots])
  have htrail : t.trail = s.trail := (hk .trail (by simp [besidesSlots])).1
  have hreq : t.req = s.req := hk .req (by simp [besidesSlots])
  have hby : t.bypass = s.bypass := hk .bypass (by simp [besidesSlots])
  have hcensus : t.census = s.census := hk .census (by simp [besidesSlots])
  have hlead : t.door = { s.door with side1 := t.door.side1, side2 := t.door.side2, summary := t.door.summary } :=
    hk .doorLead (by simp [besidesSlots])
  refine h.moved hmem htrail (by rw [hreq]) ?_
  rw [holders_congr hreq (by rw [hby]) (by rw [hcensus]) (by rw [hlead])]

theorem SlotsAt.kept (h : SlotsAt s0 l s) (hmem : t.mem = s.mem) (htrail : t.trail = s.trail) (hreq : t.req = s.req)
    (hwaiter : t.bypass.waiter = s.bypass.waiter) (hslot : t.census.slot = s.census.slot)
    (hout : t.door.outstanding.map (fun o => o.slot) = s.door.outstanding.map (fun o => o.slot)) : SlotsAt s0 l t := by
  refine h.moved hmem htrail (by rw [hreq]) ?_
  rw [holders_congr hreq hwaiter hslot hout]

end

/-! ## The operations of the blocks -/

section
variable (s0 : State) (l : List Nat)

theorem slotsAt_completeCensusSlot {s : State} (o : SlotOutcome) (d : Byte) (n : Nat) (p : Byte) (h : SlotsAt s0 l s) :
    SlotsAt s0 l (s.completeCensusSlot o d n p) := by
  unfold State.completeCensusSlot
  generalize hc : ({ s.census with slot := none } : Census) = c
  have hnone : c.slot = none := by rw [← hc]
  cases hslot : s.census.slot with
  | none => exact h.kept rfl rfl rfl rfl (hnone.trans hslot.symm) rfl
  | some k =>
    simp only [State.completeIf]
    refine h.answered (k := k) (o := o) (d := d) (r := s.censusResults n p) ?_ (fun a => ?_) ?_ ?_ ?_
    · exact complete_wf _ _ _ _ _ h.1.wf
    · rw [complete_read _ _ _ _ _ h.1.wf, complete_read _ _ _ _ _ (by exact h.1.wf), setCensus_mem]
    · rw [complete_trail, setCensus_trail]
    · rw [complete_req, setCensus_req]
    · unfold State.holders
      rw [complete_req, complete_bypass, complete_door, complete_census, setCensus_census, setCensus_req, setCensus_bypass,
        setCensus_door, hslot, hnone]
      simp only [Option.toList_some, Option.toList_none, List.append_nil, List.append_assoc, List.singleton_append]
      rw [← List.append_assoc]
      refine List.perm_middle.trans ?_
      simp [List.append_assoc]

theorem slotsAt_finishOrder {s : State} (o : Outstanding) (m : OrderAck) (oc : SlotOutcome) (d : Byte)
    (hout : s.door.outstanding.map (fun o => o.slot) = some o.slot) (h : SlotsAt s0 l s) : SlotsAt s0 l (s.finishOrder o m oc d) := by
  unfold State.finishOrder
  simp only
  generalize hv : (Door.mk ..) = v
  have hnone : v.outstanding = none := by rw [← hv]
  generalize hw : s.complete o.slot oc d (orderResults o m) = w
  have hwf : w.mem.wf = true := by rw [← hw]; exact complete_wf s _ _ _ _ h.1.wf
  have htrail : w.trail = s.trail := by rw [← hw, complete_trail]
  have hreq : w.req = s.req := by rw [← hw, complete_req]
  have hby : w.bypass = s.bypass := by rw [← hw, complete_bypass]
  have hcensus : w.census = s.census := by rw [← hw, complete_census]
  refine h.answered (k := o.slot) (o := oc) (d := d) (r := orderResults o m) hwf (fun a => by rw [hw]) htrail
    (congrArg Requests.queue hreq :) ?_
  · unfold State.holders
    rw [hreq, hby, hcensus, hout, hnone]
    simp only [Option.toList_some, Option.map_none, Option.toList_none, List.append_nil, List.append_assoc, List.singleton_append]
    simp only [← List.append_assoc]
    exact List.perm_middle

theorem opsKeep_slotsAt : OpsKeep (SlotsAt s0 l) where
  frame ht h := h.frame (ht.mono (by decide))
  offer s x f _ h := h.frame ((touches_offer x f (spanPart_mem (by simp [besidesSlots]) (by simp [besidesSlots]) x)
    (by simp [besidesSlots])).mpr (Touches.refl _ _))
  taken s x m _ h := h.frame ((touches_setSpan s x _).mono (by cases x <;> simp [spanPart, besidesSlots]))
  census s c hc h := h.kept rfl rfl rfl rfl hc rfl
  answer s o d n p h := slotsAt_completeCensusSlot s0 l o d n p h
  orders s v hv h := h.kept rfl rfl rfl rfl rfl hv
  finish s o m oc d hout h := slotsAt_finishOrder s0 l o m oc d hout h
  heat s v _ _ _ h := h.kept rfl rfl rfl rfl rfl rfl
  generation s h := by
    unfold State.generationChanged
    split
    case h_1 => exact h.frame ((touches_setCap _ _ (by simp [besidesSlots]) (by simp [besidesSlots]) (by simp [besidesSlots])).mpr
      (Touches.refl _ _))
    all_goals exact h
  takeGrant s v g a _ h := by
    rw [takeGrant_keeps]
    exact h.kept rfl rfl rfl rfl rfl rfl

end

/-! ## Requests -/

section
variable {s0 : State}

theorem takeRequest_perm {p : Request → Bool} {r : Request} : ∀ {l rest : List Request}, takeRequest p l = (some r, rest) →
    l.Perm (r :: rest)
  | [], _, h => by simp [takeRequest] at h
  | q :: l, rest, h => by
    unfold takeRequest at h
    split at h
    · obtain ⟨hr, rfl⟩ := Prod.mk.inj h
      rw [Option.some.inj hr]
    · cases ht : takeRequest p l with
      | mk o l' =>
        simp only [ht] at h
        obtain ⟨rfl, rfl⟩ := Prod.mk.inj h
        exact ((takeRequest_perm ht).cons q).trans (List.Perm.swap r q l')

/-- A request that is served has a loose slot. -/
theorem slotsAt_serve {s : State} {p : Request → Bool} {f : Request → State → State} (h : SlotsAt s0 [] s)
    (hf : ∀ r u, u.bypass = s.bypass → u.census = s.census → u.door = s.door → SlotsAt s0 [r.slot] u → SlotsAt s0 [] (f r u)) :
    SlotsAt s0 [] (s.serve p f) := by
  unfold State.serve
  split
  next r rest ht =>
    refine hf r _ rfl rfl rfl (h.moved rfl rfl rfl ?_)
    have hperm := (takeRequest_perm ht).map (fun q => q.slot)
    unfold State.holders
    simp only [List.append_assoc, List.append_nil]
    rw [List.map_cons] at hperm
    refine List.Perm.trans ?_ (hperm.symm.append_right _)
    rw [List.cons_append, ← List.append_assoc, ← List.append_assoc, ← List.append_assoc]
    exact (List.perm_append_singleton _ _).trans (by simp [List.append_assoc])
  · exact h

theorem slotsAt_answered {r : Request} {s t : State} (h : Answered r s t) (hs : SlotsAt s0 [r.slot] s) : SlotsAt s0 [] t := by
  obtain ⟨u, o, d, l, hu, rfl⟩ := h
  exact (hs.frame (hu.mono (by decide))).complete _ _ _ _

end

end Sys2Proof.Machine

/-!
O51 and O53: the slots through every command but a reset and a MEM_WRITE, up to the writing of the events.
-/

namespace Sys2Proof.Machine

/-! ## The commands that only raise events -/

/-- The commands that touch no slot and no holder, and memory only by the events they raise. -/
def eventCommand : Instr → Bool
  | .listenWindowEnd _ _ _ | .frameReceived _ _ _ | .greetingHelloDue _ _ | .keepaliveDue _ _ | .lockLevelChanged _ _
  | .driveMismatch _ _ | .applyInstant _ | .leaseExpired _ _ | .closeTimeout _ _ | .grantHoldExpired _ | .periodStart _
  | .lowTimerExpired _ | .returnTimerExpired _ | .feedbackSample _ _ _ => true
  | _ => false

theorem besidesSlots_side (k : SideId) : sidePart k ∈ besidesSlots := by cases k <;> simp [besidesSlots, sidePart]

theorem besidesSlots_span (x : SpanId) : spanPart x ∈ besidesSlots := by cases x <;> simp [besidesSlots, spanPart]

/-- Such a command has left memory and every holder alone when its events come to be written. -/
theorem eventCommand_quiet {c : Instr} {s t : State} (hc : exec c s = .next t) (he : eventCommand c = true) :
    ∃ (dt : Nat) (u : State), t = u.settle ∧ Touches besidesSlots (s.advance dt) u := by
  have hrun {dt : Nat} {f : State → State} (h : exec c s = .next (s.run dt f)) (hf : ∀ u, Touches besidesSlots u (f u)) :
      ∃ (dt : Nat) (u : State), t = u.settle ∧ Touches besidesSlots (s.advance dt) u := by
    obtain rfl : s.run dt f = t := Host.Outcome.next.inj (h.symm.trans hc)
    exact ⟨dt, f (s.advance dt), by rw [State.run], hf _⟩
  have hpub : Part.pub ∈ besidesSlots := by simp [besidesSlots]
  have hsum : Part.summary ∈ besidesSlots := by simp [besidesSlots]
  have hch : Part.choices ∈ besidesSlots := by simp [besidesSlots]
  have hfault : Part.faultTally ∈ besidesSlots := by simp [besidesSlots]
  have hheat : Part.heat ∈ besidesSlots := by simp [besidesSlots]
  have hfire : Part.fire ∈ besidesSlots := by simp [besidesSlots]
  have haux (low : Bool) (kind : Byte) (u : State) : Touches besidesSlots u (u.changeAux low kind) :=
    touches_changeAux low kind (by simp [besidesSlots]) hpub hch u
  have hset (u : State) (x : SpanId) (v : Span) : Touches besidesSlots u (u.setSpan x v) :=
    (touches_setSpan u x v).mono (by cases x <;> simp [spanPart, besidesSlots])
  have hsend (u : State) (x : SpanId) (v : Span) : Touches besidesSlots u ((u.setSpan x v).enqueueHello x) :=
    (touches_enqueueHello x (besidesSlots_span x) hch).mpr (hset u x v)
  cases c
  case listenWindowEnd dt x es =>
    refine hrun rfl fun u => touches_when fun _ => ?_
    unfold State.classifyProbe
    simp only
    split <;> rw [touches_debounce x _ (besidesSlots_span x) hch] <;> exact hset u x _
  case frameReceived dt x line =>
    exact hrun rfl fun u => (touches_receiveLine x line (besidesSlots_span x) hch).mpr (Touches.refl _ _)
  case greetingHelloDue dt x =>
    refine hrun rfl fun u => ?_
    unfold State.periodicHello
    simp only
    split
    · exact touches_when fun _ => touches_ite (fun _ => hset u x _) fun _ => hsend u x _
    · exact Touches.refl _ _
  case keepaliveDue dt x =>
    exact hrun rfl fun u => touches_when fun _ => (touches_offer x _ (besidesSlots_span x) hch).mpr (Touches.refl _ _)
  case lockLevelChanged dt k =>
    exact hrun rfl fun u => touches_when fun _ => touches_ite
      (fun _ => touches_lockFalse k (besidesSlots_side k) hpub hsum hch hfault u)
      fun _ => touches_lockTrue k (besidesSlots_side k) hpub hsum hch u
  case driveMismatch dt k =>
    exact hrun rfl fun u => touches_when fun _ => touches_takeFeedback k (besidesSlots_side k) hpub hsum hch _ hfault u
  case feedbackSample dt k high =>
    exact hrun rfl fun u => touches_when fun _ => touches_takeFeedback k (besidesSlots_side k) hpub hsum hch high hfault u
  case applyInstant dt =>
    refine hrun rfl fun u => ?_
    have hone (i : Nat) (k : SideId) (v : State) : Touches besidesSlots v (v.applyAtInstant i k) :=
      touches_applyAtInstant k (besidesSlots_side k) hpub hsum hch i v
    split
    · exact touches_when fun _ => (hone _ .one u).trans (hone _ .two _)
    · exact Touches.refl _ _
  case leaseExpired dt k =>
    exact hrun rfl fun u => touches_when fun _ =>
      (touches_enterSide k (besidesSlots_side k) hpub hsum hch _ _ _).mpr (Touches.refl _ _)
  case closeTimeout dt k =>
    exact hrun rfl fun u => touches_when fun _ =>
      (touches_causeArises k (besidesSlots_side k) hpub hsum hch _ hfault).mpr (Touches.refl _ _)
  case grantHoldExpired dt =>
    exact hrun rfl fun u => touches_when fun _ => (touches_setCap _ _ hheat hpub hch).mpr (Touches.refl _ _)
  case periodStart dt =>
    refine hrun rfl fun u => ?_
    split
    · refine touches_when fun _ => ?_
      rw [touches_startPeriod _ hfire hpub, touches_publishHeat hpub]
      exact touches_judgePeriod hfire hheat hpub hch hfault u
    · exact Touches.refl _ _
  case lowTimerExpired dt =>
    have hside (k : SideId) (u : State) : Touches besidesSlots u (u.withdrawSide k) :=
      touches_withdrawSide k (besidesSlots_side k) hpub hsum hch u
    exact hrun rfl fun u => touches_when fun _ => ((haux true 16 u).trans (hside .one _)).trans (hside .two _)
  case returnTimerExpired dt => exact hrun rfl fun u => touches_when fun _ => haux false 17 u
  all_goals exact absurd he (by simp [eventCommand])

end Sys2Proof.Machine

/-!
O51 and O53: the requests and span reports, which hand slots on, and the sweep over the commands.
-/

namespace Sys2Proof.Machine

/-! ## Slots that change hands -/

section
variable {s0 : State} {l : List Nat} {s : State}

/-- A loose slot passes to a holder that had none. -/
theorem SlotsAt.handed {t : State} {k : Nat} (h : SlotsAt s0 [k] s) (hmem : t.mem = s.mem) (htrail : t.trail = s.trail)
    (hqueue : t.req.queue = s.req.queue) (hheld : t.holders.Perm (k :: s.holders)) : SlotsAt s0 [] t := by
  refine h.moved hmem htrail hqueue ?_
  rw [List.append_nil]
  exact hheld.trans (List.perm_append_singleton k _).symm

theorem slotsAt_censusSlot {k : Nat} {c : Census} (h : SlotsAt s0 [k] s) (hnone : s.census.slot = none) (hc : c.slot = some k) :
    SlotsAt s0 [] (s.setCensus c) := by
  refine h.handed rfl rfl rfl ?_
  unfold State.holders
  simp only [setCensus_req, setCensus_bypass, setCensus_census, setCensus_door, hnone, hc, Option.toList_none, Option.toList_some,
    List.append_nil, List.append_assoc]
  simp only [← List.append_assoc, List.singleton_append]
  exact List.perm_middle

theorem slotsAt_outstandingSlot {k : Nat} {v : Door} (h : SlotsAt s0 [k] s) (hnone : s.door.outstanding = none)
    (hv : v.outstanding.map (fun o => o.slot) = some k) : SlotsAt s0 [] { s with door := v } := by
  refine h.handed rfl rfl rfl ?_
  unfold State.holders
  simp only [hnone, hv, Option.map_none, Option.toList_none, Option.toList_some, List.append_nil]
  exact List.perm_append_singleton k _

theorem slotsAt_waiter {k : Nat} {b : Bypass} (h : SlotsAt s0 [k] s) (hnone : s.bypass.waiter = none) (hb : b.waiter = some k) :
    SlotsAt s0 [] { s with bypass := b } := by
  refine h.handed rfl rfl rfl ?_
  unfold State.holders
  simp only [hnone, hb, Option.toList_none, Option.toList_some, List.append_nil, List.append_assoc, List.singleton_append]
  exact List.perm_middle

theorem endOutstanding_outstanding (s : State) (o : SlotOutcome) (d st og : Byte) :
    (s.endOutstanding o d st og).door.outstanding = none := by
  unfold State.endOutstanding
  split
  · rfl
  · assumption

theorem actionOf_isSome {b : Byte} (h : 1 ≤ b.toNat ∧ b.toNat ≤ 3) : (actionOf b).isSome = true := by
  have hb : b = 1 ∨ b = 2 ∨ b = 3 := by bv_omega
  obtain rfl | rfl | rfl := hb <;> rfl

/-- A DOOR_ORDER that passes its checks names an action (R115). -/
theorem doorOrderRefusal_action {r : Request} (h : s.doorOrderRefusal r = none) : (actionOf (r.param 0)).isSome = true := by
  refine actionOf_isSome ?_
  unfold State.doorOrderRefusal at h
  split at h
  · exact absurd h (by simp)
  split at h
  · exact absurd h (by simp)
  next hfault =>
    unfold doorOrderFault at hfault
    simp only at hfault
    by_contra hn
    have hout : ¬(1 ≤ (byteAt r.params 0).toNat ∧ (byteAt r.params 0).toNat ≤ 3) := hn
    rw [if_pos hout] at hfault
    exact absurd hfault (by simp)

theorem slotsAt_doorOrder (r : Request) (h : SlotsAt s0 [r.slot] s) : SlotsAt s0 [] (s.doorOrder r) := by
  unfold State.doorOrder
  split
  · exact h.complete _ _ _ _
  · exact (opsKeep_slotsAt s0 []).takeDoorOrder s r _ fun v hv => slotsAt_outstandingSlot
      ((opsKeep_slotsAt s0 [r.slot]).endOutstanding s _ _ _ _ h) (endOutstanding_outstanding s _ _ _ _) hv
  next hpass hnone =>
    have := doorOrderRefusal_action hpass
    rw [hnone] at this
    exact absurd this (by simp)

/-! ## The census requests -/

theorem slotsAt_startCensus (k : Nat) (h : SlotsAt s0 [k] s) (hnone : s.census.slot = none) : SlotsAt s0 [] (s.startCensus (some k)) :=
  (opsKeep_slotsAt s0 []).startCensus s _ (slotsAt_censusSlot h hnone rfl)

theorem slotOwners_slot (ho : s.slotOwners) (hb : s.census.state.busy = false) : s.census.slot = none := by
  obtain ⟨hslot, -⟩ := ho
  cases hs : s.census.slot with
  | none => rfl
  | some k => exact absurd (hslot (by rw [hs]; rfl)) (by simp [hb])

theorem slotsAt_takeLead (r : Request) (ho : s.slotOwners) (h : SlotsAt s0 [r.slot] s) : SlotsAt s0 [] (s.takeLead r) := by
  unfold State.takeLead
  split
  · exact h.complete _ _ _ _
  split
  · exact h.complete _ _ _ _
  next hb =>
    simp only [Bool.or_eq_true, not_or, Bool.not_eq_true] at hb
    have hnone := slotOwners_slot ho hb.2
    split
    exacts [slotsAt_startCensus _ ((opsKeep_slotsAt s0 [r.slot]).becomeLead s h) hnone, slotsAt_startCensus _ h hnone]

theorem slotsAt_censusStart (r : Request) (ho : s.slotOwners) (h : SlotsAt s0 [r.slot] s) : SlotsAt s0 [] (s.censusStart r) := by
  unfold State.censusStart
  split
  · exact h.complete _ _ _ _
  split
  · exact h.complete _ _ _ _
  next hb =>
    exact slotsAt_startCensus _ ((opsKeep_slotsAt s0 [r.slot]).setCensus s _ h) (slotOwners_slot ho (by simpa using hb))

theorem slotsAt_heatSupply (r : Request) (h : SlotsAt s0 [r.slot] s) : SlotsAt s0 [] (s.heatSupply r) := by
  have hK := opsKeep_slotsAt s0 [r.slot]
  unfold State.heatSupply
  simp only
  exact iteClosed (h.complete _ _ _ _) (iteClosed (h.complete _ _ _ _) (SlotsAt.complete _ _ _ _
    (iteClosed (hK.allocate _ (hK.heat s _ rfl rfl rfl h)) (hK.heat s _ rfl rfl rfl h))))

/-! ## Spans and the relay -/

theorem slotsAt_setSpan (x : SpanId) (u : Span) (h : SlotsAt s0 l s) : SlotsAt s0 l (s.setSpan x u) :=
  h.frame ((touches_setSpan s x u).mono (by cases x <;> simp [spanPart, besidesSlots]))

theorem slotsAt_exitSpan (x : SpanId) (target : ExitTo) (cause : Cause) (h : SlotsAt s0 l s) : SlotsAt s0 l (s.exitSpan x target cause) :=
  (opsKeep_slotsAt s0 l).exitSpan s x target cause (slotsAt_setSpan x _ h)

theorem slotsAt_exitWhere (p : SpanId → Bool) (target : ExitTo) (cause : Cause) (h : SlotsAt s0 l s) :
    SlotsAt s0 l (s.exitWhere p target cause) :=
  (opsKeep_slotsAt s0 l).exitWhere s p target cause (h.kept rfl rfl rfl rfl rfl rfl)

theorem slotsAt_searchIfReady (x : SpanId) (h : SlotsAt s0 l s) : SlotsAt s0 l (s.searchIfReady x) :=
  iteClosed (slotsAt_setSpan x _ h) h

theorem slotsAt_withSelector (r : Request) {f : Byte → State → State} (h : SlotsAt s0 [r.slot] s)
    (hf : ∀ sel, SlotsAt s0 [] (f sel s)) : SlotsAt s0 [] (s.withSelector r f) :=
  iteClosed (hf _) (h.complete _ _ _ _)

theorem slotsAt_setEnable (x : SpanId) (b : Bool) (h : SlotsAt s0 l s) : SlotsAt s0 l (s.setEnable x b) := slotsAt_setSpan x _ h

theorem slotsAt_enable (r : Request) (h : SlotsAt s0 [r.slot] s) : SlotsAt s0 [] (s.enableSpans r) :=
  iteClosed (slotsAt_withSelector r h fun sel => by
    have hone (x : SpanId) {u : State} (hu : SlotsAt s0 [r.slot] u) :
        SlotsAt s0 [r.slot] (if selects sel x then (u.setEnable x true).searchIfReady x else u) :=
      iteClosed (slotsAt_searchIfReady x (slotsAt_setEnable x true hu)) hu
    exact (hone .b (hone .a h)).complete _ _ _ _) (h.complete _ _ _ _)

theorem slotsAt_disable (r : Request) (h : SlotsAt s0 [r.slot] s) : SlotsAt s0 [] (s.withSelector r fun sel v =>
    let one (x : SpanId) (w : State) : State := if selects sel x then w.setEnable x false else w
    ((one .b (one .a v)).exitWhere (fun x => selects sel x && (v.span x).state != .off) .off .disabled).completeSpan r.slot .ok) :=
  slotsAt_withSelector r h fun sel => by
    have hone (x : SpanId) {u : State} (hu : SlotsAt s0 [r.slot] u) :
        SlotsAt s0 [r.slot] (if selects sel x then u.setEnable x false else u) := iteClosed (slotsAt_setEnable x false hu) hu
    exact (slotsAt_exitWhere _ _ _ (hone .b (hone .a h))).complete _ _ _ _

theorem slotsAt_restart (r : Request) (h : SlotsAt s0 [r.slot] s) : SlotsAt s0 [] (s.withSelector r fun sel v =>
    let isOff (x : SpanId) : Bool := selects sel x && (v.span x).state == .off
    if isOff .a || isOff .b then v.completeSpan r.slot .refusedState
    else (v.exitWhere (selects sel) .probing .hostRestart).completeSpan r.slot .ok) :=
  slotsAt_withSelector r h fun _ => iteClosed (h.complete _ _ _ _) ((slotsAt_exitWhere _ _ _ h).complete _ _ _ _)

theorem slotOwners_waiter (ho : s.slotOwners) (hr : s.bypass.relay ≠ .switching) : s.bypass.waiter = none := by
  obtain ⟨-, -, hw⟩ := ho
  cases hs : s.bypass.waiter with
  | none => rfl
  | some k => exact absurd (hw (by rw [hs]; rfl)) hr

theorem slotsAt_switchRelay (on : Bool) (k : Nat) (ho : s.slotOwners) (hr : s.bypass.relay ≠ .switching) (h : SlotsAt s0 [k] s) :
    SlotsAt s0 [] (s.switchRelay on k) := slotsAt_waiter h (slotOwners_waiter ho hr) rfl

/-- The waiting slot comes loose and is answered (R4). -/
theorem slotsAt_relaySettles (h : SlotsAt s0 [] s) : SlotsAt s0 [] s.relaySettles := by
  unfold State.relaySettles
  simp only
  generalize hb : (Bypass.mk ..) = b
  have hnone : b.waiter = none := by rw [← hb]
  split
  next k hk =>
    refine SlotsAt.complete _ _ _ _ (slotsAt_searchIfReady .b (slotsAt_searchIfReady .a (h.moved rfl rfl rfl ?_)))
    unfold State.holders
    simp only [hk, hnone, Option.toList_none, Option.toList_some, List.append_nil, List.append_assoc, List.singleton_append]
    simp only [← List.append_assoc]
    refine (List.perm_append_singleton k _).trans ?_
    simp only [List.append_assoc]
    exact List.perm_middle.symm
  next hk =>
    exact slotsAt_searchIfReady .b (slotsAt_searchIfReady .a (h.kept rfl rfl rfl (hnone.trans hk.symm) rfl rfl))

/-! ## TAKE and CONFIGURE -/

theorem slotsAt_configure (r : Request) (h : SlotsAt s0 [r.slot] s) : SlotsAt s0 [] (s.configure r) := by
  unfold State.configure
  simp only
  refine iteClosed (h.complete _ _ _ _) ?_
  split
  · exact h.complete _ _ _ _
  · exact SlotsAt.complete _ _ _ _ (SlotsAt.frame ((touches_adopt_started s _).mono (by decide)) (h.kept rfl rfl rfl rfl rfl rfl))

/-- The slot at the head of the post queue becomes TAKEN. -/
theorem slotsAt_takeHead {k : Nat} {rest : List Nat} (h : SlotsAt s0 [] s) (hq : s.req.queue = k :: rest) :
    SlotsAt s0 [k] (State.setSlotState { s with req := { s.req with queue := rest } } k slotTaken) := by
  obtain ⟨hs, hm⟩ := h
  have hk16 := hs.queueRange k (by rw [hq]; exact List.mem_cons_self)
  have hone := hs.queueOnce
  rw [hq, List.nodup_cons] at hone
  obtain ⟨hkrest, hrest⟩ := hone
  have hposted := (hs.posted k hk16).mpr (by rw [hq]; exact List.mem_cons_self)
  have hfree : k ∉ s.holders ++ [] := fun hk => by
    have := (hs.taken k hk16).mpr hk
    rw [hposted] at this
    exact absurd this (by decide)
  set t := State.setSlotState { s with req := { s.req with queue := rest } } k slotTaken with ht
  have hread (a : Nat) : t.mem.read a = if a = slotBase k then 2 else s.mem.read a := Memory.read_write _ _ _ _ hs.wf
  have hstate (j : Nat) : t.slotState j = if j = k then 2 else s.slotState j := by
    unfold State.slotState
    rw [hread]
    unfold slotBase
    by_cases hj : j = k
    · rw [if_pos (by omega), if_pos hj]
    · rw [if_neg (by omega), if_neg hj]
  have hholders : t.holders ++ [k] = s.holders ++ [] ++ [k] := by
    rw [List.append_nil]
    rfl
  refine ⟨⟨Memory.wf_write _ _ _ hs.wf, hrest, ?_, fun j hj => hs.queueRange j (by rw [hq]; exact List.mem_cons_of_mem _ hj),
    fun j hj => ?_, fun j hj => ?_, fun j hj => ?_, fun j hj => ?_⟩, ⟨fun a ha => ?_, fun j off hj hoff hc => ?_, hm.trail⟩⟩
  · rw [hholders, (List.perm_append_singleton k _).nodup_iff, List.nodup_cons]
    exact ⟨hfree, hs.heldOnce⟩
  · rw [hholders] at hj
    obtain hj | hj := List.mem_append.mp hj
    · exact hs.heldRange j hj
    · rw [List.mem_singleton.mp hj]; exact hk16
  · rw [hstate]
    split
    exacts [by decide, hs.known j hj]
  · rw [hstate]
    split
    next hjk => exact iff_of_false (by decide) (hjk ▸ hkrest)
    next hjk => rw [hs.posted j hj, hq, List.mem_cons, or_iff_right hjk]; rfl
  · rw [hstate, hholders, List.mem_append, List.mem_singleton]
    split
    next hjk => exact iff_of_true rfl (.inr hjk)
    next hjk => rw [hs.taken j hj, or_iff_left hjk]
  · rw [hread, if_neg (by unfold slotBase; omega), hm.outside a ha]
  · rw [hread]
    split
    next heq =>
      obtain ⟨rfl, rfl⟩ := slotBase_inj heq.symm hoff
      have hsame (hend : s0.slotState k = 0 ∨ s0.slotState k = 3) : s.slotState k = s0.slotState k :=
        hm.slots k 0 hj (by omega) (.inr (.inr hend))
      obtain hc | hc | hc | hc := hc
      · omega
      · omega
      all_goals
        have := hsame (by simp [hc])
        rw [hposted, hc] at this
        exact absurd this (by decide)
    · exact hm.slots j off hj hoff hc

theorem slotsAt_take {k : Nat} {rest : List Nat} (code : Byte) (params : List Byte) (h : SlotsAt s0 [] s) (hq : s.req.queue = k :: rest) :
    SlotsAt s0 [] (State.routeRequest { s with req := { s.req with queue := rest } } k code params) := by
  have htaken := slotsAt_takeHead h hq
  set v : State := { s with req := { s.req with queue := rest } } with hv
  have hwf : v.mem.wf = true := h.1.wf
  have hdone (o : SlotOutcome) : SlotsAt s0 [] (v.complete k o 0 []) := by
    refine htaken.answered (k := k) (o := o) (d := 0) (r := []) (complete_wf v k o 0 [] hwf) (fun a => ?_) ?_ ?_ ?_
    · rw [complete_read _ _ _ _ _ hwf, complete_read _ _ _ _ _ (setSlotState_wf v k _ hwf), setSlotState_mem,
        Memory.read_write _ _ _ _ hwf]
      split_ifs <;> rfl
    · rw [complete_trail, setSlotState_trail]
    · rw [complete_req, setSlotState_req]
    · unfold State.holders
      rw [complete_req, complete_bypass, complete_census, complete_door, setSlotState_req, setSlotState_bypass, setSlotState_census,
        setSlotState_door, List.append_nil]
      exact List.perm_append_singleton k _
  unfold State.routeRequest
  split
  · exact hdone _
  · refine iteClosed (hdone _) (htaken.handed rfl rfl rfl ?_)
    unfold State.holders State.handRequest
    simp only [List.map_append, List.map_cons, List.map_nil, List.append_assoc, List.singleton_append]
    exact List.perm_middle

end

/-! ## Every command -/

theorem frameRel_slotsAt (s0 : State) (l : List Nat) : FrameRel besidesSlots (fun s t => SlotsAt s0 l s → SlotsAt s0 l t) where
  frame h hs := hs.frame h
  trans h h' hs := h' (h hs)

theorem links_besidesSlots : [.choices, .spanA, .spanB] ⊆ besidesSlots := by simp [besidesSlots]

end Sys2Proof.Machine

/-!
O51 and O53: every command but a reset and a MEM_WRITE.
-/

namespace Sys2Proof.Machine

/-- The commands that hand a slot on, answer one, or tell the lead's orders of a span. -/
def slotCommand : Instr → Bool
  | .take _ | .configure _ | .spanControlEnable _ | .spanControlDisable _ | .spanControlRestart _ | .spanControlBypass _
  | .spanControlUnbypass _ | .relaySwitched _ | .hello _ _ | .keepalive _ _ | .silence _ _ | .errors _ _ | .jamEnd _ _
  | .frameCompleted _ _ | .takeLead _ | .censusStart _ | .dropLead _ | .settleTimerExpired _ | .doorOrder _ | .rollAgeTimerExpired _
  | .doorLocalIsolate _ | .doorLocalRestore _ | .faultClearDoor _ | .faultClearHeating _ | .heatDemand _ | .heatSupply _ => true
  | _ => false

theorem touches_besidesSlots (c : Instr) (hp : fromPort c = false) (he : eventCommand c = false) (ho : opsCommand c = false)
    (hd : slotCommand c = false) : touches c ⊆ besidesSlots := by
  cases c
  case powerOn | resetn | memWrite | resetWord => simp [fromPort] at hp
  case listenWindowEnd | frameReceived | greetingHelloDue | keepaliveDue | lockLevelChanged | driveMismatch | applyInstant |
    leaseExpired | closeTimeout | grantHoldExpired | periodStart | lowTimerExpired | returnTimerExpired | feedbackSample =>
    simp [eventCommand] at he
  case call | report | table | tableAck | void | brk | censusTimerExpired | order | orderAck | ackWaitTimeout | grant | doorStateRoll |
    demandRoll | originationTimer | substituteOrigination | doorOrderTimedOut | allocationTimerExpired => simp [opsCommand] at ho
  case probe dt x _ | foreignProbe dt x _ _ | probeAnswer dt x | greetTimeout dt x | transmitAttempt dt x _ | backoffEnd dt x =>
    cases x <;> simp [touches, spanPart, besidesSlots]
  case collision dt pin => cases h : pin.span <;> simp [touches, spanPart, besidesSlots, h]
  case driveMismatchEnded dt k | releaseHalfPeriod dt k => cases k <;> simp [touches, sidePart, besidesSlots]
  case memRead | regRead | regWriteOther | portSetEcho | portSetAttnPolarity | portSetAttnDrive | misalign | misalignedTransaction |
    unknownOpcode | ignoredTransaction | demandLeaseExpired | windowStart | windowEnd | readingCompleted | millisecondTick =>
    simp [touches, besidesSlots]
  all_goals simp [slotCommand] at hd

theorem slotsAt_start {s : State} (hs : s.slotsSound) (dt : Nat) : SlotsAt s [] (s.advance dt) :=
  ⟨((slotsSound_iff _).mp (show (s.advance dt).slotsSound from hs)).1, ⟨fun _ _ => rfl, fun _ _ _ _ _ => rfl, rfl⟩⟩

theorem slotsAt_slotCommand {c : Instr} {s t : State} (hc : exec c s = .next t) (hd : slotCommand c = true) (hs : s.slotsSound) :
    ∃ u : State, t = u.settle ∧ SlotsAt s [] u := by
  have howners : s.slotOwners := ((slotsSound_iff s).mp hs).2
  have hK := opsKeep_slotsAt s
  have hR := frameRel_slotsAt s []
  have hrun {dt : Nat} {f : State → State} (h : exec c s = .next (s.run dt f))
      (hf : ∀ u, u.slotOwners → SlotsAt s [] u → SlotsAt s [] (f u)) : ∃ u : State, t = u.settle ∧ SlotsAt s [] u := by
    obtain rfl : s.run dt f = t := Host.Outcome.next.inj (h.symm.trans hc)
    exact ⟨f (s.advance dt), by rw [State.run], hf _ howners (slotsAt_start hs dt)⟩
  have hserve {dt : Nat} {p : Request → Bool} {f : Request → State → State} (h : exec c s = .next (s.run dt fun u => u.serve p f))
      (hf : ∀ r u, u.slotOwners → SlotsAt s [r.slot] u → SlotsAt s [] (f r u)) : ∃ u : State, t = u.settle ∧ SlotsAt s [] u := by
    refine hrun h fun u ho hu => slotsAt_serve hu fun r v hb hcensus _ hv => hf r v ?_ hv
    unfold State.slotOwners
    rw [hb, hcensus]
    exact ho
  cases c
  case take =>
    refine hrun rfl fun u _ hu => ?_
    split
    · exact hu
    next hq => exact slotsAt_take _ _ hu hq
  case configure => exact hserve rfl fun r u _ => slotsAt_configure r
  case spanControlEnable => exact hserve rfl fun r u _ => slotsAt_enable r
  case spanControlDisable => exact hserve rfl fun r u _ => slotsAt_disable r
  case spanControlRestart => exact hserve rfl fun r u _ => slotsAt_restart r
  case spanControlBypass =>
    refine hserve rfl fun r u ho hu => ?_
    split
    next hopen => exact slotsAt_exitWhere _ _ _ (slotsAt_switchRelay false r.slot ho (by simp [hopen]) hu)
    all_goals exact hu.complete _ _ _ _
  case spanControlUnbypass =>
    refine hserve rfl fun r u ho hu => ?_
    split
    · exact hu.complete _ _ _ _
    next hclosed => exact slotsAt_switchRelay true r.slot ho (by simp [hclosed]) hu
    · exact hu.complete _ _ _ _
  case relaySwitched => exact hrun rfl fun u _ hu => iteClosed (slotsAt_relaySettles hu) hu
  case hello dt x =>
    exact hrun rfl fun u _ => hR.takeFrame links_besidesSlots (fun r v => hR.takeHello links_besidesSlots
      (fun w why f => (hK []).tellLost w why f) (fun w y cause lost => (hK []).spanDownReport w y cause lost)
      (fun w y p => (hK []).spanUpReport w y p) v x r.frame) u x _
  case keepalive dt x =>
    exact hrun rfl fun u _ => hR.takeFrame links_besidesSlots (fun r v => hR.takeKeepalive links_besidesSlots
      (fun w why f => (hK []).tellLost w why f) (fun w y cause lost => (hK []).spanDownReport w y cause lost) v x r.frame) u x _
  case silence | errors => exact hrun rfl fun u _ hu => iteClosed (slotsAt_exitSpan _ _ _ hu) hu
  case jamEnd =>
    refine hrun rfl fun u _ hu => ?_
    split
    · exact iteClosed (hR.endJam links_besidesSlots (fun w why f => (hK []).tellLost w why f) u _ _ hu) hu
    all_goals exact hu
  case frameCompleted =>
    refine hrun rfl fun u _ hu => ?_
    split
    · exact iteClosed (hR.completeFrame links_besidesSlots (fun w n st => (hK []).leadOrderCompleted w n st) u _ _ _ _ hu) hu
    · exact hu
  case takeLead => exact hserve rfl fun r u ho hu => (hK []).reviewEnd _ (slotsAt_takeLead r ho hu)
  case censusStart => exact hserve rfl fun r u ho hu => (hK []).reviewEnd _ (slotsAt_censusStart r ho hu)
  case dropLead =>
    refine hserve rfl fun r u _ hu => ?_
    split
    · exact hu.complete _ _ _ _
    · exact SlotsAt.complete _ _ _ _ ((hK _).reviewEnd _ ((hK _).dropLead u hu))
  case settleTimerExpired =>
    refine hrun rfl fun u ho hu => ?_
    split
    next hg => exact (hK []).reviewEnd _ ((hK []).startCensus u none ((hK []).setCensus u _ hu (slotOwners_slot ho hg.2.2).symm))
    · exact hu
  case doorOrder => exact hserve rfl fun r u _ => slotsAt_doorOrder r
  case rollAgeTimerExpired => exact hrun rfl fun u _ hu => iteClosed ((hK []).orders u _ rfl hu) hu
  case doorLocalIsolate => exact hserve rfl fun r u _ => slotsAt_answered (answered_isolate u r)
  case doorLocalRestore => exact hserve rfl fun r u _ => slotsAt_answered (answered_restore u r)
  case faultClearDoor => exact hserve rfl fun r u _ => slotsAt_answered (answered_faultClearDoor u r)
  case faultClearHeating => exact hserve rfl fun r u _ => slotsAt_answered (answered_faultClearHeating u r)
  case heatDemand => exact hserve rfl fun r u _ => slotsAt_answered (answered_heatDemand u r)
  case heatSupply => exact hserve rfl fun r u _ => slotsAt_heatSupply r
  all_goals exact absurd hd (by simp [slotCommand])

/-- When its events come to be written, a command has changed memory in held slots only, and the slots agree (R165, R168). -/
theorem slotsAt_exec {c : Instr} {s t : State} (hc : exec c s = .next t) (hp : fromPort c = false) (hs : s.slotsSound) :
    ∃ u : State, t = u.settle ∧ SlotsAt s [] u := by
  cases he : eventCommand c
  · cases ho : opsCommand c
    · cases hd : slotCommand c
      · obtain ⟨dt, u, hu, ht⟩ := runsWithin c s (by cases c <;> simp_all [fromPort, mayReset])
        exact ⟨u, (Host.Outcome.next.inj (hc.symm.trans hu)),
          (slotsAt_start hs dt).frame (ht.mono (touches_besidesSlots c hp he ho hd))⟩
      · exact slotsAt_slotCommand hc hd hs
    · exact (opsKeep_slotsAt s []).exec_unsettled hc ho (slotsAt_start hs 0)
  · obtain ⟨dt, u, hu, ht⟩ := eventCommand_quiet hc he
    exact ⟨u, hu, (slotsAt_start hs dt).frame ht⟩

end Sys2Proof.Machine

/-!
The census record after each operation of the engine.
-/

namespace Sys2Proof.Machine

section
variable (s : State)

/-! ## Operations that leave the record alone -/

@[simp] theorem generationChanged_census : s.generationChanged.census = s.census := by
  unfold State.generationChanged
  split
  case h_1 => rw [setCap_keeps]
  all_goals rfl

@[simp] theorem writeTable_census (own : Nat) (gen number : Word16) (lead : Word32) (rs : List CarRecord) :
    (s.writeTable own gen number lead rs).census = s.census := by
  unfold State.writeTable
  split
  exacts [rfl, generationChanged_census _]

@[simp] theorem allocate_census : s.allocate.census = s.census :=
  census_kept (P := [.spanA, .spanB, .choices, .heat, .table, .pub]) ((touches_allocate (by simp) (by simp) (by simp) (by simp) (by simp)
    (by simp)).mpr (Touches.refl _ s)) (by simp)

@[simp] theorem startAllocations_census : s.startAllocations.census = s.census := by
  unfold State.startAllocations
  rw [allocate_census]

@[simp] theorem relaySpanDown_census (x : SpanId) : (s.relaySpanDown x).census = s.census :=
  census_kept (P := [.spanA, .spanB, .choices, .relay]) ((touches_relaySpanDown (by simp) (by simp) (by simp) x (by simp)).mpr
    (Touches.refl _ s)) (by simp)

@[simp] theorem reviewEnd_census : s.reviewEnd.census = s.census :=
  census_kept (P := [.spanA, .spanB, .choices, .relay, .table, .pub]) ((touches_reviewEnd (by simp) (by simp) (by simp) (by simp)
    (by simp) (by simp)).mpr (Touches.refl _ s)) (by simp)

@[simp] theorem leadConflict_census (who : Byte) (lead : Word32) : (s.leadConflict who lead).census = s.census := rfl

/-! ## Time and settings, which decide the settle timer -/

@[simp] theorem send_now (x : SpanId) (f : Frame) : (s.send x f).now = s.now := by
  have h : Touches [.spanA, .spanB, .choices] s (s.send x f) :=
    (touches_send x f (spanPart_mem (by simp) (by simp) x) (by simp)).mpr (Touches.refl _ _)
  exact (h .now (by simp)).1

@[simp] theorem send_settings (x : SpanId) (f : Frame) : (s.send x f).settings = s.settings := by
  have h : Touches [.spanA, .spanB, .choices] s (s.send x f) :=
    (touches_send x f (spanPart_mem (by simp) (by simp) x) (by simp)).mpr (Touches.refl _ _)
  exact (h .settings (by simp)).1

theorem census_now_settings {P : List Part} {t : State} (h : Touches P s t) (hn : Part.now ∉ P) (hs : Part.settings ∉ P) :
    t.now = s.now ∧ t.settings = s.settings := ⟨(h _ hn).1, (h _ hs).1⟩

theorem enterCensus_now (c : CensusState) : (s.enterCensus c).now = s.now ∧ (s.enterCensus c).settings = s.settings :=
  census_now_settings s ((touches_enterCensus (List.Subset.refl censusParts) c).mpr (Touches.refl _ s)) (by decide) (by decide)

theorem sendVoid_now (x : SpanId) (m : VoidMark) : (s.sendVoid x m).now = s.now ∧ (s.sendVoid x m).settings = s.settings := by
  unfold State.sendVoid
  split
  exacts [⟨send_now _ _ _, send_settings _ _ _⟩, ⟨rfl, rfl⟩]

theorem completeCensusSlot_now (o : SlotOutcome) (d : Byte) (n : Nat) (p : Byte) :
    (s.completeCensusSlot o d n p).now = s.now ∧ (s.completeCensusSlot o d n p).settings = s.settings := by
  have h : Touches censusParts s (s.completeCensusSlot o d n p) := by
    unfold State.completeCensusSlot
    exact (touches_completeIf _ _ _ _ (by decide) (by decide)).mpr ((touches_setCensus s _).mono (by decide))
  exact census_now_settings s h (by decide) (by decide)

theorem goStale_now (p e c : Byte) : (s.goStale p e c).now = s.now ∧ (s.goStale p e c).settings = s.settings := by
  unfold State.goStale
  split
  exacts [enterCensus_now s .stale, ⟨rfl, rfl⟩]

/-! ## Entries, failures and completions -/

theorem leaveCensus_census : s.leaveCensus.census = { s.census with state := .uncensused, timerEnd := none } :=
  enterCensus_census s .uncensused

theorem goStale_census (p e c : Byte) : (s.goStale p e c).census =
    if s.census.state = .valid then { s.census with state := .stale, timerEnd := none } else s.census := by
  unfold State.goStale
  split
  · rw [raise_census, enterCensus_census]
    rfl
  · rfl

/-- The record of a census that ended at the lead, before any retry (R59). -/
def Census.ended (c : Census) : Census := { c with state := .uncensused, timerEnd := none, slot := none }

/-- A failed census: over, its slot forgotten, the settle timer started for a retry (R59, R66). -/
theorem failCensus_census (reason : FailReason) (p : Byte) : (s.failCensus reason p).census =
    if reason.retried = true ∧ s.census.retry < 3 ∧ s.settings.autoCensus = 1 then
      { s.census.ended with settleEnd := some (s.now + 500 * ms), retry := s.census.retry + 1 }
    else s.census.ended := by
  unfold State.failCensus
  simp only
  generalize hu : ((s.enterCensus .uncensused).sendVoid _ _).completeCensusSlot .aborted reason.code 0 p = u
  have hcensus : u.census = s.census.ended := by
    rw [← hu, completeCensusSlot_census, sendVoid_census, enterCensus_census]
    rfl
  have hnow : u.now = s.now ∧ u.settings = s.settings := by
    rw [← hu, (completeCensusSlot_now _ _ _ _ _).1, (completeCensusSlot_now _ _ _ _ _).2, (sendVoid_now _ _ _).1, (sendVoid_now _ _ _).2]
    exact enterCensus_now s .uncensused
  have hevent : (u.censusFailedEvent reason p).census = s.census.ended := hcensus
  have hset : (u.censusFailedEvent reason p).now = s.now ∧ (u.censusFailedEvent reason p).settings = s.settings := hnow
  simp only [hevent, Census.ended]
  by_cases hr : reason.retried = true ∧ s.census.retry < 3
  · rw [if_pos hr, startSettle_census, hevent, hset.1, hset.2]
    by_cases ha : s.settings.autoCensus = 1
    · rw [if_pos ha, if_pos ⟨hr.1, hr.2, ha⟩]
      rfl
    · rw [if_neg ha, if_neg fun h => ha h.2.2]
      rfl
  · rw [if_neg hr, if_neg fun h => hr ⟨h.1, h.2.1⟩, hevent]
    rfl

theorem completeCensus_census : s.completeCensus.census =
    { s.census with state := .valid, timerEnd := none, retry := 0, slot := none } := by
  unfold State.completeCensus
  simp only
  rw [completeCensusSlot_census, raise_census, setCensus_census, enterCensus_census]
  rfl

theorem buildSingle_census : s.buildSingle.census = { s.census with state := .valid, timerEnd := none, retry := 0, slot := none } := by
  unfold State.buildSingle
  simp only
  rw [startAllocations_census, completeCensus_census, clearAllocations_census, writeTable_census]

theorem becomeLead_census : s.becomeLead.census =
    { s.census with
      role := .lead, ctx := none, lastVoid := none, ackForwarded := false, relayed := false, settleEnd := none, retry := 0 } := by
  unfold State.becomeLead
  rw [clearAllocations_census]
  rfl

theorem becomeMember_census : s.becomeMember.census =
    { s.census with
      role := .member, state := .uncensused, timerEnd := none, ctx := none, lastVoid := none, ackForwarded := false
      relayed := false } := by
  unfold State.becomeMember
  simp only
  rw [clearAllocations_census]
  simp only [setCensus_census, enterCensus_census]
  rfl

/-- DROP_LEAD (R61). -/
theorem dropLead_census : s.dropLead.census =
    { s.census with
      role := .member, state := .uncensused, timerEnd := none, ctx := none, lastVoid := none, ackForwarded := false
      relayed := false, settleEnd := none, retry := 0, slot := if s.census.state.busy then none else s.census.slot } := by
  unfold State.dropLead
  simp only
  split
  next hb =>
    rw [completeCensusSlot_census, becomeMember_census, censusFailedEvent_census, setCensus_census, sendVoid_census]
  next hb =>
    rw [becomeMember_census, setCensus_census, sendVoid_census]

/-! ## Member operations -/

theorem reportSilent_census (c : Context) : (s.reportSilent c).census = { s.census with state := .uncensused, timerEnd := none } := by
  unfold State.reportSilent
  rw [leaveCensus_census, send_census]

theorem memberConflict_census (x : SpanId) (m : CallMsg) (c : Context) :
    (s.memberConflict x m c).census = { s.census with state := .uncensused, timerEnd := none } := by
  unfold State.memberConflict
  simp only
  rw [leadConflict_census, leaveCensus_census, send_census, send_census]

/-- The context an adopted CALL gives (R52). -/
def CallMsg.context (m : CallMsg) (x : SpanId) : Context := { lead := m.lead, number := m.number, position := m.hop + 1, upstream := x }

theorem adoptCall_census (x : SpanId) (m : CallMsg) : (s.adoptCall x m).census =
    let c := { s.census with ctx := some (m.context x), lastVoid := none, ackForwarded := false, relayed := false }
    if s.isUp (otherSpan x) = true then
      if m.hop + 1 ≤ 31 then { c with state := .enlisted, timerEnd := some (s.now + 1500 * ms) }
      else { c with state := .uncensused, timerEnd := none }
    else { c with state := .awaitTable, timerEnd := some (s.now + 2000 * ms) } := by
  have hup (c : Census) (y : SpanId) : (s.setCensus c).isUp y = s.isUp y := by cases y <;> rfl
  unfold State.adoptCall
  simp only [hup]
  split
  · split
    · rw [enterCensus_census, send_census, send_now]
      rfl
    · rw [leaveCensus_census, send_census]
      rfl
  · rw [enterCensus_census, send_census, send_now]
    rfl

theorem relayReport_census (m : ReportMsg) (c : Context) : (s.relayReport m c).census =
    if m.answer = .ended then { s.census with relayed := true, state := .awaitTable, timerEnd := some (s.now + 2000 * ms) }
    else { s.census with state := .uncensused, timerEnd := none } := by
  unfold State.relayReport
  simp only
  split
  · rw [enterCensus_census, setCensus_census, send_census, show ∀ (u : State) c, (u.setCensus c).now = u.now from fun _ _ => rfl, send_now]
    rfl
  · rw [leaveCensus_census, send_census]

/-- A member that loses the table's confidence, or a span of its consist (R57, R63). -/
theorem refuseTable_census (c : Context) : (s.refuseTable c).census = { s.census with state := .uncensused, timerEnd := none } := by
  unfold State.refuseTable State.sendTableAck
  rw [send_census, leaveCensus_census]

theorem adoptTable_census (m : TableMsg) (c : Context) (payload : List Byte) :
    ∃ st : CensusState, (st = .valid ∨ st = .stale) ∧
      (s.adoptTable m c payload).census = { s.census with state := st, timerEnd := none } := by
  have hvalid (u : State) : (u.enterCensus .valid).census = { u.census with state := .valid, timerEnd := none } := by
    rw [enterCensus_census]
    rfl
  unfold State.adoptTable State.sendTableAck
  simp only
  split
  · exact ⟨.valid, .inl rfl, by rw [send_census, hvalid, writeTable_census]⟩
  split
  · refine ⟨.stale, .inr rfl, ?_⟩
    rw [goStale_census, sendBreak_census, send_census, hvalid, writeTable_census]
    rfl
  · exact ⟨.valid, .inl rfl, by rw [send_census, hvalid, writeTable_census]⟩

theorem buildTable_census (rs : List CarRecord) : (s.buildTable rs).census =
    { s.census with state := .distributing, timerEnd := some ((s.writeTable 1 (newGeneration s.table.gen rs) s.census.number
        s.settings.identity rs).now + 1500 * ms), settleEnd := none } := by
  unfold State.buildTable
  simp only
  rw [enterCensus_census, send_census, send_now, writeTable_census]
  rfl

end

end Sys2Proof.Machine

/-!
O53: the census slot is held by a running census only, and a census runs at a lead only (R45, R46).
-/

namespace Sys2Proof.Machine

/-- The census slot is held while a census runs, and one runs at a lead only. -/
def Census.Owned (c : Census) : Prop := (c.slot.isSome = true → c.state.busy = true) ∧ (c.state.busy = true → c.role = .lead)

/-- The parts that the census record is not in. -/
def besidesCensus : List Part :=
  [.now, .clock, .choices, .pending, .mem, .pub, .trail, .port, .settings, .req, .slotTally, .faultTally, .bypass, .spanA, .spanB, .table,
    .relay, .side1, .side2, .doorLead, .summary, .heat, .fire, .mon]

/-- The census slot stays with a running census at a lead. -/
def OwnedKept (s t : State) : Prop := s.census.Owned → t.census.Owned

theorem ownedKept_of_census {s t : State} (h : t.census = s.census) : OwnedKept s t := fun hs => by rwa [h]

theorem frameRel_ownedKept : FrameRel besidesCensus OwnedKept where
  frame h := ownedKept_of_census (census_kept h (by simp [besidesCensus]))
  trans h h' hs := h' (h hs)

namespace Census.Owned

variable {c : Census}

theorem slot_none (h : c.Owned) (hb : c.state.busy = false) : c.slot = none := by
  obtain ⟨hslot, -⟩ := h
  cases hs : c.slot with
  | none => rfl
  | some k => exact absurd (hslot (by rw [hs]; rfl)) (by simp [hb])

theorem not_busy (h : c.Owned) (hr : c.role = .member) : c.state.busy = false := by
  by_contra hb
  have := h.2 (by simpa using hb)
  rw [hr] at this
  exact absurd this (by decide)

/-- Without a slot and outside a census. -/
theorem idle (hs : c.slot = none) (hb : c.state.busy = false) : c.Owned := ⟨by simp [hs], by simp [hb]⟩

/-- A change of what neither the slot nor its owner is. -/
theorem congr {d : Census} (h : c.Owned) (hslot : d.slot = c.slot) (hstate : d.state = c.state) (hrole : d.role = c.role) : d.Owned := by
  unfold Census.Owned
  rw [hslot, hstate, hrole]
  exact h

/-- A state entered while no census runs. -/
theorem entered {d : Census} (h : c.Owned) (hb : c.state.busy = false) (hslot : d.slot = c.slot) (hd : d.state.busy = false) : d.Owned :=
  idle (hslot.trans (h.slot_none hb)) hd

end Census.Owned

section
variable (s : State)

theorem ownedKept_reviewEnd : OwnedKept s s.reviewEnd := ownedKept_of_census (reviewEnd_census s)

theorem ownedKept_complete (k : Nat) (o : SlotOutcome) (d : Byte) (l : List Byte) : OwnedKept s (s.complete k o d l) :=
  ownedKept_of_census (complete_census s k o d l)

theorem owned_failCensus (reason : FailReason) (p : Byte) : (s.failCensus reason p).census.Owned := by
  rw [failCensus_census]
  split <;> exact .idle rfl rfl

theorem owned_completeCensus : s.completeCensus.census.Owned := by
  rw [completeCensus_census]
  exact .idle rfl rfl

theorem ownedKept_startSettle (n : Nat) : OwnedKept s (s.startSettle n) := fun h => by
  rw [startSettle_census]
  split
  exacts [h.congr rfl rfl rfl, h]

theorem ownedKept_goStale (p e c : Byte) : OwnedKept s (s.goStale p e c) := fun h => by
  rw [goStale_census]
  split
  next hv => exact h.entered (by simp [hv, CensusState.busy]) rfl rfl
  · exact h

theorem ownedKept_leave (hb : s.census.state.busy = false) {t : State}
    (ht : t.census = { s.census with state := .uncensused, timerEnd := none }) : OwnedKept s t := fun h => by
  rw [ht]
  exact h.entered hb rfl rfl

theorem ownedKept_leadSpanEvent (x : SpanId) (c : Byte) : OwnedKept s (s.leadSpanEvent x c) :=
  frameRel_ownedKept.trans (ownedKept_goStale s _ _ _) (ownedKept_startSettle _ 0)

theorem ownedKept_censusSpanUp (x : SpanId) : OwnedKept s (s.censusSpanUp x) := by
  unfold State.censusSpanUp
  split
  · exact FrameRel.branch (fun _ => FrameRel.branch (fun _ _ => owned_failCensus s _ _) fun _ => id) fun _ => ownedKept_leadSpanEvent s x _
  · exact frameRel_ownedKept.when fun _ => frameRel_ownedKept.trans (ownedKept_of_census (sendBreak_census s _ _)) (ownedKept_goStale _ _ _ _)

theorem ownedKept_memberSpanLost (x : SpanId) (c : Byte) (hb : s.census.state.busy = false) : OwnedKept s (s.memberSpanLost x c) := by
  unfold State.memberSpanLost
  refine FrameRel.branch (fun _ => ?_) fun _ => frameRel_ownedKept.when fun _ => ownedKept_leave s hb ?_
  · exact frameRel_ownedKept.trans (ownedKept_of_census (sendBreak_census s _ _)) (ownedKept_goStale _ _ _ _)
  · rw [leaveCensus_census, sendVoid_census]

theorem ownedKept_censusSpanDown (x : SpanId) (cause : Cause) : OwnedKept s (s.censusSpanDown x cause) := by
  unfold State.censusSpanDown
  split
  · exact FrameRel.branch (fun _ => FrameRel.branch (fun _ _ => owned_failCensus s _ _) fun _ => id) fun _ => ownedKept_leadSpanEvent s x _
  · split
    case h_1 hst _ =>
      have hb : s.census.state.busy = false := by rw [hst]; rfl
      exact FrameRel.branch (fun _ => ownedKept_leave s hb (leaveCensus_census s)) fun _ => ownedKept_leave s hb (reportSilent_census s _)
    case h_2 hst _ =>
      exact frameRel_ownedKept.when fun _ => ownedKept_leave s (by rw [hst]; rfl) (leaveCensus_census s)
    case h_8 hst => exact ownedKept_memberSpanLost s _ _ (by rw [hst]; rfl)
    case h_9 hst => exact ownedKept_memberSpanLost s _ _ (by rw [hst]; rfl)
    all_goals exact id

theorem links_besidesCensus : [.choices, .spanA, .spanB] ⊆ besidesCensus := by simp [besidesCensus]

theorem ownedKept_spanUpReport (x : SpanId) (p : Partner) : OwnedKept s (s.spanUpReport x p) :=
  frameRel_ownedKept.trans (frameRel_ownedKept.raise links_besidesCensus s _ _)
    (frameRel_ownedKept.trans (ownedKept_censusSpanUp _ x) (ownedKept_reviewEnd _))

theorem ownedKept_spanDownReport (x : SpanId) (cause : Cause) (lost : Word32) : OwnedKept s (s.spanDownReport x cause lost) :=
  frameRel_ownedKept.trans (frameRel_ownedKept.raise links_besidesCensus s _ _)
    (frameRel_ownedKept.trans (ownedKept_of_census (relaySpanDown_census _ x))
      (frameRel_ownedKept.trans (ownedKept_censusSpanDown _ x cause) (ownedKept_reviewEnd _)))

/-- A census that starts at a lead: it runs with its slot, or is over already (R46, R47). -/
theorem owned_startCensus (slot : Option Nat) (hr : s.census.role = .lead) : (s.startCensus slot).census.Owned := by
  unfold State.startCensus
  simp only
  split
  · exact owned_failCensus _ _ _
  split
  · rw [send_census, enterCensus_census]
    exact ⟨fun _ => rfl, fun _ => hr⟩
  · rw [buildSingle_census]
    exact .idle rfl rfl

theorem ownedKept_takeLead (r : Request) : OwnedKept s (s.takeLead r) := by
  have hdone := ownedKept_complete s r.slot
  unfold State.takeLead
  refine FrameRel.branch (fun _ => hdone _ _ _) fun _ => FrameRel.branch (fun _ => hdone _ _ _) fun _ => ?_
  split
  · exact fun _ => owned_startCensus _ _ (by rw [becomeLead_census])
  next hr => exact fun _ => owned_startCensus s _ hr

theorem ownedKept_censusStart (r : Request) : OwnedKept s (s.censusStart r) := by
  have hdone := ownedKept_complete s r.slot
  unfold State.censusStart
  split
  · exact hdone _ _ _
  next hr => exact FrameRel.branch (fun _ => hdone _ _ _) fun _ _ => owned_startCensus _ _ hr

theorem ownedKept_dropLead : OwnedKept s s.dropLead := fun h => by
  rw [dropLead_census]
  refine .idle ?_ rfl
  show (if s.census.state.busy then none else s.census.slot) = none
  split
  next => rfl
  next hb => exact h.slot_none (by simpa using hb)

/-! ## The census frames -/

theorem ownedKept_adoptCall (x : SpanId) (m : CallMsg) (hb : s.census.state.busy = false) : OwnedKept s (s.adoptCall x m) := fun h => by
  rw [adoptCall_census]
  simp only
  split_ifs <;> exact h.entered hb rfl rfl

theorem ownedKept_takeCall (x : SpanId) (f : Frame) : OwnedKept s (s.takeCall x f) := by
  unfold State.takeCall
  split
  · exact id
  split
  next hr =>
    intro h
    have hb := h.not_busy hr
    have hadopt (m : CallMsg) := ownedKept_adoptCall s x m hb h
    unfold State.memberCall
    refine iteClosed (K := fun t => t.census.Owned) h ?_
    split
    · exact hadopt _
    · exact iteClosed (K := fun t => t.census.Owned) (iteClosed (K := fun t => t.census.Owned) (hadopt _) h)
        (iteClosed (K := fun t => t.census.Owned) (ownedKept_leave s hb (memberConflict_census s x _ _) h) (hadopt _))
  · unfold State.leadCall
    simp only
    refine FrameRel.branch (fun _ => id) fun _ => FrameRel.branch (fun _ _ => owned_failCensus _ _ _) fun _ => ownedKept_of_census ?_
    rw [leadConflict_census, send_census]

theorem ownedKept_takeReport (x : SpanId) (f : Frame) : OwnedKept s (s.takeReport x f) := by
  unfold State.takeReport
  split
  · exact id
  split
  · unfold State.memberReport
    split
    next hst _ =>
      refine frameRel_ownedKept.when fun _ h => ?_
      have hb : s.census.state.busy = false := by rw [hst]; rfl
      rw [relayReport_census]
      split <;> exact h.entered hb rfl rfl
    · exact id
  next hr =>
    unfold State.leadReport
    refine frameRel_ownedKept.when fun _ => ?_
    have hfail (why : FailReason) (p : Byte) : OwnedKept s (s.failCensus why p) := fun _ => owned_failCensus s why p
    split
    case h_4 =>
      refine FrameRel.branch (fun _ => hfail _ _) fun _ _ => ?_
      rw [buildTable_census]
      exact ⟨fun _ => rfl, fun _ => hr⟩
    all_goals exact hfail _ _

theorem ownedKept_takeTable (x : SpanId) (f : Frame) : OwnedKept s (s.takeTable x f) := by
  unfold State.takeTable
  split
  next hr _ =>
    unfold State.memberTable
    split
    · exact id
    · intro h
      have hb := h.not_busy hr
      have hrefuse (c : Context) := ownedKept_leave s hb (refuseTable_census s c) h
      refine iteClosed (K := fun t => t.census.Owned) (iteClosed (K := fun t => t.census.Owned) (iteClosed (K := fun t => t.census.Owned) ?_
        (hrefuse _)) (iteClosed (K := fun t => t.census.Owned) h (hrefuse _))) h
      obtain ⟨st, hst, hc⟩ := adoptTable_census s _ _ f.payload
      rw [hc]
      exact h.entered hb rfl (by obtain rfl | rfl := hst <;> rfl)
  · exact id
  · exact id

theorem ownedKept_takeTableAck (x : SpanId) (f : Frame) : OwnedKept s (s.takeTableAck x f) := by
  unfold State.takeTableAck
  split
  · exact id
  split
  · unfold State.memberTableAck
    split
    · exact id
    · refine frameRel_ownedKept.when fun _ h => ?_
      simp only [setCensus_census]
      refine Census.Owned.congr (c := s.census) h ?_ ?_ ?_ <;> simp only [send_census]
  · exact frameRel_ownedKept.when fun _ => FrameRel.branch (fun _ _ => owned_completeCensus s) fun _ _ => owned_failCensus s _ _

theorem ownedKept_takeVoid (x : SpanId) (f : Frame) : OwnedKept s (s.takeVoid x f) := by
  unfold State.takeVoid
  split
  next hr _ =>
    unfold State.memberVoid
    split
    · exact id
    · refine frameRel_ownedKept.when fun _ h => ?_
      have hleft (c : Census) (hc : c = { s.leaveCensus.census with lastVoid := c.lastVoid }) : c.Owned := by
        rw [hc, leaveCensus_census]
        exact h.entered (h.not_busy hr) rfl rfl
      refine iteClosed (K := fun t => t.census.Owned) ?_ (hleft _ rfl)
      rw [send_census]
      exact hleft _ rfl
  · exact id
  · exact id

theorem ownedKept_takeBreak (x : SpanId) (f : Frame) : OwnedKept s (s.takeBreak x f) := by
  unfold State.takeBreak
  split
  · exact id
  split
  · exact frameRel_ownedKept.when fun _ => frameRel_ownedKept.trans (ownedKept_goStale s _ _ _) (ownedKept_of_census (sendIf_census _ _ _))
  · unfold State.leadBreak
    refine frameRel_ownedKept.when fun _ => ?_
    split
    · exact frameRel_ownedKept.trans (ownedKept_goStale s _ _ _) (ownedKept_startSettle _ 0)
    · exact ownedKept_startSettle s 0
    · exact ownedKept_startSettle s 0
    · exact fun _ => owned_failCensus s _ _
    all_goals exact id

theorem ownedKept_censusTimeout : OwnedKept s s.censusTimeout := by
  unfold State.censusTimeout
  split
  · exact fun _ => owned_failCensus s _ _
  · exact fun _ => owned_failCensus s _ _
  next hst _ => exact ownedKept_leave s (by rw [hst]; rfl) (reportSilent_census s _)
  next hst _ => exact ownedKept_leave s (by rw [hst]; rfl) (leaveCensus_census s)
  next hst => exact ownedKept_leave s (by rw [hst]; rfl) (leaveCensus_census s)
  all_goals exact id

end

end Sys2Proof.Machine

/-!
O53: the owners of the slots through every command.
-/

namespace Sys2Proof.Machine

/-- The commands that reach the census engine. -/
def reachesCensus : Instr → Bool
  | .spanControlDisable _ | .spanControlRestart _ | .spanControlBypass _ | .hello _ _ | .keepalive _ _ | .silence _ _ | .errors _ _
  | .takeLead _ | .censusStart _ | .dropLead _ | .call _ _ | .report _ _ | .table _ _ | .tableAck _ _ | .void _ _ | .brk _ _
  | .censusTimerExpired _ | .settleTimerExpired _ => true
  | _ => false

theorem census_notin_touches (c : Instr) (hr : mayReset c = false) (hd : reachesCensus c = false) : Part.census ∉ touches c := by
  cases c
  case powerOn | resetn | resetWord => simp [mayReset] at hr
  case spanControlDisable | spanControlRestart | spanControlBypass | hello | keepalive | silence | errors | takeLead | censusStart |
    dropLead | call | report | table | tableAck | void | brk | censusTimerExpired | settleTimerExpired => simp [reachesCensus] at hd
  case probe dt x _ | foreignProbe dt x _ _ | probeAnswer dt x | greetTimeout dt x | transmitAttempt dt x _ | backoffEnd dt x |
    listenWindowEnd dt x _ | frameReceived dt x _ | greetingHelloDue dt x | keepaliveDue dt x | frameCompleted dt x =>
    cases x <;> simp [touches, spanPart, eventParts, sideParts]
  case collision dt pin => cases h : pin.span <;> simp [touches, spanPart, h]
  case lockLevelChanged dt k | driveMismatch dt k | driveMismatchEnded dt k | leaseExpired dt k | closeTimeout dt k |
    releaseHalfPeriod dt k | feedbackSample dt k _ =>
    cases k <;> simp [touches, sidePart, eventParts, sideParts]
  all_goals simp [touches, requestParts, sideParts, relayParts, eventParts]

theorem ownedKept_tellLost (s : State) (why : StopReason) (f : TxFrame) : OwnedKept s (s.tellLost why f) :=
  frameRel_ownedKept.tellLost links_besidesCensus (by decide) (fun u n w => frameRel_ownedKept.frame
    ((touches_leadOrderLost (by decide) (by decide) (by decide) (by decide) (by decide) (by decide) (by decide) (by decide) n w).mpr
      (Touches.refl _ u))) s why f

theorem ownedKept_exitSpan (s : State) (x : SpanId) (target : ExitTo) (cause : Cause) : OwnedKept s (s.exitSpan x target cause) :=
  frameRel_ownedKept.exitSpan links_besidesCensus ownedKept_tellLost ownedKept_spanDownReport s x target cause

theorem ownedKept_exitWhere (s : State) (p : SpanId → Bool) (target : ExitTo) (cause : Cause) : OwnedKept s (s.exitWhere p target cause) :=
  frameRel_ownedKept.exitWhere links_besidesCensus ownedKept_tellLost ownedKept_spanDownReport s p target cause

theorem ownedKept_reaches {c : Instr} {s t : State} (hc : exec c s = .next t) (hd : reachesCensus c = true) : OwnedKept s t := by
  have hR := frameRel_ownedKept
  have hL := links_besidesCensus
  have hrun {dt : Nat} {f : State → State} (h : exec c s = .next (s.run dt f)) (hf : ∀ u, OwnedKept u (f u)) : OwnedKept s t := by
    obtain rfl : s.run dt f = t := Host.Outcome.next.inj (h.symm.trans hc)
    unfold State.run
    exact hR.trans (hf (s.advance dt)) (ownedKept_of_census (settle_census _))
  have hserve {dt : Nat} {p : Request → Bool} {f : Request → State → State} (h : exec c s = .next (s.run dt fun u => u.serve p f))
      (hf : ∀ r u, OwnedKept u (f r u)) : OwnedKept s t := hrun h fun u => hR.serve (by simp [besidesCensus]) hf u p
  have hcensus {dt : Nat} {x : SpanId} {k : FrameKind} {f : State → SpanId → Frame → State}
      (h : Machine.exec c s = .next (s.run dt fun u => u.takeWhileUp x k fun g _ v => (f v x g).reviewEnd))
      (hf : ∀ v g, OwnedKept v (f v x g)) : OwnedKept s t :=
    hrun h fun u => hR.takeWhileUp hL (fun g _ v => hR.trans (hf v g) (ownedKept_reviewEnd _)) u x k
  cases c
  case spanControlDisable =>
    refine hserve rfl fun r u => FrameRel.branch (fun _ => ?_) fun _ => ownedKept_complete u _ _ _ _
    have hone (x : SpanId) (v : State) (b : Bool) : OwnedKept v (if b then v.setEnable x false else v) := hR.when fun _ => hR.setSpan hL v x _
    exact hR.trans (hR.trans (hone .a u _) (hone .b _ _)) (hR.trans (ownedKept_exitWhere _ _ _ _) (ownedKept_complete _ _ _ _ _))
  case spanControlRestart =>
    exact hserve rfl fun r u => FrameRel.branch (fun _ => FrameRel.branch (fun _ => ownedKept_complete u _ _ _ _)
      fun _ => hR.trans (ownedKept_exitWhere u _ _ _) (ownedKept_complete _ _ _ _ _)) fun _ => ownedKept_complete u _ _ _ _
  case spanControlBypass =>
    refine hserve rfl fun r u => ?_
    split
    · exact hR.trans (ownedKept_of_census (show (u.switchRelay false r.slot).census = u.census from rfl)) (ownedKept_exitWhere _ _ _ _)
    all_goals exact ownedKept_complete u _ _ _ _
  case hello =>
    exact hrun rfl fun u => hR.takeFrame hL (fun r v => hR.takeHello hL ownedKept_tellLost ownedKept_spanDownReport ownedKept_spanUpReport
      v _ r.frame) u _ _
  case keepalive =>
    exact hrun rfl fun u => hR.takeFrame hL (fun r v => hR.takeKeepalive hL ownedKept_tellLost ownedKept_spanDownReport v _ r.frame) u _ _
  case silence | errors => exact hrun rfl fun u => hR.when fun _ => ownedKept_exitSpan u _ _ _
  case takeLead => exact hserve rfl fun r u => hR.trans (ownedKept_takeLead u r) (ownedKept_reviewEnd _)
  case censusStart => exact hserve rfl fun r u => hR.trans (ownedKept_censusStart u r) (ownedKept_reviewEnd _)
  case dropLead =>
    refine hserve rfl fun r u => ?_
    split
    · exact ownedKept_complete u _ _ _ _
    · exact hR.trans (ownedKept_dropLead u) (hR.trans (ownedKept_reviewEnd _) (ownedKept_complete _ _ _ _ _))
  case call => exact hcensus rfl fun v => ownedKept_takeCall v _
  case report => exact hcensus rfl fun v => ownedKept_takeReport v _
  case table => exact hcensus rfl fun v => ownedKept_takeTable v _
  case tableAck => exact hcensus rfl fun v => ownedKept_takeTableAck v _
  case void => exact hcensus rfl fun v => ownedKept_takeVoid v _
  case brk => exact hcensus rfl fun v => ownedKept_takeBreak v _
  case censusTimerExpired => exact hrun rfl fun u => hR.when fun _ => hR.trans (ownedKept_censusTimeout u) (ownedKept_reviewEnd _)
  case settleTimerExpired =>
    refine hrun rfl fun u => hR.when fun hg => hR.trans ?_ (ownedKept_reviewEnd _)
    exact fun _ => owned_startCensus u none hg.2.1
  all_goals exact absurd hd (by simp [reachesCensus])

theorem exec_ownedKept {c : Instr} {s t : State} (hc : exec c s = .next t) (hp : mayReset c = false) : OwnedKept s t := by
  cases hd : reachesCensus c
  · obtain ⟨dt, u, hu, ht⟩ := runsWithin c s hp
    obtain rfl : u.settle = t := Host.Outcome.next.inj (hu.symm.trans hc)
    refine ownedKept_of_census ?_
    rw [settle_census]
    exact census_kept (s := s.advance dt) ht (census_notin_touches c hp hd)
  · exact ownedKept_reaches hc hd

/-! ## The slot that waits for the relay -/

/-- A slot waits only while the relay switches (R4). -/
def Bypass.Waits (b : Bypass) : Prop := b.waiter.isSome = true → b.relay = .switching

/-- The commands that move the relay. -/
def movesRelay : Instr → Bool
  | .configure _ | .spanControlBypass _ | .spanControlUnbypass _ | .relaySwitched _ => true
  | _ => false

theorem bypass_notin_touches (c : Instr) (hr : mayReset c = false) (hd : movesRelay c = false) : Part.bypass ∉ touches c := by
  cases c
  case powerOn | resetn | resetWord => simp [mayReset] at hr
  case configure | spanControlBypass | spanControlUnbypass | relaySwitched => simp [movesRelay] at hd
  case probe dt x _ | foreignProbe dt x _ _ | probeAnswer dt x | greetTimeout dt x | transmitAttempt dt x _ | backoffEnd dt x |
    listenWindowEnd dt x _ | frameReceived dt x _ | greetingHelloDue dt x | keepaliveDue dt x | frameCompleted dt x =>
    cases x <;> simp [touches, spanPart, eventParts, sideParts]
  case collision dt pin => cases h : pin.span <;> simp [touches, spanPart, h]
  case lockLevelChanged dt k | driveMismatch dt k | driveMismatchEnded dt k | leaseExpired dt k | closeTimeout dt k |
    releaseHalfPeriod dt k | feedbackSample dt k _ =>
    cases k <;> simp [touches, sidePart, eventParts, sideParts]
  all_goals simp [touches, requestParts, linkParts, censusParts, sideParts, relayParts, eventParts]

theorem bypass_kept {P : List Part} {s t : State} (h : Touches P s t) (hP : Part.bypass ∉ P) : t.bypass = s.bypass := (h _ hP).1

theorem bypass_exitWhere (s : State) (p : SpanId → Bool) (target : ExitTo) (cause : Cause) :
    (s.exitWhere p target cause).bypass = s.bypass :=
  bypass_kept ((touches_exitWhere (List.Subset.refl linkParts) p target cause).mpr (Touches.refl _ s)) (by decide)

theorem bypass_searchIfReady (s : State) (x : SpanId) : (s.searchIfReady x).bypass = s.bypass := by
  unfold State.searchIfReady
  simp only
  split
  exacts [setSpan_bypass _ _ _, rfl]

theorem bypass_relaySettles (s : State) : s.relaySettles.bypass.waiter = none := by
  unfold State.relaySettles
  simp only
  split <;> (try unfold State.completeSpan; rw [complete_bypass]) <;> rw [bypass_searchIfReady, bypass_searchIfReady]

theorem bypass_adopt (s : State) (new : Settings) : (s.adopt new).bypass.relay = .switching := by
  rw [bypass_kept (touches_adopt_started s new) (by decide)]
  rfl

theorem bypass_waits {c : Instr} {s t : State} (hc : exec c s = .next t) (hp : mayReset c = false) (h : s.bypass.Waits) :
    t.bypass.Waits := by
  have hrun {dt : Nat} {f : State → State} (he : exec c s = .next (s.run dt f)) (hf : ∀ u, u.bypass.Waits → (f u).bypass.Waits) :
      t.bypass.Waits := by
    obtain rfl : s.run dt f = t := Host.Outcome.next.inj (he.symm.trans hc)
    unfold State.run
    rw [settle_bypass]
    exact hf _ h
  have hserve {dt : Nat} {p : Request → Bool} {f : Request → State → State} (he : exec c s = .next (s.run dt fun u => u.serve p f))
      (hf : ∀ r u, u.bypass.Waits → (f r u).bypass.Waits) : t.bypass.Waits := by
    refine hrun he fun u hu => ?_
    unfold State.serve
    split
    exacts [hf _ _ hu, hu]
  cases hd : movesRelay c
  · obtain ⟨dt, u, hu, ht⟩ := runsWithin c s hp
    obtain rfl : u.settle = t := Host.Outcome.next.inj (hu.symm.trans hc)
    rw [settle_bypass, bypass_kept (s := s.advance dt) ht (bypass_notin_touches c hp hd)]
    exact h
  · cases c
    case configure =>
      refine hserve rfl fun r u hu => ?_
      unfold State.configure
      simp only
      split
      · rwa [complete_bypass]
      split
      · rwa [complete_bypass]
      · rw [complete_bypass]
        exact fun _ => bypass_adopt u _
    case spanControlBypass =>
      refine hserve rfl fun r u hu => ?_
      split
      · rw [bypass_exitWhere]
        exact fun _ => rfl
      all_goals
        unfold State.completeSpan
        rwa [complete_bypass]
    case spanControlUnbypass =>
      refine hserve rfl fun r u hu => ?_
      unfold State.completeSpan
      split
      · rwa [complete_bypass]
      · exact fun _ => rfl
      · rwa [complete_bypass]
    case relaySwitched =>
      refine hrun rfl fun u hu => ?_
      split
      · unfold Bypass.Waits
        rw [bypass_relaySettles]
        simp
      · exact hu
    all_goals exact absurd hd (by simp [movesRelay])

theorem exec_slotOwners {c : Instr} {s t : State} (hc : exec c s = .next t) (hp : mayReset c = false) (h : s.slotOwners) :
    t.slotOwners := by
  obtain ⟨hslot, hbusy, hwaits⟩ := h
  obtain ⟨hslot', hbusy'⟩ := exec_ownedKept hc hp ⟨hslot, hbusy⟩
  exact ⟨hslot', hbusy', bypass_waits hc hp hwaits⟩

end Sys2Proof.Machine

/-!
O54: the trail's ring through the trail writer, a release and the writing of the step's events.
-/

namespace Sys2Proof.Machine

/-- The trail reads nothing of the state but its ring and its counters. -/
theorem trailSound_congr {s t : State} (hread : ∀ a : Nat, 0x2000 ≤ a → a < 0x2800 → t.mem.read a = s.mem.read a)
    (htrail : t.trail = s.trail) (h : s.trailSound) : t.trailSound := by
  obtain ⟨hheld, hgap, hfull, hrec⟩ := h
  unfold State.trailSound
  rw [htrail]
  refine ⟨hheld, hgap, hfull, fun i hi => ?_⟩
  rw [← hrec i hi]
  refine Memory.readList_congr fun a ha ha' => ?_
  have := trailAddress_range (s.trail.oldest + word32 i)
  exact hread a (by omega) (by omega)

theorem held_next (t : Trail) (h : t.held < 128) : ({ t with next := t.next + 1 } : Trail).held = t.held + 1 := by
  unfold Trail.held at h ⊢
  simp only
  bv_omega

theorem oldest_held (t : Trail) : t.oldest + word32 t.held = t.next := by
  unfold Trail.held word32
  bv_omega

/-- Two records that are held together stand in different places of the ring (R170). -/
theorem trailAddress_apart (o : Word32) {i j : Nat} (hij : i < j) (hj : j < i + 128) :
    trailAddress (o + word32 i) + 16 ≤ trailAddress (o + word32 j) ∨ trailAddress (o + word32 j) + 16 ≤ trailAddress (o + word32 i) := by
  unfold trailAddress word32
  simp only [BitVec.toNat_add, BitVec.toNat_ofNat]
  omega

/-- With room the trail writer fills the next record (R170). -/
theorem writeEvent_room {s : State} (e : Event) (h : s.trail.held < 128) : s.writeEvent e = { s with
    mem := s.mem.writeList (trailAddress s.trail.next) (e.record s.trail.next s.msCount)
    trail := { s.trail with next := s.trail.next + 1 }
    tallies := { s.tallies with trail := s.tallies.trail + 1 } } := if_pos h

/-- The trail writer keeps the ring in order (R170). -/
theorem writeEvent_trailSound {s : State} (e : Event) (hwf : s.mem.wf = true) (h : s.trailSound) : (s.writeEvent e).trailSound := by
  obtain ⟨hheld, hgap, hfull, hrec⟩ := h
  by_cases hroom : s.trail.held < 128
  · have htrail : (s.writeEvent e).trail = { s.trail with next := s.trail.next + 1 } := by
      unfold State.writeEvent
      rw [if_pos hroom]
    have hmem : (s.writeEvent e).mem = s.mem.writeList (trailAddress s.trail.next) (e.record s.trail.next s.msCount) := by
      unfold State.writeEvent
      rw [if_pos hroom]
    have hnone : ¬0 < s.trail.gap := fun hg => by have := hfull hg; omega
    unfold State.trailSound
    rw [htrail, held_next _ hroom]
    refine ⟨by omega, hgap, fun hg => absurd hg hnone, fun i hi => ?_⟩
    rw [hmem]
    obtain hlt | rfl := Nat.lt_or_eq_of_le (Nat.lt_succ_iff.mp hi)
    · show Memory.readList _ (trailAddress (s.trail.oldest + word32 i)) 4 = le32 (s.trail.oldest + word32 i)
      rw [← hrec i hlt]
      have hapart := trailAddress_apart s.trail.oldest hlt (by omega)
      rw [oldest_held] at hapart
      refine Memory.readList_congr fun a ha ha' => ?_
      rw [Memory.read_writeList _ _ _ _ hwf, if_neg]
      rw [show (e.record s.trail.next s.msCount).length = 16 from rfl]
      omega
    · show Memory.readList _ (trailAddress (s.trail.oldest + word32 s.trail.held)) 4 = le32 (s.trail.oldest + word32 s.trail.held)
      rw [oldest_held]
      have hback := Memory.readList_writeList (e.record s.trail.next s.msCount) s.mem (trailAddress s.trail.next) hwf
      rw [show (e.record s.trail.next s.msCount).length = 4 + 12 from rfl] at hback
      have hfirst := congrArg (List.take 4) hback
      unfold Memory.readList at hfirst ⊢
      rw [← List.map_take, List.take_range] at hfirst
      exact hfirst
  · have hsame : s.writeEvent e = { s with trail := { s.trail with gap := min 65535 (s.trail.gap + 1) } } := by
      unfold State.writeEvent
      rw [if_neg hroom]
    have hfull128 : s.trail.held = 128 := by omega
    rw [hsame]
    refine ⟨hheld, ?_, fun _ => hfull128, hrec⟩
    show min 65535 _ ≤ 65535
    omega

theorem logged_trailSound (es : List Event) : ∀ {s : State}, s.mem.wf = true → s.trailSound → (s.logged es).trailSound := by
  induction es with
  | nil => exact fun _ h => h
  | cons e es ih => exact fun hwf h => ih (writeEvent_wf _ e hwf) (writeEvent_trailSound e hwf h)

/-! ## How many records are written -/

/-- `n` records have been written and nothing else (R170). -/
structure Wrote (n : Nat) (s t : State) : Prop where
  next : t.trail.next = s.trail.next + word32 n
  oldest : t.trail.oldest = s.trail.oldest
  room : n = 0 ∨ s.trail.held + n ≤ 128
  read : ∀ a : Nat, (∀ j : Nat, j < n → ¬(trailAddress (s.trail.next + word32 j) ≤ a ∧ a < trailAddress (s.trail.next + word32 j) + 16)) →
    t.mem.read a = s.mem.read a
  wf : t.mem.wf = true

theorem Wrote.none {s : State} (h : s.mem.wf = true) : Wrote 0 s s := ⟨by simp [word32], rfl, .inl rfl, fun _ _ => rfl, h⟩

theorem writeEvent_wrote {s : State} (e : Event) (h : s.mem.wf = true) : ∃ n : Nat, n ≤ 1 ∧ Wrote n s (s.writeEvent e) := by
  by_cases hroom : s.trail.held < 128
  · refine ⟨1, le_refl 1, ?_, ?_, .inr (by omega), fun a ha => ?_, writeEvent_wf s e h⟩
    · unfold State.writeEvent
      rw [if_pos hroom]
      rfl
    · unfold State.writeEvent
      rw [if_pos hroom]
    · have hn := ha 0 (by omega)
      rw [show s.trail.next + word32 0 = s.trail.next by simp [word32]] at hn
      rw [writeEvent_read s e h, if_neg fun hc => hn hc.2]
  · refine ⟨0, by omega, ?_, ?_, .inl rfl, fun a _ => ?_, writeEvent_wf s e h⟩
    · unfold State.writeEvent
      rw [if_neg hroom]
      simp [word32]
    · unfold State.writeEvent
      rw [if_neg hroom]
    · rw [writeEvent_read s e h, if_neg fun hc => hroom hc.1]

theorem Wrote.trans {m n : Nat} {s t u : State} (h : Wrote m s t) (h' : Wrote n t u) : Wrote (m + n) s u := by
  have hword (j : Nat) : s.trail.next + word32 m + word32 j = s.trail.next + word32 (m + j) := by
    unfold word32
    rw [BitVec.add_assoc, ← BitVec.ofNat_add]
  have hheld : m = 0 ∨ t.trail.held = s.trail.held + m := by
    obtain hm | hm := h.room
    · exact .inl hm
    · right
      unfold Trail.held at hm ⊢
      rw [h.next, h.oldest]
      unfold word32
      bv_omega
  refine ⟨?_, h'.oldest.trans h.oldest, ?_, fun a ha => ?_, h'.wf⟩
  · rw [h'.next, h.next, hword]
  · obtain hm | hm := hheld
    · subst hm
      have hsame : t.trail.held = s.trail.held := by
        unfold Trail.held
        rw [h.next, h.oldest]
        simp [word32]
      rw [← hsame, Nat.zero_add]
      exact h'.room
    · have := h.room
      have := h'.room
      omega
  · rw [h'.read a fun j hj => ?_, h.read a fun j hj => ha j (by omega)]
    rw [h.next, hword]
    exact ha (m + j) (by omega)

theorem logged_wrote (es : List Event) : ∀ {s : State}, s.mem.wf = true → ∃ n : Nat, Wrote n s (s.logged es) := by
  induction es with
  | nil => exact fun h => ⟨0, .none h⟩
  | cons e es ih =>
    intro s h
    obtain ⟨m, -, hm⟩ := writeEvent_wrote e h
    obtain ⟨n, hn⟩ := ih hm.wf
    exact ⟨m + n, hm.trans hn⟩

/-- The records written are those between the sequence numbers before and after. -/
theorem Wrote.count {n : Nat} {s t : State} (h : Wrote n s t) : (t.trail.next - s.trail.next).toNat = n := by
  have hn : n ≤ 128 := by
    obtain hn | hn := h.room <;> omega
  rw [h.next]
  unfold word32
  bv_omega

/-! ## The end of a step -/

theorem settle_logs (v : State) : ∃ es : List Event, v.settle.mem = (v.logged es).mem ∧ v.settle.trail = (v.logged es).trail := by
  obtain ⟨l, -, -, -, hmem, htrail, -⟩ := (settle_settles_each v).trail
  obtain ⟨hmem', htrail', -⟩ := logged_congr l { v with raised := [] } v rfl rfl rfl rfl
  exact ⟨l, hmem.trans hmem', htrail.trans htrail'⟩

theorem settle_wrote {v : State} (h : v.mem.wf = true) : ∃ n : Nat, Wrote n v v.settle := by
  obtain ⟨es, hmem, htrail⟩ := settle_logs v
  obtain ⟨n, hn⟩ := logged_wrote es h
  refine ⟨n, ?_, ?_, hn.room, ?_, ?_⟩
  · rw [htrail, hn.next]
  · rw [htrail, hn.oldest]
  · rw [hmem]
    exact hn.read
  · rw [hmem]
    exact hn.wf

theorem settle_trailSound {v : State} (hwf : v.mem.wf = true) (h : v.trailSound) : v.settle.trailSound := by
  obtain ⟨es, hmem, htrail⟩ := settle_logs v
  exact trailSound_congr (fun a _ _ => by rw [hmem]) htrail (logged_trailSound es hwf h)

/-- Outside the trail the end of a step leaves memory as it was (R170). -/
theorem settle_read {v : State} (h : v.mem.wf = true) {a : Nat} (ha : a < 0x2000 ∨ 0x2800 ≤ a) : v.settle.mem.read a = v.mem.read a := by
  obtain ⟨n, hn⟩ := settle_wrote h
  refine hn.read a fun j _ hin => ?_
  have := trailAddress_range (v.trail.next + word32 j)
  omega

theorem settle_mem_wf {v : State} (h : v.mem.wf = true) : v.settle.mem.wf = true := by
  obtain ⟨n, hn⟩ := settle_wrote h
  exact hn.wf

end Sys2Proof.Machine

/-!
O53 and O54: MEM_WRITE and the resets; O51, O53 and O54.
-/

namespace Sys2Proof.Machine

/-! ## The commit of a memory write -/

/-- An operation that writes no slot state byte and moves no slot. -/
theorem SlotsHeld.unmoved {l : List Nat} {s t : State} (h : SlotsHeld l s) (hwf : t.mem.wf = true)
    (hstate : ∀ k : Nat, k < 16 → t.mem.read (slotBase k) = s.mem.read (slotBase k)) (hreq : t.req = s.req)
    (hby : t.bypass = s.bypass) (hcensus : t.census = s.census) (hdoor : t.door = s.door) : SlotsHeld l t := by
  refine h.of_states hwf hstate (by rw [hreq]) ?_
  rw [holders_congr hreq (by rw [hby]) (by rw [hcensus]) (by rw [hdoor])]

theorem slotBase_low {k : Nat} (hk : k < 16) : slotBase k < 0x0500 := by
  unfold slotBase
  omega

/-- What a MEM_WRITE leaves in agreement at each of its cells. -/
structure WriteKeeps (K : State → Prop) : Prop where
  port : ∀ (s : State) (p : Port), K s → K { s with port := p }
  judge : ∀ (s : State) (a : Nat) (b : Byte), K s → K (s.judge a b)
  guard : ∀ (s : State) (k : Nat) (b : Byte), k < 16 → K s → K (s.guardSlot k b)
  release : ∀ (s : State) (seq : Word32), K s → K (s.releaseTrail seq)

theorem WriteKeeps.commitWrite {K : State → Prop} (hK : WriteKeeps K) (s : State) (addr : Word16) (data : List Byte) (h : K s) :
    K (s.commitWrite addr data) := by
  have hnoted : K (s.clearEchoed.noteLength data) := by
    unfold State.noteLength
    exact iteClosed (hK.port _ _ (hK.port s _ h)) (hK.port s _ h)
  have hhand (u : State) (a : Nat) (b : Byte) (hu : K u) : K (u.handOn a b) := by
    unfold State.handOn
    split
    next k off harea => exact iteClosed (hK.guard u k b (areaOf_slot harea).1 hu) hu
    · exact hu
  have hfold {f : State → Nat × Byte → State} (hf : ∀ u c, K u → K (f u c)) (cells : List (Nat × Byte)) (u : State) (hu : K u) :
      K (cells.foldl f u) := by
    induction cells generalizing u with
    | nil => exact hu
    | cons c cells ih => exact ih _ (hf u c hu)
  have hwrote := hfold (fun u c hu => hhand u c.1 c.2 hu) (gather addr data) _
    (hfold (fun u c hu => hK.judge u c.1 c.2 hu) (gather addr data) _ hnoted)
  unfold State.commitWrite
  simp only
  exact iteClosed hwrote (hK.release _ _ hwrote)

theorem WriteKeeps.transact {K : State → Prop} (hK : WriteKeeps K) (s : State) (bytesIn : List Byte) (held : Option Nat)
    {effect : State → State} (he : ∀ u, K u → K (effect u)) (h : K s) : K (s.transact bytesIn held effect) := by
  unfold State.transact
  simp only
  exact iteClosed (iteClosed (hK.port s _ h) (he _ (hK.port s _ h))) h

/-! ## The slots under a MEM_WRITE -/

theorem slotsHeld_guardSlot {s : State} {k : Nat} (b : Byte) (hk : k < 16) (h : SlotsHeld [] s) : SlotsHeld [] (s.guardSlot k b) := by
  have hread (v : Byte) (j : Nat) : (s.setSlotState k v).slotState j = if j = k then v else s.slotState j := by
    unfold State.slotState
    rw [setSlotState_mem, Memory.read_write _ _ _ _ h.wf]
    unfold slotBase
    by_cases hj : j = k
    · rw [if_pos (by omega), if_pos hj]
    · rw [if_neg (by omega), if_neg hj]
  have hwf (v : Byte) : (s.setSlotState k v).mem.wf = true := setSlotState_wf s k v h.wf
  have hfree {v : Byte} (hv : s.slotState k = v) (hv1 : v ≠ 1) : k ∉ s.req.queue := fun hq =>
    hv1 (hv ▸ (h.posted k hk).mpr hq)
  have hnot {v : Byte} (hv : s.slotState k = v) (hv2 : v ≠ 2) : k ∉ s.holders ++ [] := fun hm => hv2 (hv ▸ (h.taken k hk).mpr hm)
  have htaken {v w : Byte} (hv : s.slotState k = v) (hv2 : v ≠ 2) (hw : w ≠ 2) (j : Nat) (hj : j < 16) :
      (if j = k then w else s.slotState j) = 2 ↔ j ∈ s.holders ++ [] := by
    split
    next hjk => exact iff_of_false hw (hjk ▸ hnot hv hv2)
    next => exact h.taken j hj
  have hknown {w : Byte} (hw : w.toNat ≤ 3) (j : Nat) (hj : j < 16) : (if j = k then w else s.slotState j).toNat ≤ 3 := by
    split
    exacts [hw, h.known j hj]
  dsimp only [State.guardSlot]
  split
  · exact h
  split
  next h2 =>
    obtain ⟨hheld, rfl⟩ := h2
    have hkq := hfree hheld (by decide)
    refine ⟨hwf _, ?_, h.heldOnce, fun j hj => ?_, h.heldRange, fun j hj => ?_, fun j hj => ?_, fun j hj => ?_⟩
    · exact (List.perm_append_singleton k _).nodup_iff.mpr (List.nodup_cons.mpr ⟨hkq, h.queueOnce⟩)
    · obtain hj | hj := List.mem_append.mp hj
      exacts [h.queueRange j hj, by rw [List.mem_singleton.mp hj]; exact hk]
    · show ((s.setSlotState k slotPosted).slotState j).toNat ≤ 3
      rw [hread]
      exact hknown (by decide) j hj
    · show (s.setSlotState k slotPosted).slotState j = 1 ↔ j ∈ s.req.queue ++ [k]
      rw [hread, List.mem_append, List.mem_singleton]
      split
      next hjk => exact iff_of_true rfl (.inr hjk)
      next hjk => rw [h.posted j hj, or_iff_left hjk]
    · show (s.setSlotState k slotPosted).slotState j = 2 ↔ j ∈ s.holders ++ []
      rw [hread]
      exact htaken hheld (by decide) (by decide) j hj
  split
  next h3 =>
    obtain ⟨hheld, rfl⟩ := h3
    refine ⟨hwf _, h.queueOnce.filter _, h.heldOnce, fun j hj => h.queueRange j (List.mem_of_mem_filter hj), h.heldRange,
      fun j hj => ?_, fun j hj => ?_, fun j hj => ?_⟩
    · show ((s.setSlotState k slotFree).slotState j).toNat ≤ 3
      rw [hread]
      exact hknown (by decide) j hj
    · show (s.setSlotState k slotFree).slotState j = 1 ↔ j ∈ s.req.queue.filter fun i => i != k
      rw [hread, List.mem_filter, bne_iff_ne]
      split
      next hjk => exact iff_of_false (by decide) fun hm => hm.2 hjk
      next hjk => rw [h.posted j hj, and_iff_left hjk]
    · show (s.setSlotState k slotFree).slotState j = 2 ↔ j ∈ s.holders ++ []
      rw [hread]
      exact htaken hheld (by decide) (by decide) j hj
  split
  next h4 =>
    obtain ⟨hheld, rfl⟩ := h4
    have hkq := hfree hheld (by decide)
    refine ⟨hwf _, h.queueOnce, h.heldOnce, h.queueRange, h.heldRange, fun j hj => ?_, fun j hj => ?_, fun j hj => ?_⟩
    · rw [hread]
      exact hknown (by decide) j hj
    · rw [hread]
      split
      next hjk => exact iff_of_false (by decide) (hjk ▸ hkq)
      next hjk => exact h.posted j hj
    · rw [hread]
      exact htaken hheld (by decide) (by decide) j hj
  · exact h.unmoved h.wf (fun _ _ => rfl) rfl rfl rfl rfl

theorem slotsHeld_writeEvent {s : State} (e : Event) (h : SlotsHeld [] s) : SlotsHeld [] (s.writeEvent e) := by
  refine h.unmoved (writeEvent_wf s e h.wf) (fun k hk => ?_) (writeEvent_req s e) ?_ ?_ ?_
  · rw [writeEvent_read s e h.wf, if_neg fun hc => ?_]
    have := trailAddress_range s.trail.next
    have := slotBase_low hk
    omega
  all_goals
    unfold State.writeEvent
    split <;> rfl

theorem writeKeeps_slotsHeld : WriteKeeps (SlotsHeld []) where
  port s p h := h.unmoved h.wf (fun _ _ => rfl) rfl rfl rfl rfl
  judge s a b h := by
    by_cases hstores : s.stores a
    · rw [judge_stores s b hstores]
      refine h.unmoved (Memory.wf_write _ _ _ h.wf) (fun k hk => ?_) rfl rfl rfl rfl
      refine (Memory.read_write _ _ _ _ h.wf).trans (if_neg fun hc => ?_)
      exact not_stores_slotBase s hk (hc ▸ hstores)
    · by_cases hdrops : s.drops a
      · rw [judge_drops s b hdrops]
        exact h.unmoved h.wf (fun _ _ => rfl) rfl rfl rfl rfl
      · rwa [judge_passes s b hstores hdrops]
  guard s k b hk h := slotsHeld_guardSlot b hk h
  release s seq h := by
    have hold (t : Trail) (u : State) (hu : SlotsHeld [] u) : SlotsHeld [] { u with trail := t } :=
      hu.unmoved hu.wf (fun _ _ => rfl) rfl rfl rfl rfl
    unfold State.releaseTrail State.writeGap
    exact iteClosed (iteClosed (hold _ _ (slotsHeld_writeEvent _ (hold _ _ h))) (hold _ _ h))
      (h.unmoved h.wf (fun _ _ => rfl) rfl rfl rfl rfl)

/-! ## The trail under a MEM_WRITE -/

/-- A canonical memory with a trail in order. -/
def TrailKept (s : State) : Prop := s.mem.wf = true ∧ s.trailSound

theorem trailKept_stored {s : State} (a : Nat) (b : Byte) (ha : ¬(0x2000 ≤ a ∧ a < 0x2800)) (h : TrailKept s) :
    TrailKept { s with mem := s.mem.write a b } := by
  refine ⟨Memory.wf_write _ _ _ h.1, trailSound_congr (s := s) (fun c hc hc' => ?_) rfl h.2⟩
  exact (Memory.read_write _ _ _ _ h.1).trans (if_neg fun he => ha ⟨by omega, by omega⟩)

/-- A release of `d` records leaves the others held (R171). -/
theorem release_held {t : Trail} {seq : Word32} (hin : (seq - (t.oldest - 1)).toNat ≤ t.held) :
    ({ t with oldest := seq + 1 } : Trail).held + (seq - (t.oldest - 1)).toNat = t.held := by
  have hseq : seq + 1 = t.oldest + (seq - (t.oldest - 1)) := by ring
  unfold Trail.held at hin ⊢
  simp only [hseq]
  generalize seq - (t.oldest - 1) = d at hin ⊢
  have hsub : t.next - (t.oldest + d) = t.next - t.oldest - d := by ring
  rw [hsub, BitVec.toNat_sub_of_le hin]
  omega

/-- A release keeps the records still held in their places (R171). -/
theorem released_trailSound {s : State} {seq : Word32} (h : s.trailSound) (hin : (seq - (s.trail.oldest - 1)).toNat ≤ s.trail.held) :
    let t := { s with trail := { s.trail with oldest := seq + 1 } }
    t.trail.held ≤ 128 ∧ t.trail.gap ≤ 65535 ∧ ∀ i : Nat, i < t.trail.held →
      t.mem.readList (trailAddress (t.trail.oldest + word32 i)) 4 = le32 (t.trail.oldest + word32 i) := by
  obtain ⟨hheld, hgap, -, hrec⟩ := h
  have hsplit := release_held hin
  refine ⟨(Nat.le.intro hsplit).trans hheld, hgap, fun i hi => ?_⟩
  have hseq : seq + 1 + word32 i = s.trail.oldest + word32 ((seq - (s.trail.oldest - 1)).toNat + i) := by
    unfold word32
    rw [BitVec.ofNat_add, BitVec.ofNat_toNat, BitVec.setWidth_eq]
    ring
  show Memory.readList s.mem (trailAddress (seq + 1 + word32 i)) 4 = le32 (seq + 1 + word32 i)
  rw [hseq]
  refine hrec _ ?_
  rw [Nat.add_comm]
  exact (Nat.add_lt_add_right hi _).trans_eq hsplit

theorem writeKeeps_trailKept : WriteKeeps TrailKept where
  port s p h := h
  judge s a b h := by
    by_cases hstores : s.stores a
    · rw [judge_stores s b hstores]
      refine trailKept_stored a b (fun ha => ?_) h
      unfold State.stores at hstores
      rw [areaOf_trail ha.1 ha.2] at hstores
      exact hstores
    · by_cases hdrops : s.drops a
      · rw [judge_drops s b hdrops]
        exact h
      · rwa [judge_passes s b hstores hdrops]
  guard s k b hk h := by
    have hset (v : Byte) : TrailKept (s.setSlotState k v) := trailKept_stored _ v (fun ha => by have := slotBase_low hk; omega) h
    unfold State.guardSlot
    simp only
    exact iteClosed h (iteClosed (hset _) (iteClosed (hset _) (iteClosed (hset _) h)))
  release s seq h := by
    obtain ⟨hwf, hs⟩ := h
    unfold State.releaseTrail
    split
    next hin =>
      obtain ⟨hheld, hgap, hrec⟩ := released_trailSound hs hin
      unfold State.writeGap
      split
      next hc =>
        have hroom : TrailKept ({ s with trail := { s.trail with oldest := seq + 1, gap := 0 } } : State) :=
          ⟨hwf, hheld, Nat.zero_le _, fun h0 => absurd h0 (lt_irrefl 0), hrec⟩
        generalize he : (Event.mk _ _ _ _ _ : Event) = e
        have hgone := writeEvent_trailSound e hroom.1 hroom.2
        have hsame : ({ State.writeEvent { s with trail := { s.trail with oldest := seq + 1 } } e with
            trail := { (State.writeEvent { s with trail := { s.trail with oldest := seq + 1 } } e).trail with gap := 0 } } : State) =
            State.writeEvent { s with trail := { s.trail with oldest := seq + 1, gap := 0 } } e := by
          rw [writeEvent_room e (by exact hc.1), writeEvent_room e (by exact hc.1)]
        rw [hsame]
        exact ⟨writeEvent_wf _ e hwf, hgone⟩
      next hc =>
        refine ⟨hwf, hheld, hgap, fun hg => ?_, hrec⟩
        by_contra hne
        exact hc ⟨by omega, hg⟩
    · exact ⟨hwf, hs⟩

end Sys2Proof.Machine

/-!
O51, O53 and O54.
-/

namespace Sys2Proof.Machine

theorem writeKeeps_memWrite {K : State → Prop} (hK : WriteKeeps K) {s t : State} {dt : Nat} {addr : Word16} {data : Sent (List Byte)}
    (hc : exec (.memWrite dt addr data) s = .next t) (h : K (s.advance dt)) : ∃ u : State, t = u.settle ∧ K u := by
  obtain rfl : s.run dt _ = t := Host.Outcome.next.inj hc
  exact ⟨_, by rw [State.run], hK.transact _ _ _ (fun u hu => hK.commitWrite u addr data.whole hu) h⟩

/-! ## Resets -/

/-- A state with the reset values of the blocks, whatever its memory (R162). -/
def ResetBlocks (s : State) : Prop :=
  s.req = State.reset.req ∧ s.bypass = State.reset.bypass ∧ s.census = Census.reset ∧ s.door = Door.reset ∧ s.trail = State.reset.trail ∧
    s.mem.wf = true ∧ ∀ a : Nat, a < 0x4000 → s.mem.read a = 0

theorem ResetBlocks.slotsSound {s : State} (h : ResetBlocks s) : s.slotsSound := by
  obtain ⟨hreq, hby, hcensus, hdoor, -, hwf, hread⟩ := h
  have hstate (k : Nat) (hk : k < 16) : s.slotState k = 0 := hread _ (by have := slotBase_low hk; omega)
  have hholders : s.holders = [] := by
    unfold State.holders
    rw [hreq, hby, hcensus, hdoor]
    rfl
  unfold State.slotsSound
  rw [hholders, hreq, hby, hcensus]
  refine ⟨hwf, by decide, by decide, by decide, by decide, fun k hk => ?_, by decide, by decide, by decide⟩
  rw [hstate k hk]
  exact ⟨by decide, iff_of_false (by decide) (by simp [State.reset]), iff_of_false (by decide) (by simp)⟩

theorem ResetBlocks.trailSound {s : State} (h : ResetBlocks s) : s.trailSound := by
  obtain ⟨-, -, -, -, htrail, -, -⟩ := h
  unfold State.trailSound
  rw [htrail]
  exact ⟨by decide, by decide, by decide, fun i hi => absurd hi (by simp [Trail.held, State.reset])⟩

theorem Memory.wf_filter (p : Host.Cell → Bool) : ∀ m : Memory, m.wf = true → Memory.wf (m.filter p) = true
  | [], _ => rfl
  | (k, v) :: m, h => by
    obtain ⟨hv, hk, hm⟩ := Memory.wf_cons.mp h
    rw [List.filter_cons]
    split
    · exact Memory.wf_cons.mpr ⟨hv, fun c hc => hk c (List.mem_of_mem_filter hc), Memory.wf_filter p m hm⟩
    · exact Memory.wf_filter p m hm

theorem resetBlocks_hardReset (s : State) : ResetBlocks s.hardReset :=
  ⟨rfl, rfl, rfl, rfl, rfl, rfl, fun _ _ => rfl⟩

theorem resetBlocks_portReset {s : State} (h : s.mem.wf = true) : ResetBlocks s.portReset :=
  ⟨rfl, rfl, rfl, rfl, rfl, Memory.wf_filter _ _ h, fun a ha => (read_filter_scratch s.mem a).trans (if_neg (by omega))⟩

/-- A property of memory and blocks that a RESET_WORD command keeps, being kept by the port and true after a reset. -/
theorem exec_resetWord {K : State → Prop} (hwf : ∀ u, K u → u.mem.wf = true) (hport : ∀ (u : State) (p : Port), K u → K { u with port := p })
    (hreset : ∀ u, ResetBlocks u → K u) {s t : State} {dt : Nat} {data : Sent (List Byte)}
    (hc : exec (.resetWord dt data) s = .next t) (h : K (s.advance dt)) : ∃ u : State, t = u.settle ∧ K u := by
  obtain rfl : s.run dt _ = t := Host.Outcome.next.inj hc
  refine ⟨_, by rw [State.run], ?_⟩
  have hcommit (u : State) (hu : K u) : K (u.commitRegister data.whole (State.writeResetWord data.whole)) := by
    have hnoted : K (u.clearEchoed.noteLength data.whole) := by
      unfold State.noteLength
      exact iteClosed (hport _ _ (hport u _ hu)) (hport u _ hu)
    unfold State.commitRegister State.writeResetWord
    exact iteClosed (hreset _ (resetBlocks_portReset (hwf _ hnoted))) hnoted
  unfold State.transact
  simp only
  exact iteClosed (iteClosed (hport _ _ h) (hcommit _ (hport _ _ h))) h

/-! ## The slots -/

theorem settle_slotsHeld {v : State} (h : SlotsHeld [] v) : SlotsHeld [] v.settle := by
  refine h.of_states (settle_mem_wf h.wf) (fun k hk => settle_read h.wf ?_) (by rw [settle_req]) ?_
  · have := slotBase_low hk
    omega
  · rw [holders_congr (settle_req v) (by rw [settle_bypass]) (by rw [settle_census]) (by rw [settle_door])]

theorem settle_slotOwners {v : State} (h : v.slotOwners) : v.settle.slotOwners := by
  unfold State.slotOwners
  rw [settle_census, settle_bypass]
  exact h

theorem settle_slotsSound {v : State} (h : v.slotsSound) : v.settle.slotsSound := by
  obtain ⟨hheld, howners⟩ := (slotsSound_iff v).mp h
  exact (slotsSound_iff _).mpr ⟨settle_slotsHeld hheld, settle_slotOwners howners⟩

theorem exec_slotsSound {c : Instr} {s t : State} (hc : exec c s = .next t) (h : s.slotsSound) : t.slotsSound := by
  obtain ⟨hheld, howners⟩ := (slotsSound_iff s).mp h
  cases hp : fromPort c
  · obtain ⟨u, ht, hu, -⟩ := slotsAt_exec hc hp h
    exact (slotsSound_iff _).mpr ⟨ht ▸ settle_slotsHeld hu, exec_slotOwners hc (by cases c <;> simp_all [fromPort, mayReset]) howners⟩
  · cases c
    case powerOn | resetn =>
      obtain rfl : s.hardReset = t := Host.Outcome.next.inj hc
      exact (resetBlocks_hardReset s).slotsSound
    case resetWord =>
      obtain ⟨u, ht, hu⟩ := exec_resetWord (K := State.slotsSound) (fun u hu => ((slotsSound_iff u).mp hu).1.wf) (fun _ _ hu => hu)
        (fun _ => ResetBlocks.slotsSound) hc h
      rw [ht]
      exact settle_slotsSound hu
    case memWrite =>
      obtain ⟨u, ht, hu⟩ := writeKeeps_memWrite writeKeeps_slotsHeld hc (hheld.unmoved hheld.wf (fun _ _ => rfl) rfl rfl rfl rfl)
      exact (slotsSound_iff _).mpr ⟨ht ▸ settle_slotsHeld hu, exec_slotOwners hc rfl howners⟩
    all_goals exact absurd hp (by simp [fromPort])

/-- Settles O53: slots move from the post queue to one holder after another until they are answered (R166 to R168). -/
theorem slotsStaySound : Obligations.SlotsStaySound := by
  unfold Obligations.SlotsStaySound
  intro s t hs h
  obtain ⟨-, rfl⟩ | ⟨c, rest, -, hc⟩ := step_cases h
  · exact hs
  · exact exec_slotsSound hc hs

/-! ## The trail -/

theorem exec_trailSound {c : Instr} {s t : State} (hc : exec c s = .next t) (hslots : s.slotsSound) (h : s.trailSound) : t.trailSound := by
  have hwf := ((slotsSound_iff s).mp hslots).1.wf
  cases hp : fromPort c
  · obtain ⟨u, ht, hu, hkept⟩ := slotsAt_exec hc hp hslots
    rw [ht]
    exact settle_trailSound hu.wf (trailSound_congr (fun a _ _ => hkept.outside a (by omega)) hkept.trail h)
  · cases c
    case powerOn | resetn =>
      obtain rfl : s.hardReset = t := Host.Outcome.next.inj hc
      exact (resetBlocks_hardReset s).trailSound
    case resetWord =>
      obtain ⟨u, ht, hu⟩ := exec_resetWord (K := TrailKept) (fun u hu => hu.1) (fun _ _ hu => hu)
        (fun u hu => ⟨hu.2.2.2.2.2.1, hu.trailSound⟩) hc ⟨hwf, h⟩
      rw [ht]
      exact settle_trailSound hu.1 hu.2
    case memWrite =>
      obtain ⟨u, ht, hu⟩ := writeKeeps_memWrite writeKeeps_trailKept hc (by exact ⟨hwf, h⟩)
      rw [ht]
      exact settle_trailSound hu.1 hu.2
    all_goals exact absurd hp (by simp [fromPort])

/-- Settles O54: the trail writer fills the ring in order, and a release frees its oldest records (R170, R171). -/
theorem trailStaysSound : Obligations.TrailStaysSound := by
  unfold Obligations.TrailStaysSound
  intro s t hslots hs h
  obtain ⟨-, rfl⟩ | ⟨c, rest, -, hc⟩ := step_cases h
  · exact hs
  · exact exec_trailSound hc hslots hs

/-- Settles O51: before its events are written a command changes memory in held slots only, and then only trail records. -/
theorem memoryChangesOnlyInSlotsAndTrail : Obligations.MemoryChangesOnlyInSlotsAndTrail := by
  unfold Obligations.MemoryChangesOnlyInSlotsAndTrail
  intro c s t hs hp hc
  obtain ⟨u, ht, hu, hkept⟩ := slotsAt_exec hc hp hs
  obtain ⟨n, hn⟩ := settle_wrote hu.wf
  rw [ht]
  refine ⟨fun a ha => ?_, fun k off hk hoff hcase => ?_, fun a ha ha' hrec => ?_, hn.wf⟩
  · rw [settle_read hu.wf (by omega), hkept.outside a (by omega)]
  · rw [settle_read hu.wf (by unfold slotBase; omega), hkept.slots k off hk hoff hcase]
  · rw [← hkept.trail, hn.count] at hrec
    rw [hn.read a hrec, hkept.outside a (by omega)]

end Sys2Proof.Machine

/-!
O58: what the waves, the heating share unit and the lead's orders leave of the consist.
-/

namespace Sys2Proof.Machine

/-- The consist as the census engine made it: part state, settings, the engine, the cars of the table and the own position, whether
the allocation timer runs, the end-car status; the relay is filled at a member in VALID or STALE only (R74, R81, R84, R129). -/
structure SameConsist (s t : State) : Prop where
  running : t.port.running = s.port.running
  settings : t.settings = s.settings
  census : t.census = s.census
  own : t.table.own = s.table.own
  cars : t.table.records.map (fun r => r.car) = s.table.records.map (fun r => r.car)
  alloc : t.heat.allocEnd.isSome = s.heat.allocEnd.isSome
  endCar : t.relay.endCar = s.relay.endCar
  relay : (s.census.role = .member ∧ s.census.state.listed = true) ∨ (s.relay = Relay.empty → t.relay = Relay.empty)

/-- The parts that the consist is not in. -/
def besidesConsist : List Part :=
  [.now, .clock, .choices, .pending, .mem, .pub, .trail, .req, .slotTally, .faultTally, .bypass, .spanA, .spanB, .side1, .side2,
    .doorLead, .summary, .fire, .mon]

theorem SameConsist.refl (s : State) : SameConsist s s := ⟨rfl, rfl, rfl, rfl, rfl, rfl, rfl, .inr id⟩

theorem SameConsist.trans {s t u : State} (h : SameConsist s t) (h' : SameConsist t u) : SameConsist s u := by
  refine ⟨h'.running.trans h.running, h'.settings.trans h.settings, h'.census.trans h.census, h'.own.trans h.own, h'.cars.trans h.cars,
    h'.alloc.trans h.alloc, h'.endCar.trans h.endCar, ?_⟩
  obtain hl | hr := h.relay
  · exact .inl hl
  obtain hl | hr' := h'.relay
  · exact .inl (by rwa [h.census] at hl)
  · exact .inr fun h0 => hr' (hr h0)

/-- The last step first: the state between is read off the end. -/
theorem SameConsist.after {s t u : State} (h' : SameConsist t u) (h : SameConsist s t) : SameConsist s u := h.trans h'

theorem sameConsist_of_touches {s t : State} (h : Touches besidesConsist s t) : SameConsist s t := by
  have hk (p : Part) (hp : p ∉ besidesConsist) : p.kept s t := (h p hp).1
  have hport : t.port = s.port := hk .port (by simp [besidesConsist])
  have hsettings : t.settings = s.settings := hk .settings (by simp [besidesConsist])
  have hcensus : t.census = s.census := hk .census (by simp [besidesConsist])
  have htable : t.table = s.table := hk .table (by simp [besidesConsist])
  have hheat : t.heat = s.heat := hk .heat (by simp [besidesConsist])
  have hrelay : t.relay = s.relay := hk .relay (by simp [besidesConsist])
  exact ⟨by rw [hport], hsettings, hcensus, by rw [htable], by rw [htable], by rw [hheat], by rw [hrelay], .inr (by rw [hrelay]; exact id)⟩

theorem frameRel_sameConsist : FrameRel besidesConsist SameConsist := ⟨sameConsist_of_touches, SameConsist.trans⟩

theorem links_besidesConsist : [.choices, .spanA, .spanB] ⊆ besidesConsist := by simp [besidesConsist]

theorem length_eq_of_cars {l m : List ImageRecord} (h : l.map (fun r => r.car) = m.map (fun r => r.car)) : l.length = m.length := by
  simpa using congrArg List.length h

/-! ## The image's demands, grants and proving codes -/

theorem cars_writeDemands (es : List (Nat × Nat)) (rs : List ImageRecord) :
    (writeDemands rs es).map (fun r => r.car) = rs.map (fun r => r.car) := by
  unfold writeDemands
  induction es generalizing rs with
  | nil => rfl
  | cons e es ih =>
    rw [List.foldl_cons, ih]
    split
    · rfl
    · refine List.ext_getElem? fun i => ?_
      simp only [List.getElem?_map, List.getElem?_modify]
      cases rs[i]? with
      | none => rfl
      | some r =>
        simp only [Option.map_some]
        split <;> rfl

theorem cars_writeGrants (a : Word16) : ∀ (rs : List ImageRecord) (gs : List Nat),
    (writeGrants a rs gs).map (fun r => r.car) = rs.map (fun r => r.car)
  | [], _ => rfl
  | r :: rs, gs => by
    unfold writeGrants
    rw [List.map_cons, List.map_cons, cars_writeGrants a rs gs.tail]

theorem cars_writeProving (r : HeldRoll) (b : Bool) : ∀ (p : Nat) (rs : List ImageRecord),
    (writeProving r b p rs).map (fun r => r.car) = rs.map (fun r => r.car)
  | _, [] => rfl
  | p, x :: rs => by
    unfold writeProving
    rw [List.map_cons, List.map_cons, cars_writeProving r b (p + 1) rs]

section
variable (s : State)

theorem sameConsist_records (rs : List ImageRecord) (h : rs.map (fun r => r.car) = s.table.records.map (fun r => r.car)) :
    SameConsist s (s.setRecords rs) := ⟨rfl, rfl, rfl, rfl, h, rfl, rfl, .inr id⟩

theorem sameConsist_heat (v : Heat) (h : v.allocEnd.isSome = s.heat.allocEnd.isSome) : SameConsist s { s with heat := v } :=
  ⟨rfl, rfl, rfl, rfl, rfl, h, rfl, .inr id⟩

/-- A change of the relay at a car whose relay is filled, or may be. -/
theorem sameConsist_relay (v : Relay) (hend : v.endCar = s.relay.endCar)
    (hfilled : (s.census.role = .member ∧ s.census.state.listed = true) ∨ s.relay ≠ Relay.empty) : SameConsist s { s with relay := v } :=
  ⟨rfl, rfl, rfl, rfl, rfl, rfl, hend, hfilled.imp_right fun h h0 => absurd h0 h⟩

theorem sameConsist_door (v : Door) : SameConsist s { s with door := v } := ⟨rfl, rfl, rfl, rfl, rfl, rfl, rfl, .inr id⟩

theorem sameConsist_publishImage : SameConsist s s.publishImage :=
  frameRel_sameConsist.frame ((touches_publishImage (by simp [besidesConsist])).mpr (Touches.refl _ s))

theorem sameConsist_noteDemands (es : List (Nat × Nat)) : SameConsist s (s.noteDemands es) := by
  unfold State.noteDemands
  exact ((sameConsist_publishImage s).trans (sameConsist_records _ _ (cars_writeDemands _ _))).trans (sameConsist_publishImage _)

theorem sameConsist_send (x : SpanId) (f : Frame) : SameConsist s (s.send x f) := frameRel_sameConsist.send links_besidesConsist s x f

theorem sameConsist_sendIf (x : Option SpanId) (f : Frame) : SameConsist s (s.sendIf x f) :=
  frameRel_sameConsist.sendIf links_besidesConsist s x f

theorem sameConsist_raise (g : Nat) (e : Event) : SameConsist s (s.raise g e) := frameRel_sameConsist.raise links_besidesConsist s g e

theorem sameConsist_setCap (new : CapState) (cause : CapCause) : SameConsist s (s.setCap new cause) := by
  unfold State.setCap
  simp only
  split
  exacts [sameConsist_heat s _ rfl, .after (sameConsist_raise _ _ _) (sameConsist_heat s _ rfl)]

theorem sameConsist_generationChanged : SameConsist s s.generationChanged := by
  unfold State.generationChanged
  split
  case h_1 => exact sameConsist_setCap s _ _
  all_goals exact .refl s

theorem sameConsist_takeGrant (value : Nat) (gen alloc : Word16) : SameConsist s (s.takeGrant value gen alloc) := by
  have h1 (v : Heat) (hv : v.allocEnd = s.heat.allocEnd) : SameConsist s { s with heat := v } := sameConsist_heat s v (by rw [hv])
  unfold State.takeGrant
  simp only
  split
  exacts [h1 _ rfl, h1 _ rfl, h1 _ rfl, .after (sameConsist_setCap _ _ _) (h1 _ rfl)]

theorem sameConsist_allocate : SameConsist s s.allocate := by
  unfold State.allocate
  simp only
  have h2 (n : Word16) : SameConsist s { s.publishImage with heat := { s.publishImage.heat with allocNumber := n } } :=
    .after (sameConsist_heat _ _ rfl) (sameConsist_publishImage s)
  refine FrameRel.branch (fun _ => .after (sameConsist_send _ _ _) ?_) fun _ => ?_
  all_goals
    refine .after (sameConsist_heat _ _ rfl) (.after (sameConsist_records _ _ (cars_writeGrants _ _ _)) ?_)
    exact .after (sameConsist_takeGrant _ _ _ _) (h2 _)

/-! ## The relay -/

theorem sameConsist_originate (k : RollKind) : SameConsist s (s.originate k) := by
  cases k
  exacts [sameConsist_sendIf s _ _, (sameConsist_noteDemands s _).trans (sameConsist_sendIf _ _ _)]

theorem sameConsist_sendAck (m : OrderAck) (gen : Word16) : SameConsist s (s.sendAck m gen) := sameConsist_sendIf s _ _

theorem relay_ne_empty_of_openOrder {o : OpenOrder} (h : s.relay.openOrder = some o) : s.relay ≠ Relay.empty := fun he => by
  rw [he] at h
  exact absurd h (by simp [Relay.empty])

theorem sameConsist_endOpenOrder (why : StopReason) : SameConsist s (s.endOpenOrder why) := by
  unfold State.endOpenOrder
  split
  · exact .refl s
  next o ho => exact .after (sameConsist_sendAck _ _ _) (sameConsist_relay s _ rfl (.inr (relay_ne_empty_of_openOrder s ho)))

theorem sameConsist_forwardedLost (gen : Word16) (number : Byte) (why : StopReason) : SameConsist s (s.forwardedLost gen number why) := by
  unfold State.forwardedLost
  split
  exacts [.refl s, frameRel_sameConsist.when fun _ => sameConsist_endOpenOrder s _]

theorem sameConsist_relaySpanDown (x : SpanId) : SameConsist s (s.relaySpanDown x) :=
  frameRel_sameConsist.when fun _ => sameConsist_endOpenOrder s _

theorem sameConsist_leadOrderLost (number : Byte) (why : StopReason) : SameConsist s (s.leadOrderLost number why) :=
  frameRel_sameConsist.frame ((touches_leadOrderLost (by decide) (by decide) (by decide) (by decide) (by decide) (by decide) (by decide)
    (by decide) number why).mpr (Touches.refl _ s))

theorem sameConsist_tellLost (why : StopReason) (f : TxFrame) : SameConsist s (s.tellLost why f) := by
  unfold State.tellLost
  split
  exacts [.refl s, sameConsist_leadOrderLost s _ _, sameConsist_forwardedLost s _ _ _]

theorem sameConsist_offerOrder (x : SpanId) (f : TxFrame) : SameConsist s (s.offerOrder x f) :=
  frameRel_sameConsist.offerOrder links_besidesConsist sameConsist_tellLost s x f

theorem sameConsist_handOrder (o : Order) (gen : Word16) (applyAt : Nat) (late : Bool) (p : Nat) :
    SameConsist s (s.handOrder o gen applyAt late p).1 :=
  frameRel_sameConsist.frame ((touches_handOrder (by decide) (by decide) (by decide) (by decide) (by decide) _ _ _ _ _).mpr
    (Touches.refl _ s))

theorem sameConsist_endOutstanding (o : SlotOutcome) (d st og : Byte) : SameConsist s (s.endOutstanding o d st og) :=
  frameRel_sameConsist.frame ((touches_endOutstanding (by decide) (by decide) (by decide) (by decide) _ _ _ _).mpr (Touches.refl _ s))

/-- A wave frame taken by a member in VALID or STALE. -/
theorem sameConsist_takeOrder (x : SpanId) (f : Frame) (endAt : Nat) (hl : s.census.state.listed = true) :
    SameConsist s (s.takeOrder x f endAt) := by
  unfold State.takeOrder
  split
  case h_1 o hr _ =>
    refine FrameRel.branch (fun _ => sameConsist_send s _ _) fun _ => frameRel_sameConsist.branch_refl fun _ =>
      frameRel_sameConsist.branch_refl fun _ => ?_
    have hrelay {u : State} (hu : SameConsist s u) (v : Relay) (hv : v.endCar = u.relay.endCar) : SameConsist s { u with relay := v } :=
      hu.trans (sameConsist_relay u v hv (.inl (by rw [hu.census]; exact ⟨hr, hl⟩)))
    unfold State.memberOrder State.noteLate
    simp only
    generalize ht : (if f.late = true then (_ : State) else _) = t
    have h1 : SameConsist s t := by
      rw [← ht]
      exact FrameRel.branch (fun _ => (hrelay (.refl s) { s.relay with lastOrder := some (f.gen, o.number) } rfl).trans
        (sameConsist_raise _ _ _)) fun _ => hrelay (.refl s) _ rfl
    have h2 := h1.trans (sameConsist_handOrder t o f.gen (Machine.applyInstant f endAt) f.late s.table.own)
    generalize t.handOrder o f.gen (Machine.applyInstant f endAt) f.late s.table.own = r at h2 ⊢
    refine FrameRel.branch (fun _ => (hrelay h2 { r.1.relay with openOrder := none } rfl).trans (sameConsist_sendAck _ _ _)) fun _ => ?_
    unfold State.forwardOrder
    simp only
    split
    exacts [hrelay h2 _ rfl, .after (sameConsist_offerOrder _ _ _) (hrelay h2 _ rfl)]
  all_goals exact .refl s

theorem sameConsist_takeOrderAck (x : SpanId) (f : Frame) : SameConsist s (s.takeOrderAck x f) := by
  unfold State.takeOrderAck
  split
  · exact .refl s
  refine frameRel_sameConsist.when fun _ => ?_
  split
  · unfold State.memberOrderAck
    split
    · exact .refl s
    next o ho =>
      exact frameRel_sameConsist.when fun _ => (sameConsist_relay s { s.relay with openOrder := none } rfl
        (.inr (relay_ne_empty_of_openOrder s ho))).trans (sameConsist_sendAck _ _ _)
  · exact frameRel_sameConsist.frame ((touches_leadTakesAck (by decide) (by decide) (by decide) (by decide) _).mpr (Touches.refl _ s))

theorem sameConsist_takeGrantFrame (x : SpanId) (f : Frame) (hl : s.census.state.listed = true) : SameConsist s (s.takeGrantFrame x f) := by
  unfold State.takeGrantFrame
  split
  next m hr _ =>
    refine frameRel_sameConsist.when fun _ => ?_
    have h2 := (sameConsist_relay s { s.relay with lastGrant := some (f.gen, m.alloc) } rfl (.inl ⟨hr, hl⟩)).trans
      (sameConsist_takeGrant _ (m.grants.getD (s.table.own - 1) 0) f.gen m.alloc)
    unfold State.memberGrant
    simp only
    have h3 := h2.trans (sameConsist_records _ (writeGrants m.alloc _ m.grants) (cars_writeGrants _ _ _))
    exact FrameRel.branch (fun _ => h3) fun _ => h3.trans (sameConsist_sendIf _ _ _)
  all_goals exact .refl s

theorem sameConsist_noteRoll (k : RollKind) (hr : s.census.role = .member) (hl : s.census.state.listed = true) :
    SameConsist s (s.noteRoll k) := by
  unfold State.noteRoll
  exact sameConsist_relay s _ (by cases k <;> rfl) (.inl ⟨hr, hl⟩)

theorem sameConsist_takeDoorState (x : SpanId) (f : Frame) (hl : s.census.state.listed = true) : SameConsist s (s.takeDoorState x f) := by
  unfold State.takeDoorState
  split
  · exact .refl s
  refine frameRel_sameConsist.when fun _ => ?_
  split
  next hr => exact (sameConsist_noteRoll s _ hr hl).trans (sameConsist_sendIf _ _ _)
  · unfold State.holdRoll
    exact (sameConsist_records s _ (cars_writeProving _ _ _ _)).trans (sameConsist_door _ _)

theorem sameConsist_takeDemand (x : SpanId) (f : Frame) (hl : s.census.state.listed = true) : SameConsist s (s.takeDemand x f) := by
  unfold State.takeDemand
  split
  · exact .refl s
  refine frameRel_sameConsist.when fun _ => ?_
  split
  next hr => exact ((sameConsist_noteRoll s _ hr hl).trans (sameConsist_noteDemands _ _)).trans (sameConsist_sendIf _ _ _)
  · unfold State.leadDemand
    exact .after (sameConsist_allocate _) (.after (sameConsist_noteDemands _ _) (sameConsist_heat s _ rfl))

theorem sameConsist_setWatch (k : RollKind) (w : RollWatch)
    (hfilled : (s.census.role = .member ∧ s.census.state.listed = true) ∨ s.relay ≠ Relay.empty) : SameConsist s (s.setWatch k w) :=
  sameConsist_relay s (s.relay.setWatch k w) (by cases k <;> rfl) hfilled

theorem sameConsist_originateDue (k : RollKind) : SameConsist s (s.originateDue k) := by
  unfold State.originateDue
  simp only
  split
  next t ht =>
    refine frameRel_sameConsist.when fun _ => .after (sameConsist_originate _ k) (sameConsist_setWatch s k _ (.inr fun he => ?_))
    rw [he] at ht
    cases k <;> simp [Relay.watch, Relay.empty, RollWatch.stopped] at ht
  · exact .refl s

theorem sameConsist_substitute (k : RollKind) (w : RollWatch) (h : s.mustSubstitute k = true) :
    SameConsist s ((s.setWatch k w).originate k) := by
  simp only [State.mustSubstitute, Bool.and_eq_true, beq_iff_eq] at h
  obtain ⟨⟨⟨⟨hr, hl⟩, -⟩, -⟩, -⟩ := h
  have hset : SameConsist s (s.setWatch k w) := sameConsist_setWatch s k w (.inl ⟨hr, hl⟩)
  exact hset.trans (sameConsist_originate _ k)

end

end Sys2Proof.Machine

/-!
O58: the agreement of the engine, the image and the relay, through the operations of the census engine.
-/

namespace Sys2Proof.Machine

/-! ## The engine's record -/

/-- The engine's record agrees with itself, the settings and the part state (R42, R44, R52, R65, R66). -/
structure Census.Fits (running : Bool) (set : Settings) (c : Census) : Prop where
  before : running = false → c.role = .member ∧ c.state = .uncensused ∧ c.ctx = none
  lead : c.role = .lead → set.kind = 1 ∧ c.ctx = none ∧ c.state.takingPart = false
  member : c.role = .member → c.state.busy = false ∧ c.settleEnd = none ∧ c.retry = 0
  timer : c.timerEnd.isSome = true ↔ c.state.busy = true ∨ c.state.takingPart = true
  context : c.state.takingPart = true → c.ctx.isSome = true
  settle : c.settleEnd.isSome = true → c.state.busy = false
  retry : c.retry ≤ 3
  range : ∀ x : Context, c.ctx = some x → 2 ≤ x.position ∧ x.position ≤ 32 ∧ badIdentity x.lead = false ∧ x.lead ≠ set.identity

/-- States with no timer and no role of their own: UNCENSUSED, VALID and STALE (3.1). -/
def CensusState.atRest : CensusState → Bool
  | .uncensused | .valid | .stale => true
  | _ => false

namespace Census.Fits

variable {b : Bool} {set : Settings} {c : Census}

theorem running_of_lead (h : c.Fits b set) (hr : c.role = .lead) : b = true := by
  cases b
  · have := (h.before rfl).1
    rw [hr] at this
    cases this
  · rfl

/-- A census that is over, or was completed: the timer stops, the state is one at rest. -/
theorem rested (h : c.Fits b set) (st : CensusState) (hst : st.atRest = true) (hb : b = true ∨ st = .uncensused) :
    Census.Fits b set { c with state := st, timerEnd := none } := by
  have hbusy : st.busy = false ∧ st.takingPart = false := by cases st <;> simp_all [CensusState.atRest, CensusState.busy, CensusState.takingPart]
  obtain ⟨hbusy, htake⟩ := hbusy
  exact ⟨fun h0 => ⟨(h.before h0).1, by simp_all, (h.before h0).2.2⟩, fun hr => ⟨(h.lead hr).1, (h.lead hr).2.1, htake⟩,
    fun hr => ⟨hbusy, (h.member hr).2⟩, by simp [hbusy, htake], fun ht => absurd ht (by simp [htake]), fun _ => hbusy, h.retry, h.range⟩

/-- What no clause reads. -/
theorem congr {d : Census} (h : c.Fits b set) (hrole : d.role = c.role) (hstate : d.state = c.state) (hctx : d.ctx = c.ctx)
    (htimer : d.timerEnd = c.timerEnd) (hsettle : d.settleEnd = c.settleEnd) (hretry : d.retry = c.retry) : d.Fits b set := by
  obtain ⟨hbefore, hlead, hmember, ht, hcontext, hs, hr, hrange⟩ := h
  constructor <;> simp only [hrole, hstate, hctx, htimer, hsettle, hretry] <;> assumption

/-- The settle timer starts at a lead outside a census (R65, R66). -/
theorem settling (h : c.Fits b set) (hr : c.role = .lead) (hb : c.state.busy = false) (at_ : Nat) {n : Nat} (hn : n ≤ 3) :
    Census.Fits b set { c with settleEnd := some at_, retry := n } :=
  ⟨h.before, h.lead, fun hm => absurd (hr.symm.trans hm) (by decide), h.timer, h.context, fun _ => hb, hn, h.range⟩

/-- A census runs at a lead (R46). -/
theorem busy (h : c.Fits b set) (hr : c.role = .lead) (st : CensusState) (hst : st.busy = true) (at_ : Nat) :
    Census.Fits b set { c with state := st, timerEnd := some at_, settleEnd := none } := by
  have htake : st.takingPart = false := by cases st <;> simp_all [CensusState.busy, CensusState.takingPart]
  exact ⟨fun h0 => absurd (h.running_of_lead hr) (by simp [h0]), fun _ => ⟨(h.lead hr).1, (h.lead hr).2.1, htake⟩,
    fun hm => absurd (hr.symm.trans hm) (by decide), by simp [hst], fun ht => absurd ht (by simp [htake]), nofun, h.retry, h.range⟩

/-- A member takes part in a census (R52, R54). -/
theorem takingPart (h : c.Fits b set) (hr : c.role = .member) (hb : b = true) (st : CensusState) (hst : st.takingPart = true) (at_ : Nat)
    (hc : c.ctx.isSome = true) : Census.Fits b set { c with state := st, timerEnd := some at_ } := by
  have hbusy : st.busy = false := by cases st <;> simp_all [CensusState.busy, CensusState.takingPart]
  exact ⟨fun h0 => absurd hb (by simp [h0]), fun hl => absurd (hr.symm.trans hl) (by decide), fun _ => ⟨hbusy, (h.member hr).2⟩,
    by simp [hst], fun _ => hc, fun _ => hbusy, h.retry, h.range⟩

end Census.Fits

/-- The engine's record agrees with the rest of the state. -/
def State.Fits (s : State) : Prop := s.census.Fits s.port.running s.settings

theorem Fits.of_touches {P : List Part} {s t : State} (ht : Touches P s t) (hp : Part.port ∉ P) (hs : Part.settings ∉ P)
    (hc : t.census.Fits s.port.running s.settings) : t.Fits := by
  have hport : t.port = s.port := (ht _ hp).1
  have hset : t.settings = s.settings := (ht _ hs).1
  unfold State.Fits
  rwa [hport, hset]

theorem Fits.census {s t : State} (ht : Touches censusParts s t) (hc : t.census.Fits s.port.running s.settings) : t.Fits :=
  Fits.of_touches ht (by decide) (by decide) hc

theorem SameConsist.fits {s t : State} (h : SameConsist s t) (hs : s.Fits) : t.Fits := by
  unfold State.Fits
  rw [h.running, h.settings, h.census]
  exact hs

/-! ## The image and the relay -/

/-- The image and the relay agree with the engine's state (R55, R57, R69, R74, R81, R84, R129). -/
structure State.Holds (s : State) : Prop where
  listed : s.census.state.listed = true ∨ s.census.state = .distributing →
    s.ownRecord ∧ (s.census.role = .lead → s.table.own = 1)
  alloc : s.heat.allocEnd.isSome = true → s.census.role = .lead ∧ s.census.state.listed = true ∧ s.table.records.length = 1
  relay : s.census.role = .lead ∨ s.census.state.listed = false → s.relay = Relay.empty

theorem ownRecord_congr {s t : State} (hset : t.settings = s.settings) (hown : t.table.own = s.table.own)
    (hcars : t.table.records.map (fun r => r.car) = s.table.records.map (fun r => r.car)) (h : s.ownRecord) : t.ownRecord := by
  obtain ⟨hone, hlen, hmax, r, hr, hid⟩ := h
  have hlength := length_eq_of_cars hcars
  have hat := congrArg (fun l => l[s.table.own - 1]?) hcars
  simp only [List.getElem?_map, hr, Option.map_some] at hat
  cases hq : t.table.records[s.table.own - 1]? with
  | none => simp [hq] at hat
  | some q =>
    simp only [hq, Option.map_some, Option.some.injEq] at hat
    unfold State.ownRecord
    rw [hset, hown, hlength]
    exact ⟨hone, hlen, hmax, q, hq, by rw [hat]; exact hid⟩

/-- The image and the relay as they were, and the engine's role and state with them. -/
structure SameHeld (s t : State) : Prop where
  settings : t.settings = s.settings
  role : t.census.role = s.census.role
  state : t.census.state = s.census.state
  own : t.table.own = s.table.own
  cars : t.table.records.map (fun r => r.car) = s.table.records.map (fun r => r.car)
  alloc : t.heat.allocEnd.isSome = s.heat.allocEnd.isSome
  relay : (s.census.role = .member ∧ s.census.state.listed = true) ∨ (s.relay = Relay.empty → t.relay = Relay.empty)

theorem SameHeld.holds {s t : State} (h : SameHeld s t) (hs : s.Holds) : t.Holds := by
  obtain ⟨hset, hrole, hstate, hown, hcars, halloc, hrelay⟩ := h
  refine ⟨fun hl => ?_, fun ha => ?_, fun hl => ?_⟩
  · rw [hrole, hown]
    rw [hstate] at hl
    exact ⟨ownRecord_congr hset hown hcars (hs.listed hl).1, (hs.listed hl).2⟩
  · rw [hrole, hstate, length_eq_of_cars hcars]
    exact hs.alloc (by rwa [← halloc])
  · rw [hrole, hstate] at hl
    obtain ⟨hm, hlisted⟩ | hr := hrelay
    · simp [hm, hlisted] at hl
    · exact hr (hs.relay hl)

theorem SameConsist.held {s t : State} (h : SameConsist s t) : SameHeld s t :=
  ⟨h.settings, by rw [h.census], by rw [h.census], h.own, h.cars, h.alloc, h.relay⟩

theorem SameConsist.holds {s t : State} (h : SameConsist s t) (hs : s.Holds) : t.Holds := h.held.holds hs

theorem holds_setCensus {s : State} {c : Census} (hs : s.Holds) (hrole : c.role = s.census.role) (hstate : c.state = s.census.state) :
    (s.setCensus c).Holds :=
  SameHeld.holds (s := s) ⟨rfl, hrole, hstate, rfl, rfl, rfl, .inr id⟩ hs

theorem holds_allocEnd {s : State} (hs : s.Holds) (v : Option Nat)
    (h : s.census.role = .lead ∧ s.census.state.listed = true ∧ s.table.records.length = 1) :
    State.Holds { s with heat := { s.heat with allocEnd := v } } := ⟨hs.listed, fun _ => h, hs.relay⟩

/-- Nothing is held outside a census: the relay is empty and no allocation timer runs. -/
theorem holds_idle {s : State} (hl : s.census.state.listed = false) (hd : s.census.state ≠ .distributing) (hr : s.relay = Relay.empty)
    (ha : s.heat.allocEnd = none) : s.Holds :=
  ⟨fun h => absurd h (by simp [hl, hd]), fun h => absurd h (by simp [ha]), fun _ => hr⟩

section
variable (s : State)

/-- An entry to a state outside VALID and STALE. -/
theorem enterCensus_unlisted (c : CensusState) (hc : c.listed = false) :
    (s.enterCensus c).relay = Relay.empty ∧ (s.enterCensus c).heat.allocEnd = none ∧ (s.enterCensus c).table = s.table := by
  unfold State.enterCensus
  simp only [hc, Bool.false_eq_true, if_false]
  cases s.census.role with
  | member => exact ⟨rfl, rfl, rfl⟩
  | lead =>
    simp only
    generalize hv : State.clearAllocations _ = v
    have ht : Touches [.doorLead, .summary, .pub, .mem, .slotTally] v ((v.endOutstanding .aborted c.code 0 0).dropHeldRoll) :=
      (touches_dropHeldRoll (by simp) (by simp) (by simp)).mpr ((touches_endOutstanding (by simp) (by simp) (by simp) (by simp) _ _ _ _).mpr (Touches.refl _ v))
    have hrelay : ((v.endOutstanding .aborted c.code 0 0).dropHeldRoll).relay = v.relay := (ht .relay (by simp)).1
    have htable : ((v.endOutstanding .aborted c.code 0 0).dropHeldRoll).table = v.table := (ht .table (by simp)).1
    have hheat : ((v.endOutstanding .aborted c.code 0 0).dropHeldRoll).heat = v.heat := (ht .heat (by simp)).1
    rw [hrelay, htable, hheat, ← hv]
    exact ⟨rfl, rfl, rfl⟩

theorem holds_enterIdle (c : CensusState) (hl : c.listed = false) (hd : c ≠ .distributing) : (s.enterCensus c).Holds := by
  obtain ⟨hrelay, halloc, -⟩ := enterCensus_unlisted s c hl
  exact holds_idle (by rwa [enterCensus_state]) (by rwa [enterCensus_state]) hrelay halloc

theorem holds_leaveCensus : s.leaveCensus.Holds := holds_enterIdle s .uncensused rfl (by decide)

theorem holds_enterDistributing (hown : s.ownRecord ∧ (s.census.role = .lead → s.table.own = 1)) :
    (s.enterCensus .distributing).Holds := by
  obtain ⟨hrelay, halloc, htable⟩ := enterCensus_unlisted s .distributing rfl
  refine ⟨fun _ => ?_, fun h => absurd h (by simp [halloc]), fun _ => hrelay⟩
  unfold State.ownRecord
  rw [htable, (enterCensus_now s .distributing).2, enterCensus_census]
  exact hown

theorem holds_enterListed (c : CensusState) (hl : c.listed = true) (hs : s.Holds)
    (hown : s.ownRecord ∧ (s.census.role = .lead → s.table.own = 1)) : (s.enterCensus c).Holds := by
  rw [enterCensus_listed s c hl]
  exact ⟨fun _ => hown, fun h => ⟨(hs.alloc h).1, hl, (hs.alloc h).2.2⟩, fun h => hs.relay (.inl (by simpa [hl] using h))⟩

/-! ## The engine's operations -/

/-- The engine's record and what it stands for agree. -/
def State.Good (s : State) : Prop := s.Fits ∧ s.Holds

theorem SameConsist.good {s t : State} (h : SameConsist s t) (hs : s.Good) : t.Good := ⟨h.fits hs.1, h.holds hs.2⟩

theorem sameConsist_sendVoid (x : SpanId) (m : VoidMark) : SameConsist s (s.sendVoid x m) := by
  unfold State.sendVoid
  exact frameRel_sameConsist.when fun _ => sameConsist_send s _ _

theorem sameConsist_sendBreak (x : SpanId) (c : Byte) : SameConsist s (s.sendBreak x c) := sameConsist_sendIf s _ _

theorem sameConsist_complete (k : Nat) (o : SlotOutcome) (d : Byte) (r : List Byte) : SameConsist s (s.complete k o d r) :=
  frameRel_sameConsist.frame ((touches_complete k o d r (by decide) (by decide)).mpr (Touches.refl _ s))

theorem sameConsist_completeIf (k : Option Nat) (o : SlotOutcome) (d : Byte) (r : List Byte) : SameConsist s (s.completeIf k o d r) :=
  frameRel_sameConsist.frame ((touches_completeIf k o d r (by decide) (by decide)).mpr (Touches.refl _ s))

theorem holds_completeCensusSlot (hs : s.Holds) (o : SlotOutcome) (d : Byte) (n : Nat) (p : Byte) : (s.completeCensusSlot o d n p).Holds := by
  unfold State.completeCensusSlot
  exact (sameConsist_completeIf _ _ _ _ _).holds (holds_setCensus hs rfl rfl)

theorem holds_startSettle (hs : s.Holds) (n : Nat) : (s.startSettle n).Holds := by
  unfold State.startSettle
  exact iteClosed (holds_setCensus hs rfl rfl) hs

theorem holds_failCensus (reason : FailReason) (p : Byte) : (s.failCensus reason p).Holds := by
  unfold State.failCensus
  simp only
  have h2 (x : SpanId) (m : VoidMark) : ((((s.enterCensus .uncensused).sendVoid x m).completeCensusSlot .aborted reason.code 0
      p).censusFailedEvent reason p).Holds :=
    (sameConsist_raise _ _ _).holds (holds_completeCensusSlot _ ((sameConsist_sendVoid _ x m).holds
      (holds_enterIdle s .uncensused rfl (by decide))) _ _ _ _)
  exact iteClosed (holds_startSettle _ (h2 _ _) _) (h2 _ _)

theorem fits_failCensus (reason : FailReason) (p : Byte) (hs : s.Fits) (hr : s.census.role = .lead) : (s.failCensus reason p).Fits := by
  refine Fits.census ((touches_failCensus (List.Subset.refl _) reason p).mpr (Touches.refl _ s)) ?_
  have hended : s.census.ended.Fits s.port.running s.settings := (hs.rested .uncensused rfl (.inr rfl)).congr rfl rfl rfl rfl rfl rfl
  rw [failCensus_census]
  split
  next h => exact hended.settling hr rfl _ (by omega)
  · exact hended

theorem good_failCensus (reason : FailReason) (p : Byte) (hs : s.Fits) (hr : s.census.role = .lead) : (s.failCensus reason p).Good :=
  ⟨fits_failCensus s reason p hs hr, holds_failCensus s reason p⟩

theorem holds_completeCensus (hs : s.Holds) (hown : s.ownRecord ∧ (s.census.role = .lead → s.table.own = 1)) :
    s.completeCensus.Holds := by
  unfold State.completeCensus
  simp only
  have hreset : ((s.enterCensus .valid).setCensus { (s.enterCensus .valid).census with retry := 0 }).Holds :=
    holds_setCensus (holds_enterListed s .valid rfl hs hown) rfl rfl
  exact holds_completeCensusSlot _ ((sameConsist_raise _ _ _).holds hreset) _ _ _ _

theorem completeCensusSlot_table (o : SlotOutcome) (d : Byte) (n : Nat) (p : Byte) : (s.completeCensusSlot o d n p).table = s.table := by
  have h (v : State) (k : Option Nat) (r : List Byte) : Touches [.mem, .slotTally] v (v.completeIf k o d r) :=
    (touches_completeIf k o d r (by simp) (by simp)).mpr (Touches.refl _ v)
  unfold State.completeCensusSlot
  exact (h _ _ _ .table (by simp)).1

theorem completeCensus_table : s.completeCensus.table = s.table := by
  unfold State.completeCensus
  simp only
  rw [completeCensusSlot_table, enterCensus_listed s .valid rfl]
  rfl

theorem fits_completed (hs : s.Fits) (hr : s.census.role = .lead) :
    Census.Fits s.port.running s.settings { s.census with state := .valid, timerEnd := none, retry := 0, slot := none } := by
  have h := hs.rested .valid rfl (.inl (hs.running_of_lead hr))
  exact ⟨h.before, h.lead, fun hm => ⟨(h.member hm).1, (h.member hm).2.1, rfl⟩, h.timer, h.context, h.settle, Nat.zero_le _, h.range⟩

theorem good_completeCensus (hs : s.Good) (hr : s.census.role = .lead) (hst : s.census.state = .distributing) : s.completeCensus.Good :=
  ⟨Fits.census ((touches_completeCensus (List.Subset.refl _)).mpr (Touches.refl _ s)) (by
      rw [completeCensus_census]
      exact fits_completed s hs.1 hr),
    holds_completeCensus s hs.2 (hs.2.listed (.inr hst))⟩

/-- A lead that is about to start a census: its relay is empty, as at every lead (R81). -/
theorem good_buildSingle (hs : s.Fits) (hr : s.census.role = .lead) (hrelay : s.relay = Relay.empty) : s.buildSingle.Good := by
  refine ⟨Fits.census ((touches_buildSingle (List.Subset.refl _)).mpr (Touches.refl _ s)) (by
      rw [buildSingle_census]
      exact fits_completed s hs hr), ?_⟩
  unfold State.buildSingle
  simp only
  generalize hu : (s.writeTable 1 (nextNumber s.table.gen) s.census.number s.settings.identity [s.leadRecord]) = u
  have htable : SameConsist { s with table :=
      { own := 1, gen := nextNumber s.table.gen, number := s.census.number, signature := signature [s.leadRecord]
        lead := s.settings.identity, records := [s.leadRecord].map imageRecordOf } } u := by
    rw [← hu]
    unfold State.writeTable
    exact FrameRel.branch (fun _ => .refl _) fun _ => sameConsist_generationChanged _
  have hown : u.table.own = 1 := htable.own
  have hcars : u.table.records.map (fun r => r.car) = [s.leadRecord] := htable.cars
  have hlen : u.table.records.length = 1 := by simpa using congrArg List.length hcars
  have hset : u.settings = s.settings := htable.settings
  have hown : u.clearAllocations.ownRecord ∧ (u.clearAllocations.census.role = .lead → u.clearAllocations.table.own = 1) := by
    refine ⟨⟨(show 1 ≤ u.table.own by omega), (show u.table.own ≤ u.table.records.length by omega),
      (show u.table.records.length ≤ 32 by omega), ?_⟩, fun _ => hown⟩
    obtain ⟨r, hr⟩ := List.length_eq_one_iff.mp hlen
    rw [hr] at hcars
    refine ⟨r, ?_, ?_⟩
    · rw [clearAllocations_table, hown, hr]
      rfl
    · have hcar : r.car = s.leadRecord := by simpa using hcars
      rw [hcar, clearAllocations_settings, hset]
      rfl
  have hrole : u.census.role = .lead := by rw [htable.census]; exact hr
  have hempty : u.relay = Relay.empty := by
    obtain ⟨hm, -⟩ | h := htable.relay
    · exact absurd (hr.symm.trans hm) (by decide)
    · exact h hrelay
  have hdone : u.clearAllocations.completeCensus.Holds :=
    holds_completeCensus _ ⟨fun _ => hown, nofun, fun _ => hempty⟩ hown
  unfold State.startAllocations
  refine (sameConsist_allocate _).holds (holds_allocEnd hdone _ ?_)
  rw [completeCensus_census, completeCensus_table]
  exact ⟨hrole, rfl, hlen⟩

theorem good_startCensus (slot : Option Nat) (hs : s.Fits) (hr : s.census.role = .lead) (hrelay : s.relay = Relay.empty) :
    (s.startCensus slot).Good := by
  have hset : State.Fits (s.setCensus { s.census with number := nextNumber s.census.number, slot := slot, settleEnd := none }) :=
    ⟨hs.before, hs.lead, fun hm => absurd (hr.symm.trans hm) (by decide), hs.timer, hs.context, nofun, hs.retry, hs.range⟩
  unfold State.startCensus
  simp only
  refine iteClosed (good_failCensus _ _ _ hset hr) (iteClosed ?_ (good_buildSingle _ hset hr hrelay))
  refine (sameConsist_send _ _ _).good ⟨?_, holds_enterIdle _ .calling rfl (by decide)⟩
  refine Fits.census ((touches_enterCensus (List.Subset.refl _) .calling).mpr (Touches.refl _ _)) ?_
  rw [enterCensus_census]
  exact hset.busy hr .calling rfl _

theorem good_goStale (p e c : Byte) (hs : s.Good) : (s.goStale p e c).Good := by
  unfold State.goStale
  split
  next hv =>
    refine (sameConsist_raise _ _ _).good ⟨?_, holds_enterListed s .stale rfl hs.2 (hs.2.listed (.inl (by rw [hv]; rfl)))⟩
    refine Fits.census ((touches_enterCensus (List.Subset.refl _) .stale).mpr (Touches.refl _ s)) ?_
    rw [enterCensus_census]
    refine hs.1.rested .stale rfl (.inl ?_)
    by_contra hrun
    have := (hs.1.before (by simpa using hrun)).2.1
    rw [hv] at this
    cases this
  · exact hs

theorem good_startSettle (n : Nat) (hs : s.Good) (hr : s.census.role = .lead) (hb : s.census.state.busy = false) (hn : n ≤ 3) :
    (s.startSettle n).Good := by
  refine ⟨?_, holds_startSettle s hs.2 n⟩
  unfold State.startSettle
  exact iteClosed (hs.1.settling hr hb _ hn) hs.1

theorem goStale_role (p e c : Byte) : (s.goStale p e c).census.role = s.census.role := by
  rw [goStale_census]
  split <;> rfl

theorem goStale_busy (p e c : Byte) (hb : s.census.state.busy = false) : (s.goStale p e c).census.state.busy = false := by
  rw [goStale_census]
  split
  exacts [rfl, hb]

theorem good_leadStale (p e c : Byte) (hs : s.Good) (hr : s.census.role = .lead) (hb : s.census.state.busy = false) :
    ((s.goStale p e c).startSettle 0).Good :=
  good_startSettle _ 0 (good_goStale s _ _ _ hs) ((goStale_role s _ _ _).trans hr) (goStale_busy s _ _ _ hb) (by omega)

theorem good_leaveCensus (hs : s.Fits) : s.leaveCensus.Good := by
  refine ⟨Fits.census ((touches_leaveCensus (List.Subset.refl _)).mpr (Touches.refl _ s)) ?_, holds_leaveCensus s⟩
  rw [leaveCensus_census]
  exact hs.rested .uncensused rfl (.inr rfl)

theorem good_censusSpanUp (x : SpanId) (hs : s.Good) : (s.censusSpanUp x).Good := by
  unfold State.censusSpanUp
  split
  next hr =>
    split
    · exact iteClosed (good_failCensus s _ _ hs.1 hr) hs
    next hb => exact good_leadStale s _ _ _ hs hr (by simpa using hb)
  · exact iteClosed (good_goStale _ _ _ _ ((sameConsist_sendBreak s _ _).good hs)) hs

theorem good_reportSilent (c : Context) (hs : s.Fits) : (s.reportSilent c).Good :=
  good_leaveCensus _ ((sameConsist_send s _ _).fits hs)

theorem good_memberSpanLost (x : SpanId) (c : Byte) (hs : s.Good) : (s.memberSpanLost x c).Good := by
  unfold State.memberSpanLost
  exact iteClosed (good_goStale _ _ _ _ ((sameConsist_sendBreak s _ _).good hs))
    (iteClosed (good_leaveCensus _ ((sameConsist_sendVoid s _ _).fits hs.1)) hs)

theorem good_censusSpanDown (x : SpanId) (cause : Cause) (hs : s.Good) : (s.censusSpanDown x cause).Good := by
  have hleave := good_leaveCensus s hs.1
  unfold State.censusSpanDown
  split
  next hr =>
    split
    · exact iteClosed (good_failCensus s _ _ hs.1 hr) hs
    next hb => exact good_leadStale s _ _ _ hs hr (by simpa using hb)
  · split
    · exact iteClosed hleave (good_reportSilent s _ hs.1)
    · exact iteClosed hleave hs
    case h_8 | h_9 => exact good_memberSpanLost s _ _ hs
    all_goals exact hs

end

end Sys2Proof.Machine

/-!
O58: the end-car status, and the census requests and frames.
-/

namespace Sys2Proof.Machine

/-! ## Which spans are UP -/

/-- The same spans are UP. -/
def SameLinks (s t : State) : Prop := ∀ x, t.isUp x = s.isUp x

theorem sameLinks_besidesSpans {s t : State} (h : Touches besidesSpans s t) : SameLinks s t := fun x => by
  have ha : t.spanA = s.spanA := (h .spanA (by simp [besidesSpans])).1
  have hb : t.spanB = s.spanB := (h .spanB (by simp [besidesSpans])).1
  cases x
  · exact congrArg (fun u : Span => u.state == .up) ha
  · exact congrArg (fun u : Span => u.state == .up) hb

theorem frameRel_sameLinks : FrameRel besidesSpans SameLinks := ⟨sameLinks_besidesSpans, fun h h' x => (h' x).trans (h x)⟩

theorem sameLinks_setSpan (s : State) (x : SpanId) (u : Span) (h : (u.state == .up) = s.isUp x) : SameLinks s (s.setSpan x u) := by
  intro y
  cases x <;> cases y
  exacts [h, rfl, rfl, h]

theorem sameLinks_offer (s : State) (x : SpanId) (f : TxFrame) : SameLinks s (s.offer x f).1 := by
  have hk := offer_keeps s x f
  have hspan := offer_span s x f
  intro y
  rw [hk]
  refine sameLinks_setSpan s x _ ?_ y
  rw [hspan]
  rfl

/-- The operations of the engine, the relay and the heating share unit take no span into or out of UP. -/
theorem opsKeep_links (up : SpanId → Bool) : OpsKeep fun s => ∀ x, s.isUp x = up x := by
  have hkeep {s t : State} (h : SameLinks s t) (hs : ∀ x, s.isUp x = up x) : ∀ x, t.isUp x = up x := fun x => (h x).trans (hs x)
  exact opsKeep_of_spans (fun h => hkeep (sameLinks_besidesSpans h)) (fun s x f _ => hkeep (sameLinks_offer s x f)) fun s x l _ =>
    hkeep (sameLinks_setSpan s x _ rfl)

/-- An operation that the closure covers leaves the links alone. -/
theorem sameLinks_of {f : State → State} (h : ∀ up : SpanId → Bool, ∀ s, (∀ x, s.isUp x = up x) → ∀ x, (f s).isUp x = up x) (s : State) :
    SameLinks s (f s) := h s.isUp s fun _ => rfl

/-! ## The end-car status (R84; log 40) -/

/-- The relay knows whether the car is the end car. -/
def State.Ends (s : State) : Prop :=
  s.census.role = .member → s.census.state.listed = true → s.relay.endCar = some s.isEndCar

theorem consistSound_iff (s : State) : s.consistSound ↔ s.Good ∧ s.Ends := by
  constructor
  · rintro ⟨hbefore, hlead, hmember, htimer, hcontext, hsettle, hretry, hrange, hlisted, halloc, hend, hrelay⟩
    exact ⟨⟨⟨hbefore, hlead, hmember, htimer, hcontext, hsettle, hretry, hrange⟩, hlisted, halloc, hrelay⟩, hend⟩
  · rintro ⟨⟨⟨hbefore, hlead, hmember, htimer, hcontext, hsettle, hretry, hrange⟩, hlisted, halloc, hrelay⟩, hend⟩
    exact ⟨hbefore, hlead, hmember, htimer, hcontext, hsettle, hretry, hrange, hlisted, halloc, hend, hrelay⟩

/-- The front end is read from the engine, the settings and the own car's place and record (R77). -/
theorem front_of_cars {s t : State} (hc : t.census = s.census) (hs : t.settings = s.settings) (ho : t.table.own = s.table.own)
    (hcars : t.table.records.map (fun r => r.car) = s.table.records.map (fun r => r.car)) : t.front = s.front := by
  have hcar (i : Nat) : (t.table.records[i]?).map (fun r => r.car) = (s.table.records[i]?).map (fun r => r.car) := by
    have := congrArg (fun l => l[i]?) hcars
    simpa using this
  have hrecord (p : Nat) : (t.recordAt p).bind (fun r => spanOfEnd r.car.frontEnd) = (s.recordAt p).bind (fun r => spanOfEnd r.car.frontEnd) := by
    unfold State.recordAt
    by_cases hp : p = 0
    · simp [hp]
    · simp only [if_neg hp]
      have := hcar (p - 1)
      cases ht : t.table.records[p - 1]? <;> cases hs : s.table.records[p - 1]? <;> simp_all
  unfold State.front State.cabSpan
  rw [hc, hs, ho, hrecord]

theorem SameConsist.front {s t : State} (h : SameConsist s t) : t.front = s.front := front_of_cars h.census h.settings h.own h.cars

theorem isEndCar_congr {s t : State} (h : SameConsist s t) (hl : SameLinks s t) : t.isEndCar = s.isEndCar := by
  have hlen := length_eq_of_cars h.cars
  unfold State.isEndCar State.downstreamUp State.downstream State.n
  rw [h.census, h.own, hlen, h.front]
  cases s.front.map otherSpan with
  | none => rfl
  | some x => simp only [hl x]

theorem SameConsist.ends {s t : State} (h : SameConsist s t) (hl : SameLinks s t) (hs : s.Ends) : t.Ends := by
  unfold State.Ends
  rw [h.census, h.endCar, isEndCar_congr h hl]
  exact hs

/-- Both together. -/
def State.Whole (s : State) : Prop := s.Good ∧ s.Ends

theorem SameConsist.whole {s t : State} (h : SameConsist s t) (hl : SameLinks s t) (hs : s.Whole) : t.Whole :=
  ⟨h.good hs.1, h.ends hl hs.2⟩

section
variable (s : State)

theorem sameLinks_originate (k : RollKind) : SameLinks s (s.originate k) :=
  sameLinks_of (fun up u => (opsKeep_links up).originate u k) s

theorem good_relay (v : Relay) (hs : s.Good) (hr : s.census.role = .member) (hl : s.census.state.listed = true) :
    State.Good { s with relay := v } :=
  ⟨hs.1, hs.2.listed, hs.2.alloc, fun h => absurd h (by simp [hr, hl])⟩

/-- The fresh look makes the status agree, whatever it was (R84; log 40). -/
theorem whole_reviewEnd (hs : s.Good) : s.reviewEnd.Whole := by
  unfold State.reviewEnd
  split
  next h =>
    obtain ⟨hr, hl⟩ := h
    have hset (v : Relay) (b : Bool) (hv : v.endCar = some b) (hb : s.isEndCar = b) : State.Whole { s with relay := v } :=
      ⟨good_relay s v hs hr hl, fun _ _ => hv.trans (congrArg some hb.symm)⟩
    split
    next he =>
      split
      next hknown => exact ⟨hs, fun _ _ => hknown.trans (congrArg some he.symm)⟩
      · unfold State.becomeEnd
        simp only
        exact (sameConsist_originate _ _).whole (sameLinks_originate _ _)
          ((sameConsist_originate _ _).whole (sameLinks_originate _ _) (hset _ true rfl he))
    next he =>
      have hfalse : s.isEndCar = false := by simpa using he
      split
      next hknown => exact ⟨hs, fun _ _ => hknown.trans (congrArg some hfalse.symm)⟩
      · exact hset _ false rfl hfalse
  next h => exact ⟨hs, fun hr hl => absurd ⟨hr, hl⟩ h⟩

/-! ## Requests (R44, R45, R61) -/

theorem good_complete (k : Nat) (o : SlotOutcome) (d : Byte) (r : List Byte) (hs : s.Good) : (s.complete k o d r).Good :=
  (sameConsist_complete s k o d r).good hs

theorem sameLinks_complete (k : Nat) (o : SlotOutcome) (d : Byte) (r : List Byte) : SameLinks s (s.complete k o d r) :=
  sameLinks_besidesSpans ((touches_complete k o d r (by decide) (by decide)).mpr (Touches.refl _ s))

theorem good_takeLead (r : Request) (hs : s.Good) (hrun : s.port.running = true) : (s.takeLead r).Good := by
  unfold State.takeLead
  split
  · exact good_complete s _ _ _ _ hs
  next hkind =>
    split
    · exact good_complete s _ _ _ _ hs
    next hfree =>
      simp only [Bool.or_eq_true, not_or, Bool.not_eq_true] at hfree
      obtain ⟨htake, hbusy⟩ := hfree
      split
      next hr =>
        refine good_startCensus _ _ ?_ (by rw [becomeLead_census]) rfl
        refine Fits.census ((touches_becomeLead (List.Subset.refl _)).mpr (Touches.refl _ s)) ?_
        rw [becomeLead_census]
        exact ⟨fun h => absurd hrun (by simp [h]), fun _ => ⟨not_not.mp hkind, rfl, htake⟩, nofun, hs.1.timer, fun h => absurd h (by
          simp [htake]), nofun, Nat.zero_le _, nofun⟩
      next hr => exact good_startCensus s _ hs.1 hr (hs.2.relay (.inl hr))

theorem good_censusStart (r : Request) (hs : s.Good) : (s.censusStart r).Good := by
  unfold State.censusStart
  split
  · exact good_complete s _ _ _ _ hs
  next hr =>
    refine iteClosed (good_complete s _ _ _ _ hs) (good_startCensus _ _ ?_ hr (hs.2.relay (.inl hr)))
    exact ⟨hs.1.before, hs.1.lead, fun hm => absurd (hr.symm.trans hm) (by decide), hs.1.timer, hs.1.context, hs.1.settle, Nat.zero_le _,
      hs.1.range⟩

theorem good_becomeMember (hs : s.census.settleEnd = none) (hretry : s.census.retry = 0) : s.becomeMember.Good := by
  refine ⟨Fits.census ((touches_becomeMember (List.Subset.refl _)).mpr (Touches.refl _ s)) ?_, ?_⟩
  · rw [becomeMember_census]
    exact ⟨fun _ => ⟨rfl, rfl, rfl⟩, nofun, fun _ => ⟨rfl, hs, hretry⟩, by simp [CensusState.busy, CensusState.takingPart], nofun,
      by simp [hs], by simp [hretry], nofun⟩
  · obtain ⟨hrelay, -, -⟩ := enterCensus_unlisted s .uncensused rfl
    exact holds_idle (by rw [becomeMember_census]; rfl) (by rw [becomeMember_census]; nofun) hrelay rfl

theorem good_completeCensusSlot (hs : s.Good) (o : SlotOutcome) (d : Byte) (n : Nat) (p : Byte) : (s.completeCensusSlot o d n p).Good := by
  refine ⟨?_, holds_completeCensusSlot s hs.2 o d n p⟩
  refine Fits.census ((touches_completeCensusSlot (List.Subset.refl _) o d n p).mpr (Touches.refl _ s)) ?_
  rw [completeCensusSlot_census]
  exact hs.1.congr rfl rfl rfl rfl rfl rfl

theorem good_dropLead : s.dropLead.Good := by
  unfold State.dropLead
  simp only
  have hmember (v : State) (c : Census) (hc : c.settleEnd = none ∧ c.retry = 0) : (v.setCensus c).becomeMember.Good :=
    good_becomeMember _ hc.1 hc.2
  split
  · exact good_completeCensusSlot _ (good_becomeMember _ rfl rfl) _ _ _ _
  · exact hmember _ _ ⟨rfl, rfl⟩

/-! ## Census frames -/

theorem good_left {t : State} (ht : Touches censusParts s t) (hc : t.census = { s.census with state := .uncensused, timerEnd := none })
    (hh : t.Holds) (hs : s.Fits) : t.Good :=
  ⟨Fits.census ht (by rw [hc]; exact hs.rested .uncensused rfl (.inr rfl)), hh⟩

theorem good_memberConflict (x : SpanId) (m : CallMsg) (c : Context) (hs : s.Fits) : (s.memberConflict x m c).Good := by
  unfold State.memberConflict
  simp only
  exact (sameConsist_raise _ _ _).good (good_leaveCensus _ ((sameConsist_send _ _ _).fits ((sameConsist_send s _ _).fits hs)))

theorem parseCall_sound {f : Frame} {m : CallMsg} (h : parseCall f = some m) : badIdentity m.lead = false ∧ 1 ≤ m.hop ∧ m.hop ≤ 31 := by
  unfold parseCall at h
  simp only at h
  split at h
  next hv =>
    obtain rfl := Option.some.inj h
    exact hv.2
  · cases h

theorem good_adoptCall (x : SpanId) {f : Frame} {m : CallMsg} (hm : parseCall f = some m) (hs : s.Fits) (hr : s.census.role = .member)
    (hrun : s.port.running = true) (hlead : m.lead ≠ s.settings.identity) : (s.adoptCall x m).Good := by
  obtain ⟨hbad, hlow, hhigh⟩ := parseCall_sound hm
  have hctx : Census.Fits s.port.running s.settings
      { s.census with ctx := some (m.context x), lastVoid := none, ackForwarded := false, relayed := false } := by
    refine ⟨fun h => absurd hrun (by simp [h]), fun hl => absurd (hr.symm.trans hl) (by decide), hs.member, hs.timer, fun _ => rfl,
      hs.settle, hs.retry, fun c hc => ?_⟩
    obtain rfl := Option.some.inj hc
    exact ⟨by simp [CallMsg.context]; omega, by simp [CallMsg.context]; omega, hbad, hlead⟩
  constructor
  · refine Fits.census ((touches_adoptCall (List.Subset.refl _) x m).mpr (Touches.refl _ s)) ?_
    rw [adoptCall_census]
    simp only
    split
    · split
      · exact hctx.takingPart hr hrun .enlisted rfl _ rfl
      · exact hctx.rested .uncensused rfl (.inr rfl)
    · exact hctx.takingPart hr hrun .awaitTable rfl _ rfl
  · unfold State.adoptCall
    simp only
    exact iteClosed (iteClosed (holds_enterIdle _ .enlisted rfl (by decide)) (holds_leaveCensus _))
      (holds_enterIdle _ .awaitTable rfl (by decide))

theorem good_takeCall (x : SpanId) (f : Frame) (hs : s.Good) (hrun : s.port.running = true) : (s.takeCall x f).Good := by
  unfold State.takeCall
  split
  · exact hs
  next m hm =>
    split
    next hr =>
      unfold State.memberCall
      split
      · exact hs
      next hlead =>
        have hadopt := good_adoptCall s x hm hs.1 hr hrun hlead
        split
        · exact hadopt
        · exact iteClosed (iteClosed hadopt hs) (iteClosed (good_memberConflict s x m _ hs.1) hadopt)
    next hr =>
      unfold State.leadCall
      refine iteClosed hs ?_
      simp only
      have ht : SameConsist s ((s.send x (s.reportFrame m.number m.lead .conflict [])).leadConflict 1 m.lead) :=
        (sameConsist_send s _ _).trans (sameConsist_raise _ _ _)
      exact iteClosed (good_failCensus _ _ _ (ht.fits hs.1) (by rw [ht.census]; exact hr)) (ht.good hs)

theorem good_relayReport (m : ReportMsg) (c : Context) (hs : s.Fits) (hr : s.census.role = .member) (hrun : s.port.running = true)
    (hctx : s.census.ctx = some c) : (s.relayReport m c).Good := by
  have hsent (f : Frame) : SameConsist s (s.send c.upstream f) := sameConsist_send s _ f
  unfold State.relayReport
  simp only
  split
  · refine ⟨?_, holds_enterIdle _ .awaitTable rfl (by decide)⟩
    refine Fits.of_touches (s := s.send c.upstream _) ((touches_enterCensus (List.Subset.refl _) _).mpr
      ((touches_setCensus _ _).mono (by decide))) (by decide) (by decide) ?_
    rw [enterCensus_census, setCensus_census]
    refine Census.Fits.takingPart (c := { (s.send c.upstream _).census with relayed := true }) ?_ ?_ ?_ .awaitTable rfl _ ?_
    · exact ((hsent _).fits hs).congr rfl rfl rfl rfl rfl rfl
    · exact (congrArg Census.role (send_census s _ _) :).trans hr
    · exact ((hsent _).running :).trans hrun
    · show (State.send _ _ _).census.ctx.isSome = true
      rw [send_census, hctx]
      rfl
  · exact good_leaveCensus _ ((hsent _).fits hs)

theorem length_parseRecords : ∀ (k : Nat) (l : List Byte), (parseRecords k l).length = k
  | 0, _ => rfl
  | k + 1, l => by rw [parseRecords, List.length_cons, length_parseRecords k]

theorem parseReport_length {f : Frame} {m : ReportMsg} (h : parseReport f = some m) : m.records.length ≤ 31 := by
  unfold parseReport at h
  simp only at h
  split at h
  · cases h
  · split at h
    next hv =>
      obtain rfl := Option.some.inj h
      exact (length_parseRecords _ _).trans_le hv.2.1
    · cases h

theorem parseTable_length {f : Frame} {m : TableMsg} (h : parseTable f = some m) : m.records.length ≤ 32 := by
  unfold parseTable at h
  simp only at h
  split at h
  next hv =>
    obtain rfl := Option.some.inj h
    exact (length_parseRecords _ _).trans_le hv.2.2.1
  · cases h

/-- The table just written; the engine and the relay stay (R74). -/
theorem sameConsist_writeTable (own : Nat) (gen number : Word16) (lead : Word32) (rs : List CarRecord) :
    SameConsist { s with table := { own, gen, number, signature := signature rs, lead, records := rs.map imageRecordOf } }
      (s.writeTable own gen number lead rs) := by
  unfold State.writeTable
  exact FrameRel.branch (fun _ => .refl _) fun _ => sameConsist_generationChanged _

theorem fits_writeTable (own : Nat) (gen number : Word16) (lead : Word32) (rs : List CarRecord) (hs : s.Fits) :
    (s.writeTable own gen number lead rs).Fits := (sameConsist_writeTable s own gen number lead rs).fits hs

/-- A table with the car's own record at the position given (R55, R57). -/
theorem ownRecord_writeTable (own : Nat) (gen number : Word16) (lead : Word32) (rs : List CarRecord) (hlow : 1 ≤ own) (hlen : rs.length ≤ 32)
    {r : CarRecord} (hr : rs[own - 1]? = some r) (hid : r.identity = s.settings.identity) :
    (s.writeTable own gen number lead rs).ownRecord := by
  obtain ⟨hin, -⟩ := List.getElem?_eq_some_iff.mp hr
  have hsame := sameConsist_writeTable s own gen number lead rs
  refine ownRecord_congr hsame.settings hsame.own hsame.cars ⟨hlow, ?_, ?_, imageRecordOf r, ?_, hid⟩
  · show own ≤ (rs.map imageRecordOf).length
    rw [List.length_map]
    omega
  · show (rs.map imageRecordOf).length ≤ 32
    rwa [List.length_map]
  · show (rs.map imageRecordOf)[own - 1]? = _
    rw [List.getElem?_map, hr]
    rfl

theorem good_buildTable (m : List CarRecord) (hs : s.Fits) (hr : s.census.role = .lead) (hlen : m.length ≤ 31) :
    (s.buildTable (s.leadRecord :: m)).Good := by
  have hsame := sameConsist_writeTable s 1 (newGeneration s.table.gen (s.leadRecord :: m)) s.census.number s.settings.identity
    (s.leadRecord :: m)
  have hown := ownRecord_writeTable s 1 (newGeneration s.table.gen (s.leadRecord :: m)) s.census.number s.settings.identity
    (s.leadRecord :: m) (by omega) (by simp only [List.length_cons]; omega) (r := s.leadRecord) rfl rfl
  unfold State.buildTable
  simp only
  generalize hu : s.writeTable 1 _ _ _ _ = u at hsame hown
  generalize hv : State.send u _ _ = v
  have hsent : SameConsist u v := hv ▸ sameConsist_send u _ _
  have hrole : v.census.role = .lead := by
    rw [hsent.census, hsame.census]
    exact hr
  refine ⟨?_, holds_enterDistributing v ⟨ownRecord_congr hsent.settings hsent.own hsent.cars hown, fun _ => hsent.own.trans hsame.own⟩⟩
  refine Fits.census ((touches_enterCensus (List.Subset.refl _) _).mpr (Touches.refl _ v)) ?_
  rw [enterCensus_census]
  have hfits : v.Fits := hsent.fits (hsame.fits hs)
  exact hfits.busy hrole .distributing rfl _

theorem good_takeReport (x : SpanId) (f : Frame) (hs : s.Good) (hrun : s.port.running = true) : (s.takeReport x f).Good := by
  unfold State.takeReport
  split
  · exact hs
  next m hm =>
    split
    next hr =>
      unfold State.memberReport
      split
      next hc => exact iteClosed (good_relayReport s m _ hs.1 hr hrun hc) hs
      · exact hs
    next hr =>
      have hfail (why : FailReason) (p : Byte) := good_failCensus s why p hs.1 hr
      unfold State.leadReport
      refine iteClosed ?_ hs
      split
      case h_4 => exact iteClosed (hfail _ _) (good_buildTable s m.records hs.1 hr (parseReport_length hm))
      all_goals exact hfail _ _

theorem tablePasses_record {m : TableMsg} {c : Context} (h : tablePasses s m c = true) :
    ∃ r, m.records[c.position - 1]? = some r ∧ r.identity = s.settings.identity := by
  unfold tablePasses at h
  split at h
  · cases h
  next r hr =>
    simp only [Bool.and_eq_true, beq_iff_eq] at h
    exact ⟨r, hr, h.1.1⟩

theorem good_adoptTable {f : Frame} {m : TableMsg} (hm : parseTable f = some m) (c : Context) (payload : List Byte) (hs : s.Good)
    (hr : s.census.role = .member) (hst : s.census.state = .awaitTable) (hctx : s.census.ctx = some c)
    (hpass : tablePasses s m c = true) : (s.adoptTable m c payload).Good := by
  have hpos : 2 ≤ c.position := (hs.1.range c hctx).1
  obtain ⟨r, hrecord, hid⟩ := tablePasses_record s hpass
  have hown := ownRecord_writeTable s c.position m.gen m.number m.lead m.records (by omega) (parseTable_length hm) hrecord hid
  have hsame := sameConsist_writeTable s c.position m.gen m.number m.lead m.records
  unfold State.adoptTable
  simp only
  generalize s.writeTable c.position m.gen m.number m.lead m.records = u at hown hsame
  have hcensus : u.census = s.census := hsame.census
  have hholds : u.Holds := by
    refine hsame.holds ⟨fun h => absurd h (by simp [hst, CensusState.listed]), fun h => ?_, fun h => hs.2.relay h⟩
    have := (hs.2.alloc h).2.1
    rw [hst] at this
    cases this
  have hfits : u.Fits := hsame.fits hs.1
  have hrun : u.port.running = true := by
    by_contra h0
    have := (hfits.before (by simpa using h0)).2.1
    rw [hcensus, hst] at this
    cases this
  have hmember : u.census.role = .member := by rw [hcensus, hr]
  have hvalid : (u.enterCensus .valid).Good := by
    refine ⟨?_, holds_enterListed u .valid rfl hholds ⟨hown, fun h => absurd (hmember.symm.trans h) (by decide)⟩⟩
    refine Fits.census ((touches_enterCensus (List.Subset.refl _) _).mpr (Touches.refl _ u)) ?_
    rw [enterCensus_census]
    exact hfits.rested .valid rfl (.inl hrun)
  refine iteClosed ((sameConsist_send _ _ _).good hvalid) ?_
  have hacked : ((u.enterCensus .valid).sendTableAck c 1 0 0).Good := (sameConsist_send _ _ _).good hvalid
  exact iteClosed (good_goStale _ _ _ _ ((sameConsist_sendBreak _ _ _).good hacked)) hacked

theorem good_refuseTable (c : Context) (hs : s.Fits) : (s.refuseTable c).Good :=
  (sameConsist_send _ _ _).good (good_leaveCensus s hs)

theorem good_takeTable (x : SpanId) (f : Frame) (hs : s.Good) : (s.takeTable x f).Good := by
  unfold State.takeTable
  split
  next m hr hm =>
    unfold State.memberTable
    split
    · exact hs
    next c hc =>
      have hrefuse := good_refuseTable s c hs.1
      split
      · split
        next hst =>
          split
          next hpass => exact good_adoptTable s hm c _ hs hr hst hc hpass
          · exact hrefuse
        · exact iteClosed hs hrefuse
      · exact hs
  · exact hs
  · exact hs

theorem good_takeTableAck (x : SpanId) (f : Frame) (hs : s.Good) : (s.takeTableAck x f).Good := by
  unfold State.takeTableAck
  split
  · exact hs
  split
  · unfold State.memberTableAck
    split
    · exact hs
    · refine iteClosed ?_ hs
      simp only
      generalize hv : s.send _ _ = v
      have hsent : v.Good := hv ▸ (sameConsist_send s _ _).good hs
      exact ⟨hsent.1.congr rfl rfl rfl rfl rfl rfl, holds_setCensus hsent.2 rfl rfl⟩
  next hr =>
    unfold State.leadTableAck
    split
    next h => exact iteClosed (good_completeCensus s hs hr h.1) (good_failCensus s _ _ hs.1 hr)
    · exact hs

theorem good_takeVoid (x : SpanId) (f : Frame) (hs : s.Good) : (s.takeVoid x f).Good := by
  unfold State.takeVoid
  split
  · unfold State.memberVoid
    split
    · exact hs
    · refine iteClosed ?_ hs
      have hleft := good_leaveCensus s hs.1
      simp only
      generalize s.leaveCensus = v at hleft
      have hmarked (m : Option VoidMark) : State.Good (v.setCensus { v.census with lastVoid := m }) :=
        ⟨hleft.1.congr rfl rfl rfl rfl rfl rfl, holds_setCensus hleft.2 rfl rfl⟩
      exact iteClosed ((sameConsist_send _ _ _).good (hmarked _)) (hmarked _)
  · exact hs
  · exact hs

theorem good_takeBreak (x : SpanId) (f : Frame) (hs : s.Good) : (s.takeBreak x f).Good := by
  unfold State.takeBreak
  split
  · exact hs
  split
  · exact iteClosed ((sameConsist_sendIf _ _ _).good (good_goStale s _ _ _ hs)) hs
  next hr =>
    unfold State.leadBreak
    refine iteClosed ?_ hs
    split
    next hst => exact good_leadStale s _ _ _ hs hr (by rw [hst]; rfl)
    next hst => exact good_startSettle s 0 hs hr (by rw [hst]; rfl) (by omega)
    next hst => exact good_startSettle s 0 hs hr (by rw [hst]; rfl) (by omega)
    · exact good_failCensus s _ _ hs.1 hr
    all_goals exact hs

/-- The census timer runs out; the state says at which car (R42). -/
theorem good_censusTimeout (hs : s.Good) : s.censusTimeout.Good := by
  have hlead (hb : s.census.state.busy = true) : s.census.role = .lead := by
    cases hr : s.census.role
    · exact absurd (hs.1.member hr).1 (by simp [hb])
    · rfl
  unfold State.censusTimeout
  split
  next hst => exact good_failCensus s _ _ hs.1 (hlead (by rw [hst]; rfl))
  next hst => exact good_failCensus s _ _ hs.1 (hlead (by rw [hst]; rfl))
  · exact good_reportSilent s _ hs.1
  · exact good_leaveCensus s hs.1
  · exact good_leaveCensus s hs.1
  all_goals exact hs

end

end Sys2Proof.Machine

/-!
O58: the agreement through the spans' exits and entries.
-/

namespace Sys2Proof.Machine

/-! ## What leaves the agreement and the links alone -/

/-- The consist and the links as they were. -/
def Steady (s t : State) : Prop := SameConsist s t ∧ SameLinks s t

/-- The parts that neither the consist nor the spans are in. -/
def steadyParts : List Part :=
  [.now, .clock, .choices, .pending, .mem, .pub, .trail, .req, .slotTally, .faultTally, .bypass, .side1, .side2, .doorLead, .summary,
    .fire, .mon]

theorem frameRel_steady : FrameRel steadyParts Steady where
  frame {s t} h := by
    refine ⟨sameConsist_of_touches (h.mono (by decide)), fun x => ?_⟩
    have ha : t.spanA = s.spanA := (h .spanA (by simp [steadyParts])).1
    have hb : t.spanB = s.spanB := (h .spanB (by simp [steadyParts])).1
    cases x
    · exact congrArg (fun u : Span => u.state == .up) ha
    · exact congrArg (fun u : Span => u.state == .up) hb
  trans h h' := ⟨h.1.trans h'.1, fun x => (h'.2 x).trans (h.2 x)⟩

theorem Steady.whole {s t : State} (h : Steady s t) (hs : s.Whole) : t.Whole := h.1.whole h.2 hs

theorem Steady.refl (s : State) : Steady s s := ⟨.refl s, fun _ => rfl⟩

theorem Steady.after {s t u : State} (h' : Steady t u) (h : Steady s t) : Steady s u := frameRel_steady.trans h h'

theorem steady_of {f : State → State} {s : State} (hc : SameConsist s (f s))
    (h : ∀ up : SpanId → Bool, ∀ s, (∀ x, s.isUp x = up x) → ∀ x, (f s).isUp x = up x) : Steady s (f s) := ⟨hc, sameLinks_of h s⟩

section
variable (s : State)

theorem steady_setSpan (x : SpanId) (u : Span) (h : (u.state == .up) = s.isUp x) : Steady s (s.setSpan x u) :=
  ⟨frameRel_sameConsist.setSpan links_besidesConsist s x u, sameLinks_setSpan s x u h⟩

theorem steady_offer (x : SpanId) (f : TxFrame) : Steady s (s.offer x f).1 :=
  ⟨frameRel_sameConsist.offer links_besidesConsist s x f, sameLinks_offer s x f⟩

theorem steady_send (x : SpanId) (f : Frame) : Steady s (s.send x f) := steady_offer s x _

theorem steady_raise (g : Nat) (e : Event) : Steady s (s.raise g e) :=
  frameRel_steady.frame ((touches_raise g e (by decide)).mpr (Touches.refl _ s))

theorem steady_tellLost (why : StopReason) (f : TxFrame) : Steady s (s.tellLost why f) :=
  steady_of (f := fun u => u.tellLost why f) (sameConsist_tellLost s why f) fun up u => (opsKeep_links up).tellLost u why f

theorem steady_tellCompleted (f : TxFrame) (start : Nat) : Steady s (s.tellCompleted f start) := by
  refine steady_of (f := fun u => u.tellCompleted f start) ?_ fun up u => (opsKeep_links up).tellCompleted u f start
  unfold State.tellCompleted
  split
  · exact .refl s
  · exact .refl s
  · exact frameRel_sameConsist.frame ((touches_leadOrderCompleted (by decide) (by decide) (by decide) (by decide) (by decide) (by decide)
      (by decide) (by decide) _ _).mpr (Touches.refl _ s))

theorem steady_complete (k : Nat) (o : SlotOutcome) (d : Byte) (r : List Byte) : Steady s (s.complete k o d r) :=
  ⟨sameConsist_complete s k o d r, sameLinks_complete s k o d r⟩

theorem steady_allocate : Steady s s.allocate :=
  steady_of (f := State.allocate) (sameConsist_allocate s) fun up u => (opsKeep_links up).allocate u

theorem steady_setCap (new : CapState) (cause : CapCause) : Steady s (s.setCap new cause) :=
  ⟨sameConsist_setCap s new cause, sameLinks_besidesSpans ((touches_setCap _ _ (by decide) (by decide) (by decide)).mpr (Touches.refl _ s))⟩

theorem steady_heat (v : Heat) (h : v.allocEnd.isSome = s.heat.allocEnd.isSome) : Steady s { s with heat := v } :=
  ⟨sameConsist_heat s v h, fun _ => rfl⟩

theorem good_choices (n : Nat) (hs : s.Good) : State.Good { s with choices := n } :=
  (sameConsist_of_touches ((touches_choices s n).mono (by decide))).good hs

/-! ## Exits -/

theorem exit_state (u : Span) (now : Nat) (cause : Cause) (target : ExitTo) : (u.exit now cause target).state ≠ .up := by
  cases target <;> simp [Span.exit, Span.toProbing]

theorem whole_spanDownReport (x : SpanId) (cause : Cause) (lost : Word32) (hs : s.Good) : (s.spanDownReport x cause lost).Whole := by
  unfold State.spanDownReport
  simp only
  exact whole_reviewEnd _ (good_censusSpanDown _ x cause ((sameConsist_relaySpanDown _ x).good ((sameConsist_raise s _ _).good hs)))

theorem whole_spanUpReport (x : SpanId) (p : Partner) (hs : s.Good) : (s.spanUpReport x p).Whole := by
  unfold State.spanUpReport
  simp only
  exact whole_reviewEnd _ (good_censusSpanUp _ x ((sameConsist_raise s _ _).good hs))

/-- After an exit from UP the status is read afresh; an exit from another state leaves all as it was. -/
theorem exitFollows_whole (x : SpanId) (u : Span) (cause : Cause) (hs : s.Good) :
    (s.exitFollows x u cause).Good ∧ (s.Ends ∨ u.state = .up → (s.exitFollows x u cause).Ends) := by
  unfold State.exitFollows
  split
  next hu => exact ⟨hs, fun h => h.resolve_right hu⟩
  · have htell (v : State) : Steady v (u.queued.foldl (fun w f => w.tellLost .spanEnd f) v) := by
      induction u.queued generalizing v with
      | nil => exact .refl v
      | cons f fs ih => exact frameRel_steady.trans (steady_tellLost v _ f) (ih _)
    have hreport (v : State) (hv : v.Good) := whole_spanDownReport v x cause ((u.partner.map fun p => p.identity).getD 0) hv
    have hwhole {v : State} (h : v.Whole) : v.Good ∧ (s.Ends ∨ u.state = .up → v.Ends) := ⟨h.1, fun _ => h.2⟩
    simp only
    split
    · exact hwhole (hreport s hs)
    · have hc := good_choices s (s.choices + 1) hs
      unfold State.eitherOrder
      split
      · exact hwhole (hreport _ ((htell _).1.good hc))
      · exact hwhole ((htell _).whole (hreport _ hc))

theorem whole_exitSpan (x : SpanId) (target : ExitTo) (cause : Cause) (hs : s.Whole) : (s.exitSpan x target cause).Whole := by
  unfold State.exitSpan
  simp only
  have hgood : (s.setSpan x ((s.span x).exit s.now cause target)).Good := (frameRel_sameConsist.setSpan links_besidesConsist s x _).good hs.1
  obtain ⟨hg, he⟩ := exitFollows_whole _ x (s.span x) cause hgood
  refine ⟨hg, he ?_⟩
  by_cases hu : (s.span x).state = .up
  · exact .inr hu
  · refine .inl (Steady.whole (s := s) (steady_setSpan s x _ ?_) hs).2
    have := exit_state (s.span x) s.now cause target
    unfold State.isUp
    simp [this, hu]

theorem whole_exitWhere (p : SpanId → Bool) (target : ExitTo) (cause : Cause) (hs : s.Whole) : (s.exitWhere p target cause).Whole := by
  unfold State.exitWhere
  simp only
  generalize ht : ({ s with spanA := _, spanB := _ } : State) = t
  have hsame : SameConsist s t := ht ▸ ⟨rfl, rfl, rfl, rfl, rfl, rfl, rfl, .inr id⟩
  have hfollow (x : SpanId) (u : Span) (v : State) (hv : v.Good) (hup : v.Ends ∨ (p x = true ∧ u.state = .up)) :
      State.Whole (if p x = true then v.exitFollows x u cause else v) := by
    split
    next hp => exact ⟨(exitFollows_whole v x u cause hv).1, (exitFollows_whole v x u cause hv).2 (hup.imp_right fun h => h.2)⟩
    next hp => exact ⟨hv, hup.resolve_right fun h => hp h.1⟩
  have hgood (x : SpanId) (u : Span) (v : State) (hv : v.Good) : State.Good (if p x = true then v.exitFollows x u cause else v) :=
    iteClosed (exitFollows_whole v x u cause hv).1 hv
  have hup : t.Ends ∨ (p .a = true ∧ s.spanA.state = .up) ∨ (p .b = true ∧ s.spanB.state = .up) := by
    by_cases ha : p .a = true ∧ s.spanA.state = .up
    · exact .inr (.inl ha)
    by_cases hb : p .b = true ∧ s.spanB.state = .up
    · exact .inr (.inr hb)
    refine .inl (hsame.ends (fun x => ?_) hs.2)
    have hlink {q : Bool} {u : Span} (h : ¬ (q = true ∧ u.state = .up)) :
        ((if q = true then u.exit s.now cause target else u).state == .up) = (u.state == .up) := by
      split
      next hq =>
        have hne : u.state ≠ .up := fun hu => h ⟨hq, hu⟩
        have := exit_state u s.now cause target
        simp [this, hne]
      · rfl
    rw [← ht]
    cases x
    · exact hlink ha
    · exact hlink hb
  have hAB (v : State) (hv : v.Good) (he : v.Ends ∨ (p .a = true ∧ s.spanA.state = .up) ∨ (p .b = true ∧ s.spanB.state = .up)) :
      State.Whole (if p .b = true then State.exitFollows (if p .a = true then v.exitFollows .a s.spanA cause else v) .b s.spanB cause
        else (if p .a = true then v.exitFollows .a s.spanA cause else v)) := by
    refine hfollow .b s.spanB _ (hgood .a _ v hv) ?_
    obtain he | he | he := he
    · exact .inl (hfollow .a s.spanA v hv (.inl he)).2
    · exact .inl (hfollow .a s.spanA v hv (.inr he)).2
    · exact .inr he
  have hBA (v : State) (hv : v.Good) (he : v.Ends ∨ (p .a = true ∧ s.spanA.state = .up) ∨ (p .b = true ∧ s.spanB.state = .up)) :
      State.Whole (if p .a = true then State.exitFollows (if p .b = true then v.exitFollows .b s.spanB cause else v) .a s.spanA cause
        else (if p .b = true then v.exitFollows .b s.spanB cause else v)) := by
    refine hfollow .a s.spanA _ (hgood .b _ v hv) ?_
    obtain he | he | he := he
    · exact .inl (hfollow .b s.spanB v hv (.inl he)).2
    · exact .inr he
    · exact .inl (hfollow .b s.spanB v hv (.inr he)).2
  have hgt : t.Good := hsame.good hs.1
  split
  · unfold State.eitherOrder
    exact iteClosed (hAB _ (good_choices t (t.choices + 1) hgt) hup) (hBA _ (good_choices t (t.choices + 1) hgt) hup)
  · exact hAB t hgt hup

/-! ## HELLO and KEEPALIVE -/

theorem steady_enterGreeting (x : SpanId) (h : (s.span x).state ≠ .up) : Steady s (s.enterGreeting x) := by
  unfold State.enterGreeting
  exact .after (steady_offer _ _ _) (steady_setSpan s x _ (by unfold State.isUp; simp [h]))

theorem whole_greet (x : SpanId) (m : HelloMsg) (hs : s.Whole) : (s.greet x m).Whole := by
  unfold State.greet
  refine iteClosed (whole_exitSpan s _ _ _ hs) (iteClosed ?_ ((steady_setSpan s x _ (by rfl)).whole hs))
  unfold State.enterUp
  exact whole_spanUpReport _ _ _ ((steady_offer _ _ _).1.good ((frameRel_sameConsist.setSpan links_besidesConsist s x _).good hs.1))

theorem whole_takeHello (x : SpanId) (f : Frame) (hs : s.Whole) : (s.takeHello x f).Whole := by
  have hsearch (m : HelloMsg) (h : (s.span x).state.searching = true) : (s.helloWhileSearching x m).Whole := by
    have hup : (s.span x).state ≠ .up := fun h' => by simp [h', SpanState.searching] at h
    unfold State.helloWhileSearching
    refine iteClosed (whole_exitSpan s _ _ _ hs) (iteClosed hs (whole_greet _ x m ((steady_enterGreeting s x hup).whole hs)))
  unfold State.takeHello
  split
  · exact hs
  split
  next h => exact hsearch _ (by rw [h]; rfl)
  next h => exact hsearch _ (by rw [h]; rfl)
  · exact whole_greet s x _ hs
  · unfold State.helloWhileUp
    split
    · exact hs
    · refine iteClosed (whole_exitSpan s _ _ _ hs) (iteClosed (whole_exitSpan s _ _ _ hs) (iteClosed (whole_exitSpan s _ _ _ hs) ?_))
      simp only
      have hset (p : Partner) := (steady_setSpan s x { s.span x with partner := some p } rfl).whole hs
      exact iteClosed ((steady_offer _ _ _).whole (hset _)) (hset _)
  · exact hs
  · exact hs

theorem whole_takeKeepalive (x : SpanId) (f : Frame) (hs : s.Whole) : (s.takeKeepalive x f).Whole := by
  unfold State.takeKeepalive
  split
  · exact iteClosed (whole_exitSpan s _ _ _ hs) ((steady_setSpan s x _ (by rfl)).whole hs)
  · exact hs

theorem whole_takeFrame {f : RxFrame → State → State} (x : SpanId) (k : FrameKind)
    (hf : ∀ (r : RxFrame) (l : List RxFrame), (s.setSpan x { s.span x with rxq := l }).Whole →
      (f r (s.setSpan x { s.span x with rxq := l })).Whole) (hs : s.Whole) : (s.takeFrame x k f).Whole := by
  unfold State.takeFrame
  simp only
  split
  · exact iteClosed (hf _ _ ((steady_setSpan s x _ (by rfl)).whole hs)) hs
  · exact hs

/-- A frame acted on while UP: the part is RUNNING (R11, R163). -/
theorem whole_takeWhileUp {f : Frame → Nat → State → State} (x : SpanId) (k : FrameKind) (hspans : s.spansSound)
    (hf : ∀ g n (u : State), u.port.running = true → u.Whole → (f g n u).Whole) (hs : s.Whole) : (s.takeWhileUp x k f).Whole := by
  refine whole_takeFrame s x k (fun r l hl => ?_) hs
  split
  next hup =>
    refine hf _ _ _ ?_ hl
    obtain ⟨-, -, hrelay, -, -, -, hrun⟩ := hspans
    rw [setSpan_port]
    have hup' : s.isUp x = true := by
      unfold State.isUp at hup ⊢
      simpa using hup
    by_contra h0
    obtain ⟨ha, hb⟩ := hrelay (by simp [(hrun (by simpa using h0)).1])
    cases x <;> simp_all [State.isUp, State.span]
  · exact hl

end

end Sys2Proof.Machine

/-!
O58: every command.
-/

namespace Sys2Proof.Machine

theorem sameLinks_of_spans {s t : State} (ha : t.spanA = s.spanA) (hb : t.spanB = s.spanB) : SameLinks s t := fun x => by
  cases x
  · exact congrArg (fun u : Span => u.state == .up) ha
  · exact congrArg (fun u : Span => u.state == .up) hb

section
variable (s : State)

/-! ## The span units -/

theorem steady_searchIfReady (x : SpanId) : Steady s (s.searchIfReady x) := by
  unfold State.searchIfReady
  simp only
  refine frameRel_steady.when fun h => steady_setSpan s x _ ?_
  unfold State.isUp
  rw [h.1]
  rfl

theorem steady_debounce (x : SpanId) (answer : Option Nat) : Steady s (s.debounce x answer) := by
  have hset (u : Span) (hu : u.state ≠ .up) (hs : (s.span x).state ≠ .up) : Steady s (s.setSpan x u) :=
    steady_setSpan s x u (by unfold State.isUp; simp [hu, hs])
  unfold State.debounce
  simp only
  split
  next h => exact hset _ nofun (by simp [h])
  · exact .refl s
  next h =>
    have hs : (s.span x).state ≠ .up := by simp [h]
    refine FrameRel.branch (fun _ => ?_) fun _ => steady_setSpan s x _ (by rfl)
    have hcount := steady_setSpan s x { s.span x with runCount := (s.span x).runCount + 1 } rfl
    exact FrameRel.branch (fun _ => frameRel_steady.trans hcount (steady_enterGreeting _ x (by rw [setSpan_span]; exact hs))) fun _ => hcount
  next h => exact hset _ nofun (by simp [h])
  all_goals exact .refl s

theorem steady_classifyProbe (x : SpanId) (es : List Excursion) : Steady s (s.classifyProbe x es) := by
  unfold State.classifyProbe
  simp only
  split
  all_goals exact .after (steady_debounce _ x _) (steady_setSpan s x _ (by rfl))

theorem steady_receiveLine (x : SpanId) (line : List Level) : Steady s (s.receiveLine x line) := by
  have hreject (t : State) (why : Rejection) : Steady t (t.rejectFrame x why) :=
    steady_setSpan t x _ (by unfold Span.countReject; cases why <;> rfl)
  have hreceive (t : State) (bytes : List Byte) : Steady t (t.receiveBytes x bytes) := by
    unfold State.receiveBytes
    split
    · exact hreject t _
    split
    · exact steady_setSpan t x _ (by rfl)
    · unfold State.acceptFrame
      simp only
      exact FrameRel.branch (fun _ => steady_setSpan t x _ (by rfl)) fun _ =>
        .after (steady_raise _ _ _) (steady_setSpan t x _ (by rfl))
  unfold State.receiveLine
  simp only
  refine frameRel_steady.branch_refl fun _ => ?_
  have hbusy := steady_setSpan s x { s.span x with busyUntil := max (s.span x).busyUntil s.now } rfl
  split
  exacts [hbusy, frameRel_steady.trans hbusy (hreject _ _), frameRel_steady.trans hbusy (hreceive _ _)]

theorem steady_periodicHello (x : SpanId) : Steady s (s.periodicHello x) := by
  unfold State.periodicHello
  simp only
  split
  next t _ =>
    have hset := steady_setSpan s x { s.span x with helloDue := some (t + 2 * ms) } rfl
    exact frameRel_steady.when fun _ => FrameRel.branch (fun _ => hset) fun _ => frameRel_steady.trans hset (steady_offer _ _ _)
  · exact .refl s

theorem steady_endJam (x : SpanId) (jamEnd : Nat) : Steady s (s.endJam x jamEnd) := by
  unfold State.endJam
  simp only
  have hset := steady_setSpan s x { (s.span x).draw.1 with drive := .idle, busyUntil := jamEnd, deafUntil := jamEnd } rfl
  split
  · exact hset
  · refine FrameRel.branch (fun _ => frameRel_steady.trans hset ?_) fun _ => frameRel_steady.trans hset (steady_setSpan _ x _ (by rfl))
    unfold State.giveUp
    exact .after (steady_tellLost _ _ _) (.after (steady_raise _ _ _) (steady_setSpan _ x _ (by rfl)))

theorem steady_completeFrame (x : SpanId) (f : TxFrame) (start endAt : Nat) : Steady s (s.completeFrame x f start endAt) := by
  unfold State.completeFrame
  exact .after (steady_tellCompleted _ f start) (steady_setSpan s x _ (by rfl))

/-! ## The heating share unit and the door unit -/

theorem steady_heatDemand (r : Request) : Steady s (s.heatDemand r) :=
  .after (steady_complete _ _ _ _ _) (steady_heat s _ (by rfl))

theorem steady_heatSupply (r : Request) : Steady s (s.heatSupply r) := by
  unfold State.heatSupply
  simp only
  refine FrameRel.branch (fun _ => steady_complete s _ _ _ _) fun _ => FrameRel.branch (fun _ => steady_complete s _ _ _ _) fun _ => ?_
  have hsupply (v : Supply) : Steady s { s with heat := { s.heat with supply := v } } := steady_heat s _ (by rfl)
  refine .after (steady_complete _ _ _ _ _) ?_
  exact FrameRel.branch (fun _ => .after (steady_allocate _) (hsupply _)) fun _ => hsupply _

theorem steady_faultClearHeating (r : Request) : Steady s (s.faultClearHeating r) := by
  unfold State.faultClearHeating
  simp only
  refine FrameRel.branch (fun _ => ?_) fun _ => steady_complete s _ _ _ _
  exact .after (steady_complete _ _ _ _ _) (.after (steady_setCap _ _ _) (frameRel_steady.frame ((touches_fire s _).mono (by decide))))

theorem steady_overdrawFault (e m : Nat) : Steady s (s.overdrawFault e m) := by
  have htally : Steady s { s with tallies := { s.tallies with fault := s.tallies.fault + 1 } } :=
    frameRel_steady.frame ((touches_faultTally s _).mono (by decide))
  unfold State.overdrawFault
  simp only
  refine .after (frameRel_steady.frame ((touches_publishFire (by decide)).mpr (Touches.refl _ _))) ?_
  refine .after (frameRel_steady.frame ((touches_fire _ _).mono (by decide))) (.after (steady_setCap _ _ _) ?_)
  exact .after (steady_raise _ _ _) htally

theorem steady_judgePeriod : Steady s s.judgePeriod := by
  have hfire (v : Fire) : Steady s { s with fire := v } := frameRel_steady.frame ((touches_fire s v).mono (by decide))
  unfold State.judgePeriod
  exact FrameRel.branch (fun _ => .after (steady_overdrawFault _ _ _) (hfire _)) fun _ => hfire _

theorem steady_takeDoorOrder (r : Request) (a : Action) : Steady s (s.takeDoorOrder r a) := by
  have hdoor (u : State) (v : Door) : Steady u { u with door := v } := ⟨sameConsist_door u v, fun _ => rfl⟩
  have hend : Steady s (s.endOutstanding .superseded 0 0 0) := frameRel_steady.frame
    ((touches_endOutstanding (by decide) (by decide) (by decide) (by decide) _ _ _ _).mpr (Touches.refl _ s))
  unfold State.takeDoorOrder
  simp only
  refine FrameRel.branch (fun _ => ?_) fun _ => ?_
  · refine .after (frameRel_steady.frame ((touches_finishOrder (by decide) (by decide) (by decide) (by decide) _ _ _ _).mpr
      (Touches.refl _ _))) ?_
    refine .after (frameRel_steady.frame ((touches_handOrder (by decide) (by decide) (by decide) (by decide) (by decide) _ _ _ _ _).mpr
      (Touches.refl _ _))) ?_
    exact .after (hdoor _ _) hend
  · refine .after ⟨sameConsist_offerOrder _ _ _, ?_⟩ (.after (hdoor _ _) (.after (hdoor _ _) hend))
    intro y
    exact (opsKeep_links _).offerOrder _ _ _ (show FrameKind.order.consumer ≠ .spanUnit by decide) (fun _ => rfl) y

theorem steady_settle : Steady s s.settle := by
  refine ⟨⟨?_, ?_, ?_, ?_, ?_, ?_, ?_, ?_⟩, sameLinks_of_spans (settle_spanA s) (settle_spanB s)⟩
  · rw [settle_port]
  · rw [settle_settings]
  · rw [settle_census]
  · rw [settle_table]
  · rw [settle_table]
  · rw [settle_heat]
  · rw [settle_relay]
  · rw [settle_relay]
    exact .inr id

end

/-! ## CONFIGURE and the resets -/

/-- The allocation timer as it was. -/
def AllocKept (s t : State) : Prop := t.heat.allocEnd = s.heat.allocEnd

theorem frameRel_allocKept : FrameRel [.side1, .side2, .summary, .pub, .choices, .fire, .mon] AllocKept where
  frame {s t} h := by
    have hheat : t.heat = s.heat := (h .heat (by decide)).1
    exact congrArg Heat.allocEnd hheat
  trans h h' := Eq.trans h' h

theorem allocKept_startSide (u : State) (k : SideId) (b : Bool) (m : Byte) : AllocKept u (u.startSide k b m) :=
  frameRel_allocKept.frame ((touches_startSide k b m (by cases k <;> decide) (by decide) (by decide) (by decide)).mpr (Touches.refl _ u))

theorem adopt_allocEnd (s : State) (new : Settings) : AllocKept s (s.adopt new) := by
  have hheat (u : State) : AllocKept u u.startHeat := by
    unfold AllocKept State.startHeat
    rw [setCap_keeps]
    unfold State.setCap
    simp only
    split <;> rfl
  have hspans : AllocKept s (State.startSpans { s with settings := new, port := { s.port with running := true } }) := rfl
  unfold State.adopt
  simp only
  refine frameRel_allocKept.trans ?_ (frameRel_allocKept.frame ((touches_raise _ _ (by decide)).mpr
    ((touches_mon (State.startPeriod _ _) _).mono (by decide))))
  refine frameRel_allocKept.trans ?_ (frameRel_allocKept.frame ((touches_startPeriod _ (by decide) (by decide)).mpr (Touches.refl _ _)))
  exact frameRel_allocKept.trans (frameRel_allocKept.trans (frameRel_allocKept.trans hspans (allocKept_startSide _ _ _ _))
    (allocKept_startSide _ _ _ _)) (hheat _)

/-- Adoption finds the engine empty and leaves it so (R42, R164). -/
theorem whole_adopt (s : State) (new : Settings) (hrun : s.port.running = false) (hs : s.Whole) : (s.adopt new).Whole := by
  obtain ⟨hrole, hstate, hctx⟩ := hs.1.1.before hrun
  have hadopt := touches_adopt_started s new
  have hcensus : (s.adopt new).census = s.census := (hadopt .census (by decide)).1
  have hport : (s.adopt new).port.running = true := (congrArg Port.running (hadopt .port (by decide)).1 :)
  have hrelay : (s.adopt new).relay = s.relay := (hadopt .relay (by decide)).1
  have hlisted : s.census.state.listed = false := by rw [hstate]; rfl
  have hfits := hs.1.1
  refine ⟨⟨?_, ?_⟩, fun _ hl => ?_⟩
  · unfold State.Fits
    rw [hcensus, hport]
    exact ⟨nofun, fun hl => absurd (hrole.symm.trans hl) (by decide), hfits.member, hfits.timer, hfits.context, hfits.settle, hfits.retry,
      fun c hc => absurd (hctx.symm.trans hc) nofun⟩
  · have halloc := adopt_allocEnd s new
    have hnone : s.heat.allocEnd = none := by
      cases ha : s.heat.allocEnd with
      | none => rfl
      | some e =>
        have := (hs.1.2.alloc (by rw [ha]; rfl)).2.1
        rw [hlisted] at this
        cases this
    exact holds_idle (by rwa [hcensus]) (by rw [hcensus, hstate]; decide) (hrelay.trans (hs.1.2.relay (.inr hlisted))) (halloc.trans hnone)
  · rw [hcensus, hlisted] at hl
    cases hl

theorem whole_configure (s : State) (r : Request) (hs : s.Whole) : (s.configure r).Whole := by
  unfold State.configure
  split
  · exact (steady_complete s _ _ _ _).whole hs
  next hrun =>
    simp only
    split
    · exact (steady_complete s _ _ _ _).whole hs
    · exact (steady_complete _ _ _ _ _).whole (whole_adopt s _ (by simpa using hrun) hs)

/-- A state in which the engine, the relay and the allocation timer have their reset values (R162). -/
theorem whole_of_reset {s : State} (hcensus : s.census = Census.reset) (hrelay : s.relay = Relay.empty) (halloc : s.heat.allocEnd = none) :
    s.Whole := by
  refine ⟨⟨?_, holds_idle (by rw [hcensus]; rfl) (by rw [hcensus]; decide) hrelay halloc⟩, fun _ hl => ?_⟩
  · unfold State.Fits
    rw [hcensus]
    exact ⟨fun _ => ⟨rfl, rfl, rfl⟩, nofun, fun _ => ⟨rfl, rfl, rfl⟩, by decide, nofun, nofun, Nat.zero_le _, nofun⟩
  · rw [hcensus] at hl
    cases hl

/-- A port that runs as before. -/
theorem steady_port (s : State) (v : Port) (h : v.running = s.port.running) : Steady s { s with port := v } :=
  ⟨⟨h, rfl, rfl, rfl, rfl, rfl, rfl, .inr id⟩, fun _ => rfl⟩

theorem whole_resetWord (s : State) (data : Sent (List Byte)) (hs : s.Whole) : (s.transact (headerOf 0x04 3 ++ data.whole) data.held
    fun u => u.commitRegister data.whole (State.writeResetWord data.whole)).Whole := by
  have hnoted (u : State) : Steady u (u.clearEchoed.noteLength data.whole) := by
    unfold State.noteLength
    split <;> exact steady_port u _ rfl
  unfold State.transact
  simp only
  split
  · generalize hv : (Port.mk .. : Port) = v
    have hport : Steady s { s with port := v } := steady_port s v (by rw [← hv])
    split
    · exact hport.whole hs
    · unfold State.commitRegister State.writeResetWord
      exact iteClosed (whole_of_reset rfl rfl rfl) ((hnoted _).whole (hport.whole hs))
  · exact hs

/-! ## The sweep -/

/-- The commands that touch what the agreement reads, beside those made of the blocks' primitive operations. -/
def reachesConsist : Instr → Bool
  | .configure _ | .spanControlEnable _ | .spanControlDisable _ | .spanControlRestart _ | .spanControlBypass _ | .relaySwitched _
  | .probe _ _ _ | .listenWindowEnd _ _ _ | .foreignProbe _ _ _ _ | .probeAnswer _ _ | .frameReceived _ _ _ | .hello _ _
  | .keepalive _ _ | .greetingHelloDue _ _ | .greetTimeout _ _ | .silence _ _ | .errors _ _ | .keepaliveDue _ _
  | .transmitAttempt _ _ _ | .collision _ _ | .jamEnd _ _ | .backoffEnd _ _ | .frameCompleted _ _ | .takeLead _ | .censusStart _
  | .dropLead _ | .settleTimerExpired _ | .doorOrder _ | .heatDemand _ | .demandLeaseExpired _ | .heatSupply _ | .grantHoldExpired _
  | .faultClearHeating _ | .periodStart _ => true
  | _ => false

theorem touches_steadyParts (c : Instr) (hr : mayReset c = false) (hp : portCommand c = false) (ho : opsCommand c = false)
    (hd : reachesConsist c = false) : touches c ⊆ steadyParts := by
  cases c
  case lockLevelChanged dt k | driveMismatch dt k | driveMismatchEnded dt k | leaseExpired dt k | closeTimeout dt k |
    releaseHalfPeriod dt k | feedbackSample dt k _ =>
    cases k <;> simp [touches, sidePart, steadyParts, eventParts, sideParts]
  case powerOn | resetn | resetWord => simp [mayReset] at hr
  case memRead | memWrite | regRead | regWriteOther | portSetEcho | portSetAttnPolarity | portSetAttnDrive | misalign |
    misalignedTransaction | unknownOpcode | ignoredTransaction => simp [portCommand] at hp
  case take | spanControlUnbypass | doorLocalIsolate | doorLocalRestore | faultClearDoor | rollAgeTimerExpired | applyInstant |
    windowStart | windowEnd | readingCompleted | lowTimerExpired | returnTimerExpired | millisecondTick =>
    simp only [touches]
    decide
  case call | report | table | tableAck | void | brk | censusTimerExpired | order | orderAck | ackWaitTimeout | grant | doorStateRoll |
    demandRoll | originationTimer | substituteOrigination | doorOrderTimedOut | allocationTimerExpired => simp [opsCommand] at ho
  all_goals simp [reachesConsist] at hd

/-- A command that begins with the time and ends with the end of its step. -/
theorem whole_run {c : Instr} {s t : State} {dt : Nat} {f : State → State} (h : exec c s = .next (s.run dt f)) (hc : exec c s = .next t)
    (hspans : s.spansSound) (hs : s.Whole) (hf : ∀ u : State, u.spansSound → u.Whole → (f u).Whole) : t.Whole := by
  obtain rfl : s.run dt f = t := Host.Outcome.next.inj (h.symm.trans hc)
  unfold State.run
  have hadv : Steady s (s.advance dt) := ⟨⟨rfl, rfl, rfl, rfl, rfl, rfl, rfl, .inr id⟩, fun _ => rfl⟩
  exact (steady_settle _).whole (hf _ (spansKept_advance s dt hspans) (hadv.whole hs))

theorem whole_serve {s : State} {p : Request → Bool} {f : Request → State → State} (hspans : s.spansSound) (hs : s.Whole)
    (hf : ∀ r u, p r = true → (u.port.running = false → r.kind = .configure) → State.Whole u → (f r u).Whole) : (s.serve p f).Whole := by
  unfold State.serve
  split
  next r rest ht =>
    obtain ⟨hmem, -⟩ := takeRequest_mem ht
    obtain ⟨hr, hp⟩ := hmem r rfl
    obtain ⟨-, -, -, -, -, -, hrun⟩ := hspans
    have hreq : Steady s { s with req := { s.req with handed := rest } } := ⟨⟨rfl, rfl, rfl, rfl, rfl, rfl, rfl, .inr id⟩, fun _ => rfl⟩
    exact hf r _ hp (fun h0 => (hrun h0).2 r hr) (hreq.whole hs)
  · exact hs

theorem whole_elsewhere {c : Instr} {s t : State} (hc : exec c s = .next t) (hr : mayReset c = false) (hP : touches c ⊆ steadyParts)
    (hs : s.Whole) : t.Whole := by
  obtain ⟨dt, u, hu, ht⟩ := runsWithin c s hr
  obtain rfl : u.settle = t := Host.Outcome.next.inj (hu.symm.trans hc)
  have hadv : Steady s (s.advance dt) := ⟨⟨rfl, rfl, rfl, rfl, rfl, rfl, rfl, .inr id⟩, fun _ => rfl⟩
  exact (steady_settle u).whole ((frameRel_steady.frame (ht.mono hP)).whole (hadv.whole hs))

theorem whole_port {c : Instr} {s t : State} (hc : exec c s = .next t) (hp : portCommand c = true) (hs : s.Whole) : t.Whole := by
  obtain ⟨dt, u, hu, ht, hrun, -⟩ := runsPort c s hp
  obtain rfl : u.settle = t := Host.Outcome.next.inj (hu.symm.trans hc)
  have hk (p : Part) (hp : p ∉ [Part.port, .mem, .req, .trail]) : p.kept (s.advance dt) u := (ht p hp).1
  have ha : u.spanA = s.spanA := hk .spanA (by simp)
  have hb : u.spanB = s.spanB := hk .spanB (by simp)
  have hset : u.settings = s.settings := hk .settings (by simp)
  have hcensus : u.census = s.census := hk .census (by simp)
  have htable : u.table = s.table := hk .table (by simp)
  have hheat : u.heat = s.heat := hk .heat (by simp)
  have hrelay : u.relay = s.relay := hk .relay (by simp)
  have hsame : SameConsist s u :=
    ⟨hrun, hset, hcensus, by rw [htable], by rw [htable], by rw [hheat], by rw [hrelay], .inr (by rw [hrelay]; exact id)⟩
  exact (steady_settle u).whole (hsame.whole (sameLinks_of_spans ha hb) hs)

theorem whole_ops {c : Instr} {s t : State} (hc : exec c s = .next t) (ho : opsCommand c = true) (hspans : s.spansSound) (hs : s.Whole) :
    t.Whole := by
  have hcensus {dt : Nat} {x : SpanId} {k : FrameKind} {f : State → SpanId → Frame → State}
      (h : Machine.exec c s = .next (s.run dt fun u => u.takeWhileUp x k fun g _ v => (f v x g).reviewEnd))
      (hf : ∀ v g, v.port.running = true → State.Good v → (f v x g).Good) : t.Whole :=
    whole_run h hc hspans hs fun u hu hw => whole_takeWhileUp u x k hu (fun g _ v hrun hv => whole_reviewEnd _ (hf v g hrun hv.1)) hw
  have hwave {dt : Nat} {x : SpanId} {k : FrameKind} {f : Frame → Nat → State → State}
      (h : Machine.exec c s = .next (s.run dt fun u => u.takeWave x k f))
      (hf : ∀ (v : State) g n, v.census.state.listed = true → Steady v (f g n v)) : t.Whole := by
    refine whole_run h hc hspans hs fun u hu hw => whole_takeWhileUp u x k hu (fun g n v _ hv => ?_) hw
    split
    next hl => exact (hf v g n hl).whole hv
    · exact hv
  cases c
  case call => exact hcensus rfl fun v g hrun hv => good_takeCall v _ g hv hrun
  case report => exact hcensus rfl fun v g hrun hv => good_takeReport v _ g hv hrun
  case table => exact hcensus rfl fun v g _ hv => good_takeTable v _ g hv
  case tableAck => exact hcensus rfl fun v g _ hv => good_takeTableAck v _ g hv
  case void => exact hcensus rfl fun v g _ hv => good_takeVoid v _ g hv
  case brk => exact hcensus rfl fun v g _ hv => good_takeBreak v _ g hv
  case order dt x =>
    exact hwave rfl fun v g n hl =>
      steady_of (f := fun u => u.takeOrder x g n) (sameConsist_takeOrder v x g n hl) fun up u => (opsKeep_links up).takeOrder u x g n
  case orderAck dt x =>
    exact hwave rfl fun v g n _ =>
      steady_of (f := fun u => u.takeOrderAck x g) (sameConsist_takeOrderAck v x g) fun up u => (opsKeep_links up).takeOrderAck u x g
  case grant dt x =>
    exact hwave rfl fun v g n hl =>
      steady_of (f := fun u => u.takeGrantFrame x g) (sameConsist_takeGrantFrame v x g hl) fun up u => (opsKeep_links up).takeGrantFrame u x g
  case doorStateRoll dt x =>
    exact hwave rfl fun v g n hl =>
      steady_of (f := fun u => u.takeDoorState x g) (sameConsist_takeDoorState v x g hl) fun up u => (opsKeep_links up).takeDoorState u x g
  case demandRoll dt x =>
    exact hwave rfl fun v g n hl =>
      steady_of (f := fun u => u.takeDemand x g) (sameConsist_takeDemand v x g hl) fun up u => (opsKeep_links up).takeDemand u x g
  case censusTimerExpired => exact whole_run rfl hc hspans hs fun u _ hw => iteClosed (whole_reviewEnd _ (good_censusTimeout u hw.1)) hw
  case ackWaitTimeout =>
    exact whole_run rfl hc hspans hs fun u _ hw => iteClosed ((steady_of (f := fun u => u.endOpenOrder .noAck)
      (sameConsist_endOpenOrder u _) fun up v => (opsKeep_links up).endOpenOrder v _).whole hw) hw
  case originationTimer dt k =>
    exact whole_run rfl hc hspans hs fun u _ hw => (steady_of (f := fun u => u.originateDue k) (sameConsist_originateDue u k)
      fun up v => (opsKeep_links up).originateDue v k).whole hw
  case substituteOrigination dt k =>
    refine whole_run rfl hc hspans hs fun u _ hw => ?_
    split
    next h => exact (steady_of (f := fun v => (v.setWatch k _).originate k) (sameConsist_substitute u k _ h)
      fun up v => (opsKeep_links up).substitute v k _).whole hw
    · exact hw
  case doorOrderTimedOut =>
    exact whole_run rfl hc hspans hs fun u _ hw => iteClosed ((steady_of (f := fun u => u.endOutstanding _ _ _ _)
      (sameConsist_endOutstanding u _ _ _ _) fun up v => (opsKeep_links up).endOutstanding v _ _ _ _).whole hw) hw
  case allocationTimerExpired =>
    refine whole_run rfl hc hspans hs fun u _ hw => ?_
    split
    next e he => exact iteClosed ((steady_allocate _).whole ((steady_heat u _ (by rw [he]; rfl)).whole hw)) hw
    · exact hw
  all_goals exact absurd ho (by simp [opsCommand])

theorem whole_reaches {c : Instr} {s t : State} (hc : exec c s = .next t) (hd : reachesConsist c = true) (hspans : s.spansSound)
    (hs : s.Whole) : t.Whole := by
  have hsteady {dt : Nat} {f : State → State} (h : exec c s = .next (s.run dt f)) (hf : ∀ u, Steady u (f u)) : t.Whole :=
    whole_run h hc hspans hs fun u _ hw => (hf u).whole hw
  have hserve {dt : Nat} {p : Request → Bool} {f : Request → State → State} (h : exec c s = .next (s.run dt fun u => u.serve p f))
      (hf : ∀ r u, p r = true → (u.port.running = false → r.kind = .configure) → State.Whole u → (f r u).Whole) : t.Whole :=
    whole_run h hc hspans hs fun u hu hw => whole_serve hu hw hf
  have hset {u : State} {x : SpanId} {v : Span} (hv : v.state = (u.span x).state) : Steady u (u.setSpan x v) :=
    steady_setSpan u x v (by unfold State.isUp; rw [hv])
  have hdone (u : State) (k : Nat) (o : SlotOutcome) : Steady u (u.completeSpan k o) := steady_complete u _ _ _ _
  have hselect (u : State) (r : Request) {f : Byte → State → State} (hu : u.Whole) (hf : (f (r.param 1) u).Whole) :
      (u.withSelector r f).Whole := iteClosed hf ((hdone u _ _).whole hu)
  cases c
  case configure => exact hserve rfl fun r u _ _ hu => whole_configure u r hu
  case spanControlEnable =>
    have hone (sel : Byte) (x : SpanId) (w : State) : Steady w (if selects sel x = true then (w.setEnable x true).searchIfReady x else w) :=
      frameRel_steady.when fun _ => .after (steady_searchIfReady _ x) (hset rfl)
    refine hserve rfl fun r u _ _ hu => iteClosed (hselect u r hu ?_) ((hdone u _ _).whole hu)
    exact (hdone _ _ _).whole ((hone _ .b _).whole ((hone _ .a u).whole hu))
  case spanControlDisable =>
    have hone (sel : Byte) (x : SpanId) (w : State) : Steady w (if selects sel x = true then w.setEnable x false else w) :=
      frameRel_steady.when fun _ => hset rfl
    refine hserve rfl fun r u _ _ hu => hselect u r hu ?_
    exact (hdone _ _ _).whole (whole_exitWhere _ _ _ _ ((hone _ .b _).whole ((hone _ .a u).whole hu)))
  case spanControlRestart =>
    exact hserve rfl fun r u _ _ hu => hselect u r hu (iteClosed ((hdone u _ _).whole hu) ((hdone _ _ _).whole (whole_exitWhere u _ _ _ hu)))
  case spanControlBypass =>
    refine hserve rfl fun r u _ _ hu => ?_
    have hswitch : Steady u (u.switchRelay false r.slot) := frameRel_steady.frame ((touches_bypass u _).mono (by decide))
    split
    · exact whole_exitWhere _ _ _ _ (hswitch.whole hu)
    all_goals exact (hdone u _ _).whole hu
  case relaySwitched =>
    refine hsteady rfl fun u => frameRel_steady.when fun _ => ?_
    unfold State.relaySettles
    simp only
    have hby (v : Bypass) : Steady u { u with bypass := v } := frameRel_steady.frame ((touches_bypass u v).mono (by decide))
    split
    · exact .after (hdone _ _ _) (.after (steady_searchIfReady _ _) (.after (steady_searchIfReady _ _) (hby _)))
    · exact .after (steady_searchIfReady _ _) (.after (steady_searchIfReady _ _) (hby _))
  case probe => exact hsteady rfl fun u => frameRel_steady.when fun _ => hset rfl
  case listenWindowEnd => exact hsteady rfl fun u => frameRel_steady.when fun _ => steady_classifyProbe u _ _
  case foreignProbe => exact hsteady rfl fun u => frameRel_steady.when fun _ => hset rfl
  case probeAnswer =>
    refine hsteady rfl fun u => ?_
    unfold State.driveAnswer
    simp only
    split
    · exact frameRel_steady.when fun _ => hset rfl
    · exact .refl u
  case frameReceived => exact hsteady rfl fun u => steady_receiveLine u _ _
  case hello dt x =>
    exact whole_run rfl hc hspans hs fun u _ hw => whole_takeFrame u x _ (fun r _ hl => whole_takeHello _ x r.frame hl) hw
  case keepalive dt x =>
    exact whole_run rfl hc hspans hs fun u _ hw => whole_takeFrame u x _ (fun r _ hl => whole_takeKeepalive _ x r.frame hl) hw
  case greetingHelloDue => exact hsteady rfl fun u => steady_periodicHello u _
  case greetTimeout | silence | errors =>
    exact whole_run rfl hc hspans hs fun u _ hw => iteClosed (whole_exitSpan u _ _ _ hw) hw
  case keepaliveDue => exact hsteady rfl fun u => frameRel_steady.when fun _ => steady_send u _ _
  case transmitAttempt =>
    refine hsteady rfl fun u => frameRel_steady.when fun _ => ?_
    split
    · exact hset rfl
    · exact .refl u
  case collision =>
    refine hsteady rfl fun u => ?_
    simp only
    split
    · exact frameRel_steady.when fun _ => hset rfl
    all_goals exact .refl u
  case jamEnd =>
    refine hsteady rfl fun u => ?_
    split
    · exact frameRel_steady.when fun _ => steady_endJam u _ _
    all_goals exact .refl u
  case backoffEnd => exact hsteady rfl fun u => frameRel_steady.when fun _ => hset rfl
  case frameCompleted =>
    refine hsteady rfl fun u => ?_
    split
    · exact frameRel_steady.when fun _ => steady_completeFrame u _ _ _ _
    · exact .refl u
  case takeLead =>
    refine hserve rfl fun r u hr hrun hu => whole_reviewEnd _ (good_takeLead u r hu.1 ?_)
    by_contra h0
    simp [hrun (by simpa using h0)] at hr
  case censusStart => exact hserve rfl fun r u _ _ hu => whole_reviewEnd _ (good_censusStart u r hu.1)
  case dropLead =>
    refine hserve rfl fun r u _ _ hu => ?_
    split
    · exact (steady_complete u _ _ _ _).whole hu
    · exact (steady_complete _ _ _ _ _).whole (whole_reviewEnd _ (good_dropLead u))
  case settleTimerExpired =>
    refine whole_run rfl hc hspans hs fun u _ hw => ?_
    split
    next h => exact whole_reviewEnd _ (good_startCensus u none hw.1.1 h.2.1 (hw.1.2.relay (.inl h.2.1)))
    · exact hw
  case doorOrder =>
    refine hserve rfl fun r u _ _ hu => ?_
    unfold State.doorOrder
    split
    · exact (steady_complete u _ _ _ _).whole hu
    · exact (steady_takeDoorOrder u r _).whole hu
    · exact hu
  case heatDemand => exact hserve rfl fun r u _ _ hu => (steady_heatDemand u r).whole hu
  case demandLeaseExpired => exact hsteady rfl fun u => frameRel_steady.when fun _ => steady_heat u _ (by rfl)
  case heatSupply => exact hserve rfl fun r u _ _ hu => (steady_heatSupply u r).whole hu
  case grantHoldExpired => exact hsteady rfl fun u => frameRel_steady.when fun _ => steady_setCap u _ _
  case faultClearHeating => exact hserve rfl fun r u _ _ hu => (steady_faultClearHeating u r).whole hu
  case periodStart =>
    refine hsteady rfl fun u => ?_
    split
    · refine frameRel_steady.when fun _ => .after (frameRel_steady.frame ((touches_startPeriod _ (by decide) (by decide)).mpr
        (Touches.refl _ _))) (.after (frameRel_steady.frame ((touches_publishHeat (by decide)).mpr (Touches.refl _ _))) (steady_judgePeriod u))
    · exact .refl u
  all_goals exact absurd hd (by simp [reachesConsist])

theorem exec_whole {c : Instr} {s t : State} (hc : exec c s = .next t) (hspans : s.spansSound) (hs : s.Whole) : t.Whole := by
  cases hr : mayReset c
  · cases hp : portCommand c
    · cases ho : opsCommand c
      · cases hd : reachesConsist c
        · exact whole_elsewhere hc hr (touches_steadyParts c hr hp ho hd) hs
        · exact whole_reaches hc hd hspans hs
      · exact whole_ops hc ho hspans hs
    · exact whole_port hc hp hs
  · cases c
    case powerOn | resetn =>
      obtain rfl : s.hardReset = t := Host.Outcome.next.inj hc
      exact whole_of_reset rfl rfl rfl
    case resetWord => exact whole_run rfl hc hspans hs fun u _ hw => whole_resetWord u _ hw
    all_goals exact absurd hr (by simp [mayReset])

/-- Settles O58: each operation of the engine leaves its record, the image and the relay in agreement, and the fresh look that ends it
the end-car status (R42, R81, R84). -/
theorem consistStaysSound : Obligations.ConsistStaysSound := by
  unfold Obligations.ConsistStaysSound
  intro s t hspans hs h
  obtain ⟨-, rfl⟩ | ⟨c, rest, -, hc⟩ := step_cases h
  · exact hs
  · exact (consistSound_iff t).mpr (exec_whole hc hspans ((consistSound_iff _).mp hs))

end Sys2Proof.Machine

/-!
What the trail holds of a step's events (R170), and answers stated by the state that the end of the step starts from.
-/

namespace Sys2Proof.Machine

/-! ## Answers -/

section
variable {c : Instr} {s u : State} {dt : Nat} {f : State → State}

/-- A command that raises no event. -/
theorem answers_quiet (h : exec c s = .next (s.run dt f)) (hf : f (s.advance dt) = u) (hu : u.raised = []) : Answers c s u [] := by
  subst hf
  exact ⟨_, h, run_settles dt f s hu⟩

/-- A command that raises the events of one group, the door unit's or another block's. -/
theorem answers_group (h : exec c s = .next (s.run dt f)) (k : Nat) (es : List Event) (b : Bool)
    (hf : f (s.advance dt) = { u with raised := es.map fun e => { group := k, event := e } }) (hu : u.raised = [])
    (hb : ∀ e ∈ es, e.ofDoorUnit = b) : Answers c s u [es] := by
  have hs := run_settles_group dt f s k es b (by rw [hf]) hb
  rw [hf, show ({ ({ u with raised := es.map fun e => { group := k, event := e } } : State) with raised := [] } : State) = u by
    rw [← hu]] at hs
  exact ⟨_, h, hs⟩

/-- A command that changes nothing that the end of a step would have to write. -/
theorem exec_settled (h : exec c s = .next (s.run dt f)) (hf : f (s.advance dt) = u) (hu : u.settled = true) : exec c s = .next u := by
  rw [h, run_of_settled dt f s u hf hu]

end

theorem raised_of_settled {s : State} (h : s.settled = true) : s.raised = [] := ((settled_iff s).mp h).1

/-! ## Records -/

theorem writeEvent_wrote_room {s : State} (e : Event) (hwf : s.mem.wf = true) (hroom : s.trail.held < 128) :
    Wrote 1 s (s.writeEvent e) := by
  refine ⟨?_, ?_, .inr (by omega), fun a ha => ?_, writeEvent_wf s e hwf⟩
  · unfold State.writeEvent
    rw [if_pos hroom]
    rfl
  · unfold State.writeEvent
    rw [if_pos hroom]
  · have hn := ha 0 (by omega)
    rw [show s.trail.next + word32 0 = s.trail.next by simp [word32]] at hn
    rw [writeEvent_read s e hwf, if_neg fun hc => hn hc.2]

theorem writeEvent_msCount (s : State) (e : Event) : (s.writeEvent e).msCount = s.msCount := by
  unfold State.writeEvent
  split <;> rfl

theorem Wrote.held_one {s t : State} (h : Wrote 1 s t) : t.trail.held = s.trail.held + 1 := by
  have hroom := h.room.resolve_left (by omega)
  unfold Trail.held at hroom ⊢
  rw [h.next, h.oldest]
  unfold word32
  bv_omega

/-- With room for all of them every event is written (R170). -/
theorem logged_wrote_room (es : List Event) : ∀ {s : State}, s.mem.wf = true → s.trail.held + es.length ≤ 128 →
    Wrote es.length s (s.logged es) := by
  induction es with
  | nil => exact fun h _ => .none h
  | cons e es ih =>
    intro s hwf hroom
    rw [List.length_cons] at hroom ⊢
    have hone := writeEvent_wrote_room (s := s) e hwf (by omega)
    have hrest := ih hone.wf (by rw [hone.held_one]; omega)
    rw [Nat.add_comm]
    exact hone.trans hrest

/-- Each event stands in the trail under its own sequence number (R170). -/
theorem logged_record (es : List Event) : ∀ {s : State}, s.mem.wf = true → s.trail.held + es.length ≤ 128 → ∀ (i : Nat) (e : Event),
    es[i]? = some e → (s.logged es).mem.readList (trailAddress (s.trail.next + word32 i)) 16 =
      e.record (s.trail.next + word32 i) s.msCount := by
  induction es with
  | nil => exact fun _ _ i e h => by simp at h
  | cons e es ih =>
    intro s hwf hroom i e' hi
    rw [List.length_cons] at hroom
    have hone := writeEvent_wrote_room (s := s) e hwf (by omega)
    have hroom' : (s.writeEvent e).trail.held + es.length ≤ 128 := by
      rw [hone.held_one]
      omega
    have hnext (j : Nat) : (s.writeEvent e).trail.next + word32 j = s.trail.next + word32 (j + 1) := by
      rw [hone.next]
      unfold word32
      rw [BitVec.add_assoc, ← BitVec.ofNat_add, Nat.add_comm]
    cases i with
    | succ j =>
      have := ih hone.wf hroom' j e' (by simpa using hi)
      rw [hnext, writeEvent_msCount] at this
      exact this
    | zero =>
      obtain rfl : e = e' := by simpa using hi
      have hback : (s.writeEvent e).mem.readList (trailAddress s.trail.next) 16 = e.record s.trail.next s.msCount := by
        rw [writeEvent_room e (by omega)]
        exact Memory.readList_writeList (e.record s.trail.next s.msCount) s.mem (trailAddress s.trail.next) hwf
      rw [show s.trail.next + word32 0 = s.trail.next by simp [word32], ← hback]
      refine Memory.readList_congr fun a ha ha' => ?_
      refine (logged_wrote_room es hone.wf hroom').read a fun j hj => ?_
      have hapart := trailAddress_apart s.trail.next (i := 0) (j := j + 1) (by omega) (by omega)
      rw [show s.trail.next + word32 0 = s.trail.next by simp [word32]] at hapart
      rw [hnext]
      omega

theorem summaryEvents_length (v : State) : v.summaryEvents.length ≤ 1 := by
  unfold State.summaryEvents State.recompute
  simp only
  split <;> simp [State.raise]

/-- A run of the events written stands in the trail with consecutive sequence numbers (R170). -/
theorem logged_recordedRun {s u t : State} {l es : List Event} (hwf : u.mem.wf = true) (hroom : u.trail.held + l.length ≤ 128)
    (hmem : t.mem = (u.logged l).mem) (hnext : t.trail.next = (u.logged l).trail.next) (hms : t.msCount = u.msCount)
    (htrail : u.trail = s.trail) (hes : es <:+: l) : recordedRun s t es := by
  obtain ⟨before, after, hsplit⟩ := hes
  have hcount : (t.trail.next - s.trail.next).toNat = l.length := by
    rw [hnext, ← htrail]
    exact (logged_wrote_room l hwf hroom).count
  refine ⟨before.length, ?_, fun i e hi => ?_⟩
  · rw [hcount, ← hsplit]
    simp only [List.length_append]
    omega
  · have hat : l[before.length + i]? = some e := by
      obtain ⟨hlt, -⟩ := List.getElem?_eq_some_iff.mp hi
      rw [← hsplit, List.append_assoc, List.getElem?_append_right (by omega), Nat.add_sub_cancel_left, List.getElem?_append_left hlt, hi]
    have hrec := logged_record l hwf hroom _ e hat
    rw [hmem, hms, ← htrail]
    exact hrec

/-- What the trail holds at the end of a step whose raised events have room, the summary's among them: each run of the order
in which they are written (R170; log 7). -/
theorem settle_records {s v : State} (htrail : v.trail = s.trail) (hwf : v.mem.wf = true)
    (hroom : s.trail.held + v.raised.length < 128) :
    ∃ l : List Event, (∀ r ∈ v.raised, r.event ∈ l) ∧ (∀ k g b, g <:+: groupEvents k v.raised → (∀ e ∈ g, e.ofDoorUnit = b) → g <:+: l) ∧
      l.filter Event.ofDoorUnit <:+: l ∧ ∀ es, es <:+: l → recordedRun s v.settle es := by
  obtain ⟨r1, r2, -, -, -, r6, -⟩ := recompute_rest v
  obtain ⟨-, -, hmem, hnext, -, -, -, -, -⟩ := flush_keeps v.recompute
  have hm : v.settle.mem = (v.recompute.logged v.recompute.writingOrder).mem := by
    unfold State.settle
    rw [(publishReadings_keeps _).2.1, (publishHeat_keeps _).2.1, (publishDoor_keeps _).2.1, (publishImage_keeps _).2.1, hmem]
  have ht : v.settle.trail = (v.recompute.logged v.recompute.writingOrder).trail := by
    unfold State.settle
    rw [(publishReadings_keeps _).2.2.1, (publishHeat_keeps _).2.2.1, (publishDoor_keeps _).2.2.1, (publishImage_keeps _).2.2.1, hnext]
  have hperm := writingOrder_perm v.recompute
  rw [recompute_raised] at hperm
  have hlen : v.recompute.writingOrder.length ≤ v.raised.length + 1 := by
    have := hperm.length_eq
    rw [List.length_append, List.length_map] at this
    have := summaryEvents_length v
    omega
  have hheld : v.recompute.trail.held = s.trail.held := by rw [r2, htrail]
  have hroom' : v.recompute.trail.held + v.recompute.writingOrder.length ≤ 128 := by
    rw [hheld]
    omega
  have hwf' : v.recompute.mem.wf = true := r1 ▸ hwf
  refine ⟨v.recompute.writingOrder, fun r hr => hperm.symm.subset (List.mem_append_left _ (List.mem_map_of_mem hr)),
    fun k g b hg hb => writingOrder_group v.recompute k g b (hg.trans (recompute_group k v)) hb, writingOrder_door _, fun es hes => 
    logged_recordedRun hwf' hroom' hm (congrArg Trail.next ht) (by rw [settle_msCount, r6]) (by rw [r2, htrail]) hes⟩

section
variable {s v : State} (htrail : v.trail = s.trail) (hwf : v.mem.wf = true) (hroom : s.trail.held + v.raised.length < 128)
include htrail hwf hroom

/-- A run of a group's events stands in the trail together, in the group's order (R170). -/
theorem settle_recordedRun (k : Nat) {es : List Event} (b : Bool) (hes : es <:+: groupEvents k v.raised)
    (hb : ∀ e ∈ es, e.ofDoorUnit = b) : recordedRun s v.settle es := by
  obtain ⟨l, -, hgroup, -, hrun⟩ := settle_records htrail hwf hroom
  exact hrun es (hgroup k es b hes hb)

theorem settle_recordedIn {r : Raised} (hr : r ∈ v.raised) : recordedIn s v.settle r.event := by
  obtain ⟨l, hin, -, -, hrun⟩ := settle_records htrail hwf hroom
  obtain ⟨j, hj, hat⟩ := hrun [r.event] ((List.singleton_infix_iff _ _).mpr (hin r hr))
  exact ⟨j, by simpa using hj, by simpa using hat 0 r.event rfl⟩

/-- The door unit's events of the step stand together (R170). -/
theorem settle_recordedTogether {es : List Event} (hes : ∀ e ∈ es, e.ofDoorUnit = true ∧ ∃ r ∈ v.raised, r.event = e) :
    recordedTogether s v.settle es := by
  obtain ⟨l, hin, -, hdoor, hrun⟩ := settle_records htrail hwf hroom
  refine ⟨l.filter Event.ofDoorUnit, hrun _ hdoor, fun e he => ?_, fun e he => (List.mem_filter.mp he).2⟩
  obtain ⟨hof, r, hr, rfl⟩ := hes e he
  exact List.mem_filter.mpr ⟨hin r hr, hof⟩

end

end Sys2Proof.Machine

/-!
O8: the take of a request, its codes and its completion.
-/

namespace Sys2Proof.Machine

/-- Nothing that the end of a step writes is behind the state. -/
theorem settled_of_touches {P : List Part} {s u : State} (h : Touches P s u) (hc : Part.choices ∉ P) (hp : Part.pub ∉ P)
    (hm : Part.summary ∉ P) (hs : s.settled = true) : u.settled = true := by
  obtain ⟨hr, hi, hd, hh, hread, hsum⟩ := (settled_iff s).mp hs
  obtain ⟨-, hraised⟩ := h _ hc
  obtain ⟨⟨hpub, -⟩, himage, hdoor, hheat, hreadings⟩ := h _ hp
  obtain ⟨hsummary, hnow⟩ := h _ hm
  have hraised : u.raised = s.raised := hraised
  have hsummary : u.door.summary = s.door.summary := hsummary
  have hnow : u.summaryNow = s.summaryNow := hnow
  refine (settled_iff u).mpr ⟨hraised.trans hr, ?_, ?_, ?_, ?_, ?_⟩
  · rw [hpub, himage, hi]
  · rw [hpub, hdoor, hd]
  · rw [hpub, hheat, hh]
  · rw [hpub, hreadings, hread]
  · rw [hsummary, hnow, hsum]

theorem advance_settled (s : State) (dt : Nat) : (s.advance dt).settled = s.settled := rfl

theorem complete_settled {s : State} (k : Nat) (o : SlotOutcome) (d : Byte) (r : List Byte) (hs : s.settled = true) :
    (s.complete k o d r).settled = true :=
  settled_of_touches (P := [.mem, .slotTally]) ((touches_complete k o d r (by simp) (by simp)).mpr (Touches.refl _ s)) (by simp) (by simp)
    (by simp) hs

/-- A completion writes memory and raises SLOT_TALLY (R168). -/
theorem complete_eq (s : State) (k : Nat) (o : SlotOutcome) (d : Byte) (r : List Byte) :
    s.complete k o d r = { s with mem := (s.complete k o d r).mem, tallies := { s.tallies with slot := s.tallies.slot + 1 } } := rfl

theorem byteAt_resultBytes (l : List Byte) {i : Nat} (h : i < 32) : byteAt (resultBytes l) i = byteAt l i := by
  unfold byteAt resultBytes
  rw [List.getD_eq_getElem?_getD, List.getD_eq_getElem?_getD, List.getElem?_take_of_lt h]
  obtain hlt | hge := Nat.lt_or_ge i l.length
  · rw [List.getElem?_append_left hlt]
  · rw [List.getElem?_append_right hge, List.getElem?_eq_none hge, List.getElem?_replicate]
    split <;> rfl

theorem requestKindOf_unknown (b : Byte) (h : b = 0 ∨ 11 ≤ b.toNat) : requestKindOf b = none := by
  have hall : ∀ b : Byte, b = 0 ∨ 11 ≤ b.toNat → requestKindOf b = none := by decide
  exact hall b h

/-- Settles O8: a take routes the head of the queue by its kind, and a completion writes the answer alone (R167, R168). -/
theorem takeRoutesHeadAndCompletionAnswers : Obligations.TakeRoutesHeadAndCompletionAnswers := by
  refine ⟨fun s dt k rest hs hq => ?_, ⟨by decide, requestKindOf_unknown, by decide⟩, fun s k o d r hwf => ?_⟩
  · intro u code params answer
    have hu : u.settled = true := hs
    have htake : answer = .next (s.run dt fun _ => u.routeRequest k code params) := by
      show exec (.take dt) s = _
      refine congrArg Host.Outcome.next ?_
      unfold State.run
      simp only [show (s.advance dt).req.queue = k :: rest from hq]
      rfl
    have hroute {v : State} (hv : u.routeRequest k code params = v) (hset : v.settled = true) : answer = .next v := by
      rw [htake, run_of_settled dt _ s v hv hset]
    refine ⟨fun hkind => hroute (by simp [State.routeRequest, hkind]) (complete_settled _ _ _ _ hu), fun kind hkind => ⟨fun hrun hne => ?_,
      fun hready => ?_⟩⟩
    · refine hroute ?_ (complete_settled _ _ _ _ hu)
      simp only [State.routeRequest, hkind]
      exact if_pos ⟨hrun, hne⟩
    · refine hroute ?_ hu
      simp only [State.routeRequest, hkind]
      refine if_neg fun h => ?_
      obtain hrun | hc := hready
      · exact absurd h.1 (by simp [show u.port.running = s.port.running from rfl, hrun])
      · exact h.2 hc
  · intro t
    have hread (a : Nat) := complete_read s k o d r hwf a
    refine ⟨?_, ?_, ?_, fun i hi => ?_, fun a h0 h4 h5 hres => ?_, complete_wf s k o d r hwf, complete_eq s k o d r⟩
    · rw [hread, if_pos rfl]
    · rw [hread, if_neg (by omega), if_neg (by omega), if_pos rfl]
    · rw [hread, if_neg (by omega), if_neg (by omega), if_neg (by omega), if_pos rfl]
    · rw [hread, if_neg (by omega), if_pos (by omega), Nat.add_sub_cancel_left, byteAt_resultBytes r hi]
    · rw [hread, if_neg h0, if_neg hres, if_neg h4, if_neg h5]

end Sys2Proof.Machine

/-!
O9: the trail writer and the release of records.
-/

namespace Sys2Proof.Machine

/-- The four bytes of a word, least significant first, put together again. -/
theorem word_of_le32 (w : Word32) : byteAt (le32 w) 3 ++ byteAt (le32 w) 2 ++ byteAt (le32 w) 1 ++ byteAt (le32 w) 0 = w := by
  have h : byteAt (le32 w) 3 ++ byteAt (le32 w) 2 ++ byteAt (le32 w) 1 ++ byteAt (le32 w) 0 =
      w.extractLsb' 24 8 ++ w.extractLsb' 16 8 ++ w.extractLsb' 8 8 ++ w.extractLsb' 0 8 := rfl
  rw [h]
  refine BitVec.eq_of_getLsbD_eq fun i hi => ?_
  simp only [BitVec.getLsbD_append, BitVec.getLsbD_extractLsb']
  have hlt : i < 32 := hi
  split_ifs
  all_goals
    rw [decide_eq_true (by omega), Bool.true_and]
    congr 1
    omega

theorem areaOf_marks {a : Nat} (h : 0x0500 ≤ a) (h' : a < 0x0540) : areaOf a = .marks := by
  unfold areaOf
  repeat rw [if_neg (by omega)]
  rw [if_pos h']

/-- What a MEM_WRITE to the marks makes of the state before the release sequence is looked at: the bytes are stored (R157). -/
theorem wroteCells_marks (s : State) (dt : Nat) (seq : Word32) (hwf : s.mem.wf = true) :
    let w := ((s.advance dt).wroteBytes 4).wroteCells 0x050C (le32 seq)
    w.mem.wf = true ∧ w.trail = s.trail ∧ w.releaseSequence = seq ∧ w.msCount = s.msCount ∧ w.tallies.trail = s.tallies.trail := by
  intro w
  have hlen : (le32 seq).length = 4 := rfl
  have hjudged := judged_cells _ (gather_nodup 0x050C (le32 seq)) (afterRegWrite s dt (le32 seq)) hwf
  have haddr (i : Nat) (hi : i < 4) : memAddress 0x050C i = 0x050C + i := by
    unfold memAddress
    rw [show (0x050C : Word16).toNat = 0x050C from rfl]
    omega
  have hw : w = (gather 0x050C (le32 seq)).foldl (fun t c => t.judge c.1 c.2) (afterRegWrite s dt (le32 seq)) := by
    show ((s.advance dt).wroteBytes (le32 seq).length).wroteCells 0x050C (le32 seq) = _
    rw [wroteCells_write]
    refine handOn_others _ (fun c hc k hk h => ?_) _
    rw [gather_eq] at hc
    obtain ⟨i, hi, rfl⟩ := List.mem_map.mp hc
    have hi4 : i < 4 := by simpa [hlen] using hi
    have := slotBase_low hk
    rw [haddr i hi4] at h
    omega
  rw [hw]
  have hread (i : Nat) (hi : i < 4) : ((gather 0x050C (le32 seq)).foldl (fun t c => t.judge c.1 c.2)
      (afterRegWrite s dt (le32 seq))).mem.read (0x050C + i) = byteAt (le32 seq) i := by
    have hcell := mem_gather (addr := 0x050C) (data := le32 seq) (i := i) (by omega) hi
    have hstored := hjudged.stored _ hcell
    rw [haddr i hi] at hstored
    refine hstored ?_
    unfold State.stores
    rw [areaOf_marks (by omega) (by omega)]
    trivial
  have htouch : Touches [.port, .mem] (afterRegWrite s dt (le32 seq)) ((gather 0x050C (le32 seq)).foldl (fun t c => t.judge c.1 c.2)
      (afterRegWrite s dt (le32 seq))) :=
    (touches_foldl _ (fun u (c : Nat × Byte) => touches_judge c.1 c.2 (by simp) (by simp)) _).mpr (Touches.refl _ _)
  obtain ⟨⟨-, hms⟩, -⟩ := htouch .clock (by simp)
  obtain ⟨⟨-, htally⟩, -⟩ := htouch .trail (by simp)
  refine ⟨hjudged.wf, hjudged.trail, ?_, hms, htally⟩
  unfold State.releaseSequence marksBase
  rw [show 0x0500 + 15 = 0x050C + 3 from rfl, show 0x0500 + 14 = 0x050C + 2 from rfl, show 0x0500 + 13 = 0x050C + 1 from rfl,
    show 0x0500 + 12 = 0x050C + 0 from rfl, hread 3 (by omega), hread 2 (by omega), hread 1 (by omega), hread 0 (by omega)]
  exact word_of_le32 seq

/-- A release that leaves no room, or finds no event lost, moves the oldest record only (R171). -/
theorem releaseTrail_moves {s : State} {seq : Word32} (hin : (seq - (s.trail.oldest - 1)).toNat ≤ s.trail.held)
    (h : 128 ≤ (s.trail.next - (seq + 1)).toNat ∨ s.trail.gap = 0) :
    s.releaseTrail seq = { s with trail := { s.trail with oldest := seq + 1 } } := by
  unfold State.releaseTrail
  rw [if_pos hin]
  unfold State.writeGap
  refine if_neg fun hg => ?_
  obtain ⟨hheld, hgap⟩ := hg
  have hheld : (s.trail.next - (seq + 1)).toNat < 128 := hheld
  have hgap : 0 < s.trail.gap := hgap
  omega

/-- A release that leaves room where events were lost makes a TRAIL_GAP record (R171). -/
theorem releaseTrail_gap {s : State} {seq : Word32} (hin : (seq - (s.trail.oldest - 1)).toNat ≤ s.trail.held)
    (hroom : (s.trail.next - (seq + 1)).toNat < 128) (hgap : 0 < s.trail.gap) : s.releaseTrail seq = { s with
      mem := s.mem.writeList (trailAddress s.trail.next) ((gapEvent s.trail.gap).record s.trail.next s.msCount)
      trail := { oldest := seq + 1, next := s.trail.next + 1, gap := 0 }
      tallies := { s.tallies with trail := s.tallies.trail + 1 } } := by
  unfold State.releaseTrail
  rw [if_pos hin]
  unfold State.writeGap
  have hheld : ({ s with trail := { s.trail with oldest := seq + 1 } } : State).trail.held < 128 := hroom
  rw [if_pos ⟨hheld, hgap⟩]
  simp only
  rw [writeEvent_room _ hheld]
  rfl

/-- Settles O9: the writer records or counts, and a release frees records, makes a TRAIL_GAP record or is refused (R170, R171). -/
theorem trailRecordsAndFrees : Obligations.TrailRecordsAndFrees := by
  refine ⟨fun s e hwf => ?_, fun s dt seq hwf hs hidle hnow hne => ?_⟩
  · intro t base
    refine ⟨fun hroom => ?_, fun hfull => ?_⟩
    · have ht : t = _ := writeEvent_room e hroom
      have hread (a : Nat) := writeEvent_read s e hwf a
      refine ⟨?_, fun a ha => ?_, ?_⟩
      · rw [ht]
        exact Memory.readList_writeList (e.record s.trail.next s.msCount) s.mem (trailAddress s.trail.next) hwf
      · exact (hread a).trans (if_neg fun h => ha h.2)
      · rw [ht]
    · exact if_neg (by unfold Trail.held; omega)
  · obtain ⟨hwfw, htrail, hseq, hms, htally⟩ := wroteCells_marks s dt seq hwf
    have hexec := exec_memWrite s dt 0x050C (le32 seq) hidle hnow
    have hsettled := (commitWrite_effect 0x050C (le32 seq)).settled ((s.advance dt).wroteBytes 4) hs
    have hold : ((s.advance dt).wroteBytes 4).releaseSequence = s.releaseSequence := rfl
    rw [show (le32 seq).length = 4 from rfl, settle_of_settled _ hsettled, commitWrite_eq] at hexec
    simp only at hexec
    generalize ((s.advance dt).wroteBytes 4).wroteCells 0x050C (le32 seq) = w at hwfw htrail hseq hms htally hexec
    rw [hseq, hold, if_neg hne] at hexec
    refine ⟨_, hexec, ?_, fun hout => ?_, fun hin => ⟨?_, fun hkeep => ?_, fun hroom hgap => ?_⟩⟩
    · obtain ⟨-, -, hread⟩ := releaseTrail_keeps w seq hwfw
      have hmark (a : Nat) (h : 0x0500 ≤ a) (h' : a < 0x0540) : (w.releaseTrail seq).mem.read a = w.mem.read a :=
        hread a fun ht => by rw [areaOf_marks h h'] at ht; cases ht
      refine Eq.trans ?_ hseq
      unfold State.releaseSequence marksBase
      rw [hmark _ (by omega) (by omega), hmark _ (by omega) (by omega), hmark _ (by omega) (by omega), hmark _ (by omega) (by omega)]
    · have hnot : ¬(seq - (w.trail.oldest - 1)).toNat ≤ w.trail.held := by
        rw [htrail]
        unfold Trail.held
        omega
      unfold State.releaseTrail
      rw [if_neg hnot]
      exact ⟨htrail, rfl⟩
    all_goals
      have hinw : (seq - (w.trail.oldest - 1)).toNat ≤ w.trail.held := by
        rw [htrail]
        exact hin
    · by_cases hkeep : 128 ≤ (w.trail.next - (seq + 1)).toNat ∨ w.trail.gap = 0
      · rw [releaseTrail_moves hinw hkeep]
      · simp only [not_or, not_le] at hkeep
        rw [releaseTrail_gap hinw hkeep.1 (by omega)]
    · rw [releaseTrail_moves hinw (by rw [htrail]; exact hkeep)]
      exact ⟨(congrArg Trail.next htrail :), (congrArg Trail.gap htrail :), htally⟩
    · rw [releaseTrail_gap hinw (by rw [htrail]; exact hroom) (by rw [htrail]; exact hgap)]
      refine ⟨by rw [htrail], rfl, by rw [htally], ?_⟩
      have hback := Memory.readList_writeList ((gapEvent w.trail.gap).record w.trail.next w.msCount) w.mem (trailAddress w.trail.next) hwfw
      rw [show ((gapEvent w.trail.gap).record w.trail.next w.msCount).length = 16 from rfl, htrail, hms] at hback
      simp only [htrail, hms]
      exact hback

end Sys2Proof.Machine

/-!
The door events of a step and what a fault cause leaves (R97, R100, R101, R107, R113): O36.
-/

namespace Sys2Proof.Machine

/-- An event raised with room in the trail stands there (R170). -/
theorem settle_recordedEvent {s v : State} (htrail : v.trail = s.trail) (hwf : v.mem.wf = true)
    (hroom : s.trail.held + v.raised.length < 128) {g : Nat} {e : Event} (h : { group := g, event := e } ∈ v.raised) :
    recordedIn s v.settle e :=
  settle_recordedIn htrail hwf hroom h

/-! ## Door events -/

theorem widen_byte (b : Byte) : b.setWidth 16 = ((0 : Byte) ++ b : Word16) := by
  apply BitVec.eq_of_toNat_eq
  rw [BitVec.toNat_append, BitVec.toNat_setWidth]
  simp
  omega

/-- A change of a side's state raises its DOOR_STATE in the side's group (R113). -/
theorem moveSide_raised (s : State) (k : SideId) (new : DoorState) (cause : DoorCause) (number : Byte) :
    (s.moveSide k new cause number).raised =
      s.raised ++ [{ group := (sideSource k).toNat, event := doorEvent s k new (s.side k).state cause.code number }] := by
  rw [moveSide_eq, raise_raised, setSide_raised, widen_byte]
  cases k <;> rfl

theorem doorEvent_ofDoorUnit (s : State) (k : SideId) (new old : DoorState) (cause number : Byte) :
    (doorEvent s k new old cause number).ofDoorUnit = true := by cases k <;> rfl

/-- An entry raises its DOOR_STATE first, and at most one event after it (R97, R104, R113). -/
theorem enterSide_raised (s : State) (k : SideId) (new : DoorState) (cause : DoorCause) (number : Byte) :
    ∃ rest : List Raised, rest.length ≤ 1 ∧ (s.enterSide k new cause number).raised =
      s.raised ++ { group := (sideSource k).toNat, event := doorEvent s k new (s.side k).state cause.code number } :: rest := by
  have hmove := moveSide_raised s k new cause number
  have hdiscard (t : State) : ∃ rest : List Raised, rest.length ≤ 1 ∧ (t.discardPending k).raised = t.raised ++ rest := by
    unfold State.discardPending State.skipEvent
    simp only
    split
    · exact ⟨[], by simp⟩
    · exact ⟨[_], Nat.le_refl 1, by rw [raise_raised, setSide_raised]⟩
  unfold State.enterSide
  cases new <;> simp only
  case fault | isolated =>
    obtain ⟨rest, hlen, hrest⟩ := hdiscard (s.moveSide k _ cause number)
    exact ⟨rest, hlen, by rw [hrest, hmove]; simp⟩
  case unlocked | closing =>
    split
    · exact ⟨[_], Nat.le_refl 1, by rw [moveSide_raised, hmove, List.append_assoc]; rfl⟩
    · exact ⟨[], by simp, hmove⟩
  all_goals exact ⟨[], by simp, hmove⟩

/-! ## The fields of a side after an entry -/

theorem entered_causes (d : Side) (new : DoorState) (now ct : Nat) (h : new = .closed ∨ new = .unlocked ∨ new = .fault) :
    (d.entered new now ct).live = d.live ∧ (d.entered new now ct).stored = d.stored ∧ (d.entered new now ct).masked = d.masked := by
  obtain rfl | rfl | rfl := h
  · exact ⟨rfl, rfl, rfl⟩
  · simp only [Side.entered]
    split <;> exact ⟨rfl, rfl, rfl⟩
  · simp only [Side.entered]
    rw [discarded_keeps]
    exact ⟨rfl, rfl, rfl⟩

theorem entered_fault (d : Side) (now ct : Nat) :
    (d.entered .fault now ct).state = .fault ∧ (d.entered .fault now ct).relHigh = false ∧ (d.entered .fault now ct).leaseEnd = none ∧
      (d.entered .fault now ct).closeEnd = none ∧ (d.entered .fault now ct).pend = none := by
  simp only [Side.entered]
  rw [discarded_keeps]
  exact ⟨rfl, rfl, rfl, rfl, rfl⟩

theorem entered_unlocked (d : Side) (now ct : Nat) (h : d.lock = false) :
    d.entered .unlocked now ct = atRest d .unlocked := by
  simp only [Side.entered, h]
  rfl

theorem marked_stored (d : Side) (f : FaultCause) : (d.marked f).stored.get f = true ∧ (d.marked f).live.get f = true := by
  cases f <;> exact ⟨rfl, rfl⟩

/-- A cause marks the side; what it enters keeps the causes (R101). -/
theorem arisen_causes (d : Side) (f : FaultCause) (now ct : Nat) : (d.arisen f now ct).live = (d.marked f).live ∧
    (d.arisen f now ct).stored = (d.marked f).stored ∧ (d.arisen f now ct).masked = d.masked := by
  have hfault := entered_causes (d.marked f) .fault now ct (by simp)
  have hunlocked := entered_causes (d.marked f) .unlocked now ct (by simp)
  have hmarked : (d.marked f).live = (d.marked f).live ∧ (d.marked f).stored = (d.marked f).stored ∧ (d.marked f).masked = d.masked :=
    ⟨rfl, rfl, rfl⟩
  unfold Side.arisen
  split
  case h_1 | h_2 | h_3 => exact hmarked
  case h_4 | h_5 =>
    split_ifs
    exacts [hunlocked, hmarked, hfault]
  case h_6 | h_7 =>
    split_ifs
    exacts [hmarked, hfault]

section
variable {d : Side} {f : FaultCause} {now ct : Nat}

theorem arisen_stays (h : d.state = .absent ∨ d.state = .isolated ∨ d.state = .fault) : d.arisen f now ct = d.marked f := by
  unfold Side.arisen
  obtain h | h | h := h <;> simp only [h]

theorem arisen_unmasked (h1 : d.state ≠ .absent) (h2 : d.state ≠ .isolated) (h3 : d.state ≠ .fault) (hm : d.masked.get f = false) :
    d.arisen f now ct = (d.marked f).entered .fault now ct := by
  unfold Side.arisen
  cases h : d.state <;> simp_all

theorem arisen_unlocked (hm : d.masked.get f = true)
    (h : (f = .closeTimeout ∧ d.state = .closing) ∨ (f = .lockLost ∧ d.state = .closed)) :
    d.arisen f now ct = (d.marked f).entered .unlocked now ct := by
  unfold Side.arisen
  obtain ⟨rfl, h⟩ | ⟨rfl, h⟩ := h <;> simp only [h, hm] <;> rfl

theorem arisen_masked (hm : d.masked.get f = true)
    (h : ¬((f = .closeTimeout ∧ d.state = .closing) ∨ (f = .lockLost ∧ d.state = .closed))) : d.arisen f now ct = d.marked f := by
  unfold Side.arisen
  cases hd : d.state <;> simp_all

end

/-! ## A cause arises -/

/-- DOOR_FAULT of a side (R113). -/
def faultEvent (s : State) (k : SideId) (f : FaultCause) (masked : Bool) : Event :=
  { kind := 11, source := (match k with | .one => 5 | .two => 6), position := byte s.table.own, detail := f.code
    value := (boolByte masked).setWidth 32 }

/-- The side marked with the cause, before it enters another state: a stored addition raises DOOR_FAULT and FAULT_TALLY (R101). -/
def State.marks (s : State) (k : SideId) (f : FaultCause) : State :=
  let d := s.side k
  let s1 := s.setSide k (d.marked f)
  if d.stored.get f then s1
  else ({ s1 with tallies := { s1.tallies with fault := s1.tallies.fault + 1 } }).raise (sideSource k).toNat
    (faultEvent s k f (d.masked.get f))

section
variable {s : State} {k : SideId} {f : FaultCause}

theorem causeArises_eq (s : State) (k : SideId) (f : FaultCause) : s.causeArises k f =
    (match (s.side k).state with
    | .isolated | .fault | .absent => s.marks k f
    | .closed => if (s.side k).masked.get f then (if f = .lockLost then (s.marks k f).enterSide k .unlocked f.doorCause 0 else s.marks k f)
      else (s.marks k f).enterSide k .fault f.doorCause 0
    | .closing => if (s.side k).masked.get f then
        (if f = .closeTimeout then (s.marks k f).enterSide k .unlocked f.doorCause 0 else s.marks k f)
      else (s.marks k f).enterSide k .fault f.doorCause 0
    | .released | .unlocked => if (s.side k).masked.get f then s.marks k f else (s.marks k f).enterSide k .fault f.doorCause 0) := by
  unfold State.causeArises State.marks faultEvent
  cases k <;> rfl

theorem marks_side (s : State) (k : SideId) (f : FaultCause) : (s.marks k f).side k = (s.side k).marked f := by
  unfold State.marks
  simp only
  split
  · exact setSide_side _ _ _
  · rw [raise_side]
    cases k <;> rfl

theorem marks_keeps (s : State) (k : SideId) (f : FaultCause) : (s.marks k f).trail = s.trail ∧ (s.marks k f).mem = s.mem ∧
    (s.marks k f).table = s.table := by
  unfold State.marks
  simp only
  split <;> cases k <;> exact ⟨rfl, rfl, rfl⟩

theorem marks_stored (h : (s.side k).stored.get f = true) :
    (s.marks k f).raised = s.raised ∧ (s.marks k f).tallies = s.tallies := by
  unfold State.marks
  simp only [h, if_true]
  exact ⟨setSide_raised _ _ _, setSide_tallies _ _ _⟩

theorem marks_new (h : (s.side k).stored.get f = false) :
    (s.marks k f).raised = s.raised ++ [{ group := (sideSource k).toNat, event := faultEvent s k f ((s.side k).masked.get f) }] ∧
      (s.marks k f).tallies.fault = s.tallies.fault + 1 := by
  unfold State.marks
  simp only [h, Bool.false_eq_true, if_false]
  cases k <;> exact ⟨rfl, rfl⟩

end

/-- An entry leaves trail, memory, car position and tallies. -/
theorem enterSide_rest (s : State) (k : SideId) (new : DoorState) (cause : DoorCause) (number : Byte) :
    (s.enterSide k new cause number).trail = s.trail ∧ (s.enterSide k new cause number).mem = s.mem ∧
      (s.enterSide k new cause number).tallies = s.tallies := by
  obtain ⟨d, l, h⟩ := onlySide_enterSide s k new cause number
  rw [h]
  cases k <;> exact ⟨rfl, rfl, rfl⟩

/-- A cause takes the side no further than its mark, or into one state it enters from there (R101). -/
theorem causeArises_cases (s : State) (k : SideId) (f : FaultCause) :
    s.causeArises k f = s.marks k f ∨ ∃ new, s.causeArises k f = (s.marks k f).enterSide k new f.doorCause 0 := by
  rw [causeArises_eq]
  split
  case h_1 | h_2 | h_3 => exact .inl rfl
  case h_4 | h_5 =>
    split_ifs
    exacts [.inr ⟨_, rfl⟩, .inl rfl, .inr ⟨_, rfl⟩]
  case h_6 | h_7 =>
    split_ifs
    exacts [.inl rfl, .inr ⟨_, rfl⟩]

/-- `u` stands at side `k` as `s` does but for what a sample has counted there: it is the state a cause arises in. -/
structure CauseBase (s u : State) (k : SideId) (f : FaultCause) : Prop where
  trail : u.trail = s.trail
  mem : u.mem = s.mem
  raised : u.raised = []
  tally : u.tallies.fault = s.tallies.fault
  own : u.table.own = s.table.own
  state : (u.side k).state = (s.side k).state
  stored : (u.side k).stored = (s.side k).stored
  masked : (u.side k).masked = (s.side k).masked
  pend : (u.side k).pend = (s.side k).pend
  lock : f ≠ .mismatch → (u.side k).lock = false

section
variable {s u : State} {k : SideId} {f : FaultCause}

theorem doorEvent_congr (h : u.table.own = s.table.own) (new old : DoorState) (cause number : Byte) :
    doorEvent u k new old cause number = doorEvent s k new old cause number := by
  unfold doorEvent
  rw [h]

/-- What the trail holds of an entry that a cause brings about: DOOR_STATE, after DOOR_FAULT when the cause was not stored
(R113). -/
theorem CauseBase.entry (h : CauseBase s u k f) (hwf : s.mem.wf = true) (hroom : trailRoom s) (new : DoorState) {v : State}
    (hv : (u.marks k f).enterSide k new f.doorCause 0 = v) :
    recordedIn s v.settle (doorEvent s k new (s.side k).state f.doorCause.code 0) ∧ ((s.side k).stored.get f = false →
      recordedRun s v.settle [faultEvent s k f ((s.side k).masked.get f), doorEvent s k new (s.side k).state f.doorCause.code 0] ∧
      recordedIn s v.settle (faultEvent s k f ((s.side k).masked.get f))) := by
  obtain ⟨htrail, hmem, htable⟩ := marks_keeps u k f
  obtain ⟨etrail, emem, -⟩ := enterSide_rest (u.marks k f) k new f.doorCause 0
  obtain ⟨rest, hlen, hraised⟩ := enterSide_raised (u.marks k f) k new f.doorCause 0
  rw [doorEvent_congr (s := s) (by rw [htable, h.own]), marks_side, show ((u.side k).marked f).state = (s.side k).state from h.state]
    at hraised
  rw [hv] at etrail emem hraised
  have htrail' : v.trail = s.trail := by rw [etrail, htrail, h.trail]
  have hwf' : v.mem.wf = true := by rw [emem, hmem, h.mem, hwf]
  obtain hstored | hstored := Bool.eq_false_or_eq_true ((s.side k).stored.get f)
  · rw [(marks_stored (by rw [h.stored, hstored])).1, h.raised, List.nil_append] at hraised
    have hroom' : s.trail.held + v.raised.length < 128 := by
      rw [hraised, List.length_cons]
      unfold trailRoom at hroom
      omega
    refine ⟨settle_recordedEvent htrail' hwf' hroom' (by rw [hraised]; exact List.mem_cons_self), fun hc => ?_⟩
    rw [hstored] at hc
    exact absurd hc (by simp)
  · rw [(marks_new (by rw [h.stored, hstored])).1, h.raised, List.nil_append, h.masked,
      show faultEvent u k f = faultEvent s k f by unfold faultEvent; rw [h.own]] at hraised
    have hroom' : s.trail.held + v.raised.length < 128 := by
      simp only [hraised, List.length_append, List.length_cons, List.length_nil]
      unfold trailRoom at hroom
      omega
    refine ⟨settle_recordedEvent htrail' hwf' hroom' (by rw [hraised]; exact List.mem_append_right _ List.mem_cons_self), fun _ => ⟨?_, ?_⟩⟩
    · refine settle_recordedRun htrail' hwf' hroom' (sideSource k).toNat true ?_ ?_
      · rw [hraised]
        unfold groupEvents
        simp only [List.cons_append, List.nil_append, beq_self_eq_true, List.filter_cons_of_pos, List.map_cons]
        exact ⟨[], _, rfl⟩
      · intro e he
        simp only [List.mem_cons, List.not_mem_nil, or_false] at he
        obtain rfl | rfl := he
        · cases k <;> rfl
        · exact doorEvent_ofDoorUnit _ _ _ _ _ _
    · exact settle_recordedEvent htrail' hwf' hroom' (by rw [hraised]; exact List.mem_append_left _ List.mem_cons_self)

/-- The state after a cause is the one R101 describes. -/
theorem CauseBase.arose (h : CauseBase s u k f) (hwf : s.mem.wf = true) (hroom : trailRoom s) :
    causeArose s (u.causeArises k f).settle k f := by
  have hcauses := arisen_causes (u.side k) f u.now u.settings.closeTimeout
  obtain ⟨hstored, hlive⟩ := marked_stored (u.side k) f
  have htally : (u.causeArises k f).settle.tallies.fault = (u.marks k f).tallies.fault := by
    rw [settle_faultTally]
    obtain heq | ⟨new, heq⟩ := causeArises_cases u k f
    · rw [heq]
    · rw [heq, (enterSide_rest _ _ _ _ _).2.2]
  unfold causeArose
  simp only [settle_side, causeArises_side]
  rw [hcauses.1, hcauses.2.1, hcauses.2.2]
  refine ⟨hlive, hstored, h.masked, fun hs => ?_, fun hs => ⟨?_, ?_⟩, fun hd => ?_, fun h1 h2 h3 => ⟨fun hm => ?_, fun hm hf => ?_,
    fun hm hf => ?_⟩⟩
  · rw [htally, (marks_stored (by rw [h.stored, hs])).2, h.tally]
  · rw [htally, (marks_new (by rw [h.stored, hs])).2, h.tally]
  · obtain heq | ⟨new, heq⟩ := causeArises_cases u k f
    · have hnew := (marks_new (s := u) (k := k) (f := f) (by rw [h.stored, hs])).1
      rw [h.raised, List.nil_append, h.masked, show faultEvent u k f = faultEvent s k f by unfold faultEvent; rw [h.own]] at hnew
      obtain ⟨htrail, hmem, -⟩ := marks_keeps u k f
      rw [heq]
      refine settle_recordedEvent (htrail.trans h.trail) (by rw [hmem, h.mem, hwf]) ?_ (by rw [hnew]; exact List.mem_cons_self)
      rw [hnew, List.length_singleton]
      unfold trailRoom at hroom
      omega
    · rw [heq]
      exact ((h.entry hwf hroom new rfl).2 hs).2
  · rw [arisen_stays (by rw [h.state]; exact hd)]
    exact h.state
  · rw [← h.state] at h1 h2 h3
    rw [← h.masked] at hm
    have heq : u.causeArises k f = (u.marks k f).enterSide k .fault f.doorCause 0 := by
      rw [causeArises_eq]
      cases hd : (u.side k).state <;> simp_all
    obtain ⟨e1, e2, e3, e4, e5⟩ := entered_fault ((u.side k).marked f) u.now u.settings.closeTimeout
    rw [arisen_unmasked h1 h2 h3 hm, heq]
    have hentry := h.entry hwf hroom .fault rfl
    exact ⟨e1, e2, e3, e4, e5, hentry.1, fun hs => (hentry.2 hs).1⟩
  · rw [← h.state] at hf
    rw [← h.masked] at hm
    have heq : u.causeArises k f = (u.marks k f).enterSide k .unlocked f.doorCause 0 := by
      rw [causeArises_eq]
      obtain ⟨rfl, hf⟩ | ⟨rfl, hf⟩ := hf <;> simp only [hf, hm] <;> rfl
    have hlock : ((u.side k).marked f).lock = false := h.lock (by obtain ⟨rfl, -⟩ | ⟨rfl, -⟩ := hf <;> simp)
    rw [arisen_unlocked hm hf, heq, entered_unlocked _ _ _ hlock]
    have hentry := h.entry hwf hroom .unlocked rfl
    exact ⟨rfl, h.pend, hentry.1, fun hs => (hentry.2 hs).1⟩
  · rw [← h.state] at hf
    rw [← h.masked] at hm
    rw [arisen_masked hm hf]
    exact h.state

end

end Sys2Proof.Machine

/-!
O36 and O37: ticks, lock levels, timers and the release output of a door side.
-/

namespace Sys2Proof.Machine

section
variable {s : State} {k : SideId} {dt : Nat}

/-- Entering CLOSED, or UNLOCKED with the lock level false, is the one change of state that it names (R97). -/
theorem enterSide_rest_eq (s : State) (k : SideId) (new : DoorState) (cause : DoorCause) (number : Byte)
    (h : new = .closed ∨ (new = .unlocked ∧ (s.side k).lock = false)) : s.enterSide k new cause number =
      { s.setSide k (atRest (s.side k) new) with raised := s.raised ++ [{
        group := (sideSource k).toNat, event := doorEvent s k new (s.side k).state cause.code number }] } := by
  have hmove : s.enterSide k new cause number = s.moveSide k new cause number := by
    obtain rfl | ⟨rfl, h⟩ := h
    · rfl
    · unfold State.enterSide
      simp only
      rw [if_neg]
      rw [moveSide_side, (enter_keeps _ _ _ _).2.1, h]
      simp
  have hside : (s.side k).enter new s.now s.settings.closeTimeout = atRest (s.side k) new := by
    obtain rfl | ⟨rfl, h⟩ := h <;> rfl
  have hraised := moveSide_raised s k new cause number
  rw [hmove, moveSide_keeps, hraised, moveSide_side, hside]

/-- A command whose one effect is an entry of a side into CLOSED or UNLOCKED. -/
theorem answers_rest {c : Instr} {f : State → State} {u : State} (h : exec c s = .next (s.run dt f)) (new : DoorState) (cause : DoorCause)
    (number : Byte) (hf : f (s.advance dt) = u.enterSide k new cause number) (hu : u.raised = []) (hown : u.table.own = s.table.own)
    (hnew : new = .closed ∨ (new = .unlocked ∧ (u.side k).lock = false)) :
    Answers c s (u.setSide k (atRest (u.side k) new)) [[doorEvent s k new (u.side k).state cause.code number]] := by
  refine answers_group h (sideSource k).toNat _ true ?_ (by rw [setSide_raised, hu]) fun e he => ?_
  · rw [hf, enterSide_rest_eq u k new cause number hnew, doorEvent_congr hown, hu]
    rfl
  · rw [List.mem_singleton.mp he]
    exact doorEvent_ofDoorUnit _ _ _ _ _ _

/-- The next state of a command that runs within a step. -/
theorem exec_run {c : Instr} {f : State → State} {v : State} (h : exec c s = .next (s.run dt f)) (hf : f (s.advance dt) = v) :
    exec c s = .next v.settle := by
  subst hf
  exact h

theorem causeBase_of_side (hs : s.settled = true) (f : FaultCause) {d : Side} (hstate : d.state = (s.side k).state)
    (hstored : d.stored = (s.side k).stored) (hmasked : d.masked = (s.side k).masked) (hpend : d.pend = (s.side k).pend)
    (hlock : f ≠ .mismatch → d.lock = false) : CauseBase s ((s.advance dt).setSide k d) k f := by
  have hr := raised_of_settled hs
  refine ⟨setSide_trail _ _ _, setSide_mem _ _ _, (setSide_raised _ _ _).trans hr, congrArg Tallies.fault (setSide_tallies _ _ _),
    congrArg Table.own (setSide_table _ _ _), ?_, ?_, ?_, ?_, ?_⟩ <;> rw [setSide_side] <;> assumption

end

/-- An entry keeps the sampling of the lock input. -/
theorem entered_lock (d : Side) (new : DoorState) (now ct : Nat) :
    (d.entered new now ct).lock = d.lock ∧ (d.entered new now ct).lockRun = d.lockRun ∧
      (d.entered new now ct).mismatch = d.mismatch := by
  unfold Side.entered
  cases new <;> simp only
  case fault | isolated =>
    rw [discarded_keeps]
    exact ⟨rfl, rfl, rfl⟩
  case unlocked | closing => split <;> exact ⟨rfl, rfl, rfl⟩
  all_goals exact ⟨rfl, rfl, rfl⟩

/-- A cause leaves the side marked, or takes it on from there. -/
theorem arisen_cases (d : Side) (f : FaultCause) (now ct : Nat) :
    d.arisen f now ct = d.marked f ∨ d.arisen f now ct = (d.marked f).entered .unlocked now ct ∨
      d.arisen f now ct = (d.marked f).entered .fault now ct := by
  unfold Side.arisen
  split
  case h_1 | h_2 | h_3 => exact .inl rfl
  case h_4 | h_5 =>
    split_ifs
    exacts [.inr (.inl rfl), .inl rfl, .inr (.inr rfl)]
  case h_6 | h_7 =>
    split_ifs
    exacts [.inl rfl, .inr (.inr rfl)]

theorem arisen_lock (d : Side) (f : FaultCause) (now ct : Nat) :
    (d.arisen f now ct).lock = d.lock ∧ (d.arisen f now ct).lockRun = d.lockRun := by
  have henter (new : DoorState) := entered_lock (d.marked f) new now ct
  obtain h | h | h := arisen_cases d f now ct <;> rw [h]
  exacts [⟨rfl, rfl⟩, ⟨(henter _).1, (henter _).2.1⟩, ⟨(henter _).1, (henter _).2.1⟩]

theorem arisen_sample (d : Side) (f : FaultCause) (now ct : Nat) :
    (d.arisen f now ct).mismatch = d.mismatch ∧ (d.arisen f now ct).sampled = d.sampled := by
  have hsampled (new : DoorState) (h : new = .unlocked ∨ new = .fault) : ((d.marked f).entered new now ct).sampled = d.sampled := by
    unfold Side.entered
    obtain rfl | rfl := h <;> simp only
    · split <;> rfl
    · rw [discarded_keeps]
      rfl
  obtain h | h | h := arisen_cases d f now ct <;> rw [h]
  exacts [⟨rfl, rfl⟩, ⟨(entered_lock _ _ _ _).2.2, hsampled _ (.inl rfl)⟩, ⟨(entered_lock _ _ _ _).2.2, hsampled _ (.inr rfl)⟩]

theorem sampleLock_eq (d : Side) (level : Bool) : d.sampleLock level =
    { d with lockRun := if 50 ≤ d.lockRun then d.lockRun else if level = d.lock then 0 else d.lockRun + 1 } := by
  unfold Side.sampleLock
  split_ifs <;> rfl

theorem tick_settled {s : State} (hs : s.settled = true) (l1 l2 : Bool) : (s.tick l1 l2).settled = true :=
  settled_of_touches (touches_tick s l1 l2) (by simp) (by simp) (by simp) hs

section
variable {s : State} (hs : s.settled = true)
include hs

theorem millisecondTick_moves (dt : Nat) (l1 l2 : Bool) (h : s.tickDue ≤ s.now + dt) :
    exec (.millisecondTick dt l1 l2) s = .next ((s.advance dt).tick l1 l2) := by
  have hset := tick_settled ((advance_settled s dt).trans hs) l1 l2
  exact exec_settled (f := fun t => if t.tickDue ≤ t.now then t.tick l1 l2 else t) rfl (if_pos h) hset

/-- LOCK_LEVEL_CHANGED to true (R97, R101). -/
theorem lockTrue_answers (dt : Nat) (k : SideId) (hrun : 50 ≤ (s.side k).lockRun) (hlock : (s.side k).lock = false) :
    let d := s.side k
    let e : Side := { d with lock := true, lockRun := 0, live := { d.live with closeTimeout := false, lockLost := false } }
    (d.state = .closing ∨ d.state = .unlocked → Answers (.lockLevelChanged dt k) s
      ((s.advance dt).setSide k (atRest e .closed)) [[doorEvent s k .closed d.state 4 0]]) ∧
    (d.state ≠ .closing → d.state ≠ .unlocked → Answers (.lockLevelChanged dt k) s ((s.advance dt).setSide k e) []) := by
  intro d e
  have hr : (s.advance dt).raised = [] := raised_of_settled hs
  have hrow : exec (.lockLevelChanged dt k) s = .next (s.run dt fun t =>
      if 50 ≤ (t.side k).lockRun then (if (t.side k).lock then t.lockFalse k else t.lockTrue k) else t) := rfl
  have htake : (fun t : State => if 50 ≤ (t.side k).lockRun then (if (t.side k).lock then t.lockFalse k else t.lockTrue k) else t)
      (s.advance dt) = (s.advance dt).lockTrue k := by
    simp only [advance_side, if_pos hrun, hlock, Bool.false_eq_true, if_false]
  have hcases : (s.advance dt).lockTrue k = (match d.state with
      | .closing | .unlocked => ((s.advance dt).setSide k e).enterSide k .closed .lock 0
      | _ => (s.advance dt).setSide k e) := by
    unfold State.lockTrue
    simp only [advance_side]
    cases hd : (s.side k).state <;> simp only [d, e, hd]
  refine ⟨fun hd => ?_, fun h1 h2 => ?_⟩
  · have hf : (s.advance dt).lockTrue k = ((s.advance dt).setSide k e).enterSide k .closed .lock 0 := by
      rw [hcases]
      obtain hd | hd := hd <;> simp only [hd]
    have := answers_rest hrow (k := k) (u := (s.advance dt).setSide k e) .closed .lock 0 (htake.trans hf) (by rw [setSide_raised, hr])
      (by rw [setSide_table]; rfl) (.inl rfl)
    rwa [setSide_side, setSide_setSide] at this
  · refine answers_quiet hrow (htake.trans ?_) (by rw [setSide_raised, hr])
    rw [hcases]
    cases hd : d.state <;> simp only
    exacts [absurd hd h1, absurd hd h2]

/-- LOCK_LEVEL_CHANGED to false (R97, R101). -/
theorem lockFalse_answers (hwf : s.mem.wf = true) (hroom : trailRoom s) (dt : Nat) (k : SideId) (hrun : 50 ≤ (s.side k).lockRun)
    (hlock : (s.side k).lock = true) :
    ((s.side k).state ≠ .closed → Answers (.lockLevelChanged dt k) s
      ((s.advance dt).setSide k { s.side k with lock := false, lockRun := 0 }) []) ∧
    ((s.side k).state = .closed → ∃ t : State, exec (.lockLevelChanged dt k) s = .next t ∧ (t.side k).lock = false ∧
      (t.side k).lockRun = 0 ∧ causeArose s t k .lockLost) := by
  have hr : (s.advance dt).raised = [] := raised_of_settled hs
  have hrow : exec (.lockLevelChanged dt k) s = .next (s.run dt fun t =>
      if 50 ≤ (t.side k).lockRun then (if (t.side k).lock then t.lockFalse k else t.lockTrue k) else t) := rfl
  have htake : (fun t : State => if 50 ≤ (t.side k).lockRun then (if (t.side k).lock then t.lockFalse k else t.lockTrue k) else t)
      (s.advance dt) = (s.advance dt).lockFalse k := by
    simp only [advance_side, if_pos hrun, hlock, if_true]
  refine ⟨fun hd => ?_, fun hd => ?_⟩
  · refine answers_quiet hrow (htake.trans ?_) (by rw [setSide_raised, hr])
    unfold State.lockFalse
    simp only [advance_side]
    cases hstate : (s.side k).state <;> simp only
    exact absurd hstate hd
  · have hf : (s.advance dt).lockFalse k =
        ((s.advance dt).setSide k { s.side k with lock := false, lockRun := 0 }).causeArises k .lockLost := by
      unfold State.lockFalse
      simp only [advance_side, hd]
    have hbase : CauseBase s ((s.advance dt).setSide k { s.side k with lock := false, lockRun := 0 }) k .lockLost :=
      causeBase_of_side hs .lockLost (by rfl) (by rfl) (by rfl) (by rfl) fun _ => (by rfl)
    refine ⟨_, exec_run hrow (htake.trans hf), ?_, ?_, hbase.arose hwf hroom⟩
    · rw [settle_side, causeArises_side, setSide_side]
      exact (arisen_lock _ _ _ _).1
    · rw [settle_side, causeArises_side, setSide_side]
      exact (arisen_lock _ _ _ _).2

/-- LEASE_EXPIRED (R107). -/
theorem leaseExpired_answers (dt e : Nat) (k : SideId) (he : e ≤ s.now + dt) (hd : (s.side k).state = .released)
    (hl : (s.side k).leaseEnd = some e) : Answers (.leaseExpired dt k) s
      ((s.advance dt).setSide k (atRest (s.side k) (lockedState (s.side k)))) [[doorEvent s k (lockedState (s.side k)) .released 3 0]] := by
  have hr : (s.advance dt).raised = [] := raised_of_settled hs
  have hreached : (s.advance dt).reached (some e) = true := decide_eq_true he
  have hnew : lockedState (s.side k) = .closed ∨ (lockedState (s.side k) = .unlocked ∧ (s.side k).lock = false) := by
    unfold lockedState
    cases (s.side k).lock <;> simp
  have := answers_rest (s := s) (c := .leaseExpired dt k) (k := k) (u := s.advance dt) rfl (lockedState (s.side k)) .lease 0 ?_ hr rfl hnew
  · rwa [advance_side, hd] at this
  · simp only [advance_side, hd, hl, hreached, true_and, if_true]
    rfl

/-- CLOSE_TIMEOUT (R100, R101). -/
theorem closeTimeout_arises (hwf : s.mem.wf = true) (hroom : trailRoom s) (dt e : Nat) (k : SideId) (he : e ≤ s.now + dt)
    (hd : (s.side k).state = .closing) (hl : (s.side k).closeEnd = some e) (hlock : (s.side k).lock = false) :
    ∃ t : State, exec (.closeTimeout dt k) s = .next t ∧ causeArose s t k .closeTimeout := by
  have hreached : (s.advance dt).reached (some e) = true := decide_eq_true he
  have hbase : CauseBase s ((s.advance dt).setSide k (s.side k)) k .closeTimeout :=
    causeBase_of_side hs .closeTimeout (by rfl) (by rfl) (by rfl) (by rfl) fun _ => hlock
  rw [← advance_side s dt, setSide_same] at hbase
  refine ⟨_, exec_run (s := s) (dt := dt) (v := (s.advance dt).causeArises k .closeTimeout) rfl ?_, hbase.arose hwf hroom⟩
  simp only [advance_side, hd, hl, hreached, true_and, if_true]

end

/-- Settles O36: ticks, debounced lock levels and timers of a door side (R97, R100, R101, R107, R161). -/
theorem ticksLockLevelsAndTimersMoveSides : Obligations.TicksLockLevelsAndTimersMoveSides := by
  refine ⟨fun s dt l1 l2 hs h => ?_, fun s dt k hs hwf hroom hrun => ?_, fun s dt e k hs hwf hroom he => ?_⟩
  · intro run
    rw [millisecondTick_moves hs dt l1 l2 h]
    unfold State.tick
    rw [sampleLock_eq, sampleLock_eq]
    rfl
  · exact ⟨fun hlock => lockTrue_answers hs dt k hrun hlock, fun hlock => lockFalse_answers hs hwf hroom dt k hrun hlock⟩
  · exact ⟨leaseExpired_answers hs dt e k he, closeTimeout_arises hs hwf hroom dt e k he⟩

/-! ## The release output and its feedback (R98, R99) -/

theorem halfPeriod_eq (s : State) : s.halfPeriod =
    (if s.settings.releaseFrequency = 1 then 2000000 else if s.settings.releaseFrequency = 2 then 1000000 else 500000) := rfl

section
variable {s : State} {k : SideId} (dt : Nat)

theorem releaseHalfPeriod_answers (hs : s.settled = true) (hpresent : (s.side k).state ≠ .absent)
    (h : (s.side k).halfStart + s.halfPeriod ≤ s.now + dt) :
    Answers (.releaseHalfPeriod dt k) s ((s.advance dt).setSide k { s.side k with
      halfStart := (s.side k).halfStart + s.halfPeriod, sampled := false
      relHigh := if (s.side k).state = .released then !(s.side k).relHigh else false }) [] := by
  refine answers_quiet rfl ?_ (by rw [setSide_raised]; exact raised_of_settled hs)
  unfold State.halfPeriodEnd
  simp only [advance_side]
  exact if_pos ⟨hpresent, h⟩

theorem advance_sampleDue (hpresent : (s.side k).state ≠ .absent) (hsampled : (s.side k).sampled = false)
    (hdue : (s.side k).halfStart + s.halfPeriod / 2 ≤ s.now + dt) : (s.advance dt).sampleDue k = true := by
  unfold State.sampleDue
  simp only [advance_side, hsampled]
  simp only [Bool.not_false, Bool.and_true, Bool.and_eq_true, bne_iff_ne, ne_eq, decide_eq_true_eq]
  exact ⟨hpresent, hdue⟩

/-- A sample that agrees, in either row that takes it (R99, R101; log 32). -/
theorem feedback_agrees (hs : s.settled = true) {c : Instr} {f : State → State} (h : exec c s = .next (s.run dt f))
    (hf : f (s.advance dt) = (s.advance dt).takeFeedback k (s.side k).relHigh) : Answers c s ((s.advance dt).setSide k { s.side k with
      sampled := true, mismatch := 0, live := { (s.side k).live with mismatch := false } }) [] := by
  refine answers_quiet h (hf.trans ?_) (by rw [setSide_raised]; exact raised_of_settled hs)
  unfold State.takeFeedback
  simp only [advance_side, if_true]

theorem feedback_differs (high : Bool) (hhigh : high ≠ (s.side k).relHigh) :
    (s.advance dt).takeFeedback k high =
      (if (s.side k).mismatch = 3 then ((s.advance dt).setSide k { s.side k with
          sampled := true, mismatch := min 4 ((s.side k).mismatch + 1) }).causeArises k .mismatch
        else (s.advance dt).setSide k { s.side k with sampled := true, mismatch := min 4 ((s.side k).mismatch + 1) }) := by
  unfold State.takeFeedback
  simp only [advance_side, if_neg hhigh]

/-- The fourth sample in a row that differs, in either row that takes it (R99, R101; log 32). -/
theorem feedback_fourth (hs : s.settled = true) (hwf : s.mem.wf = true) (hroom : trailRoom s) (hthree : (s.side k).mismatch = 3) {c : Instr}
    {f : State → State} (h : exec c s = .next (s.run dt f))
    (hf : f (s.advance dt) = (s.advance dt).takeFeedback k (!(s.side k).relHigh)) :
    ∃ t : State, exec c s = .next t ∧ (t.side k).mismatch = 4 ∧ (t.side k).sampled = true ∧ causeArose s t k .mismatch := by
  have hbase : CauseBase s ((s.advance dt).setSide k { s.side k with sampled := true, mismatch := min 4 ((s.side k).mismatch + 1) }) k
      .mismatch := causeBase_of_side hs .mismatch (by rfl) (by rfl) (by rfl) (by rfl) fun h => absurd rfl h
  rw [feedback_differs dt _ (by simp), if_pos hthree] at hf
  refine ⟨_, exec_run h hf, ?_, ?_, hbase.arose hwf hroom⟩ <;> rw [settle_side, causeArises_side, setSide_side]
  · rw [(arisen_sample _ _ _ _).1]
    simp [hthree]
  · rw [(arisen_sample _ _ _ _).2]

end
/-- Settles O37: the release output alternates, and its feedback samples count a mismatch run (R98, R99, R101). -/
theorem releaseOutputIsWatched : Obligations.ReleaseOutputIsWatched := by
  intro s dt k high hs hwf hroom hpresent d half
  refine ⟨releaseHalfPeriod_answers dt hs hpresent, fun hsampled hdue => ?_⟩
  have hsample := advance_sampleDue dt hpresent hsampled hdue
  have hrow (b : Bool) : (if (s.advance dt).sampleDue k then (s.advance dt).takeFeedback k b else s.advance dt) =
      (s.advance dt).takeFeedback k b := if_pos hsample
  refine ⟨fun hhigh => ?_, ?_, fun hhigh hthree => ?_, fun hthree c hc => ?_⟩
  · exact feedback_agrees dt hs (c := .feedbackSample dt k high) rfl (by rw [hrow, hhigh])
  · refine feedback_agrees dt hs (c := .driveMismatchEnded dt k) rfl ?_
    simp only [hsample, if_true, advance_side]
  · refine answers_quiet (f := fun t => if t.sampleDue k then t.takeFeedback k high else t) rfl ?_
      (by rw [setSide_raised]; exact raised_of_settled hs)
    rw [hrow, feedback_differs dt high hhigh, if_neg hthree]
  · obtain rfl | rfl := hc
    · refine feedback_fourth dt hs hwf hroom hthree (c := .driveMismatch dt k) rfl ?_
      simp only [hsample, advance_side, show (s.side k).mismatch = 3 from hthree, beq_self_eq_true, Bool.and_self, if_true]
    · exact feedback_fourth dt hs hwf hroom hthree (c := .feedbackSample dt k _) rfl (hrow _)

end Sys2Proof.Machine

/-!
A pending order at its apply instant (R104, R105, R106): O38.
-/

namespace Sys2Proof.Machine

/-! ## The events an operation adds -/

/-- `t` has the events of `s` and at most `n` more after them. -/
def Raises (n : Nat) (s t : State) : Prop := ∃ l : List Raised, l.length ≤ n ∧ t.raised = s.raised ++ l

section
variable {n m : Nat} {s t u : State}

theorem Raises.of_same (h : t.raised = s.raised) : Raises 0 s t := ⟨[], by simp, by simp [h]⟩

theorem Raises.trans (h : Raises n s t) (h' : Raises m t u) : Raises (n + m) s u := by
  obtain ⟨l, hl, ht⟩ := h
  obtain ⟨l', hl', hu⟩ := h'
  exact ⟨l ++ l', by rw [List.length_append]; omega, by rw [hu, ht, List.append_assoc]⟩

theorem Raises.mono (h : Raises n s t) (hnm : n ≤ m) : Raises m s t := by
  obtain ⟨l, hl, ht⟩ := h
  exact ⟨l, by omega, ht⟩

theorem Raises.subset (h : Raises n s t) : s.raised ⊆ t.raised := by
  obtain ⟨l, -, ht⟩ := h
  rw [ht]
  exact List.subset_append_left _ _

theorem Raises.length (h : Raises n s t) : t.raised.length ≤ s.raised.length + n := by
  obtain ⟨l, hl, ht⟩ := h
  rw [ht, List.length_append]
  omega

theorem raises_raise (s : State) (g : Nat) (e : Event) : Raises 1 s (s.raise g e) := ⟨[_], by simp, rfl⟩

theorem raises_setSide (s : State) (k : SideId) (d : Side) : Raises 0 s (s.setSide k d) := .of_same (setSide_raised s k d)

theorem raises_enterSide (s : State) (k : SideId) (new : DoorState) (cause : DoorCause) (number : Byte) :
    Raises 2 s (s.enterSide k new cause number) := by
  obtain ⟨rest, hlen, h⟩ := enterSide_raised s k new cause number
  exact ⟨_ :: rest, by rw [List.length_cons]; omega, h⟩

theorem raises_actOnSide (s : State) (k : SideId) (o : PendingOrder) : Raises 2 s (s.actOnSide k o) := by
  have hlease (u : State) : Raises 0 u (u.startLease k o) := raises_setSide u k _
  unfold State.actOnSide
  split
  case h_1 => exact (hlease _).mono (by omega)
  case h_2 | h_3 | h_4 => exact (raises_enterSide _ _ _ _ _).trans (hlease _)
  case h_5 | h_6 | h_7 => exact raises_enterSide _ _ _ _ _
  case h_8 => exact (Raises.of_same rfl).mono (by omega)

theorem raises_applyPending (s : State) (k : SideId) (o : PendingOrder) : Raises 2 s (s.applyPending k o) := by
  unfold State.applyPending
  simp only
  split
  · exact (((raises_setSide s k _).trans (raises_setSide _ k _)).trans (raises_raise _ _ _)).mono (by omega)
  · exact ((raises_setSide s k _).trans (raises_setSide _ k _)).trans (raises_actOnSide _ _ _)

end

/-! ## One side takes its order -/

/-- `u` stands as `s` does in all that an order at side `k` reads. -/
structure AtSide (s u : State) (k : SideId) : Prop where
  census : u.census = s.census
  mon : u.mon = s.mon
  table : u.table = s.table
  settings : u.settings = s.settings
  side : ∃ (v : Option Verdict) (p : Option PendingOrder), u.side k = { s.side k with lastVerdict := v, pend := p }

section
variable {s u : State} {k : SideId}

theorem AtSide.skipReason (h : AtSide s u k) (o : PendingOrder) (d : Side) (hd : d.state = (u.side k).state) :
    (u.setSide k d).skipReason k o = if o.action = .release then failsCheck s (s.side k) o.gen else none := by
  obtain ⟨v, p, hside⟩ := h.side
  unfold State.skipReason failsCheck
  simp only [setSide_census, setSide_table, setSide_mon, setSide_side, hd, h.census, h.mon, h.table, hside, ne_eq]
  split_ifs <;> rfl

/-- A WITHDRAW of a RELEASED side (R106). -/
theorem actOnSide_withdraw {s : State} (o : PendingOrder) (ha : o.action = .withdraw) : s.actOnSide k o =
    if (s.side k).state = .released then s.enterSide k (s.side k).rest .order o.number else s := by
  unfold State.actOnSide
  simp only [ha]
  cases (s.side k).state <;> simp

/-- A CLOSE of a RELEASED or UNLOCKED side (R106). -/
theorem actOnSide_close {s : State} (o : PendingOrder) (ha : o.action = .close) : s.actOnSide k o =
    if (s.side k).state = .released ∨ (s.side k).state = .unlocked then s.enterSide k .closing .order o.number else s := by
  unfold State.actOnSide
  simp only [ha]
  cases (s.side k).state <;> simp

/-- A RELEASE of a side that passed its checks (R106). -/
theorem actOnSide_release {s : State} (o : PendingOrder) (ha : o.action = .release)
    (hst : ¬((s.side k).state = .absent ∨ (s.side k).state = .isolated ∨ (s.side k).state = .fault)) : s.actOnSide k o =
    if (s.side k).state = .released then s.startLease k o
    else (s.enterSide k .released .order o.number).startLease k o := by
  unfold State.actOnSide
  simp only [ha]
  cases h : (s.side k).state <;> simp_all

theorem rest_eq (d : Side) : d.rest = lockedState d := rfl

theorem entered_lockedState (d : Side) (now ct : Nat) : d.entered (lockedState d) now ct = atRest d (lockedState d) := by
  unfold lockedState
  cases h : d.lock
  · exact entered_unlocked d now ct h
  · rfl

/-- CLOSING, or CLOSED at once with the lock level true (R97). -/
theorem entered_closing (d : Side) (now ct : Nat) :
    (d.entered .closing now ct).relHigh = false ∧ (d.entered .closing now ct).leaseEnd = none ∧
      (d.entered .closing now ct).pend = d.pend ∧ (d.entered .closing now ct).lastAction = d.lastAction ∧
      (d.lock = false → (d.entered .closing now ct).state = .closing ∧
        (d.entered .closing now ct).closeEnd = some (now + ct * 2000000000)) ∧
      (d.lock = true → (d.entered .closing now ct).state = .closed ∧ (d.entered .closing now ct).closeEnd = none) := by
  unfold Side.entered
  cases h : d.lock
  · refine ⟨rfl, rfl, rfl, rfl, fun _ => ⟨rfl, ?_⟩, nofun⟩
    show some (now + ct * 1000 * ms) = _
    rw [Nat.mul_assoc]
    rfl
  · exact ⟨rfl, rfl, rfl, rfl, nofun, fun _ => ⟨rfl, rfl⟩⟩

theorem leaseTime_eq (b : Byte) : leaseTime b = leaseOf b := rfl

end

section
variable {s u w : State} {k : SideId} {o : PendingOrder} (h : AtSide s u k) (hw : w.side k = (u.applyPending k o).side k)
  (hraised : (u.applyPending k o).raised ⊆ w.raised)
  (hrec : ∀ (g : Nat) (e : Event), { group := g, event := e } ∈ w.raised → recordedIn s w.settle e)
include h hw hraised hrec

theorem AtSide.skips (ha : o.action = .release) {why : Skip} (hf : failsCheck s (s.side k) o.gen = some why) :
    let e := w.side k
    e.pend = none ∧ e.state = (s.side k).state ∧ e.lastSkip = some why ∧ e.leaseEnd = (s.side k).leaseEnd ∧
      e.relHigh = (s.side k).relHigh ∧
      recordedIn s w.settle { kind := 12, source := sideSource k, position := byte s.table.own
                              detail := o.number, value := ((0 : Word16) ++ o.action.code ++ why.code : Word32) } := by
  intro e
  obtain ⟨v, p, hside⟩ := h.side
  have hskip := h.skipReason o { u.side k with pend := none } rfl
  rw [if_pos ha, hf] at hskip
  have he : e = { u.side k with pend := none, lastSkip := some why } := hw.trans (applyPending_skip u k o why hskip)
  rw [hside] at he
  refine ⟨by rw [he], by rw [he], by rw [he], by rw [he], by rw [he], hrec (sideSource k).toNat _ (hraised ?_)⟩
  unfold State.applyPending
  simp only [hskip]
  unfold State.skipEvent State.eventPosition
  rw [raise_raised, setSide_table, setSide_table, h.table]
  exact List.mem_append_right _ (List.mem_singleton.mpr rfl)

omit hw hraised hrec in
/-- The state in which a side that passed its checks takes its order. -/
theorem AtSide.acts (hf : o.action = .release → failsCheck s (s.side k) o.gen = none) :
    ∃ x : State, u.applyPending k o = x.actOnSide k o ∧ x.now = u.now ∧ x.settings = s.settings ∧
      (∀ new old cause number, doorEvent x k new old cause number = doorEvent s k new old cause number) ∧
      ∃ v : Option Verdict, x.side k = { s.side k with lastVerdict := v, pend := none, lastAction := some o.action } := by
  obtain ⟨v, p, hside⟩ := h.side
  have hskip := h.skipReason o { u.side k with pend := none } rfl
  have hnone : (u.setSide k { u.side k with pend := none }).skipReason k o = none := by
    rw [hskip]
    split
    next ha => exact hf ha
    next => rfl
  refine ⟨(u.setSide k { u.side k with pend := none, lastAction := some o.action }), ?_, setSide_now _ _ _,
    (setSide_settings _ _ _).trans h.settings, doorEvent_congr (by rw [setSide_table, h.table]), v, ?_⟩
  · unfold State.applyPending
    simp only [hnone, setSide_side, setSide_setSide]
  · rw [setSide_side, hside]

/-- The order of a side at its apply instant does what R105 and R106 say. -/
theorem AtSide.applied : orderApplied s w.settle u.now o.applyAt k o := by
  have hkeep (x : State) (d : Side) (hx : u.applyPending k o = x) (hside : x.side k = d) : w.side k = d := by rw [hw, hx, hside]
  have hentered (x : State) (new : DoorState) (hx : u.applyPending k o = x.enterSide k new .order o.number)
      (hold : (x.side k).state = (s.side k).state)
      (hev : ∀ new old cause number, doorEvent x k new old cause number = doorEvent s k new old cause number) :
      w.side k = (x.side k).entered new x.now x.settings.closeTimeout ∧
        recordedIn s w.settle (doorEvent s k new (s.side k).state 2 o.number) := by
    refine ⟨by rw [hw, hx, enterSide_side], hrec (sideSource k).toNat _ (hraised ?_)⟩
    obtain ⟨rest, -, hr⟩ := enterSide_raised x k new .order o.number
    rw [hx, hr, hev, hold]
    exact List.mem_append_right _ List.mem_cons_self
  unfold orderApplied
  simp only [settle_side]
  cases ha : o.action
  case withdraw =>
    obtain ⟨x, hx, hnow, hset, hev, v, hside⟩ := h.acts (fun h => by rw [ha] at h; cases h)
    rw [ha] at hside
    rw [actOnSide_withdraw o ha, hside] at hx
    have hcases : (w.side k).pend = none ∧ (w.side k).lastAction = some .withdraw ∧
        ((s.side k).state = .released → (w.side k).state = lockedState (s.side k) ∧ (w.side k).relHigh = false ∧
          (w.side k).leaseEnd = none ∧ recordedIn s w.settle (doorEvent s k (lockedState (s.side k)) .released 2 o.number)) ∧
        ((s.side k).state ≠ .released → (w.side k).state = (s.side k).state) := by
      split at hx
      next hd =>
        obtain ⟨he, hr⟩ := hentered x _ hx (by rw [hside]) hev
        rw [hside, rest_eq, entered_lockedState] at he
        rw [show (s.side k).state = .released from hd] at hr
        rw [he]
        exact ⟨rfl, rfl, fun _ => ⟨rfl, rfl, rfl, hr⟩, fun hn => absurd hd hn⟩
      next hd =>
        rw [hkeep x _ hx hside]
        exact ⟨rfl, rfl, fun hn => absurd hn hd, fun _ => rfl⟩
    obtain ⟨h1, h2, h3, h4⟩ := hcases
    exact ⟨h1, nofun, nofun, fun _ => ⟨h2, h3, h4⟩, nofun⟩
  case close =>
    obtain ⟨x, hx, hnow, hset, hev, v, hside⟩ := h.acts (fun h => by rw [ha] at h; cases h)
    rw [ha] at hside
    rw [actOnSide_close o ha, hside] at hx
    split at hx
    next hd =>
      obtain ⟨he, hr⟩ := hentered x _ hx (by rw [hside]) hev
      obtain ⟨c1, c2, c3, c4, c5, c6⟩ := entered_closing (x.side k) x.now x.settings.closeTimeout
      have hlock : (x.side k).lock = (s.side k).lock := by rw [hside]
      rw [hlock] at c5 c6
      rw [hnow, hset] at c5
      rw [he]
      refine ⟨c3.trans (by rw [hside]), nofun, nofun, nofun, fun _ => ⟨c4.trans (by rw [hside]), fun _ => ⟨c1, c2, hr, ?_, c6⟩,
        fun h1 h2 => ?_⟩⟩
      · rw [hnow, hset]
        exact c5
      · exact absurd hd (by rintro (hd | hd); exacts [h1 hd, h2 hd])
    next hd =>
      rw [hkeep x _ hx hside]
      exact ⟨rfl, nofun, nofun, nofun, fun _ => ⟨rfl, fun hn => absurd hn hd, fun _ _ => rfl⟩⟩
  case release =>
    cases hf : failsCheck s (s.side k) o.gen
    case some why =>
      obtain ⟨h1, h2, h3, h4, h5, h6⟩ := h.skips hw hraised hrec ha hf
      refine ⟨h1, fun why' _ hwhy => ?_, (fun _ hn => nomatch hn), nofun, nofun⟩
      obtain rfl : why = why' := by simpa using hwhy
      rw [ha] at h6
      exact ⟨h2, h3, h4, h5, by cases k <;> exact h6⟩
    case none =>
      obtain ⟨x, hx, hnow, hset, hev, v, hside⟩ := h.acts (fun _ => hf)
      have hst : ¬((s.side k).state = .absent ∨ (s.side k).state = .isolated ∨ (s.side k).state = .fault) := by
        intro hd
        unfold failsCheck at hf
        split_ifs at hf
      rw [actOnSide_release o ha (by rw [hside]; exact hst), hside] at hx
      split at hx
      next hd =>
        have he : w.side k = { x.side k with leaseEnd := some (o.applyAt + leaseOf o.lease) } := by
          rw [hw, hx]
          exact setSide_side _ _ _
        rw [hside, ha] at he
        rw [he]
        refine ⟨rfl, (fun _ _ hn => nomatch hn), fun _ _ => ⟨hd, rfl, rfl, (if_pos hd).symm, fun _ => ⟨rfl, rfl⟩, fun hn => absurd hd hn⟩, nofun, nofun⟩
      next hd =>
        have he : w.side k = { (x.side k).entered .released x.now x.settings.closeTimeout with
            leaseEnd := some (o.applyAt + leaseOf o.lease) } := by
          rw [hw, hx]
          unfold State.startLease
          rw [setSide_side, enterSide_side]
          rfl
        have hr : recordedIn s w.settle (doorEvent s k .released (s.side k).state 2 o.number) := by
          refine hrec (sideSource k).toNat _ (hraised ?_)
          obtain ⟨rest, -, hr⟩ := enterSide_raised x k .released .order o.number
          rw [hx]
          unfold State.startLease
          rw [setSide_raised, hr, hev, hside]
          exact List.mem_append_right _ List.mem_cons_self
        rw [hside, ha, hnow] at he
        rw [he]
        exact ⟨rfl, (fun _ _ hn => nomatch hn), fun _ _ => ⟨rfl, rfl, rfl, (if_neg hd).symm, fun hn => absurd hn hd, fun _ => ⟨rfl, rfl, rfl, hr⟩⟩, nofun, nofun⟩

end

/-! ## The apply instant (R105, R106) -/

theorem applyAtInstant_cases (s : State) (i : Nat) (k : SideId) :
    (∃ o, (s.side k).pend = some o ∧ o.applyAt = i ∧ s.applyAtInstant i k = s.applyPending k o) ∨
      ((∀ o, (s.side k).pend = some o → o.applyAt ≠ i) ∧ s.applyAtInstant i k = s) := by
  unfold State.applyAtInstant
  cases hp : (s.side k).pend with
  | none => exact .inr ⟨nofun, rfl⟩
  | some o =>
    by_cases h : o.applyAt = i
    · exact .inl ⟨o, rfl, h, if_pos h⟩
    · exact .inr ⟨fun o' ho => by obtain rfl : o = o' := by simpa using ho
                                  exact h, if_neg h⟩

theorem onlySide_applyAtInstant (s : State) (i : Nat) (k : SideId) : OnlySide k s (s.applyAtInstant i k) := by
  obtain ⟨o, -, -, h⟩ | ⟨-, h⟩ := applyAtInstant_cases s i k <;> rw [h]
  exacts [onlySide_applyPending s k o, .refl k s]

theorem raises_applyAtInstant (s : State) (i : Nat) (k : SideId) : Raises 2 s (s.applyAtInstant i k) := by
  obtain ⟨o, -, -, h⟩ | ⟨-, h⟩ := applyAtInstant_cases s i k <;> rw [h]
  exacts [raises_applyPending s k o, (Raises.of_same rfl).mono (by omega)]

/-- The least pending instant is the earliest (R104). -/
theorem earliestApply_eq {s : State} {i : Nat} (hsome : ∃ (k : SideId) (o : PendingOrder), (s.side k).pend = some o ∧ o.applyAt = i)
    (hleast : ∀ (k : SideId) (o : PendingOrder), (s.side k).pend = some o → i ≤ o.applyAt) : s.earliestApply = some i := by
  obtain ⟨k, o, ho, hi⟩ := hsome
  have h1 := hleast .one
  have h2 := hleast .two
  unfold State.earliestApply State.pendingAt
  cases k
  case one =>
    rw [ho]
    cases h : (s.side .two).pend with
    | none => exact congrArg some hi
    | some o2 =>
      have := h2 o2 h
      exact congrArg some (by show min o.applyAt o2.applyAt = i; omega)
  case two =>
    rw [ho]
    cases h : (s.side .one).pend with
    | none => exact congrArg some hi
    | some o1 =>
      have := h1 o1 h
      exact congrArg some (by show min o1.applyAt o.applyAt = i; omega)

theorem OnlySide.rest {k : SideId} {s t : State} (h : OnlySide k s t) : t.census = s.census ∧ t.mon = s.mon ∧ t.table = s.table ∧
    t.settings = s.settings ∧ t.now = s.now ∧ t.trail = s.trail ∧ t.mem = s.mem := by
  obtain ⟨d, l, rfl⟩ := h
  cases k <;> exact ⟨rfl, rfl, rfl, rfl, rfl, rfl, rfl⟩

/-- Settles O38: at the earliest instant each side takes the order that is due and keeps a later one (R104 to R106). -/
theorem pendingOrdersApply : Obligations.PendingOrdersApply := by
  intro s dt i hs hwf hroom hi hsome hleast
  obtain ⟨v, hv⟩ : ∃ v, (s.advance dt).applyAtInstant i .one = v := ⟨_, rfl⟩
  obtain ⟨w, hw⟩ : ∃ w, v.applyAtInstant i .two = w := ⟨_, rfl⟩
  have hearliest : (s.advance dt).earliestApply = some i := earliestApply_eq hsome hleast
  have hfirst : OnlySide .one (s.advance dt) v := hv ▸ onlySide_applyAtInstant _ i .one
  have hsecond : OnlySide .two v w := hw ▸ onlySide_applyAtInstant _ i .two
  have hraise1 : Raises 2 (s.advance dt) v := hv ▸ raises_applyAtInstant _ i .one
  have hraise2 : Raises 2 v w := hw ▸ raises_applyAtInstant _ i .two
  obtain ⟨vcensus, vmon, vtable, vset, vnow, vtrail, vmem⟩ := hfirst.rest
  obtain ⟨wcensus, wmon, -, -, -, wtrail, wmem⟩ := hsecond.rest
  have hside1 : w.side .one = v.side .one := hsecond.other (by simp)
  have hside2 : v.side .two = s.side .two := hfirst.other (by simp)
  have hlen : s.trail.held + w.raised.length < 128 := by
    have hr : (s.advance dt).raised = [] := raised_of_settled hs
    have h1 := hraise1.length
    have h2 := hraise2.length
    rw [hr, List.length_nil] at h1
    unfold trailRoom at hroom
    omega
  have hrec (g : Nat) (e : Event) (he : { group := g, event := e } ∈ w.raised) : recordedIn s w.settle e :=
    settle_recordedEvent (wtrail.trans vtrail) (by rw [wmem, vmem]; exact hwf) hlen he
  refine ⟨w.settle, exec_run (f := fun t => match t.earliestApply with
    | some i => if i ≤ t.now then (t.applyAtInstant i .one).applyAtInstant i .two else t
    | none => t) rfl ?_, ?_, ?_, fun k => ?_⟩
  · simp only [hearliest]
    rw [if_pos (show i ≤ (s.advance dt).now from hi), hv, hw]
  · rw [settle_census, wcensus, vcensus]
    rfl
  · rw [settle_mon, wmon, vmon]
    rfl
  rw [settle_side]
  cases k
  case one =>
    obtain ⟨o, ho, hoi, happly⟩ | ⟨hnone, hsame⟩ := applyAtInstant_cases (s.advance dt) i .one
    · refine ⟨fun o' ho' hoi' => ?_, fun hn => absurd hoi (hn o ho)⟩
      obtain rfl : o = o' := Option.some.inj (ho.symm.trans ho')
      have hbase : AtSide s (s.advance dt) .one := ⟨rfl, rfl, rfl, rfl, _, _, rfl⟩
      have := hbase.applied (w := w) (o := o) (by rw [hside1, ← hv, happly]) (by rw [← happly, hv]; exact hraise2.subset) hrec
      rwa [hoi] at this
    · refine ⟨fun o ho hoi => absurd hoi (hnone o ho), fun _ => ?_⟩
      rw [hside1, ← hv, hsame]
      rfl
  case two =>
    obtain ⟨o, ho, hoi, happly⟩ | ⟨hnone, hsame⟩ := applyAtInstant_cases v i .two
    · rw [hside2] at ho
      refine ⟨fun o' ho' hoi' => ?_, fun hn => absurd hoi (hn o ho)⟩
      obtain rfl : o = o' := Option.some.inj (ho.symm.trans ho')
      have hbase : AtSide s v .two := ⟨vcensus, vmon, vtable, vset, (s.side .two).lastVerdict, (s.side .two).pend, hside2⟩
      have := hbase.applied (w := w) (o := o) (by rw [← hw, happly]) (by rw [← happly, hw]; exact List.Subset.refl _) hrec
      rwa [hoi, vnow] at this
    · rw [hside2] at hnone
      refine ⟨fun o ho hoi => absurd hoi (hnone o ho), fun _ => ?_⟩
      rw [← hw, hsame, hside2]

end Sys2Proof.Machine

/-!
Answers that the end of a step keeps (R168), and DOOR_LOCAL (R110): O39.
-/

namespace Sys2Proof.Machine

/-! ## Answers in memory -/

section
variable {s t : State} {k : Nat} {o : SlotOutcome} {d : Byte} {r : List Byte}

theorem readList_of_byteAt {m : Memory} {a : Nat} (l : List Byte) (h : ∀ i : Nat, i < l.length → m.read (a + i) = byteAt l i) :
    m.readList a l.length = l := by
  refine List.ext_getElem (by simp [Memory.readList]) fun i hi hi' => ?_
  have := h i hi'
  simp only [Memory.readList, List.getElem_map, List.getElem_range, this]
  unfold byteAt
  rw [List.getD_eq_getElem?_getD, List.getElem?_eq_getElem hi', Option.getD_some]

/-- A completion leaves its answer in the slot (R168). -/
theorem complete_answered (hwf : s.mem.wf = true) (k : Nat) (o : SlotOutcome) (d : Byte) (hr : r.length ≤ 32) :
    answered (s.complete k o d r) k o d r := by
  have hread := complete_read s k o d r hwf
  refine ⟨?_, readList_of_byteAt [o.code, d] fun i hi => ?_, readList_of_byteAt r fun i hi => ?_⟩
  · exact (hread _).trans (if_pos rfl)
  · obtain rfl | rfl : i = 0 ∨ i = 1 := by simp only [List.length_cons, List.length_nil] at hi; omega
    · rw [hread, if_neg (by omega), if_neg (by omega), if_pos rfl]
      rfl
    · rw [hread, if_neg (by omega), if_neg (by omega), if_neg (by omega), if_pos (by omega)]
      rfl
  · rw [hread, if_neg (by omega), if_pos (by omega), Nat.add_sub_cancel_left, byteAt_resultBytes r (by omega)]

/-- An answer stands while the bytes of its slot do. -/
theorem answered.congr (h : answered s k o d r) (hr : r.length ≤ 32)
    (hm : ∀ a, slotBase k ≤ a → a < slotBase k + 64 → t.mem.read a = s.mem.read a) : answered t k o d r := by
  obtain ⟨h1, h2, h3⟩ := h
  refine ⟨(hm _ (Nat.le_refl _) (by omega)).trans h1, ?_, ?_⟩
  · rw [← h2]
    exact Memory.readList_congr fun a _ _ => hm a (by omega) (by omega)
  · rw [← h3]
    conv_lhs => rw [h3]
    exact Memory.readList_congr fun a _ _ => hm a (by omega) (by omega)

theorem answered.settle (h : answered s k o d r) (hr : r.length ≤ 32) (hk : k < 16) (hwf : s.mem.wf = true) :
    answered s.settle k o d r :=
  h.congr hr fun a _ _ => settle_read hwf (by have := slotBase_low hk; omega)

theorem settle_complete_answered (hwf : s.mem.wf = true) (hk : k < 16) (o : SlotOutcome) (d : Byte) (hr : r.length ≤ 32) :
    answered (s.complete k o d r).settle k o d r :=
  (complete_answered hwf k o d hr).settle hr hk (complete_wf s k o d r hwf)

end

/-- The next state of a row that serves a handed request. -/
theorem exec_serve {c : Instr} {s v : State} {dt : Nat} {p : Request → Bool} {f : Request → State → State} {r : Request}
    {rest : List Request} (h : exec c s = .next (s.run dt fun t => t.serve p f)) (ht : takeRequest p s.req.handed = (some r, rest))
    (hv : f r { s.advance dt with req := { s.req with handed := rest } } = v) : exec c s = .next v.settle :=
  exec_run h ((serve_some (s.advance dt) p f r rest ht).trans hv)

/-! ## The row of an action -/

/-- The row that carries a request's action out: its own, or the first (R22, R110; log 18). -/
theorem rowAction_eq_iff (q : Request) (top : Nat) (a : Byte) : q.rowAction top = a ↔
    (1 ≤ a.toNat ∧ a.toNat ≤ top ∧ q.param 0 = a) ∨ (a = 1 ∧ ¬(1 ≤ (q.param 0).toNat ∧ (q.param 0).toNat ≤ top)) := by
  unfold Request.rowAction
  split
  next h =>
    constructor
    · rintro rfl
      exact .inl ⟨h.1, h.2, rfl⟩
    · rintro (⟨-, -, h'⟩ | ⟨-, h'⟩)
      exacts [h', absurd h h']
  next h =>
    constructor
    · rintro rfl
      exact .inr ⟨rfl, h⟩
    · rintro (⟨h1, h2, rfl⟩ | ⟨rfl, -⟩)
      exacts [absurd ⟨h1, h2⟩ h, rfl]

theorem param_of_row (q : Request) (top : Nat) : q.param 0 = q.rowAction top ↔ 1 ≤ (q.param 0).toNat ∧ (q.param 0).toNat ≤ top ∨
    (q.param 0 = 1 ∧ top = 0) := by
  unfold Request.rowAction
  split
  next h => exact ⟨fun _ => .inl h, fun _ => rfl⟩
  next h =>
    constructor
    · intro hp
      refine .inr ⟨hp, ?_⟩
      rw [hp] at h
      simp at h
      omega
    · rintro (h' | ⟨h', -⟩)
      exacts [absurd h' h, h']

/-! ## DOOR_LOCAL (R110) -/

theorem doorAction_iff (q : Request) (a : Byte) : q.doorAction a = true ↔ q.kind = .doorLocal ∧
    ((1 ≤ a.toNat ∧ a.toNat ≤ 2 ∧ q.param 0 = a) ∨ (a = 1 ∧ ¬(1 ≤ (q.param 0).toNat ∧ (q.param 0).toNat ≤ 2))) := by
  rw [← rowAction_eq_iff]
  simp [Request.doorAction]

/-- The selector names the side (R110). -/
def isSelected (sel : Byte) : SideId → Prop
  | .one => sel = 1 ∨ sel = 3
  | .two => sel = 2 ∨ sel = 3

theorem selectsSide_iff (sel : Byte) (k : SideId) : selectsSide sel k = true ↔ isSelected sel k := by
  cases k <;> simp [selectsSide, isSelected]

section
variable {u : State} {r : Request} {act : SideId → State → State}

/-- A DOOR_LOCAL with an action or a selector outside its values (R110; log 18). -/
theorem doorLocal_range (h : ¬((r.param 0 = 1 ∨ r.param 0 = 2) ∧ (r.param 1 = 1 ∨ r.param 1 = 2 ∨ r.param 1 = 3))) :
    u.doorLocal r act = u.complete r.slot .refusedRange 0 [] := by
  unfold State.doorLocal
  simp only
  rw [if_pos]
  by_cases hp : r.param 0 = r.rowAction 2
  · refine .inr ?_
    rw [param_of_row] at hp
    have hact : r.param 0 = 1 ∨ r.param 0 = 2 := by bv_omega
    simp only [Bool.not_eq_true', Bool.or_eq_false_iff, beq_eq_false_iff_ne]
    refine ⟨⟨fun h1 => h ⟨hact, ?_⟩, fun h1 => h ⟨hact, ?_⟩⟩, fun h1 => h ⟨hact, ?_⟩⟩ <;> simp [h1]
  · exact .inl hp

section
variable (hact : r.param 0 = 1 ∨ r.param 0 = 2) (hsel : r.param 1 = 1 ∨ r.param 1 = 2 ∨ r.param 1 = 3)
include hact hsel

theorem doorLocal_good : u.doorLocal r act =
    if (selectsSide (r.param 1) .one && (u.side .one).state == .absent) || (selectsSide (r.param 1) .two && (u.side .two).state == .absent)
    then u.complete r.slot .refusedState 0 []
    else
      let s1 := if selectsSide (r.param 1) .one then act .one u else u
      let s2 := if selectsSide (r.param 1) .two then act .two s1 else s1
      s2.complete r.slot .ok 0 [s2.door.side1.state.code, s2.door.side2.state.code] := by
  unfold State.doorLocal
  simp only
  rw [if_neg]
  rintro (h | h)
  · exact h ((param_of_row r 2).mpr (.inl (by bv_omega)))
  · obtain hsel | hsel | hsel := hsel <;> rw [hsel] at h <;> exact absurd h (by decide)

theorem doorLocal_absent (h : ∃ k : SideId, isSelected (r.param 1) k ∧ (u.side k).state = .absent) :
    u.doorLocal r act = u.complete r.slot .refusedState 0 [] := by
  rw [doorLocal_good hact hsel, if_pos]
  obtain ⟨k, hk, habsent⟩ := h
  rw [← selectsSide_iff] at hk
  cases k <;> rw [hk, habsent] <;> simp

/-- Each selected side takes the action, the other side none (R110). -/
theorem doorLocal_acts (h : ¬∃ k : SideId, isSelected (r.param 1) k ∧ (u.side k).state = .absent)
    (honly : ∀ (k : SideId) (x : State), OnlySide k x (act k x)) {g : SideId → Side}
    (hg : ∀ (k : SideId) (x : State), (x.side k = u.side k ∧ x.now = u.now ∧ x.settings = u.settings) → (act k x).side k = g k) :
    ∃ w : State, u.doorLocal r act = w.complete r.slot .ok 0 [w.door.side1.state.code, w.door.side2.state.code] ∧ w.mem = u.mem ∧
      ∀ k : SideId, (¬isSelected (r.param 1) k → w.side k = u.side k) ∧ (isSelected (r.param 1) k → w.side k = g k) := by
  have hnone : ¬(((selectsSide (r.param 1) .one && (u.side .one).state == .absent) ||
      (selectsSide (r.param 1) .two && (u.side .two).state == .absent)) = true) := by
    intro hc
    simp only [Bool.or_eq_true, Bool.and_eq_true, beq_iff_eq, selectsSide_iff] at hc
    obtain ⟨h1, h2⟩ | ⟨h1, h2⟩ := hc
    exacts [h ⟨.one, h1, h2⟩, h ⟨.two, h1, h2⟩]
  rw [doorLocal_good hact hsel, if_neg hnone]
  obtain ⟨v, hv⟩ : ∃ v, (if selectsSide (r.param 1) .one then act .one u else u) = v := ⟨_, rfl⟩
  obtain ⟨w, hw⟩ : ∃ w, (if selectsSide (r.param 1) .two then act .two v else v) = w := ⟨_, rfl⟩
  have hfirst : OnlySide .one u v := by
    rw [← hv]
    split
    exacts [honly .one u, .refl _ _]
  have hsecond : OnlySide .two v w := by
    rw [← hw]
    split
    exacts [honly .two v, .refl _ _]
  obtain ⟨-, -, -, vset, vnow, -, vmem⟩ := hfirst.rest
  obtain ⟨-, -, -, -, -, -, wmem⟩ := hsecond.rest
  have hside1 : w.side .one = v.side .one := hsecond.other (by simp)
  have hside2 : v.side .two = u.side .two := hfirst.other (by simp)
  refine ⟨w, by simp only [hv, hw], wmem.trans vmem, fun k => ?_⟩
  rw [← selectsSide_iff]
  cases k
  · rw [hside1, ← hv]
    refine ⟨fun hn => by rw [if_neg hn], fun hp => ?_⟩
    rw [if_pos hp]
    exact hg .one u ⟨rfl, rfl, rfl⟩
  · rw [← hw]
    refine ⟨fun hn => by rw [if_neg hn]; exact hside2, fun hp => ?_⟩
    rw [if_pos hp]
    exact hg .two v ⟨hside2, vnow, vset⟩

end
end

/-! ## The two actions -/

/-- A side after ISOLATE (R110). -/
def Side.isolated (d : Side) : Side :=
  if d.state = .isolated then d
  else { atRest d .isolated with
    live := { d.live with closeTimeout := false, lockLost := false }, pend := none
    lastSkip := if d.pend = none then d.lastSkip else some .discarded }

/-- A side after RESTORE (R110). -/
def Side.restoredSide (d : Side) (now ct : Nat) : Side := if d.state = .isolated then d.entered d.restored now ct else d

theorem isolateSide_side (s : State) (k : SideId) : (s.isolateSide k).side k = (s.side k).isolated := by
  unfold State.isolateSide Side.isolated
  split
  · rfl
  · rw [enterSide_side]
    unfold Side.entered Side.discarded
    cases h : (s.side k).pend <;> simp [Side.enter, atRest, h]

theorem onlySide_isolateSide (k : SideId) (s : State) : OnlySide k s (State.isolateSide k s) := by
  unfold State.isolateSide
  split
  exacts [.refl _ _, onlySide_enterSide _ _ _ _ _]

theorem restoreSide_side (s : State) (k : SideId) :
    (s.restoreSide k).side k = (s.side k).restoredSide s.now s.settings.closeTimeout := by
  unfold State.restoreSide Side.restoredSide
  simp only
  split
  exacts [enterSide_side _ _ _ _ _, rfl]

theorem onlySide_restoreSide (k : SideId) (s : State) : OnlySide k s (State.restoreSide k s) := by
  unfold State.restoreSide
  simp only
  split
  exacts [onlySide_enterSide _ _ _ _ _, .refl _ _]

/-- The state an ISOLATED side is restored to (R110). -/
theorem restored_fault (d : Side) (h : ∃ f : FaultCause, (d.live.get f = true ∨ d.stored.get f = true) ∧ d.masked.get f = false) :
    d.restored = .fault := by
  obtain ⟨f, hf, hm⟩ := h
  unfold Side.restored
  refine if_pos ?_
  rw [Bool.or_eq_true, anyUnmasked_iff, anyUnmasked_iff]
  exact hf.imp (fun h => ⟨f, h, hm⟩) fun h => ⟨f, h, hm⟩

theorem restored_rest (d : Side) (h : ∀ f : FaultCause, ¬((d.live.get f = true ∨ d.stored.get f = true) ∧ d.masked.get f = false)) :
    d.restored = lockedState d := by
  unfold Side.restored
  refine if_neg fun hc => ?_
  rw [Bool.or_eq_true, anyUnmasked_iff, anyUnmasked_iff] at hc
  obtain ⟨f, hf, hm⟩ | ⟨f, hf, hm⟩ := hc
  exacts [h f ⟨.inl hf, hm⟩, h f ⟨.inr hf, hm⟩]

theorem entered_fault_quiet (d : Side) (now ct : Nat) (h : d.pend = none) : d.entered .fault now ct = atRest d .fault := by
  have hd : (d.enter .fault now ct).pend = none := h
  simp only [Side.entered, Side.discarded, hd]
  rfl

/-- Settles O39: DOOR_LOCAL refuses, isolates and restores (R110). -/
theorem doorLocalIsolatesRestores : Obligations.DoorLocalIsolatesRestores := by
  intro s dt r rest hs hwf hk u sel isSel good absent done
  have hu : u.settled = true := hs
  have hsel (k : SideId) : isSel k ↔ isSelected (r.param 1) k := by cases k <;> exact Iff.rfl
  have hserve (c : Instr) (a : Byte) (act : SideId → State → State)
      (hrow : exec c s = .next (s.run dt fun t => t.serve (fun r => r.doorAction a) fun r u => u.doorLocal r act))
      (ht : takeRequest (fun r => r.doorAction a) s.req.handed = (some r, rest)) {v : State} (hv : u.doorLocal r act = v) :
      exec c s = .next v.settle := exec_serve hrow ht hv
  have hrefused (c : Instr) (a : Byte) (act : SideId → State → State)
      (hrow : exec c s = .next (s.run dt fun t => t.serve (fun r => r.doorAction a) fun r u => u.doorLocal r act))
      (ht : takeRequest (fun r => r.doorAction a) s.req.handed = (some r, rest)) :
      (¬good → exec c s = .next (u.complete r.slot .refusedRange 0 [])) ∧
      (good → absent → exec c s = .next (u.complete r.slot .refusedState 0 [])) := by
    refine ⟨fun hg => ?_, fun hg ha => ?_⟩
    · rw [hserve c a act hrow ht (doorLocal_range hg), settle_of_settled _ (complete_settled _ _ _ _ hu)]
    · have ha' : ∃ k : SideId, isSelected (r.param 1) k ∧ (u.side k).state = .absent := by
        obtain ⟨k, h1, h2⟩ := ha
        exact ⟨k, (hsel k).mp h1, h2⟩
      rw [hserve c a act hrow ht (doorLocal_absent hg.1 hg.2 ha'), settle_of_settled _ (complete_settled _ _ _ _ hu)]
  have hdone (w : State) (hmem : w.mem = u.mem) :
      done (w.complete r.slot .ok 0 [w.door.side1.state.code, w.door.side2.state.code]).settle := by
    have := settle_complete_answered (s := w) (o := .ok) (d := 0) (r := [w.door.side1.state.code, w.door.side2.state.code])
      (by rw [hmem]; exact hwf) hk (by simp)
    refine ⟨this.1, this.2.1, ?_⟩
    rw [settle_side1, settle_side2]
    exact this.2.2
  have hnone (ha : ¬absent) : ¬∃ k : SideId, isSelected (r.param 1) k ∧ (u.side k).state = .absent := by
    rintro ⟨k, h1, h2⟩
    exact ha ⟨k, (hsel k).mpr h1, h2⟩
  refine ⟨doorAction_iff, fun ht => ?_, fun ht => ?_⟩
  · obtain ⟨hr1, hr2⟩ := hrefused (.doorLocalIsolate dt) 1 _ rfl ht
    refine ⟨hr1, hr2, fun hg ha => ?_⟩
    obtain ⟨w, hw, hmem, hsides⟩ := doorLocal_acts (u := u) (g := fun k => (s.side k).isolated) hg.1 hg.2 (hnone ha)
      onlySide_isolateSide fun k x hx => by rw [isolateSide_side, hx.1]; rfl
    refine ⟨_, hserve (.doorLocalIsolate dt) 1 _ rfl ht hw, hdone w hmem, fun k => ?_⟩
    obtain ⟨hno, hyes⟩ := hsides k
    rw [settle_side, complete_side, hsel]
    refine ⟨hno, fun hk hd => ?_, fun hk hd => ?_⟩
    · rw [hyes hk]
      exact if_pos hd
    · rw [hyes hk]
      exact if_neg hd
  · obtain ⟨hr1, hr2⟩ := hrefused (.doorLocalRestore dt) 2 _ rfl ht
    refine ⟨hr1, hr2, fun hg ha => ?_⟩
    obtain ⟨w, hw, hmem, hsides⟩ := doorLocal_acts (u := u)
      (g := fun k => (s.side k).restoredSide u.now u.settings.closeTimeout) hg.1 hg.2 (hnone ha)
      onlySide_restoreSide fun k x hx => by rw [restoreSide_side, hx.1, hx.2.1, hx.2.2]; rfl
    refine ⟨_, hserve (.doorLocalRestore dt) 2 _ rfl ht hw, hdone w hmem, fun k => ?_⟩
    intro d unmasked
    obtain ⟨hno, hyes⟩ := hsides k
    rw [settle_side, complete_side, hsel]
    refine ⟨fun h => ?_, fun hk hd hp => ⟨fun hf => ?_, fun hf => ?_⟩⟩
    · by_cases hk : isSelected (r.param 1) k
      · rw [hyes hk]
        exact if_neg (h.resolve_left fun hn => hn hk)
      · exact hno hk
    · rw [hyes hk]
      unfold Side.restoredSide
      rw [if_pos hd, restored_fault _ hf, entered_fault_quiet _ _ _ hp]
    · rw [hyes hk]
      unfold Side.restoredSide
      rw [if_pos hd, restored_rest _ hf, entered_lockedState]

end Sys2Proof.Machine

/-!
FAULT_CLEAR of a door side (R102): O40.
-/

namespace Sys2Proof.Machine

section
variable {u : State} {k : SideId} {r : Request}

theorem clearSide_range (h : 8 ≤ (r.param 1).toNat) : u.clearSide k r = u.completeClear k r.slot .refusedRange := by
  unfold State.clearSide
  simp only
  exact if_pos h

theorem causes_any (c : Causes) : c.any = true ↔ c.mismatch = true ∨ c.closeTimeout = true ∨ c.lockLost = true := by
  simp [Causes.any, or_assoc]

theorem clearSide_refused (hr : (r.param 1).toNat < 8) (h : (u.side k).state = .absent ∨ (u.side k).live.any = true) :
    u.clearSide k r = u.completeClear k r.slot .refusedState := by
  unfold State.clearSide
  simp only
  rw [if_neg (by omega)]
  obtain h | h := h
  · exact if_pos h
  · rw [if_pos h, ite_self]

/-- The side after its stored causes are cleared, and the state it then leaves FAULT for (R102). -/
theorem clearSide_clears (hr : (r.param 1).toNat < 8) (ha : (u.side k).state ≠ .absent) (hl : (u.side k).live.any = false) :
    ∃ w : State, u.clearSide k r = w.complete r.slot .ok 0 [(w.side k).state.code, (w.side k).live.byte, (w.side k).stored.byte] ∧
      w.mem = u.mem ∧ (w.side k).stored = (u.side k).stored.clear (r.param 1) ∧ (w.side k).live = (u.side k).live ∧
      (w.side k).state = if (u.side k).state = .fault ∧
          ((u.side k).stored.clear (r.param 1)).anyUnmasked (u.side k).masked = false then lockedState (u.side k) else (u.side k).state := by
  unfold State.clearSide State.completeClear
  simp only
  rw [if_neg (by omega), if_neg ha, if_neg (by simp [hl])]
  split
  next h =>
    have hside := enterSide_side (u.setSide k { u.side k with stored := (u.side k).stored.clear (r.param 1) }) k (u.side k).rest
      .faultClear 0
    rw [setSide_side] at hside
    have hentered := entered_lockedState { u.side k with stored := (u.side k).stored.clear (r.param 1) } u.now u.settings.closeTimeout
    rw [setSide_now, setSide_settings, rest_eq, show lockedState (u.side k) =
      lockedState { u.side k with stored := (u.side k).stored.clear (r.param 1) } from rfl, hentered] at hside
    obtain ⟨-, -, -, -, -, -, hmem⟩ := (onlySide_enterSide (u.setSide k { u.side k with stored := (u.side k).stored.clear (r.param 1) }) k
      (u.side k).rest .faultClear 0).rest
    refine ⟨_, rfl, hmem.trans (setSide_mem _ _ _), ?_, ?_, ?_⟩ <;> rw [rest_eq, show lockedState (u.side k) =
      lockedState { u.side k with stored := (u.side k).stored.clear (r.param 1) } from rfl, hside] <;> rfl
  next h => exact ⟨_, rfl, setSide_mem _ _ _, by rw [setSide_side], by rw [setSide_side], by rw [setSide_side]⟩

end

/-- Settles O40: FAULT_CLEAR of a door side clears its stored causes, or is refused (R102). -/
theorem faultClearDoorClearsStored : Obligations.FaultClearDoorClearsStored := by
  intro s dt r rest hs hwf hk ht u named cleared
  have hu : u.settled = true := hs
  have hstep {v : State} (hv : u.faultClearDoor r = v) : exec (.faultClearDoor dt) s = .next v.settle :=
    exec_serve (f := fun r u => u.faultClearDoor r) rfl ht hv
  refine ⟨fun h1 h2 => ?_, fun k hparam => ?_⟩
  · rw [hstep (v := u.complete r.slot .refusedRange 0 []) ?_, settle_of_settled _ (complete_settled _ _ _ _ hu)]
    unfold State.faultClearDoor
    rw [if_neg h1, if_neg h2]
  intro d shown
  have hside : u.side k = d := advance_side s dt k
  have hclear : u.faultClearDoor r = u.clearSide k r := by
    unfold State.faultClearDoor
    cases k
    · exact if_pos hparam
    · rw [if_neg (by rw [hparam]; decide), if_pos hparam]
  have hcomplete (o : SlotOutcome) : u.completeClear k r.slot o = u.complete r.slot o 0 shown := by
    unfold State.completeClear
    simp only [hside]
    rfl
  refine ⟨fun hr => ?_, fun hr hd => ?_, fun hr ha hl => ?_⟩
  · rw [hstep (hclear.trans ((clearSide_range hr).trans (hcomplete _))), settle_of_settled _ (complete_settled _ _ _ _ hu)]
  · have hd' : (u.side k).state = .absent ∨ (u.side k).live.any = true := by
      rw [hside, causes_any]
      exact hd
    rw [hstep (hclear.trans ((clearSide_refused hr hd').trans (hcomplete _))), settle_of_settled _ (complete_settled _ _ _ _ hu)]
  · obtain ⟨w, hw, hmem, hstored, hlive, hstate⟩ := clearSide_clears (u := u) (k := k) hr (by rw [hside]; exact ha)
      (by rw [hside, hl]; rfl)
    rw [hside] at hstored hlive hstate
    have hans := settle_complete_answered (s := w) (o := .ok) (d := 0)
      (r := [(w.side k).state.code, (w.side k).live.byte, (w.side k).stored.byte]) (by rw [hmem]; exact hwf) hk (by simp)
    have hunmasked := anyUnmasked_iff (d.stored.clear (r.param 1)) d.masked
    refine ⟨_, hstep (hclear.trans hw), ?_⟩
    rw [settle_side, complete_side]
    refine ⟨hstored, hlive, hans.1, hans.2.1, hans.2.2, fun hf hall => ?_, fun h => ?_⟩
    · refine hstate.trans (if_pos ⟨hf, Bool.eq_false_iff.mpr fun hc => ?_⟩)
      obtain ⟨f, h1, h2⟩ := hunmasked.mp hc
      rw [hall f h1] at h2
      exact Bool.noConfusion h2
    · rw [hstate]
      refine if_neg fun hc => ?_
      obtain h | h := h
      · exact h hc.1
      · have := hunmasked.mpr h
        rw [hc.2] at this
        exact Bool.noConfusion this

end Sys2Proof.Machine

/-!
Probes, answers and listen windows (R6 to R12): O13, O14.
-/

namespace Sys2Proof.Machine

theorem setSpan_settled {s : State} (hs : s.settled = true) (x : SpanId) (u : Span) : (s.setSpan x u).settled = true :=
  settled_of_touches (touches_setSpan s x u) (by cases x <;> simp [spanPart]) (by cases x <;> simp [spanPart])
    (by cases x <;> simp [spanPart]) hs

/-- A command that only rewrites one span. -/
theorem exec_setSpan {c : Instr} {s : State} {dt : Nat} {f : State → State} (h : exec c s = .next (s.run dt f)) (hs : s.settled = true)
    {x : SpanId} {u : Span} (hf : f (s.advance dt) = (s.advance dt).setSpan x u) : exec c s = .next ((s.advance dt).setSpan x u) :=
  exec_settled h hf (setSpan_settled ((advance_settled s dt).trans hs) x u)

/-! ## Probes (R6, R8) -/

/-- Settles O13: a due probe is sent, a foreign one noted, and its answer driven (R6 to R8). -/
theorem probesAndAnswers : Obligations.ProbesAndAnswers := by
  intro s dt x hs hstate u now
  have hsearch : (s.span x).state.searching = true := SpanState.searching_iff.mpr hstate
  refine ⟨fun due quiet hdue hpast hquiet hbusy hfree => ?_, fun width hlow hhigh hwindow hfree => ?_, fun a later hanswers hpast => ?_⟩
  · refine exec_setSpan (f := fun t => if t.probeReady x quiet then t.sendProbe x else t) rfl hs ?_
    have hready : (s.advance dt).probeReady x quiet = true := by
      unfold State.probeReady State.quietFor State.reached
      simp only [advance_span, hsearch, show (s.span x).probeDue = some due from hdue, Bool.true_and, Bool.and_eq_true, decide_eq_true_eq]
      refine ⟨⟨hpast, hquiet, hbusy⟩, ?_⟩
      rw [show (s.span x).answering (s.advance dt).now = false from hfree]
      rfl
    simp only [hready, if_true]
    unfold State.sendProbe Span.draw
    simp only [advance_span]
    rfl
  · refine exec_setSpan (f := fun t => if t.foreignProbe x .positive width then
      t.setSpan x { t.span x with
        answers := (t.span x).answers ++ [t.now + 4000]
        busyUntil := max (t.span x).busyUntil (t.now + width) } else t) rfl hs ?_
    have hforeign : (s.advance dt).foreignProbe x .positive width = true := by
      unfold State.foreignProbe
      simp only [advance_span, hsearch, hlow, hhigh, show (s.span x).answering (s.advance dt).now = false from hfree, beq_self_eq_true,
        decide_true, Bool.not_false, Bool.and_true, Bool.true_and]
      split
      next w hw => exact decide_eq_true (hwindow w hw)
      next => rfl
    simp only [hforeign, if_true, advance_span]
    rfl
  · refine exec_setSpan (f := fun t => t.driveAnswer x) rfl hs ?_
    unfold State.driveAnswer
    simp only [advance_span, show (s.span x).answers = a :: later from hanswers, hsearch, Bool.true_and]
    exact if_pos (decide_eq_true hpast)

/-! ## Listen windows (R7, R9, R10, R12) -/

/-- An excursion that answers a probe (R9). -/
def answersProbe (e : Excursion) : Bool :=
  decide (1800 ≤ e.width.toNat) && decide (e.width.toNat ≤ 2200) && decide (4000 ≤ e.arrival.toNat) && decide (e.arrival.toNat ≤ 12000)

theorem answerOf_eq (es : List Excursion) : answerOf? es = (es.find? answersProbe).map fun e => e.arrival.toNat := rfl

theorem answerOf_isSome (es : List Excursion) : (answerOf? es).isSome = es.any answersProbe := by
  rw [answerOf_eq, Option.isSome_map]
  exact List.isSome_find?

theorem classOfEchoes_eq (es : List Excursion) : classOfEchoes es = classify es := by
  unfold classOfEchoes classify
  rw [answerOf_isSome]
  change (if es.any answersProbe = true then _ else _) = _
  split
  · rfl
  · cases es with
    | nil => rfl
    | cons e es =>
      simp only
      by_cases h : 800 ≤ e.width.toNat ∧ e.width.toNat ≤ 1200
      · rw [if_neg (by omega), if_pos h]
        cases e.polarity <;> rfl
      · rw [if_pos (by omega), if_neg h]

theorem classify_answered (es : List Excursion) : classify es = .answered ↔ (answerOf? es).isSome = true := by
  unfold classify
  constructor
  · intro h
    by_contra hn
    rw [if_neg hn] at h
    cases es with
    | nil => simp at h
    | cons e es =>
      simp only at h
      split at h
      · cases hp : e.polarity <;> simp [hp] at h
      · simp at h
  · intro h
    rw [if_pos h]

/-- The first excursion that answers (R9). -/
theorem answerOf_first {es before after : List Excursion} {e : Excursion} (hes : es = before ++ e :: after)
    (hbefore : answerOf? before = none) (he : answersProbe e = true) : answerOf? es = some e.arrival.toNat := by
  rw [answerOf_eq] at hbefore ⊢
  rw [Option.map_eq_none_iff] at hbefore
  rw [hes, List.find?_append, hbefore, Option.none_or, List.find?_cons_of_pos he]
  rfl

theorem windowEnded_of {s : State} {x : SpanId} {w : Nat} (hs : (s.span x).state.searching = true) (hw : (s.span x).window = some w)
    (hend : w + 13000 ≤ s.now) : s.windowEnded x = true := by
  unfold State.windowEnded
  simp [hw, hs, hend]

section
variable {s : State} {x : SpanId} {u : Span}

theorem debounce_none (hu : u.state = .probing ∨ u.state = .sensed) : (s.setSpan x u).debounce x none = s.setSpan x { u with
    state := .probing, runCount := if u.state = .probing then u.runCount else 0
    runRef := if u.state = .probing then u.runRef else 0 } := by
  unfold State.debounce
  simp only [setSpan_span]
  obtain h | h := hu
  · simp only [h, if_true]
    rw [← h]
  · simp only [h, setSpan_setSpan]
    rfl

/-- A first arrival, or one away from the reference, starts the run (R12). -/
theorem debounce_starts (t : Nat) (hu : u.state = .probing ∨ (u.state = .sensed ∧ ¬(t ≤ u.runRef + 40 ∧ u.runRef ≤ t + 40))) :
    (s.setSpan x u).debounce x (some t) = s.setSpan x { u with state := .sensed, runCount := 1, runRef := t } := by
  unfold State.debounce
  simp only [setSpan_span]
  obtain h | ⟨h, hn⟩ := hu
  · simp only [h, setSpan_setSpan]
  · simp only [h, if_neg hn, setSpan_setSpan]

theorem debounce_counts (t : Nat) (hu : u.state = .sensed) (hn : t ≤ u.runRef + 40 ∧ u.runRef ≤ t + 40) :
    (s.setSpan x u).debounce x (some t) = if u.runCount + 1 = 3 then (s.setSpan x { u with runCount := u.runCount + 1 }).enterGreeting x
      else s.setSpan x { u with runCount := u.runCount + 1 } := by
  unfold State.debounce
  simp only [setSpan_span, hu, if_pos hn, setSpan_setSpan]

/-- Entry to GREETING: an offer of the HELLO leaves all but the queue (R14). -/
theorem enterGreeting_span (s : State) (x : SpanId) : ∃ (q : List TxFrame) (d : Word16), (s.enterGreeting x).span x = { s.span x with
    state := .greeting, probeDue := none, window := none, answers := [], heard := 0, greetEnd := some (s.now + 200000000)
    helloDue := some (s.now + 4000000), txq := q, drops := d } := by
  unfold State.enterGreeting State.enqueueHello State.send
  simp only
  rw [offer_span, setSpan_span]
  exact ⟨_, _, rfl⟩

end

/-- The end of a listen window, seen by the span it leaves (R7, R9). -/
theorem listenWindowEnd_run {s : State} (dt w : Nat) (x : SpanId) (es : List Excursion)
    (hstate : (s.span x).state = .probing ∨ (s.span x).state = .sensed) (hw : (s.span x).window = some w) (hend : w + 13000 ≤ s.now + dt)
    (hwf : (Instr.listenWindowEnd dt x es).wf = true) {v : State} (hv : (s.advance dt).classifyProbe x es = v) :
    exec (.listenWindowEnd dt x es) s = .next v.settle := by
  have hended : (s.advance dt).windowEnded x = true :=
    windowEnded_of (by rw [advance_span]; exact SpanState.searching_iff.mpr hstate) (by rw [advance_span]; exact hw) hend
  refine exec_run (dt := dt) (f := fun t => if t.windowEnded x && es.all Excursion.wf && excursionsInOrder es then t.classifyProbe x es
    else t) rfl ?_
  rw [← hv]
  refine if_pos ?_
  rw [hended, Bool.true_and]
  exact hwf

/-- Settles O14: a listen window classifies its probe, samples the delay and drives the debounce (R7, R9, R10, R12). -/
theorem listenWindowsClassify : Obligations.ListenWindowsClassify := by
  refine ⟨fun s dt w x es hs hstate hw hend hwf hclass => ?_, fun s dt w x es before after e hs hstate hw hend hwf hes hbefore h1 h2 h3 h4 => ?_⟩
  · intro u shown
    rw [classOfEchoes_eq] at hclass ⊢
    have hnone : answerOf? (es.take 4) = none := by
      rw [Ne, classify_answered] at hclass
      simpa using hclass
    have hv : (s.advance dt).classifyProbe x es = (s.advance dt).setSpan x { u with
        window := none, echo := shown, lastClass := classify (es.take 4), state := .probing
        runCount := if u.state = .probing then u.runCount else 0
        runRef := if u.state = .probing then u.runRef else 0 } := by
      unfold State.classifyProbe
      simp only [hnone, advance_span]
      exact debounce_none hstate
    rw [listenWindowEnd_run dt w x es hstate hw hend hwf hv, settle_of_settled _ (setSpan_settled ((advance_settled s dt).trans hs) _ _)]
  · intro u t joined history last near
    have hanswer : answerOf? (es.take 4) = some t := by
      refine answerOf_first hes ?_ (by simp [answersProbe, h1, h2, h3, h4])
      rw [classOfEchoes_eq, Ne, classify_answered] at hbefore
      simpa using hbefore
    obtain ⟨y, hy⟩ : ∃ y : Span, y = ({ u with window := none, echo := echoBuffer es, lastClass := classify (es.take 4) } : Span).addSample
        s.settings.probeRepeat (delaySample t) := ⟨_, rfl⟩
    have hclassified : y.lastClass = .answered := by
      rw [hy]
      exact (classify_answered _).mpr (by rw [hanswer]; rfl)
    have hv : (s.advance dt).classifyProbe x es = ((s.advance dt).setSpan x y).debounce x (some t) := by
      unfold State.classifyProbe
      simp only [hanswer, advance_span, hy]
      rfl
    refine ⟨_, listenWindowEnd_run dt w x es hstate hw hend hwf hv, ?_⟩
    rw [settle_span]
    have hhistory : y.history = history := by
      rw [hy]
      rfl
    have hdelay : y.delay = (2 * last.sum + last.length) / (2 * last.length) := by
      rw [hy]
      rfl
    have hwindow : y.window = none := by
      rw [hy]
      rfl
    have hkept : y.state = u.state ∧ y.runCount = u.runCount ∧ y.runRef = u.runRef := by
      rw [hy]
      exact ⟨rfl, rfl, rfl⟩
    obtain ⟨kstate, kcount, kref⟩ := hkept
    by_cases hnear : u.state = .sensed ∧ near
    · obtain ⟨hu, hn⟩ := hnear
      rw [debounce_counts t (kstate.trans hu) (by rw [kref]; exact hn), kcount]
      by_cases htwo : u.runCount = 2
      · rw [if_pos (by omega)]
        obtain ⟨q, d, hg⟩ := enterGreeting_span ((s.advance dt).setSpan x { y with runCount := u.runCount + 1 }) x
        rw [hg, setSpan_span, setSpan_now]
        exact ⟨hhistory, hdelay, hclassified, rfl, fun h => absurd (hu.symm.trans h) (by simp), fun _ h => absurd hn h,
          fun _ _ h => absurd htwo h, fun _ _ _ => ⟨rfl, rfl, rfl, rfl, rfl, rfl⟩⟩
      · rw [if_neg (by omega), setSpan_span]
        exact ⟨hhistory, hdelay, hclassified, hwindow, fun h => absurd (hu.symm.trans h) (by simp), fun _ h => absurd hn h,
          fun _ _ _ => ⟨kstate.trans hu, rfl, kref⟩, fun _ _ h => absurd h htwo⟩
    · have hstarts : y.state = .probing ∨ (y.state = .sensed ∧ ¬(t ≤ y.runRef + 40 ∧ y.runRef ≤ t + 40)) := by
        rw [kstate, kref]
        exact hstate.imp id fun h => ⟨h, fun hn => hnear ⟨h, hn⟩⟩
      rw [debounce_starts t hstarts, setSpan_span]
      exact ⟨hhistory, hdelay, hclassified, hwindow, fun _ => ⟨rfl, rfl, rfl⟩, fun _ _ => ⟨rfl, rfl, rfl⟩,
        fun hu hn => absurd ⟨hu, hn⟩ hnear, fun hu hn => absurd ⟨hu, hn⟩ hnear⟩

end Sys2Proof.Machine

/-!
The exits of a span unit (R6, R11, R19, R20) and its timers: O18.
-/

namespace Sys2Proof.Machine

/-! ## A span that is not UP rests while the other blocks act -/

theorem span_besidesSpans {s t : State} (h : Touches besidesSpans s t) (x : SpanId) : t.span x = s.span x := by
  have ha : t.spanA = s.spanA := (h .spanA (by simp [besidesSpans])).1
  have hb : t.spanB = s.spanB := (h .spanB (by simp [besidesSpans])).1
  cases x
  exacts [ha, hb]

/-- Span `x` stands as `v`, but that a consumer may have taken frames from its receive queue. -/
def RestsAs (x : SpanId) (v : Span) (t : State) : Prop :=
  ({ t.span x with rxq := [] } : Span) = { v with rxq := [] } ∧ (t.span x).rxq.length ≤ v.rxq.length

section
variable {x : SpanId} {v : Span} {t : State}

theorem restsAs_of (h : t.span x = v) : RestsAs x v t := by
  subst h
  exact ⟨rfl, Nat.le_refl _⟩

theorem RestsAs.eq (h : RestsAs x v t) (hv : v.rxq = []) : t.span x = v := by
  obtain ⟨heq, hlen⟩ := h
  have hx : (t.span x).rxq = [] := List.length_eq_zero_iff.mp (by rw [hv] at hlen; simpa using hlen)
  calc t.span x = { t.span x with rxq := [] } := by rw [← hx]
    _ = { v with rxq := [] } := heq
    _ = v := by rw [← hv]

theorem RestsAs.congr {s : State} (h : RestsAs x v s) (hs : t.span x = s.span x) : RestsAs x v t := by
  unfold RestsAs
  rw [hs]
  exact h

end

/-- A span but for its frames waiting and received and its drops. -/
def Span.besideQueues (u : Span) : Span := { u with txq := [], drops := 0, rxq := [] }

/-- From `s` on the other blocks have acted: a span's queues and its drops apart, and of one that is not UP the receive queue, which
has at most given frames away, the spans stand, and so does the relay. -/
structure Follows (s t : State) : Prop where
  bypass : t.bypass = s.bypass
  besides : ∀ x, (t.span x).besideQueues = (s.span x).besideQueues
  rests : ∀ x, (s.span x).state ≠ .up → RestsAs x (s.span x) t

section
variable {s t : State} (h : Follows s t) (x : SpanId)
include h

theorem Follows.state : (t.span x).state = (s.span x).state := (congrArg Span.state (h.besides x) :)
theorem Follows.enable : (t.span x).enable = (s.span x).enable := (congrArg Span.enable (h.besides x) :)

end

theorem Follows.refl (s : State) : Follows s s := ⟨rfl, fun _ => rfl, fun _ _ => restsAs_of rfl⟩

/-- A change of one span's queues. -/
theorem Follows.setSpan {s t : State} (h : Follows s t) {y : SpanId} {v : Span} (hv : v.besideQueues = (t.span y).besideQueues)
    (hrests : (s.span y).state ≠ .up → RestsAs y (s.span y) (t.setSpan y v)) : Follows s (t.setSpan y v) := by
  refine ⟨(setSpan_bypass t y v).trans h.bypass, fun x => ?_, fun x hx => ?_⟩ <;> obtain rfl | hy := eq_or_ne x y
  · rw [setSpan_span, hv]
    exact h.besides x
  · rw [setSpan_span_ne t y x v hy]
    exact h.besides x
  · exact hrests hx
  · exact (h.rests x hx).congr (setSpan_span_ne t y x v hy)

theorem Follows.congr {s t u : State} (h : Follows s t) (hspan : ∀ x, u.span x = t.span x) (hb : u.bypass = t.bypass) : Follows s u :=
  ⟨hb.trans h.bypass, fun x => (congrArg Span.besideQueues (hspan x)).trans (h.besides x), fun x hx => (h.rests x hx).congr (hspan x)⟩

/-- The operations of the engine, the relay and the heating share unit only follow the spans (R28, R32). -/
theorem opsKeep_follows (s : State) : OpsKeep (Follows s) := by
  refine opsKeep_of_spans (fun h hs => hs.congr (span_besidesSpans h) (h .bypass (by decide)).1) (fun t y f hf hs => ?_)
    fun t y l hl hs => ?_
  · by_cases hy : (s.span y).state = .up
    · rw [offer_keeps]
      exact (hs.setSpan (y := y) (by rw [offer_span]; rfl) fun hn => absurd hy hn).congr (fun _ => rfl) rfl
    · rw [offer_discarded t y f hf (by rw [hs.state]; exact hy)]
      exact hs
  · refine hs.setSpan (by rfl) fun hy => ?_
    obtain ⟨heq, hlen⟩ := hs.rests y hy
    unfold RestsAs
    rw [setSpan_span]
    exact ⟨heq, hl.trans hlen⟩

/-- A span that is not UP and has received nothing stays as it is. -/
theorem Follows.eq {s t : State} (h : Follows s t) {x : SpanId} (hx : (s.span x).state ≠ .up) (hr : (s.span x).rxq = []) :
    t.span x = s.span x := (h.rests x hx).eq hr

/-! ## Exits -/

section
variable (u : Span) (now : Nat) (cause : Cause)

theorem exit_rxq (target : ExitTo) : (u.exit now cause target).rxq = [] := by cases target <;> rfl

theorem exit_not_up (target : ExitTo) : (u.exit now cause target).state ≠ .up := by cases target <;> nofun

theorem exit_restarted : restarted now cause u (u.exit now cause .probing) :=
  ⟨rfl, ⟨rfl, rfl, rfl, rfl, rfl, rfl, rfl, rfl, rfl, rfl, rfl, rfl, rfl, rfl, rfl⟩, rfl, rfl, rfl, rfl, rfl, rfl⟩

theorem exit_turnedOff : turnedOff cause u (u.exit now cause .off) :=
  ⟨rfl, ⟨rfl, rfl, rfl, rfl, rfl, rfl, rfl, rfl, rfl, rfl, rfl, rfl, rfl, rfl, rfl⟩, rfl, rfl, rfl, rfl⟩

theorem exit_heldFor : heldFor u (u.exit now .selfLoop .held) :=
  ⟨rfl, ⟨rfl, rfl, rfl, rfl, rfl, rfl, rfl, rfl, rfl, rfl, rfl, rfl, rfl, rfl, rfl⟩, rfl, rfl, rfl, rfl, rfl⟩

end

/-- The exiting span's own exit; what follows at the other blocks leaves it. -/
theorem exitSpan_span (s : State) (x : SpanId) (target : ExitTo) (cause : Cause) :
    (s.exitSpan x target cause).span x = (s.span x).exit s.now cause target := by
  have h : Follows (s.setSpan x ((s.span x).exit s.now cause target)) (s.exitSpan x target cause) :=
    (opsKeep_follows _).exitFollows _ x (s.span x) cause (.refl _)
  have heq := h.eq (x := x) (by rw [setSpan_span]; exact exit_not_up _ _ _ _) (by rw [setSpan_span]; exact exit_rxq _ _ _ _)
  rwa [setSpan_span] at heq

/-- Nothing follows the exit of a span that is not UP (R21, R40). -/
theorem exitSpan_quiet {s : State} {x : SpanId} (h : (s.span x).state ≠ .up) (target : ExitTo) (cause : Cause) :
    s.exitSpan x target cause = s.setSpan x ((s.span x).exit s.now cause target) := by
  unfold State.exitSpan State.exitFollows
  simp only
  exact if_pos h

theorem advance_reached {s : State} {dt e : Nat} {timer : Option Nat} (h : timer = some e) (he : e ≤ s.now + dt) :
    (s.advance dt).reached timer = true := by
  subst h
  exact decide_eq_true he

/-- An exit that a row brings about. -/
theorem exec_exits {c : Instr} {s : State} {dt : Nat} {f : State → State} (h : exec c s = .next (s.run dt f)) {x : SpanId} {target : ExitTo}
    {cause : Cause} (hf : f (s.advance dt) = (s.advance dt).exitSpan x target cause) :
    ∃ t : State, exec c s = .next t ∧ t.span x = (s.span x).exit (s.now + dt) cause target := by
  refine ⟨_, exec_run h hf, ?_⟩
  rw [settle_span, exitSpan_span, advance_span]
  rfl

/-! ## Timers (R14, R17 to R19) -/

/-- The span unit's own frames join a queue with room in any state (R14, R16, R17, R32). -/
theorem send_unit {s : State} {x : SpanId} {kind : FrameKind} (hk : kind.consumer = .spanUnit) (hroom : (s.span x).depth < 8) :
    s.send x (unitFrame kind) = s.setSpan x { s.span x with txq := (s.span x).txq ++ [queuedUnit kind] } := by
  unfold State.send
  rw [offer_joins s x _ (.inl hk) hroom]
  rfl

/-- Settles O18: the timers of GREETING and UP restart the span, and HELLOs and KEEPALIVEs join the queue when due (R14, R17
to R19, R32). -/
theorem timersRestartSpansAndQueueFrames : Obligations.TimersRestartSpansAndQueueFrames := by
  refine ⟨fun s dt e x hs => ⟨fun hstate hend he => ?_, fun hstate hend he => ?_, fun hstate hbucket => ?_⟩,
    fun s dt due x hs => ⟨fun hstate hdue hpast hroom => ?_, fun hstate hempty hcur hidle => ?_⟩⟩
  · refine ⟨_, exec_setSpan (f := fun t => if (t.span x).state = .greeting ∧ t.reached (t.span x).greetEnd = true then
      t.exitSpan x .probing .greetTimeout else t) rfl hs ?_, exit_restarted (s.span x) (s.now + dt) .greetTimeout⟩
    rw [advance_span, if_pos ⟨hstate, advance_reached hend he⟩, exitSpan_quiet (by rw [advance_span, hstate]; nofun), advance_span]
    rfl
  · obtain ⟨t, ht, hspan⟩ := exec_exits (c := .silence dt x) (s := s) (dt := dt) (x := x) (target := .probing) (cause := .silence)
      (f := fun t => if (t.span x).state = .up ∧ t.reached (t.span x).silenceEnd = true then t.exitSpan x .probing .silence else t) rfl
      (by rw [advance_span]; exact if_pos ⟨hstate, advance_reached hend he⟩)
    exact ⟨t, ht, hspan ▸ exit_restarted _ _ _⟩
  · obtain ⟨t, ht, hspan⟩ := exec_exits (c := .errors dt x) (s := s) (dt := dt) (x := x) (target := .probing) (cause := .errors)
      (f := fun t => if (t.span x).state = .up ∧ 32 ≤ (t.span x).bucket then t.exitSpan x .probing .errors else t) rfl
      (by rw [advance_span]; exact if_pos ⟨hstate, hbucket⟩)
    exact ⟨t, ht, hspan ▸ exit_restarted _ _ _⟩
  · refine exec_setSpan (f := fun t => t.periodicHello x) rfl hs ?_
    unfold State.periodicHello
    simp only [advance_span, hdue]
    rw [if_pos ⟨hstate, hpast⟩]
    change (if ((s.span x).cur.toList ++ (s.span x).txq).any (fun f => f.frame.kind == .hello) = true then _ else _) = _
    split
    · rfl
    · unfold State.enqueueHello
      rw [send_unit rfl (by rw [setSpan_span]; exact hroom), setSpan_span, setSpan_setSpan]
      rfl
  · refine exec_setSpan (f := fun t => if (t.span x).state = .up ∧ (t.span x).queued.isEmpty = true ∧ (t.span x).idleFrom + 5 * ms ≤ t.now then
      t.send x (unitFrame .keepalive) else t) rfl hs ?_
    rw [advance_span, if_pos ⟨hstate, by simp [Span.queued, hempty, hcur], hidle⟩,
      send_unit rfl (by rw [advance_span]; simp [Span.depth, hempty, hcur]), advance_span, hempty]
    rfl

end Sys2Proof.Machine

/-!
HELLO and KEEPALIVE (R13 to R18), and the events of spans at a member outside a census: O15, O16, O17.
-/

namespace Sys2Proof.Machine

theorem Follows.span {s t : State} (h : Follows s t) (x : SpanId) :
    t.span x = { s.span x with txq := (t.span x).txq, drops := (t.span x).drops, rxq := (t.span x).rxq } :=
  calc t.span x = { (t.span x).besideQueues with txq := (t.span x).txq, drops := (t.span x).drops, rxq := (t.span x).rxq } := rfl
    _ = { (s.span x).besideQueues with txq := (t.span x).txq, drops := (t.span x).drops, rxq := (t.span x).rxq } := by rw [h.besides x]

/-- The state in which the oldest frame of the span unit has been taken (R30). -/
def State.taking (s : State) (dt : Nat) (x : SpanId) (rest : List RxFrame) : State :=
  (s.advance dt).setSpan x { s.span x with rxq := rest }

section
variable {s : State} {dt : Nat} {x : SpanId} {r : RxFrame} {rest : List RxFrame}

theorem taking_span : (s.taking dt x rest).span x = { s.span x with rxq := rest } := setSpan_span _ _ _

theorem taking_now : (s.taking dt x rest).now = s.now + dt := setSpan_now _ _ _

theorem taking_settings : (s.taking dt x rest).settings = s.settings := setSpan_settings _ _ _

theorem taking_settled (hs : s.settled = true) : (s.taking dt x rest).settled = true :=
  setSpan_settled ((advance_settled s dt).trans hs) _ _

/-- What the span unit makes of a valid HELLO in each state that acts on one (R13, R14, R18). -/
theorem takeHello_searching {f : Frame} {m : HelloMsg} (hm : parseHello f = some m)
    (h : (s.span x).state = .probing ∨ (s.span x).state = .sensed) : s.takeHello x f = s.helloWhileSearching x m := by
  unfold State.takeHello
  obtain h | h := h <;> simp only [hm, h]

theorem takeHello_greeting {f : Frame} {m : HelloMsg} (hm : parseHello f = some m) (h : (s.span x).state = .greeting) :
    s.takeHello x f = s.greet x m := by
  unfold State.takeHello
  simp only [hm, h]

theorem takeHello_up {f : Frame} {m : HelloMsg} (hm : parseHello f = some m) (h : (s.span x).state = .up) :
    s.takeHello x f = s.helloWhileUp x m := by
  unfold State.takeHello
  simp only [hm, h]

/-- The span unit takes a HELLO (R28, R30). -/
theorem exec_hello (ht : takeFor .spanUnit (s.span x).rxq = (some r, rest)) (hk : r.frame.kind = .hello)
    {v : State} (hv : (s.taking dt x rest).takeHello x r.frame = v) : exec (.hello dt x) s = .next v.settle := by
  refine exec_run (f := fun t => t.takeFrame x .hello fun r u => u.takeHello x r.frame) rfl ?_
  rw [takeFrame_some (s.advance dt) x .hello _ r rest (by rw [advance_span]; exact ht) hk, advance_span]
  exact hv

theorem exec_keepalive (ht : takeFor .spanUnit (s.span x).rxq = (some r, rest)) (hk : r.frame.kind = .keepalive) {v : State}
    (hv : (s.taking dt x rest).takeKeepalive x r.frame = v) : exec (.keepalive dt x) s = .next v.settle := by
  refine exec_run (f := fun t => t.takeFrame x .keepalive fun r u => u.takeKeepalive x r.frame) rfl ?_
  rw [takeFrame_some (s.advance dt) x .keepalive _ r rest (by rw [advance_span]; exact ht) hk, advance_span]
  exact hv

end

/-! ## Coming UP (R14) -/

/-- An UP span as the entry leaves it, but for its queues. -/
theorem enterUp_span (s : State) (x : SpanId) (m : HelloMsg) : cameUp s.now (s.span x).delay m ((s.enterUp x (partnerOf m)).span x) := by
  unfold State.enterUp State.spanUpReport
  simp only
  obtain ⟨w, hw⟩ : ∃ w, (s.setSpan x { s.span x with
      state := .up, partner := some (partnerOf m), bucket := 0, greetEnd := none, helloDue := none
      silenceEnd := some (s.now + 20 * ms), idleFrom := s.now }).enqueueHello x = w := ⟨_, rfl⟩
  have hspan : w.span x = { s.span x with
      state := .up, partner := some (partnerOf m), bucket := 0, greetEnd := none, helloDue := none
      silenceEnd := some (s.now + 20 * ms), idleFrom := s.now, txq := (w.span x).txq, drops := (w.span x).drops } := by
    have := offer_span (s.setSpan x { s.span x with
      state := .up, partner := some (partnerOf m), bucket := 0, greetEnd := none, helloDue := none
      silenceEnd := some (s.now + 20 * ms), idleFrom := s.now }) x { frame := unitFrame .hello, tag := .plain }
    rw [setSpan_span] at this
    rw [← hw]
    exact this
  rw [hw]
  have h : Follows w ((State.censusSpanUp (w.raise (spanSource x).toNat
      { kind := 1, source := spanSource x, position := w.eventPosition, detail := (partnerOf m).endCode
        value := (partnerOf m).identity }) x).reviewEnd) :=
    (opsKeep_follows w).reviewEnd _ ((opsKeep_follows w).censusSpanUp _ x ((opsKeep_follows w).raise w _ _ (.refl w)))
  rw [h.span x, hspan]
  exact ⟨rfl, rfl, rfl, rfl, rfl, rfl, rfl, rfl⟩

section
variable {s : State} {x : SpanId} {m : HelloMsg}

theorem greet_held (hown : m.identity = s.settings.identity) : (s.greet x m) = s.exitSpan x .held .selfLoop := if_pos hown

theorem greet_up (hown : m.identity ≠ s.settings.identity) (hheard : m.heard = s.settings.identity) :
    s.greet x m = s.enterUp x (partnerOf m) := by
  unfold State.greet
  rw [if_neg hown, if_pos hheard]
  rfl

theorem greet_heard (hown : m.identity ≠ s.settings.identity) (hheard : m.heard ≠ s.settings.identity) :
    s.greet x m = s.setSpan x { s.span x with heard := m.identity } := by
  unfold State.greet
  rw [if_neg hown, if_neg hheard]

theorem enterGreeting_settings (s : State) (x : SpanId) : (s.enterGreeting x).settings = s.settings ∧ (s.enterGreeting x).now = s.now := by
  unfold State.enterGreeting State.enqueueHello State.send
  simp only
  rw [offer_keeps]
  exact ⟨(setSpan_settings _ _ _).trans (setSpan_settings _ _ _), (setSpan_now _ _ _).trans (setSpan_now _ _ _)⟩

end

/-- Settles O15: a HELLO before UP leads to HELD, to UP or to being heard (R13, R14, R20). -/
theorem helloDrivesGreeting : Obligations.HelloDrivesGreeting := by
  intro s dt x r rest m hs ht hk hm hstate u own
  obtain ⟨y, hy⟩ : ∃ y, s.taking dt x rest = y := ⟨_, rfl⟩
  have yspan : y.span x = { u with rxq := rest } := by rw [← hy]; exact taking_span
  have yset : y.settings = s.settings := by rw [← hy]; exact taking_settings
  have ynow : y.now = s.now + dt := by rw [← hy]; exact taking_now
  have hheld (v : State) (hv : v = y.exitSpan x .held .selfLoop) : heldFor u (v.span x) := by
    rw [hv, exitSpan_span, yspan]
    exact exit_heldFor { u with rxq := rest } _
  by_cases hgreet : u.state = .greeting
  · have hexec {v : State} (hv : y.greet x m = v) : exec (.hello dt x) s = .next v.settle := by
      refine exec_hello ht hk ?_
      rw [hy, takeHello_greeting hm (by rw [yspan]; exact hgreet)]
      exact hv
    refine ⟨_, hexec rfl, ?_⟩
    rw [settle_span]
    refine ⟨fun hown => hheld _ (greet_held (by rw [yset]; exact hown)), fun _ hn => absurd hgreet hn, fun hown _ hheard => ?_,
      fun hown _ hheard => ?_⟩
    · rw [greet_up (by rw [yset]; exact hown) (by rw [yset]; exact hheard)]
      have := enterUp_span y x m
      rw [yspan, ynow] at this
      exact this
    · rw [greet_heard (by rw [yset]; exact hown) (by rw [yset]; exact hheard), setSpan_span, yspan]
      exact ⟨hgreet, rfl, rfl, fun hn => absurd hgreet hn, fun _ => rfl⟩
  · have hsearch : u.state = .probing ∨ u.state = .sensed := by
      obtain h | h | h := hstate
      exacts [.inl h, .inr h, absurd h hgreet]
    have hexec {v : State} (hv : y.helloWhileSearching x m = v) : exec (.hello dt x) s = .next v.settle := by
      refine exec_hello ht hk ?_
      rw [hy, takeHello_searching hm (by rw [yspan]; exact hsearch)]
      exact hv
    by_cases hown : m.identity = own
    · have hv : y.helloWhileSearching x m = y.exitSpan x .held .selfLoop := if_pos (by rw [yset]; exact hown)
      refine ⟨_, hexec hv, ?_⟩
      rw [settle_span]
      exact ⟨fun _ => hheld _ rfl, fun hn => absurd hown hn, fun hn => absurd hown hn, fun hn => absurd hown hn⟩
    by_cases hhist : u.history = []
    · have hv : y.helloWhileSearching x m = y := by
        unfold State.helloWhileSearching
        rw [if_neg (by rw [yset]; exact hown), yspan, if_pos hhist]
      refine ⟨y, ?_, fun h => absurd h hown, fun _ _ _ => hy.symm, fun _ h => ?_, fun _ h => ?_⟩
      · have hsettled : y.settled = true := by rw [← hy]; exact taking_settled hs
        rw [hexec hv, settle_of_settled _ hsettled]
      · exact absurd h (by rintro (h | h); exacts [hgreet h, h hhist])
      · exact absurd h (by rintro (h | h); exacts [hgreet h, h hhist])
    · have hv : y.helloWhileSearching x m = (y.enterGreeting x).greet x m := by
        unfold State.helloWhileSearching
        rw [if_neg (by rw [yset]; exact hown), yspan, if_neg hhist]
      obtain ⟨gset, gnow⟩ := enterGreeting_settings y x
      obtain ⟨q, d, gspan⟩ := enterGreeting_span y x
      refine ⟨_, hexec hv, ?_⟩
      rw [settle_span]
      refine ⟨fun h => absurd h hown, fun _ _ h => absurd h hhist, fun _ _ hheard => ?_, fun _ _ hheard => ?_⟩
      · rw [greet_up (by rw [gset, yset]; exact hown) (by rw [gset, yset]; exact hheard)]
        have := enterUp_span (y.enterGreeting x) x m
        rw [gspan, gnow, yspan, ynow] at this
        exact this
      · rw [greet_heard (by rw [gset, yset]; exact hown) (by rw [gset, yset]; exact hheard), setSpan_span, gspan, yspan, ynow]
        exact ⟨rfl, rfl, rfl, fun _ => ⟨rfl, rfl⟩, fun h => absurd h hgreet⟩

/-! ## The watch over an UP span (R16, R18) -/

/-- Settles O17: HELLO and KEEPALIVE watch the partner of an UP span (R14, R16, R18). -/
theorem upSpanWatchesPartner : Obligations.UpSpanWatchesPartner := by
  refine ⟨fun s dt x r rest m p hs ht hk hm hup hp => ?_, fun s dt x r rest hs ht hk => ?_⟩
  · intro u own same recent
    obtain ⟨y, hy⟩ : ∃ y, s.taking dt x rest = y := ⟨_, rfl⟩
    have yspan : y.span x = { u with rxq := rest } := by rw [← hy]; exact taking_span
    have yset : y.settings = s.settings := by rw [← hy]; exact taking_settings
    have ynow : y.now = s.now + dt := by rw [← hy]; exact taking_now
    have hexec {v : State} (hv : y.helloWhileUp x m = v) : exec (.hello dt x) s = .next v.settle := by
      refine exec_hello ht hk ?_
      rw [hy, takeHello_up hm (by rw [yspan]; exact hup)]
      exact hv
    have hpartner : (y.span x).partner = some p := by rw [yspan]; exact hp
    have hsame : ¬same ↔ (m.identity ≠ p.identity ∨ m.endCode ≠ p.endCode ∨ m.kind ≠ p.kind) := by
      simp only [same, not_and_or, ne_eq]
    refine ⟨_, hexec rfl, ?_⟩
    rw [settle_span]
    unfold State.helloWhileUp
    simp only [hpartner]
    rw [yset]
    refine ⟨fun hown => ?_, fun hown hdiff => ?_, fun hown hs' hheard => ?_, fun hown hs' hheard hroom => ?_⟩
    · rw [if_pos hown, exitSpan_span, yspan]
      exact exit_heldFor { u with rxq := rest } _
    · rw [if_neg hown, if_pos (hsame.mp hdiff), exitSpan_span, yspan, ynow]
      exact exit_restarted { u with rxq := rest } _ _
    · rw [if_neg hown, if_neg fun h => hsame.mpr h hs', if_pos hheard, exitSpan_span, yspan, ynow]
      exact exit_restarted { u with rxq := rest } _ _
    · rw [if_neg hown, if_neg fun h => hsame.mpr h hs', if_neg fun h => h hheard]
      have hmay : (y.setSpan x { y.span x with partner := some { p with gen := m.gen } }).mayAnswerHello x = true ↔ ¬recent := by
        unfold State.mayAnswerHello
        rw [setSpan_span, setSpan_now, yspan, ynow]
        simp only [recent]
        cases hl : u.lastHello with
        | none => simp
        | some e =>
          simp only [decide_eq_true_eq, Option.some.injEq, exists_eq_left', Nat.not_lt]
          exact Iff.rfl
      have hset (v : Span) : (s.taking dt x rest).setSpan x v = (s.advance dt).setSpan x v := setSpan_setSpan _ _ _ _
      have hquiet (v : Span) : ((s.advance dt).setSpan x v).settled = true := setSpan_settled ((advance_settled s dt).trans hs) x v
      by_cases hrecent : recent
      · rw [if_neg fun h => hmay.mp h hrecent, setSpan_span, yspan, ← hy, hset, settle_of_settled _ (hquiet _)]
        exact ⟨rfl, fun _ => rfl, fun h => absurd hrecent h⟩
      · rw [if_pos (hmay.mpr hrecent)]
        unfold State.enqueueHello
        rw [send_unit rfl (by rw [setSpan_span, yspan]; exact hroom.resolve_left hrecent), setSpan_setSpan, setSpan_span, setSpan_span,
          yspan, ← hy, hset, settle_of_settled _ (hquiet _)]
        exact ⟨rfl, fun h => absurd h hrecent, fun _ => rfl⟩
  · intro u
    obtain ⟨y, hy⟩ : ∃ y, s.taking dt x rest = y := ⟨_, rfl⟩
    have yspan : y.span x = { u with rxq := rest } := by rw [← hy]; exact taking_span
    have ynow : y.now = s.now + dt := by rw [← hy]; exact taking_now
    have hexec {v : State} (hv : y.takeKeepalive x r.frame = v) : exec (.keepalive dt x) s = .next v.settle :=
      exec_keepalive ht hk (by rw [hy]; exact hv)
    have hset (v : Span) : (s.taking dt x rest).setSpan x v = (s.advance dt).setSpan x v := setSpan_setSpan _ _ _ _
    have hquiet (v : Span) : ((s.advance dt).setSpan x v).settled = true := setSpan_settled ((advance_settled s dt).trans hs) x v
    refine ⟨_, hexec rfl, fun p m hup hp hm => ?_, fun h => ?_⟩
    · have htake : y.takeKeepalive x r.frame = if m.1 ≠ p.identity then y.exitSpan x .probing .partnerChanged
          else y.setSpan x { y.span x with partner := some { p with gen := m.2 } } := by
        unfold State.takeKeepalive
        simp only [yspan, show u.state = .up from hup, show u.partner = some p from hp, hm]
      rw [htake]
      refine ⟨fun hsame => ?_, fun hdiff => ?_⟩
      · rw [if_neg fun h => h hsame, yspan, ← hy, hset, settle_of_settled _ (hquiet _)]
      · rw [if_pos hdiff, settle_span, exitSpan_span, yspan, ynow]
        exact exit_restarted { u with rxq := rest } _ _
    · have htake : y.takeKeepalive x r.frame = y := by
        unfold State.takeKeepalive
        rw [yspan]
        obtain h | h := h
        · split
          next h1 _ _ => exact absurd h1 h
          next => rfl
        · rw [h]
          split
          next h3 => cases h3
          next => rfl
      rw [htake, ← hy, settle_of_settled _ (taking_settled hs)]
      rfl

/-! ## A member outside a census (R16, R19, R21, R54) -/

theorem raise_of_quiet {s : State} (h : s.raised = []) (g : Nat) (e : Event) :
    s.raise g e = { s with raised := [e].map fun e => { group := g, event := e } } := by
  unfold State.raise
  rw [h]
  rfl

theorem reviewEnd_unlisted {s : State} (hl : s.census.state.listed = false) : s.reviewEnd = s := by
  unfold State.reviewEnd
  rw [if_neg (by simp [hl])]

theorem relaySpanDown_unlisted {s : State} (hl : s.census.state.listed = false) (x : SpanId) : s.relaySpanDown x = s := by
  unfold State.relaySpanDown
  rw [if_neg (by simp [hl])]

section
variable {s : State} (hr : s.census.role = .member)
include hr

theorem censusSpanUp_unlisted (hl : s.census.state.listed = false) (x : SpanId) : s.censusSpanUp x = s := by
  unfold State.censusSpanUp
  simp only [hr]
  rw [if_neg (by simp [hl])]

theorem censusSpanDown_uncensused (hc : s.census.state = .uncensused) (x : SpanId) (cause : Cause) : s.censusSpanDown x cause = s := by
  unfold State.censusSpanDown
  simp only [hr, hc]

/-- The reports of a span event leave a member outside a census as it is. -/
theorem spanUpReport_uncensused (hc : s.census.state = .uncensused) (x : SpanId) (p : Partner) : s.spanUpReport x p =
    s.raise (spanSource x).toNat { kind := 1, source := endCode x, position := byte s.table.own, detail := p.endCode, value := p.identity } := by
  have hl : s.census.state.listed = false := by rw [hc]; rfl
  unfold State.spanUpReport
  simp only
  rw [censusSpanUp_unlisted (by exact hr) (by exact hl), reviewEnd_unlisted (by exact hl)]
  cases x <;> rfl

theorem spanDownReport_uncensused (hc : s.census.state = .uncensused) (x : SpanId) (cause : Cause) (lost : Word32) :
    s.spanDownReport x cause lost = s.raise (spanSource x).toNat
      { kind := 2, source := endCode x, position := byte s.table.own, detail := cause.code, value := lost } := by
  have hl : s.census.state.listed = false := by rw [hc]; rfl
  unfold State.spanDownReport
  simp only
  rw [relaySpanDown_unlisted (by exact hl), censusSpanDown_uncensused (by exact hr) (by exact hc),
    reviewEnd_unlisted (by exact hl)]
  cases x <;> rfl

end

theorem spanEvent_not_doorUnit (x : SpanId) (kind position detail : Byte) (value : Word32) :
    ({ kind := kind, source := endCode x, position := position, detail := detail, value := value } : Event).ofDoorUnit = false := by
  cases x <;> rfl

/-- Settles O16: at a member outside a census a span's coming UP and going down change the span and raise their event only (R14, R16,
R19, R21, R54). -/
theorem spanEventsReported : Obligations.SpanEventsReported := by
  refine ⟨fun s dt x r rest m hs ht hk hm hgreet hroom hown hheard hrole hcensus => ?_,
    fun s dt e x p hs hup hp hend he hplain hrole hcensus => ?_⟩
  · intro u
    obtain ⟨y, hy⟩ : ∃ y, s.taking dt x rest = y := ⟨_, rfl⟩
    have yspan : y.span x = { u with rxq := rest } := by rw [← hy]; exact taking_span
    have yset : y.settings = s.settings := by rw [← hy]; exact taking_settings
    have ynow : y.now = s.now + dt := by rw [← hy]; exact taking_now
    have htake : (s.advance dt).takeFrame x .hello (fun r u => u.takeHello x r.frame) = y.greet x m := by
      rw [takeFrame_some (s.advance dt) x .hello _ r rest (by rw [advance_span]; exact ht) hk, advance_span]
      change (s.taking dt x rest).takeHello x r.frame = _
      rw [hy, takeHello_greeting hm (by rw [yspan]; exact hgreet)]
    refine answers_group (c := .hello dt x) (f := fun t => t.takeFrame x .hello fun r u => u.takeHello x r.frame) rfl (spanSource x).toNat _
      false ?_ (by rw [setSpan_raised]; exact raised_of_settled hs) fun e he => ?_
    · show (s.advance dt).takeFrame x .hello (fun r u => u.takeHello x r.frame) = _
      rw [htake, greet_up (by rw [yset]; exact hown) (by rw [yset]; exact hheard)]
      unfold State.enterUp State.enqueueHello
      simp only
      rw [send_unit rfl (by rw [setSpan_span, yspan]; exact hroom), setSpan_setSpan, setSpan_span, yspan, ynow,
        spanUpReport_uncensused (by rw [setSpan_census, ← hy]; exact (congrArg Census.role (setSpan_census _ _ _)).trans hrole)
          (by rw [setSpan_census, ← hy]; exact (congrArg Census.state (setSpan_census _ _ _)).trans hcensus), ← hy]
      unfold State.taking
      rw [setSpan_setSpan, setSpan_table, raise_of_quiet (by rw [setSpan_raised]; exact raised_of_settled hs)]
      rfl
    · rw [List.mem_singleton.mp he]
      exact spanEvent_not_doorUnit _ _ _ _ _
  · refine ⟨_, exit_restarted (s.span x) (s.now + dt) .silence, ?_⟩
    refine answers_group (c := .silence dt x) (f := fun t => if (t.span x).state = .up ∧ t.reached (t.span x).silenceEnd = true then
      t.exitSpan x .probing .silence else t) rfl (spanSource x).toNat _ false ?_ (by rw [setSpan_raised]; exact raised_of_settled hs)
      fun e he => ?_
    · rw [advance_span, if_pos ⟨hup, advance_reached hend he⟩]
      unfold State.exitSpan State.exitFollows
      simp only
      rw [advance_span, if_neg (by simp [hup]), if_pos (List.all_eq_true.mpr fun f hf => by simp [hplain f hf]),
        spanDownReport_uncensused (by rw [setSpan_census]; exact hrole) (by rw [setSpan_census]; exact hcensus)]
      rw [setSpan_table, hp, raise_of_quiet (by rw [setSpan_raised]; exact raised_of_settled hs)]
      rfl
    · rw [List.mem_singleton.mp he]
      exact spanEvent_not_doorUnit _ _ _ _ _

end Sys2Proof.Machine

/-!
SPAN_CONTROL (R4, R22) and the relay (R3): O11, O12.
-/

namespace Sys2Proof.Machine

/-! ## The memory's form -/

theorem completeIf_wf {s : State} (slot : Option Nat) (o : SlotOutcome) (d : Byte) (r : List Byte) (h : s.mem.wf = true) :
    (s.completeIf slot o d r).mem.wf = true := by
  cases slot with
  | none => exact h
  | some k => exact complete_wf s k o d r h

theorem finishOrder_mem (s : State) (o : Outstanding) (m : OrderAck) (outcome : SlotOutcome) (detail : Byte) :
    (s.finishOrder o m outcome detail).mem = (s.complete o.slot outcome detail (orderResults o m)).mem := by
  rw [finishOrder_rest]

theorem finishOrder_wf (s : State) (o : Outstanding) (m : OrderAck) (outcome : SlotOutcome) (detail : Byte) (h : s.mem.wf = true) :
    (s.finishOrder o m outcome detail).mem.wf = true := by
  rw [finishOrder_mem]
  exact complete_wf s o.slot outcome detail (orderResults o m) h

/-- The operations of the engine, the relay and the heating share unit keep the memory in its canonical form. -/
theorem opsKeep_memWf : OpsKeep fun s => s.mem.wf = true := by
  have hkeep {s t : State} (h : t.mem = s.mem) (hs : s.mem.wf = true) : t.mem.wf = true := by rw [h]; exact hs
  refine ⟨fun h => hkeep (h .mem (by decide)).1, fun s x f _ => hkeep ?_, fun s x l _ => hkeep (setSpan_mem _ _ _),
    fun s c _ => hkeep rfl, fun s o d n p h => ?_, fun s v _ => hkeep rfl, fun s o m oc d _ h => ?_, fun s v _ _ _ => hkeep rfl,
    fun s => hkeep ?_, fun s v g a _ => hkeep ?_⟩
  · rw [offer_keeps]
    exact setSpan_mem _ _ _
  · unfold State.completeCensusSlot
    exact completeIf_wf _ _ _ _ (by exact h)
  · exact finishOrder_wf s o m oc d h
  · unfold State.generationChanged
    split
    case h_1 => rw [setCap_keeps]
    all_goals rfl
  · rw [takeGrant_keeps]

/-! ## Two exits at once -/

/-- What becomes of the spans when those that satisfy `p` exit (R3, R11, R19). -/
structure ExitedWhere (s t : State) (p : SpanId → Bool) (target : ExitTo) (cause : Cause) : Prop where
  exits : ∀ x, p x = true → t.span x = (s.span x).exit s.now cause target
  state : ∀ x, p x = false → (t.span x).state = (s.span x).state
  enable : ∀ x, p x = false → (t.span x).enable = (s.span x).enable
  bypass : t.bypass = s.bypass
  wf : s.mem.wf = true → t.mem.wf = true

theorem exitWhere_exits (s : State) (p : SpanId → Bool) (target : ExitTo) (cause : Cause) :
    ExitedWhere s (s.exitWhere p target cause) p target cause := by
  obtain ⟨b, hb⟩ : ∃ b : State, b = { s with
    spanA := if p .a then s.spanA.exit s.now cause target else s.spanA
    spanB := if p .b then s.spanB.exit s.now cause target else s.spanB } := ⟨_, rfl⟩
  have hspan (x : SpanId) : b.span x = if p x then (s.span x).exit s.now cause target else s.span x := by
    rw [hb]
    cases x <;> rfl
  have h : Follows b (s.exitWhere p target cause) := (opsKeep_follows b).exitWhere s p target cause (by rw [hb]; exact .refl _)
  refine ⟨fun x hx => ?_, fun x hx => ?_, fun x hx => ?_, h.bypass.trans (by rw [hb]), fun hwf => ?_⟩
  · have hx' := hspan x
    rw [if_pos hx] at hx'
    rw [h.eq (by rw [hx']; exact exit_not_up _ _ _ _) (by rw [hx']; exact exit_rxq _ _ _ _), hx']
  · rw [h.state, hspan, hx]
    rfl
  · rw [h.enable, hspan, hx]
    rfl
  · exact opsKeep_memWf.exitWhere s p target cause hwf

/-! ## SPAN_CONTROL (R22) -/

theorem spanAction_iff (r : Request) (a : Byte) : r.spanAction a = true ↔ r.kind = .spanControl ∧
    ((1 ≤ a.toNat ∧ a.toNat ≤ 5 ∧ r.param 0 = a) ∨ (a = 1 ∧ ¬(1 ≤ (r.param 0).toNat ∧ (r.param 0).toNat ≤ 5))) := by
  rw [← rowAction_eq_iff]
  simp [Request.spanAction]

theorem goodSelector_iff (sel : Byte) : goodSelector sel = true ↔ sel = 1 ∨ sel = 2 ∨ sel = 3 := by
  simp [goodSelector, or_assoc]

/-- The selector names the span (R22). -/
def spanSelected (sel : Byte) : SpanId → Prop
  | .a => sel = 1 ∨ sel = 3
  | .b => sel = 2 ∨ sel = 3

theorem selects_iff (sel : Byte) (x : SpanId) : selects sel x = true ↔ spanSelected sel x := by
  cases x <;> simp [selects, spanSelected]

theorem selects_false (sel : Byte) (x : SpanId) : selects sel x = false ↔ ¬spanSelected sel x := by
  rw [← selects_iff, Bool.not_eq_true]

theorem withSelector_good {u : State} {r : Request} (h : r.param 1 = 1 ∨ r.param 1 = 2 ∨ r.param 1 = 3) (f : Byte → State → State) :
    u.withSelector r f = f (r.param 1) u := if_pos ((goodSelector_iff _).mpr h)

theorem withSelector_bad {u : State} {r : Request} (h : ¬(r.param 1 = 1 ∨ r.param 1 = 2 ∨ r.param 1 = 3)) (f : Byte → State → State) :
    u.withSelector r f = u.completeSpan r.slot .refusedRange := if_neg fun hg => h ((goodSelector_iff _).mp hg)

/-- An OFF span that may search starts its search; its enable is set in any case (R11, R22). -/
theorem searchIfReady_eq (s : State) (x : SpanId) : s.searchIfReady x = s.setSpan x
    (if (s.span x).state = .off ∧ (s.span x).enable = true ∧ s.port.running = true ∧ s.bypass.relay = .opened then
      { (s.span x).toProbing s.now with deafUntil := s.now } else s.span x) := by
  unfold State.searchIfReady
  simp only
  split
  · rfl
  · rw [setSpan_same]

theorem enable_search (s : State) (x : SpanId) : (s.setEnable x true).searchIfReady x = s.setSpan x (enabled s s.now (s.span x)) := by
  unfold State.setEnable
  rw [searchIfReady_eq, setSpan_span, setSpan_setSpan, setSpan_port, setSpan_bypass, setSpan_now]
  unfold enabled
  congr 1
  split
  next h => rw [if_pos ⟨h.1, h.2.2⟩]; rfl
  next h => rw [if_neg fun hn => h ⟨hn.1, rfl, hn.2⟩]

theorem enableSpans_acts {u : State} {r : Request} (h0 : r.param 0 = 1) (hsel : r.param 1 = 1 ∨ r.param 1 = 2 ∨ r.param 1 = 3) :
    u.enableSpans r = State.completeSpan { u with
      spanA := if r.param 1 = 1 ∨ r.param 1 = 3 then enabled u u.now u.spanA else u.spanA
      spanB := if r.param 1 = 2 ∨ r.param 1 = 3 then enabled u u.now u.spanB else u.spanB } r.slot .ok := by
  unfold State.enableSpans
  rw [if_pos h0, withSelector_good hsel]
  simp only [enable_search, selects_iff, spanSelected]
  congr 1
  split_ifs <;> rfl

theorem completeSpan_eq (s : State) (k : Nat) (o : SlotOutcome) : s.completeSpan k o = s.complete k o 0 (spanCodes s) := rfl

theorem spanCodes_settle (s : State) : spanCodes s.settle = spanCodes s := by
  unfold spanCodes
  rw [settle_spanA, settle_spanB, settle_bypass]

/-- A SPAN_CONTROL answer at the end of its step shows the spans of that moment (R22). -/
theorem completeSpan_answers {w : State} (hwf : w.mem.wf = true) {k : Nat} (hk : k < 16) (o : SlotOutcome) {t : State}
    (ht : (w.completeSpan k o).settle = t) :
    t.slotState k = 3 ∧ t.mem.readList (slotBase k + 4) 2 = [o.code, 0] ∧ t.mem.readList (slotBase k + 32) 3 = spanCodes t := by
  have hlen : (spanCodes w).length = 3 := rfl
  obtain ⟨h1, h2, h3⟩ := settle_complete_answered (s := w) (o := o) (d := 0) (r := spanCodes w) hwf hk (by rw [hlen]; omega)
  rw [completeSpan_eq] at ht
  have hcodes : spanCodes t = spanCodes w := by
    rw [← ht, spanCodes_settle]
    unfold spanCodes
    rw [complete_spanA, complete_spanB, complete_bypass]
  rw [ht] at h1 h2 h3
  rw [hlen] at h3
  rw [hcodes]
  exact ⟨h1, h2, h3⟩

/-- ENABLE selects spans whose unit shows a change at most in the span itself: nothing is to be published. -/
theorem setSpans_settled {u : State} (hu : u.settled = true) (a b : Span) : State.settled { u with spanA := a, spanB := b } = true :=
  setSpan_settled (setSpan_settled hu .a a) .b b

/-! ### ENABLE -/

theorem enable_answers {s : State} (dt : Nat) {r : Request} {rest : List Request} (hs : s.settled = true)
    (ht : takeRequest (fun r => r.spanAction 1) s.req.handed = (some r, rest)) :
    let u : State := { s.advance dt with req := { s.req with handed := rest } }
    let sel := r.param 1
    let v : State := { u with
      spanA := if sel = 1 ∨ sel = 3 then enabled s (s.now + dt) s.spanA else s.spanA
      spanB := if sel = 2 ∨ sel = 3 then enabled s (s.now + dt) s.spanB else s.spanB }
    (r.param 0 = 1 → (sel = 1 ∨ sel = 2 ∨ sel = 3) →
      exec (.spanControlEnable dt) s = .next (v.complete r.slot .ok 0 (spanCodes v))) ∧
    (r.param 0 ≠ 1 ∨ ¬(sel = 1 ∨ sel = 2 ∨ sel = 3) →
      exec (.spanControlEnable dt) s = .next (u.complete r.slot .refusedRange 0 (spanCodes u))) := by
  intro u sel v
  have hu : u.settled = true := hs
  have hexec {w : State} (hw : u.enableSpans r = w) : exec (.spanControlEnable dt) s = .next w.settle :=
    exec_serve (f := fun r u => u.enableSpans r) rfl ht hw
  refine ⟨fun h0 hsel => ?_, fun hbad => ?_⟩
  · rw [hexec (enableSpans_acts h0 hsel), completeSpan_eq, settle_of_settled _ (complete_settled _ _ _ _ (setSpans_settled hu _ _))]
    rfl
  · have hrefuse : u.enableSpans r = u.completeSpan r.slot .refusedRange := by
      unfold State.enableSpans
      split
      next h => exact withSelector_bad (hbad.resolve_left fun hn => hn h) _
      next => rfl
    rw [hexec hrefuse, completeSpan_eq, settle_of_settled _ (complete_settled _ _ _ _ hu)]

/-! ### DISABLE and RESTART -/

section
variable {u : State} {sel : Byte}

/-- DISABLE on the spans that a selector names (R22). -/
def State.disableSpans (u : State) (sel : Byte) : State :=
  let one (x : SpanId) (w : State) : State := if selects sel x then w.setEnable x false else w
  one .b (one .a u)

theorem disableSpans_keeps (u : State) (sel : Byte) : (u.disableSpans sel).now = u.now ∧ (u.disableSpans sel).mem = u.mem := by
  unfold State.disableSpans
  simp only
  split_ifs <;> exact ⟨rfl, rfl⟩

theorem disableSpans_span (u : State) (sel : Byte) (x : SpanId) :
    (u.disableSpans sel).span x = if selects sel x then { u.span x with enable := false } else u.span x := by
  unfold State.disableSpans
  cases x <;> simp only <;> split_ifs <;> rfl

/-- DISABLE's effect on each span (R11, R22). -/
theorem disable_spans (x : SpanId) :
    let t := (u.disableSpans sel).exitWhere (fun x => selects sel x && (u.span x).state != .off) .off .disabled
    (selects sel x = true → (t.span x).enable = false ∧ ((u.span x).state = .off → (t.span x).state = .off) ∧
      ((u.span x).state ≠ .off → turnedOff .disabled (u.span x) (t.span x))) ∧
    (¬selects sel x = true → (t.span x).state = (u.span x).state ∧ (t.span x).enable = (u.span x).enable) := by
  intro t
  have hexit := exitWhere_exits (u.disableSpans sel) (fun x => selects sel x && (u.span x).state != .off) .off .disabled
  have hspan := disableSpans_span u sel x
  refine ⟨fun hx => ?_, fun hx => ?_⟩
  · rw [if_pos hx] at hspan
    by_cases hoff : (u.span x).state = .off
    · have hno : (selects sel x && (u.span x).state != .off) = false := by rw [hoff]; simp
      rw [hexit.enable x hno, hexit.state x hno, hspan]
      exact ⟨rfl, fun _ => hoff, fun hn => absurd hoff hn⟩
    · have hyes : (selects sel x && (u.span x).state != .off) = true := by rw [hx]; simp [hoff]
      rw [hexit.exits x hyes, hspan]
      exact ⟨rfl, fun hn => absurd hn hoff, fun _ => exit_turnedOff { u.span x with enable := false } _ _⟩
  · rw [if_neg hx] at hspan
    have hno : (selects sel x && (u.span x).state != .off) = false := by simp [hx]
    rw [hexit.enable x hno, hexit.state x hno, hspan]
    exact ⟨rfl, rfl⟩

end

/-- The spans that RESTART would refuse (R22). -/
theorem restart_off {u : State} {sel : Byte} : ((selects sel .a && (u.span .a).state == .off) ||
    (selects sel .b && (u.span .b).state == .off)) = true ↔ ∃ x, selects sel x = true ∧ (u.span x).state = .off := by
  simp only [Bool.or_eq_true, Bool.and_eq_true, beq_iff_eq]
  constructor
  · rintro (h | h)
    exacts [⟨.a, h⟩, ⟨.b, h⟩]
  · rintro ⟨x, h⟩
    cases x
    exacts [.inl h, .inr h]

/-- Settles O11: ENABLE, DISABLE and RESTART act on the selected spans (R11, R19, R22). -/
theorem spanControlActs : Obligations.SpanControlActs := by
  refine ⟨fun s dt r rest hs ht => enable_answers dt hs ht, spanAction_iff, fun s dt r rest hs hwf hk => ?_⟩
  intro sel isSel hsel
  obtain ⟨u, hu⟩ : ∃ u : State, u = { s.advance dt with req := { s.req with handed := rest } } := ⟨_, rfl⟩
  have uspan (x : SpanId) : u.span x = s.span x := by rw [hu]; cases x <;> rfl
  have unow : u.now = s.now + dt := by rw [hu]; rfl
  have uwf : u.mem.wf = true := by rw [hu]; exact hwf
  have hselected (x : SpanId) : isSel x ↔ selects sel x = true := by
    rw [selects_iff]
    cases x <;> exact Iff.rfl
  refine ⟨fun ht => ?_, fun ht => ?_⟩
  · have hserve := exec_serve (c := .spanControlDisable dt) (f := fun r u => u.withSelector r fun sel v =>
        ((v.disableSpans sel).exitWhere (fun x => selects sel x && (v.span x).state != .off) .off .disabled).completeSpan r.slot .ok)
        rfl ht (by rw [← hu, withSelector_good hsel])
    obtain ⟨h1, h2, h3⟩ := completeSpan_answers ((exitWhere_exits (u.disableSpans sel) (fun x => selects sel x && (u.span x).state != .off)
      .off .disabled).wf (by rw [(disableSpans_keeps u sel).2]; exact uwf)) hk .ok rfl
    refine ⟨_, hserve, h1, h2, h3, fun x => ?_⟩
    rw [settle_span, completeSpan_eq, complete_span, hselected, ← uspan]
    exact disable_spans x
  · have hserve := exec_serve (c := .spanControlRestart dt) (f := fun r u => u.withSelector r fun sel v =>
        let isOff (x : SpanId) : Bool := selects sel x && (v.span x).state == .off
        if isOff .a || isOff .b then v.completeSpan r.slot .refusedState
        else (v.exitWhere (selects sel) .probing .hostRestart).completeSpan r.slot .ok) rfl ht (by rw [← hu, withSelector_good hsel])
    simp only at hserve
    refine ⟨fun ⟨x, hx, hoff⟩ => ?_, fun hon => ?_⟩
    · rw [if_pos (restart_off.mpr ⟨x, (hselected x).mp hx, by rw [uspan]; exact hoff⟩)] at hserve
      rw [hserve, completeSpan_eq, settle_of_settled _ (complete_settled _ _ _ _ (by rw [hu]; exact hs)), hu]
      rfl
    · rw [if_neg (fun h => by
        obtain ⟨x, hx, hoff⟩ := restart_off.mp h
        exact hon x ((hselected x).mpr hx) (by rw [← uspan]; exact hoff))] at hserve
      have hexit := exitWhere_exits u (selects sel) .probing .hostRestart
      obtain ⟨h1, h2, h3⟩ := completeSpan_answers (hexit.wf uwf) hk .ok rfl
      refine ⟨_, hserve, h1, h2, h3, fun x => ?_⟩
      rw [settle_span, completeSpan_eq, complete_span, hselected]
      refine ⟨fun hx => ?_, fun hx => ?_⟩
      · rw [hexit.exits x hx, uspan, unow]
        exact exit_restarted _ _ _
      · rw [hexit.state x (by simpa using hx), uspan]

/-! ## The relay (R3, R4) -/

section
variable {s : State} {dt : Nat} {r : Request} {rest : List Request} (hs : s.settled = true)
include hs

theorem bypass_answers (ht : takeRequest (fun r => r.spanAction 4) s.req.handed = (some r, rest)) :
    let u : State := { s.advance dt with req := { s.req with handed := rest } }
    (s.bypass.relay = .opened → ∃ t : State, exec (.spanControlBypass dt) s = .next t ∧
      t.bypass = { relay := .switching, drive := false, doneAt := some (s.now + dt + 20000000), waiter := some r.slot } ∧
      ∀ x : SpanId, (t.span x).state = .off ∧ ((s.span x).state ≠ .off → turnedOff .bypassed (s.span x) (t.span x))) ∧
    (s.bypass.relay = .closed → exec (.spanControlBypass dt) s = .next (u.complete r.slot .ok 0 (spanCodes s))) ∧
    (s.bypass.relay = .switching → exec (.spanControlBypass dt) s = .next (u.complete r.slot .refusedBusy 0 (spanCodes s))) := by
  intro u
  have hu : u.settled = true := hs
  have hserve := exec_serve (c := .spanControlBypass dt) (f := fun r u => match u.bypass.relay with
    | .opened => (u.switchRelay false r.slot).exitWhere (fun x => (u.span x).state != .off) .off .bypassed
    | .closed => u.completeSpan r.slot .ok
    | .switching => u.completeSpan r.slot .refusedBusy) rfl ht (v := (match s.bypass.relay with
    | .opened => (u.switchRelay false r.slot).exitWhere (fun x => (u.span x).state != .off) .off .bypassed
    | .closed => u.completeSpan r.slot .ok
    | .switching => u.completeSpan r.slot .refusedBusy)) rfl
  refine ⟨fun h => ?_, fun h => ?_, fun h => ?_⟩ <;> rw [h] at hserve
  · have hspan (x : SpanId) : u.span x = s.span x := by cases x <;> rfl
    have hspan' (x : SpanId) : (u.switchRelay false r.slot).span x = s.span x := by cases x <;> rfl
    have hexit := exitWhere_exits (u.switchRelay false r.slot) (fun x => (u.span x).state != .off) .off .bypassed
    refine ⟨_, hserve, ?_, fun x => ?_⟩
    · rw [settle_bypass, hexit.bypass]
      rfl
    · rw [settle_span]
      by_cases hoff : (s.span x).state = .off
      · rw [hexit.state x (by simp [hspan, hoff]), hspan']
        exact ⟨hoff, fun hn => absurd hoff hn⟩
      · rw [hexit.exits x (by simp [hspan, hoff]), hspan']
        exact ⟨rfl, fun _ => exit_turnedOff _ _ _⟩
  · simp only at hserve
    rw [hserve, completeSpan_eq, settle_of_settled _ (complete_settled _ _ _ _ hu)]
    rfl
  · simp only at hserve
    rw [hserve, completeSpan_eq, settle_of_settled _ (complete_settled _ _ _ _ hu)]
    rfl

theorem unbypass_answers (ht : takeRequest (fun r => r.spanAction 5) s.req.handed = (some r, rest)) :
    let u : State := { s.advance dt with req := { s.req with handed := rest } }
    (s.bypass.relay = .opened → exec (.spanControlUnbypass dt) s = .next (u.complete r.slot .ok 0 (spanCodes s))) ∧
    (s.bypass.relay = .closed → exec (.spanControlUnbypass dt) s = .next { u with
      bypass := { relay := .switching, drive := true, doneAt := some (s.now + dt + 20000000), waiter := some r.slot } }) ∧
    (s.bypass.relay = .switching → exec (.spanControlUnbypass dt) s = .next (u.complete r.slot .refusedBusy 0 (spanCodes s))) := by
  intro u
  have hu : u.settled = true := hs
  have hserve := exec_serve (c := .spanControlUnbypass dt) (f := fun r u => match u.bypass.relay with
    | .opened => u.completeSpan r.slot .ok
    | .closed => u.switchRelay true r.slot
    | .switching => u.completeSpan r.slot .refusedBusy) rfl ht (v := (match s.bypass.relay with
    | .opened => u.completeSpan r.slot .ok
    | .closed => u.switchRelay true r.slot
    | .switching => u.completeSpan r.slot .refusedBusy)) rfl
  refine ⟨fun h => ?_, fun h => ?_, fun h => ?_⟩ <;> rw [h] at hserve <;> simp only at hserve
  · rw [hserve, completeSpan_eq, settle_of_settled _ (complete_settled _ _ _ _ hu)]
    rfl
  · have hset : (u.switchRelay true r.slot).settled = true := hs
    rw [hserve, settle_of_settled _ hset]
    rfl
  · rw [hserve, completeSpan_eq, settle_of_settled _ (complete_settled _ _ _ _ hu)]
    rfl

end

/-- The relay settles, and on OPEN the enabled spans start their search (R3, R11). -/
theorem relaySettles_eq (s : State) : s.relaySettles =
    (let relay : RelayState := if s.bypass.drive then .opened else .closed
     let started (u : Span) : Span :=
       if u.state = .off ∧ u.enable = true ∧ s.port.running = true ∧ relay = .opened then
         { u.toProbing s.now with deafUntil := s.now } else u
     let u : State := { s with
       bypass := { s.bypass with relay := relay, doneAt := none, waiter := none }, spanA := started s.spanA, spanB := started s.spanB }
     u.completeIf s.bypass.waiter .ok 0 (spanCodes u)) := by
  unfold State.relaySettles State.completeIf
  simp only [searchIfReady_eq]
  cases s.bypass.waiter <;> rfl

/-- Settles O12: BYPASS and UNBYPASS move the relay, and it settles to its drive (R3, R4, R11). -/
theorem relayFollowsControl : Obligations.RelayFollowsControl := by
  refine ⟨fun s dt r rest hs => ⟨bypass_answers hs, unbypass_answers hs⟩, fun s dt e hs he hpast => ?_⟩
  intro relay started v
  have hv : v.settled = true := by
    have hu : State.settled { s.advance dt with bypass := { relay := relay, drive := s.bypass.drive, doneAt := none, waiter := none } } = true :=
      hs
    exact setSpans_settled hu (started s.spanA) (started s.spanB)
  have hstarted (u : Span) : (if u.state = .off ∧ u.enable = true ∧ s.port.running = true ∧ relay = .opened then
      { u.toProbing (s.now + dt) with deafUntil := s.now + dt } else u) = started u := by
    have hrelay : relay = .opened ↔ s.bypass.drive = true := by
      simp only [relay]
      split <;> simp_all
    simp only [started]
    by_cases h : u.enable = true ∧ u.state = .off ∧ s.port.running = true ∧ s.bypass.drive = true
    · rw [if_pos h, if_pos ⟨h.2.1, h.1, h.2.2.1, hrelay.mpr h.2.2.2⟩]
      rfl
    · rw [if_neg h, if_neg fun hn => h ⟨hn.2.1, hn.1, hn.2.2.1, hrelay.mp hn.2.2.2⟩]
  have hsettles : (s.advance dt).relaySettles = v.completeIf s.bypass.waiter .ok 0 (spanCodes v) := by
    rw [relaySettles_eq]
    simp only
    rw [show v = { s.advance dt with
      bypass := { relay := relay, drive := s.bypass.drive, doneAt := none, waiter := none }
      spanA := started s.spanA, spanB := started s.spanB } from rfl, ← hstarted, ← hstarted]
    rfl
  have hexec {w : State} (hw : (s.advance dt).relaySettles = w) : exec (.relaySwitched dt) s = .next w.settle := by
    refine exec_run (f := fun t => if t.reached t.bypass.doneAt then t.relaySettles else t) rfl ?_
    rw [← hw]
    exact if_pos (advance_reached he hpast)
  refine ⟨fun hw => ?_, fun k hw => ?_⟩ <;> rw [hw] at hsettles
  · rw [hexec (w := v) hsettles, settle_of_settled _ hv]
  · rw [hexec (w := v.complete k .ok 0 (spanCodes v)) hsettles, settle_of_settled _ (complete_settled _ _ _ _ hv)]

end Sys2Proof.Machine

/-!
Reception (R27 to R31) and the start of an attempt (R34 to R36, R93): O21, O23.
-/

namespace Sys2Proof.Machine

/-! ## Reception -/

/-- One of the five reject counts (R41). -/
def countIf (why reason : Rejection) : Word16 := if why = reason then 1 else 0

/-- The span after a rejected frame (R27). -/
def Span.rejects (u : Span) (why : Rejection) : Span :=
  { u with
    bucket := min 255 (u.bucket + 4), lastReject := why
    rejDelimiter := u.rejDelimiter + countIf why .delimiter
    rejShort := u.rejShort + countIf why .short
    rejLengthOver := u.rejLengthOver + countIf why .lengthOver
    rejLengthMismatch := u.rejLengthMismatch + countIf why .lengthMismatch
    rejCrc := u.rejCrc + countIf why .crc }

theorem rejectFrame_eq (s : State) (x : SpanId) (why : Rejection) : s.rejectFrame x why = s.setSpan x ((s.span x).rejects why) := by
  unfold State.rejectFrame Span.rejects Span.spoil Span.countReject countIf
  cases why <;> simp

theorem acceptFrame_room {s : State} {x : SpanId} {f : Frame} (h : (s.span x).rxq.length < 4) : s.acceptFrame x f =
    s.setSpan x { s.span x with
      accepted := (s.span x).accepted + 1, bucket := (s.span x).bucket - 1
      silenceEnd := if (s.span x).state = .up then some (s.now + 40000000) else (s.span x).silenceEnd
      rxq := (s.span x).rxq ++ [{ frame := f, endAt := s.now }] } := by
  unfold State.acceptFrame
  simp only
  rw [if_pos h]
  rfl

theorem acceptFrame_overrun {s : State} {x : SpanId} {f : Frame} (h : 4 ≤ (s.span x).rxq.length) (hr : s.raised = []) : s.acceptFrame x f =
    { s.setSpan x { s.span x with
        accepted := (s.span x).accepted + 1, bucket := (s.span x).bucket - 1
        silenceEnd := if (s.span x).state = .up then some (s.now + 40000000) else (s.span x).silenceEnd
        overruns := (s.span x).overruns + 1 } with
      raised := [{ kind := 4, source := endCode x, position := byte s.table.own, detail := f.kind.code
                   value := ((s.span x).overruns + 1).setWidth 32 }].map fun e => { group := (spanSource x).toNat, event := e } } := by
  unfold State.acceptFrame
  simp only
  rw [if_neg (by omega), raise_of_quiet (by rw [setSpan_raised, hr]), spanSource_eq_endCode]
  rfl

theorem receives_iff (p : SpanState) : p.receives = false ↔ p = .off ∨ p = .held := by cases p <;> simp [SpanState.receives]

/-- What a received line makes of a span that listens (R27). -/
theorem receiveLine_listens {s : State} {x : SpanId} (line : List Level) (h : (s.span x).state.receives = true)
    (hd : (s.span x).driving s.now = false) : s.receiveLine x line =
      (match decodeLine ((s.span x).heardPart s.now line) with
      | .none => s.setSpan x { s.span x with busyUntil := max (s.span x).busyUntil s.now }
      | .violated => s.setSpan x (Span.rejects { s.span x with busyUntil := max (s.span x).busyUntil s.now } .delimiter)
      | .frame bytes => (s.setSpan x { s.span x with busyUntil := max (s.span x).busyUntil s.now }).receiveBytes x bytes) := by
  unfold State.receiveLine
  simp only
  rw [if_neg (by simp [h, hd])]
  cases decodeLine ((s.span x).heardPart s.now line) with
  | none => rfl
  | violated => simp only [rejectFrame_eq, setSpan_span, setSpan_setSpan]
  | frame bytes => rfl

theorem receiveBytes_rejected {s : State} {x : SpanId} {bytes : List Byte} {why : Rejection} (h : rejection bytes = some why) :
    s.receiveBytes x bytes = s.setSpan x ((s.span x).rejects why) := by
  unfold State.receiveBytes
  rw [h]
  exact rejectFrame_eq _ _ _

theorem receiveBytes_unknown {s : State} {x : SpanId} {bytes : List Byte} (h : rejection bytes = none) (hp : parseFrame bytes = none) :
    s.receiveBytes x bytes = s.setSpan x { s.span x with unknownKind := (s.span x).unknownKind + 1 } := by
  unfold State.receiveBytes
  rw [h, hp]

theorem receiveBytes_accepted {s : State} {x : SpanId} {bytes : List Byte} {f : Frame} (h : rejection bytes = none)
    (hp : parseFrame bytes = some f) : s.receiveBytes x bytes = s.acceptFrame x f := by
  unfold State.receiveBytes
  rw [h, hp]

/-- Settles O21: a received frame is checked, counted under its reason and queued (R27 to R31). -/
theorem receptionChecksAndQueues : Obligations.ReceptionChecksAndQueues := by
  intro s dt x line hs u now answer active seen heard one spoilt
  have hset (v : Span) : ((s.advance dt).setSpan x v).settled = true := setSpan_settled ((advance_settled s dt).trans hs) x v
  have hexec {v : State} (hv : (s.advance dt).receiveLine x line = v) (hset : v.settled = true) : answer = .next v :=
    exec_settled (f := fun t => t.receiveLine x line) rfl hv hset
  refine ⟨fun h => ?_, fun h => ?_, fun h1 h2 hd => ?_⟩
  · have hlate : active - (now - u.deafUntil) / 1000 = 0 := by omega
    show line.drop (active - (now - u.deafUntil) / 1000) = line
    rw [hlate, List.drop_zero]
  · refine hexec ?_ ((advance_settled s dt).trans hs)
    unfold State.receiveLine
    simp only [advance_span]
    refine if_pos ?_
    rw [receives_iff]
    exact or_assoc.mpr h
  · have hlistens : u.state.receives = true := by
      rw [← Bool.not_eq_false, receives_iff]
      rintro (h | h)
      exacts [h1 h, h2 h]
    have hline : (s.advance dt).receiveLine x line = (match decodeLine seen with
        | .none => (s.advance dt).setSpan x heard
        | .violated => (s.advance dt).setSpan x (heard.rejects .delimiter)
        | .frame bytes => ((s.advance dt).setSpan x heard).receiveBytes x bytes) := by
      have := receiveLine_listens (s := s.advance dt) (x := x) line (by rw [advance_span]; exact hlistens) (by rw [advance_span]; exact hd)
      rw [advance_span] at this
      exact this
    refine ⟨fun hdec => ?_, fun hdec => ?_, fun bytes why hdec hrej => ?_, fun bytes hdec hrej => ⟨fun hp => ?_, fun f hp =>
      ⟨fun hroom => ?_, fun hfull => ?_⟩⟩⟩ <;> rw [hdec] at hline <;> simp only at hline
    · exact hexec hline (hset _)
    · exact hexec hline (hset _)
    · rw [receiveBytes_rejected hrej, setSpan_span, setSpan_setSpan] at hline
      exact hexec hline (hset _)
    · rw [receiveBytes_unknown hrej hp, setSpan_span, setSpan_setSpan] at hline
      exact hexec hline (hset _)
    · rw [receiveBytes_accepted hrej hp, acceptFrame_room (by rw [setSpan_span]; exact hroom), setSpan_span, setSpan_setSpan, setSpan_now]
        at hline
      exact hexec hline (hset _)
    · rw [receiveBytes_accepted hrej hp, acceptFrame_overrun (by rw [setSpan_span]; exact hfull)
        (by rw [setSpan_raised]; exact raised_of_settled hs), setSpan_span, setSpan_setSpan, setSpan_now, setSpan_table] at hline
      refine answers_group (f := fun t => t.receiveLine x line) rfl (spanSource x).toNat _ false hline
        (by rw [setSpan_raised]; exact raised_of_settled hs) fun e he => ?_
      rw [List.mem_singleton.mp he]
      exact spanEvent_not_doorUnit _ _ _ _ _

/-! ## The choice of the frame (R34) -/

theorem txClass_le (k : FrameKind) : k.txClass ≤ 3 := by cases k <;> decide

theorem foldl_min_le (l : List Nat) (b : Nat) : l.foldl min b ≤ b ∧ ∀ c ∈ l, l.foldl min b ≤ c := by
  induction l generalizing b with
  | nil => simp
  | cons a l ih =>
    obtain ⟨h1, h2⟩ := ih (min b a)
    rw [List.foldl_cons]
    refine ⟨by omega, fun c hc => ?_⟩
    obtain rfl | hc := List.mem_cons.mp hc
    · omega
    · exact h2 c hc

theorem le_foldl_min (l : List Nat) {b c : Nat} (hb : c ≤ b) (hl : ∀ d ∈ l, c ≤ d) : c ≤ l.foldl min b := by
  induction l generalizing b with
  | nil => exact hb
  | cons a l ih =>
    obtain ⟨ha, hrest⟩ := List.forall_mem_cons.mp hl
    exact ih (by omega) hrest

/-- The best class is that of any frame none is better than (R34). -/
theorem bestClass_eq {q : List TxFrame} {f : TxFrame} (hf : f ∈ q) (hbest : ∀ h ∈ q, f.frame.kind.txClass ≤ h.frame.kind.txClass) :
    bestClass q = f.frame.kind.txClass := by
  unfold bestClass
  refine Nat.le_antisymm ((foldl_min_le _ 3).2 _ (List.mem_map_of_mem hf)) (le_foldl_min _ (txClass_le _) fun d hd => ?_)
  obtain ⟨h, hh, rfl⟩ := List.mem_map.mp hd
  exact hbest h hh

/-- The frame with none of its class before it is the oldest of the class (R34). -/
theorem takeClass_append {f : TxFrame} {after : List TxFrame} : ∀ before : List TxFrame,
    (∀ h ∈ before, h.frame.kind.txClass ≠ f.frame.kind.txClass) →
    takeClass f.frame.kind.txClass (before ++ f :: after) = (some f, before ++ after)
  | [], _ => by simp [takeClass]
  | g :: before, h => by
    obtain ⟨hg, hrest⟩ := List.forall_mem_cons.mp h
    simp [takeClass, hg, takeClass_append before hrest]

/-! ## The fields filled at an attempt (R15, R35, R93) -/

theorem fillFrame_hello (s : State) (x : SpanId) (f : TxFrame) (h : f.frame.kind = .hello) : s.fillFrame x f =
    { f.frame with
      gen := s.table.gen
      payload := be32 s.settings.identity ++ [endCode x, byte s.settings.kind] ++ be16 s.table.gen ++ be32 (s.span x).heardNow } := by
  unfold State.fillFrame
  simp only [h]
  rfl

theorem fillFrame_keepalive (s : State) (x : SpanId) (f : TxFrame) (h : f.frame.kind = .keepalive) : s.fillFrame x f =
    { f.frame with gen := s.table.gen, payload := be32 s.settings.identity ++ be16 s.table.gen } := by
  unfold State.fillFrame
  simp only [h]
  rfl

section
variable {s : State} {x : SpanId} {f : TxFrame} (h1 : f.frame.kind ≠ .hello) (h2 : f.frame.kind ≠ .keepalive)
include h1 h2

theorem fillFrame_other : s.fillFrame x f = (match f.tag with
    | .forwarded _ _ rxEnd dr late =>
      (match (if late then none else forwardedDelay dr ((s.now - rxEnd) / 200) (((s.span x).delay + 100) / 200)) with
      | some df => { f.frame with delay := word32 df, late := false }
      | none => { f.frame with delay := 0, late := true })
    | _ => f.frame) := by
  unfold State.fillFrame
  cases hk : f.frame.kind
  case hello => exact absurd hk h1
  case keepalive => exact absurd hk h2
  all_goals cases f.tag <;> rfl

theorem fillFrame_forwarded {gen : Word16} {n : Byte} {rxEnd dr : Nat} {late : Bool} (ht : f.tag = .forwarded gen n rxEnd dr late) :
    s.fillFrame x f = (match (if late then none else forwardedDelay dr ((s.now - rxEnd) / 200) (((s.span x).delay + 100) / 200)) with
      | some df => { f.frame with delay := word32 df, late := false }
      | none => { f.frame with delay := 0, late := true }) := by
  rw [fillFrame_other h1 h2, ht]

theorem fillFrame_plain (ht : ∀ (gen : Word16) (n : Byte) (rxEnd dr : Nat) (late : Bool), f.tag ≠ .forwarded gen n rxEnd dr late) :
    s.fillFrame x f = f.frame := by
  rw [fillFrame_other h1 h2]
  cases h : f.tag
  case forwarded => exact absurd h (ht _ _ _ _ _)
  all_goals rfl

end

/-- Settles O23: an attempt drives the current or best frame, filled with the fields of that moment (R15, R34 to R36, R93). -/
theorem attemptFillsAndDrivesBestFrame : Obligations.AttemptFillsAndDrivesBestFrame := by
  refine ⟨fun s dt quiet x hs hstate hquiet hbusy hfree hback => ?_, fun s x f => ?_⟩
  · intro u filled
    have hmay : (s.advance dt).mayAttempt x quiet = true := by
      have hover : (s.advance dt).backoffOver x = true := by
        unfold State.backoffOver
        rw [advance_span]
        split
        next t ht => exact decide_eq_true (hback t ht)
        next => rfl
      unfold State.mayAttempt State.quietFor
      simp only [advance_span, SpanState.sends_iff.mpr hstate, hover, Bool.and_eq_true, decide_eq_true_eq]
      exact ⟨⟨⟨trivial, hfree⟩, trivial⟩, hquiet, hbusy⟩
    have hexec {f : TxFrame} {rest : List TxFrame} (hnext : u.nextFrame = (some f, rest)) :
        exec (.transmitAttempt dt x quiet) s = .next ((s.advance dt).setSpan x { u with
          txq := rest, cur := some { f with frame := filled f }, attempt := u.attempt + 1, backoffEnd := none
          drive := .frame (s.now + dt) (filled f).encode }) := by
      refine exec_setSpan (f := fun t => if t.mayAttempt x quiet then match (t.span x).nextFrame with
        | (some f, rest) => t.startAttempt x f rest
        | (none, _) => t
        else t) rfl hs ?_
      simp only [hmay, if_true, advance_span, show (s.span x).nextFrame = (some f, rest) from hnext]
      unfold State.startAttempt
      simp only [advance_span]
      rfl
    refine ⟨fun f hcur => ?_, fun f before after hcur hq hbest hbefore => ?_⟩
    · rw [hexec (f := f) (rest := u.txq) (by unfold Span.nextFrame; rw [hcur])]
    · refine hexec ?_
      unfold Span.nextFrame
      rw [hcur]
      simp only
      rw [bestClass_eq (f := f) (by rw [hq]; simp) hbest, hq]
      exact takeClass_append before fun h hh => (hbefore h hh).ne'
  · intro g gap sd
    refine ⟨fun h => ?_, fun h => ?_, fun h1 h2 => ⟨fun gen n rxEnd dr ht => ?_, fun gen n rxEnd dr ht => ?_, fun ht => fillFrame_plain h1 h2 ht⟩⟩
    · show (s.fillFrame x f).gen = _ ∧ (s.fillFrame x f).payload = _
      rw [fillFrame_hello s x f h]
      exact ⟨rfl, rfl⟩
    · show (s.fillFrame x f).gen = _ ∧ (s.fillFrame x f).payload = _
      rw [fillFrame_keepalive s x f h]
      exact ⟨rfl, rfl⟩
    · have hfill := fillFrame_forwarded (s := s) (x := x) h1 h2 ht
      simp only [Bool.false_eq_true, if_false] at hfill
      unfold forwardedDelay at hfill
      refine ⟨fun hle => ?_, fun hlt => ?_⟩
      · rw [if_pos hle] at hfill
        exact hfill
      · rw [if_neg (Nat.not_le.mpr hlt)] at hfill
        exact hfill
    · exact fillFrame_forwarded (s := s) (x := x) h1 h2 ht

end Sys2Proof.Machine

/-!
The coupler line (R1, R2): the decoder reads back what the coder wrote.
-/

namespace Sys2Proof.Machine

/-! ## Levels and cells -/

@[simp] theorem Level.flip_flip (p : Level) : Level.flip (Level.flip p) = p := by cases p <;> rfl

@[simp] theorem Level.flip_eq_quiet (p : Level) : Level.flip p = .quiet ↔ p = .quiet := by cases p <;> simp [Level.flip]

theorem Level.flip_ne {p : Level} (h : p ≠ .quiet) : Level.flip p ≠ p := by cases p <;> simp_all [Level.flip]

theorem codeBits_one (p : Level) (bs : List Bool) :
    codeBits p (true :: bs) = (Level.flip p :: p :: (codeBits p bs).1, (codeBits p bs).2) := rfl

theorem codeBits_zero (p : Level) (bs : List Bool) : codeBits p (false :: bs) =
    (Level.flip p :: Level.flip p :: (codeBits (Level.flip p) bs).1, (codeBits (Level.flip p) bs).2) := rfl

theorem codeBits_length (bs : List Bool) : ∀ p, (codeBits p bs).1.length = 2 * bs.length := by
  induction bs with
  | nil => intro p; rfl
  | cons b bs ih =>
    intro p
    cases b
    · simp only [codeBits_zero, List.length_cons, ih]; omega
    · simp only [codeBits_one, List.length_cons, ih]; omega

theorem codeBits_driven (bs : List Bool) : ∀ {p}, p ≠ .quiet → (codeBits p bs).2 ≠ .quiet := by
  induction bs with
  | nil => intro p hp; exact hp
  | cons b bs ih =>
    intro p hp
    cases b
    · exact ih (by simpa using hp)
    · exact ih hp

/-- Coded bits and what follows them begin with a transition, as long as what follows does. -/
theorem codeBits_head (p : Level) (bs : List Bool) (rest : List Level) :
    ∃ more, (codeBits p bs).1 ++ Level.flip (codeBits p bs).2 :: rest = Level.flip p :: more := by
  cases bs with
  | nil => exact ⟨rest, rfl⟩
  | cons b bs => cases b <;> exact ⟨_, rfl⟩

theorem flatMap_byteBits_length (bytes : List Byte) : (bytes.flatMap byteBits).length = 8 * bytes.length := by
  induction bytes with
  | nil => rfl
  | cons b bs ih => rw [List.flatMap_cons, List.length_append, ih, List.length_cons]; simp [byteBits]; omega

theorem codeFrame_length (first : Level) (bytes : List Byte) :
    (codeFrame first bytes).length = 2 * (24 + 8 * bytes.length) := by
  simp only [codeFrame, List.length_append, codeBits_length, flatMap_byteBits_length, stretch, List.length_replicate]
  omega

/-! ## The decoder on coded bits -/

theorem decodeCells_cell (fuel : Nat) (p x y : Level) (bits : List Bool) (rest : List Level) :
    decodeCells (fuel + 1) p bits (x :: y :: rest) =
      if x = .quiet ∨ y = .quiet ∨ x = p then .violated
      else if x = y ∧ rest.take 2 = [x, x] then
        if endsClean x (rest.drop 2) ∧ bits.length % 8 = 0 then .frame (bitsToBytes bits.reverse) else .violated
      else decodeCells fuel y ((x != y) :: bits) rest := rfl

theorem decodeCells_codeBits (fuel : Nat) (rest : List Level) (bs : List Bool) : ∀ (p : Level) (acc : List Bool), p ≠ .quiet →
    decodeCells (fuel + bs.length) p acc ((codeBits p bs).1 ++ Level.flip (codeBits p bs).2 :: rest) =
      decodeCells fuel (codeBits p bs).2 (bs.reverse ++ acc) (Level.flip (codeBits p bs).2 :: rest) := by
  induction bs with
  | nil => intro p acc _; rfl
  | cons b bs ih =>
    intro p acc hp
    have hq : Level.flip p ≠ .quiet := by simpa using hp
    rw [List.length_cons, ← Nat.add_assoc, List.reverse_cons, List.append_assoc]
    cases b with
    | true =>
      rw [codeBits_one, List.cons_append, List.cons_append, decodeCells_cell, if_neg (by simp [hp, Level.flip_ne hp]),
        if_neg (fun h => Level.flip_ne hp h.1), bne_iff_ne.2 (Level.flip_ne hp)]
      exact ih p _ hp
    | false =>
      obtain ⟨more, hmore⟩ := codeBits_head (Level.flip p) bs rest
      have goes : ¬ (((codeBits (Level.flip p) bs).1 ++ Level.flip (codeBits (Level.flip p) bs).2 :: rest).take 2 =
          [Level.flip p, Level.flip p]) := by
        rw [hmore, Level.flip_flip]
        intro h
        exact Level.flip_ne hp (List.cons.inj h).1.symm
      rw [codeBits_zero, List.cons_append, List.cons_append, decodeCells_cell, if_neg (by simp [hp, Level.flip_ne hp]),
        if_neg (fun h => goes h.2), bne_self_eq_false]
      exact ih _ _ hq

/-- The end delimiter: a stretch, six cells of 0 and the quiet level end the frame (R2). -/
theorem decodeCells_end (fuel : Nat) {p : Level} (hp : p ≠ .quiet) {acc : List Bool} (ha : acc.length % 8 = 0) :
    decodeCells (fuel + 1) p acc (stretch p ++ (codeBits (Level.flip p) (List.replicate 6 false)).1 ++ [.quiet]) =
      .frame (bitsToBytes acc.reverse) := by
  cases p with
  | quiet => exact absurd rfl hp
  | positive => simp [stretch, List.replicate, Level.flip, codeBits, cellZero, decodeCells, endsClean, ha]
  | negative => simp [stretch, List.replicate, Level.flip, codeBits, cellZero, decodeCells, endsClean, ha]

/-- The start delimiter: fourteen cells of 1 and a stretch are found, whatever follows (R2). -/
theorem findStart_codeFrame {first : Level} (h : first ≠ .quiet) (rest : List Level) :
    findStart .quiet 0 ((codeBits (Level.flip first) (List.replicate 14 true)).1 ++
      (stretch (codeBits (Level.flip first) (List.replicate 14 true)).2 ++ rest)) = some (first, rest) := by
  cases first with
  | quiet => exact absurd rfl h
  | positive => rfl
  | negative => rfl

theorem bitsToBytes_byteBits (b : Byte) (rest : List Bool) : bitsToBytes (byteBits b ++ rest) = b :: bitsToBytes rest := by
  have value : ∀ b : Byte, byte ((byteBits b).foldl (fun n b => 2 * n + b.toNat) 0) = b := by decide
  exact congrArg (· :: bitsToBytes rest) (value b)

theorem bitsToBytes_flatMap (bytes : List Byte) : bitsToBytes (bytes.flatMap byteBits) = bytes := by
  induction bytes with
  | nil => rfl
  | cons b bs ih => rw [List.flatMap_cons, bitsToBytes_byteBits, ih]

theorem decodeLine_codeFrame {first : Level} (h : first ≠ .quiet) (bytes : List Byte) :
    decodeLine (codeFrame first bytes ++ [.quiet]) = .frame bytes := by
  obtain ⟨p, hp⟩ : ∃ p, (codeBits first (bytes.flatMap byteBits)).2 = p := ⟨_, rfl⟩
  have driven : p ≠ .quiet := hp ▸ codeBits_driven _ h
  have after : Level.flip (codeBits (Level.flip first) (List.replicate 14 true)).2 = first := Level.flip_flip first
  obtain ⟨body, hb⟩ : ∃ body, (codeBits first (bytes.flatMap byteBits)).1 = body := ⟨_, rfl⟩
  obtain ⟨tail, ht⟩ : ∃ tail, stretch p ++ (codeBits (Level.flip p) (List.replicate 6 false)).1 ++ [.quiet] = Level.flip p :: tail :=
    ⟨_, rfl⟩
  have line : codeFrame first bytes ++ [.quiet] = (codeBits (Level.flip first) (List.replicate 14 true)).1 ++
      (stretch (codeBits (Level.flip first) (List.replicate 14 true)).2 ++ (body ++ Level.flip p :: tail)) := by
    simp only [codeFrame, after, hp, hb, ← ht, List.append_assoc]
  have room : (body ++ Level.flip p :: tail).length = (body.length + tail.length - (bytes.flatMap byteBits).length) + 1 +
      (bytes.flatMap byteBits).length := by
    have := codeBits_length (bytes.flatMap byteBits) first
    rw [hb] at this
    rw [List.length_append, List.length_cons]
    omega
  have cells := decodeCells_codeBits (body.length + tail.length - (bytes.flatMap byteBits).length + 1) tail
    (bytes.flatMap byteBits) first [] h
  have multiple : (bytes.flatMap byteBits).reverse.length % 8 = 0 := by
    rw [List.length_reverse, flatMap_byteBits_length]; omega
  rw [hp, hb, List.append_nil, ← ht] at cells
  rw [decodeLine, line, findStart_codeFrame h]
  simp only []
  rw [room, ← ht, cells, decodeCells_end _ driven multiple, List.reverse_reverse, bitsToBytes_flatMap]

/-! ## The fields of a frame -/

theorem be32_append (w : Word32) :
    ((w.extractLsb' 24 8 ++ w.extractLsb' 16 8 : Word16) ++ (w.extractLsb' 8 8 ++ w.extractLsb' 0 8 : Word16) : Word32) = w := by
  apply BitVec.eq_of_getLsbD_eq
  intro i hi
  simp only [BitVec.getLsbD_append, BitVec.getLsbD_extractLsb']
  grind

theorem byteAt_append_length (l m : List Byte) (i : Nat) : byteAt (l ++ m) (l.length + i) = byteAt m i := by
  rw [byteAt, byteAt, List.getD_eq_getElem?_getD, List.getD_eq_getElem?_getD, List.getElem?_append_right (Nat.le_add_right _ _),
    Nat.add_sub_cancel_left]

theorem getBe16_be16 (l : List Byte) (w : Word16) : getBe16 (l ++ be16 w) l.length = w := by
  have low := byteAt_append_length l (be16 w) 0
  have high := byteAt_append_length l (be16 w) 1
  rw [Nat.add_zero] at low
  rw [getBe16, low, high]
  exact word16_bytes w

theorem Frame.body_length (f : Frame) : f.body.length = 12 + f.payload.length := by
  simp [Frame.body, be16, be32]; omega

theorem Frame.encode_length (f : Frame) : f.encode.length = 14 + f.payload.length := by
  simp [Frame.encode, Frame.body_length, be16]; omega

theorem Frame.take_encode (f : Frame) : f.encode.take (f.encode.length - 2) = f.body := by
  have size : f.encode.length - 2 = f.body.length := by rw [Frame.encode_length, Frame.body_length]; omega
  rw [size, Frame.encode, List.take_left]

theorem getBe16_encode_length (f : Frame) : getBe16 f.encode 10 = word16 f.payload.length := word16_bytes _

theorem getBe16_encode_crc (f : Frame) : getBe16 f.encode (f.encode.length - 2) = crc16 f.body := by
  have size : f.encode.length - 2 = f.body.length := by rw [Frame.encode_length, Frame.body_length]; omega
  rw [size]
  exact getBe16_be16 _ _

theorem rejection_encode {f : Frame} (h : f.payload.length ≤ 544) : rejection f.encode = none := by
  have len : (getBe16 f.encode 10).toNat = f.payload.length := by
    rw [getBe16_encode_length, word16, BitVec.toNat_ofNat]; omega
  have size := f.encode_length
  rw [rejection, if_neg (by omega), if_neg (by omega), if_neg (by omega), Frame.take_encode, getBe16_encode_crc, if_neg (by simp)]

theorem frameKindOf_code (k : FrameKind) : frameKindOf k.code = some k := by cases k <;> rfl

theorem flagsByte_late (f : Frame) : f.flagsByte.getLsbD 0 = f.late := by
  simp only [Frame.flagsByte]; cases f.late <;> cases f.conflict <;> rfl

theorem flagsByte_conflict (f : Frame) : f.flagsByte.getLsbD 1 = f.conflict := by
  simp only [Frame.flagsByte]; cases f.late <;> cases f.conflict <;> rfl

theorem parseFrame_encode (f : Frame) : parseFrame f.encode = some f := by
  have kind : frameKindOf (byteAt f.encode 0) = some f.kind := frameKindOf_code f.kind
  have gen : getBe16 f.encode 4 = f.gen := word16_bytes _
  have delay : getBe32 f.encode 6 = f.delay := be32_append _
  rw [parseFrame, kind, Frame.take_encode, gen, delay]
  exact congrArg₂ (fun late conflict => some { f with late, conflict }) (flagsByte_late f) (flagsByte_conflict f)

/-- Settles O20: the coder and the decoder agree on the cells, the delimiters bound them, and the header fields are read
where they were written. -/
theorem frameSurvivesTheLine : Obligations.FrameSurvivesTheLine := by
  unfold Obligations.FrameSurvivesTheLine
  intro f first hpay hfirst
  refine ⟨decodeLine_codeFrame hfirst _, rejection_encode hpay, parseFrame_encode f, ?_⟩
  rw [codeFrame_length, Frame.encode_length]
  omega

end Sys2Proof.Machine

/-!
Collisions, jams, backoff and completion (R35 to R39): O24.
-/

namespace Sys2Proof.Machine

/-! ## The coded levels of the two polarities -/

theorem codeBits_flip (bs : List Bool) : ∀ p, codeBits (Level.flip p) bs = ((codeBits p bs).1.map Level.flip, Level.flip (codeBits p bs).2) := by
  induction bs with
  | nil => intro p; rfl
  | cons b bs ih =>
    intro p
    cases b
    · rw [codeBits_zero, codeBits_zero, ih]; rfl
    · rw [codeBits_one, codeBits_one, ih]; rfl

theorem codeFrame_flip (first : Level) (bytes : List Byte) : codeFrame (Level.flip first) bytes = (codeFrame first bytes).map Level.flip := by
  simp only [codeFrame, codeBits_flip, stretch, List.map_append, List.map_replicate]

theorem codeBits_levels (bs : List Bool) : ∀ {p l}, p ≠ .quiet → l ∈ (codeBits p bs).1 → l ≠ .quiet := by
  induction bs with
  | nil => intro p l _ hl; exact absurd hl (List.not_mem_nil)
  | cons b bs ih =>
    intro p l hp hl
    have hq : Level.flip p ≠ .quiet := by simpa using hp
    cases b
    · rw [codeBits_zero, List.mem_cons, List.mem_cons] at hl
      obtain rfl | rfl | hl := hl
      exacts [hq, hq, ih hq hl]
    · rw [codeBits_one, List.mem_cons, List.mem_cons] at hl
      obtain rfl | rfl | hl := hl
      exacts [hq, hp, ih hp hl]

/-- Every level of a frame is driven. -/
theorem codeFrame_levels {first l : Level} (hf : first ≠ .quiet) {bytes : List Byte} (hl : l ∈ codeFrame first bytes) : l ≠ .quiet := by
  have hflip {p : Level} (hp : p ≠ .quiet) : Level.flip p ≠ .quiet := by simpa using hp
  have hstretch {p : Level} (hp : p ≠ .quiet) (h : l ∈ stretch p) : l ≠ .quiet := by
    rw [List.eq_of_mem_replicate h]; exact hflip hp
  have hstart := codeBits_driven (List.replicate 14 true) (hflip hf)
  have hbody := codeBits_driven (bytes.flatMap byteBits) (hflip hstart)
  simp only [codeFrame, List.mem_append] at hl
  obtain (((hl | hl) | hl) | hl) | hl := hl
  exacts [codeBits_levels _ (hflip hf) hl, hstretch hstart hl, codeBits_levels _ (hflip hstart) hl, hstretch hbody hl,
    codeBits_levels _ (hflip hbody) hl]

theorem firstLevel_or : firstLevel = .positive ∨ firstLevel = .negative := by
  unfold firstLevel
  split
  exacts [.inl rfl, .inr rfl]

theorem firstLevel_driven : firstLevel ≠ .quiet := by
  obtain h | h := firstLevel_or <;> rw [h] <;> nofun

/-- The level before the jam's first cell: the one driven when the collision was found (R38). -/
theorem jamLevel_eq {l : Level} (hl : l ≠ .quiet) (bytes : List Byte) (h : Nat) (hat : (codeFrame firstLevel bytes)[h]? = some l) :
    (if (codeFrame .positive bytes)[h]? == some .positive then firstLevel else Level.flip firstLevel) = l := by
  obtain hf | hf := firstLevel_or <;> rw [hf] at hat ⊢
  · rw [hat]
    cases l with
    | quiet => exact absurd rfl hl
    | positive | negative => rfl
  · have hneg : codeFrame .negative bytes = (codeFrame .positive bytes).map Level.flip := codeFrame_flip .positive bytes
    rw [hneg, List.getElem?_map, Option.map_eq_some_iff] at hat
    obtain ⟨l', hl', rfl⟩ := hat
    rw [hl']
    cases l' with
    | quiet => exact absurd rfl hl
    | positive | negative => rfl

/-! ## Driving -/

section
variable {s : State} {x : SpanId}

theorem lineEnable_frame {start : Nat} {bytes : List Byte} (h : (s.span x).drive = .frame start bytes) : s.lineEnable x = true := by
  unfold State.lineEnable Span.driving
  rw [h]
  rfl

theorem lineEnable_jam {start : Nat} {onFirst : Bool} (h : (s.span x).drive = .jam start onFirst) : s.lineEnable x = true := by
  unfold State.lineEnable Span.driving
  rw [h]
  rfl

theorem transmitLevel_frame {start : Nat} {bytes : List Byte} (h : (s.span x).drive = .frame start bytes) :
    s.transmitLevel x = ((codeFrame firstLevel bytes)[halfCell start s.now]?).getD .quiet := by
  unfold State.transmitLevel
  simp only [lineEnable_frame h, h, Bool.true_eq_false, if_false]

/-- A jam begins with a transition from the level before it (R38). -/
theorem transmitLevel_jamStart {onFirst : Bool} (h : (s.span x).drive = .jam s.now onFirst) :
    s.transmitLevel x = Level.flip (if onFirst then firstLevel else Level.flip firstLevel) := by
  unfold State.transmitLevel
  simp only [lineEnable_jam h, h, Bool.true_eq_false, if_false, halfCell, Nat.sub_self, Nat.zero_div]
  rfl

end

/-! ## An event raised in a quiet state -/

/-- A command that raises one event of a span unit or another block but the door unit. -/
theorem answers_raise {c : Instr} {s u : State} {dt : Nat} {f : State → State} (h : exec c s = .next (s.run dt f)) {g : Nat} {e : Event}
    (hf : f (s.advance dt) = u.raise g e) (hu : u.raised = []) : Answers c s u [[e]] :=
  answers_group h g [e] e.ofDoorUnit (hf.trans (raise_of_quiet hu g e)) hu fun e' he' => by rw [List.mem_singleton.mp he']

/-! ## Jams (R38, R39) -/

/-- The span after the 8th failed attempt (R29, R39). -/
def Span.gaveUp (u : Span) (jamEnd : Nat) : Span :=
  { u with
    drive := .idle, busyUntil := jamEnd, deafUntil := jamEnd, lfsr := lfsrDraw u.lfsr, cur := none, attempt := 0
    sendFails := u.sendFails + 1, bucket := min 255 (u.bucket + 4) }

/-- The SEND_FAILED event (R170). -/
def sendFailed (s : State) (x : SpanId) (f : TxFrame) : Event :=
  { kind := 5, source := endCode x, position := byte s.table.own, detail := f.frame.kind.code
    value := ((s.span x).sendFails + 1).setWidth 32 }

section
variable {s : State} {dt start : Nat} {x : SpanId} {f : TxFrame}

theorem endJam_backoff {jamEnd : Nat} (hc : (s.span x).cur = some f) (ha : (s.span x).attempt < 8) :
    s.endJam x jamEnd = s.setSpan x { s.span x with
      drive := .idle, busyUntil := jamEnd, deafUntil := jamEnd, lfsr := lfsrDraw (s.span x).lfsr
      backoffEnd := some (jamEnd + (lfsrDraw (s.span x).lfsr).toNat % 16 * 64000) } := by
  unfold State.endJam State.startBackoff Span.draw
  simp only [hc, if_neg (Nat.not_le.mpr ha), setSpan_span, setSpan_setSpan]
  rfl

theorem endJam_giveUp {jamEnd : Nat} (hc : (s.span x).cur = some f) (ha : 8 ≤ (s.span x).attempt) :
    s.endJam x jamEnd = ((s.setSpan x ((s.span x).gaveUp jamEnd)).raise (spanSource x).toNat (sendFailed s x f)).tellLost .forwardLost f := by
  unfold State.endJam State.giveUp Span.draw
  simp only [hc, if_pos ha, setSpan_span, setSpan_setSpan, State.eventPosition, setSpan_table, spanSource_eq_endCode]
  rfl

theorem exec_jamEnd {onFirst : Bool} (hd : (s.span x).drive = .jam start onFirst) (hend : start + 16000 ≤ s.now + dt) {v : State}
    (hv : (s.advance dt).endJam x (start + 16000) = v) :
    ∃ g : State → State, exec (.jamEnd dt x) s = .next (s.run dt g) ∧ g (s.advance dt) = v := by
  refine ⟨_, rfl, ?_⟩
  simp only [advance_span, hd]
  rw [if_pos (show start + 8 * us ≤ (s.advance dt).now from hend)]
  exact hv

end

/-! ## The open order of a frame that was given up (R86) -/

theorem front_congr {s t : State} (hc : t.census = s.census) (ht : t.table = s.table) (hs : t.settings = s.settings) : t.front = s.front :=
  front_of_cars hc hs (by rw [ht]) (by rw [ht])

theorem upstream_congr {s t : State} (hc : t.census = s.census) (ht : t.table = s.table) (hs : t.settings = s.settings) :
    t.upstream = s.upstream := by
  unfold State.upstream
  rw [hc, front_congr hc ht hs]

theorem forwardedLost_other {s : State} {gen : Word16} {n : Byte} (why : StopReason)
    (h : ∀ o : OpenOrder, s.relay.openOrder = some o → ¬(o.gen = gen ∧ o.number = n)) : s.forwardedLost gen n why = s := by
  unfold State.forwardedLost
  cases ho : s.relay.openOrder with
  | none => rfl
  | some o => exact if_neg (h o ho)

/-- The ORDER_ACK with which a member ends its open order (R86, R120). -/
theorem forwardedLost_own {s : State} {o : OpenOrder} {up : SpanId} (why : StopReason) (ho : s.relay.openOrder = some o)
    (hup : s.upstream = some up) :
    s.forwardedLost o.gen o.number why = State.send { s with relay := { s.relay with openOrder := none } } up
      (orderAckAt s.table.own o.gen (ackOfOne o.number why.code o.own s.table.own)) := by
  have hup' : State.upstream { s with relay := { s.relay with openOrder := none } } = some up := hup
  have hack : addContribution 31 (emptyAck o.number why.code (byte s.table.own)) o.own s.table.own =
      ackOfOne o.number why.code o.own s.table.own := rfl
  unfold State.forwardedLost State.endOpenOrder State.startAck State.sendAck
  simp only [ho, and_self, if_true, hup', State.sendIf, hack]
  rfl

/-- Settles O24: a collision starts a jam, the jam ends in a backoff or in giving up, and a frame that ends is complete. -/
theorem attemptsEnd : Obligations.AttemptsEnd := by
  refine ⟨fun s dt start x hs => ?_, fun s dt start x bytes f hs hd hcur htag hend => ?_⟩
  case' refine_1 =>
    intro u now
    refine ⟨fun bytes sample h hd hnow hh => ?_, fun onFirst hd hend f hcur => ⟨fun ha => ?_, fun ha => ?_⟩, fun e he hend => ?_⟩
  case refine_1.refine_1 =>
    have hu : (s.advance dt).span x = u := advance_span _ _ _
    have hnow' : (s.advance dt).now = start + 1000 * h + 500 := hnow
    have hsampled : sampledAt start (s.advance dt).now bytes = true := by
      simp only [sampledAt, lineTime, hnow', Bool.and_eq_true, decide_eq_true_eq]
      omega
    have hhalf : halfCell start (s.advance dt).now = h := by rw [halfCell, hnow']; omega
    obtain ⟨l, hl⟩ : ∃ l, (codeFrame firstLevel bytes)[h]? = some l :=
      ⟨_, List.getElem?_eq_getElem (by rw [codeFrame_length]; omega)⟩
    have hlevel : (s.advance dt).transmitLevel x = l := by
      rw [transmitLevel_frame (by rw [hu]; exact hd), hhalf, hl]; rfl
    have hdriven : l ≠ .quiet := codeFrame_levels firstLevel_driven (List.mem_of_getElem? hl)
    refine ⟨fun hdiff => ⟨_, onFirstLevel start now bytes, exec_setSpan rfl hs ?_, rfl, ?_⟩, fun hsame => exec_settled rfl ?_ ((advance_settled s dt).trans hs)⟩
    · simp only [hu, hd]
      rw [if_pos ⟨hsampled, hdiff⟩]
      rfl
    · rw [transmitLevel_jamStart (by rw [setSpan_span, setSpan_now]; rfl), hlevel]
      refine congrArg Level.flip ?_
      rw [onFirstLevel, show halfCell start now = h from hhalf]
      exact jamLevel_eq hdriven bytes h hl
    · simp only [hu, hd]
      rw [if_neg (fun hboth => hboth.2 hsame)]
  case refine_1.refine_2 =>
    obtain ⟨g, hexec, hg⟩ := exec_jamEnd hd hend (endJam_backoff (s := s.advance dt) (by rw [advance_span]; exact hcur) (by rw [advance_span]; exact ha))
    rw [advance_span] at hg
    exact exec_setSpan hexec hs hg
  case refine_1.refine_3 =>
    intro v event
    have hquiet : v.raised = [] := by
      rw [show v = (s.advance dt).setSpan x (u.gaveUp (start + 16000)) from rfl, setSpan_raised]
      exact raised_of_settled ((advance_settled s dt).trans hs)
    have hgave : (s.advance dt).endJam x (start + 16000) = (v.raise (spanSource x).toNat event).tellLost .forwardLost f := by
      rw [endJam_giveUp (by rw [advance_span]; exact hcur) (by rw [advance_span]; exact ha), advance_span]
      rfl
    obtain ⟨g, hexec, hg⟩ := exec_jamEnd hd hend hgave
    refine ⟨fun htag => answers_raise (g := (spanSource x).toNat) hexec (hg.trans (by rw [State.tellLost, htag])) hquiet, fun gen n rxEnd dr late htag => ⟨fun hother => ?_,
      fun o up ho hgen hnum hup hne hsend hwf htrail => ?_⟩⟩
    · refine answers_raise (g := (spanSource x).toNat) hexec (hg.trans ?_) hquiet
      rw [State.tellLost, htag]
      exact forwardedLost_other _ (by simpa [v] using hother)
    · obtain ⟨y, hy⟩ : ∃ y, (v.raise (spanSource x).toNat event).tellLost .forwardLost f = y := ⟨_, rfl⟩
      have hspan : v.span up = s.span up := by rw [setSpan_span_ne _ _ _ _ hne, advance_span]
      have htable : (v.raise (spanSource x).toNat event).table = s.table := by rw [raise_table, setSpan_table]; rfl
      have hlost : y = State.send { v.raise (spanSource x).toNat event with relay := { s.relay with openOrder := none } } up
          (orderAckAt s.table.own gen (ackOfOne n 4 o.own s.table.own)) := by
        have hrelay : (v.raise (spanSource x).toNat event).relay = s.relay := by rw [raise_relay, setSpan_relay]; rfl
        have hupv : (v.raise (spanSource x).toNat event).upstream = some up := by
          rw [← hup]
          exact upstream_congr (by rw [raise_census, setSpan_census]; rfl) htable (by rw [raise_settings, setSpan_settings]; rfl)
        rw [← hy, State.tellLost, htag, ← hgen, ← hnum]
        simp only
        rw [forwardedLost_own .forwardLost (by rw [hrelay]; exact ho) hupv, hrelay, htable]
        rfl
      obtain ⟨base, hbase⟩ : ∃ base : State, base = { v.raise (spanSource x).toNat event with relay := { s.relay with openOrder := none } } := ⟨_, rfl⟩
      have bspan (z : SpanId) : base.span z = v.span z := by rw [hbase, ← raise_span v (spanSource x).toNat event z]; rfl
      rw [← hbase, send_room base up _ (by rw [bspan, hspan]; exact hsend.1) (by rw [bspan, hspan]; have := hsend.2; omega), bspan, hspan] at hlost
      refine ⟨_, exec_run hexec (hg.trans hy), ?_, ?_, ?_, ?_⟩
      · rw [settle_span, hlost, setSpan_span_ne _ _ _ _ (Ne.symm hne), bspan]
      · refine settle_recordedEvent (g := (spanSource x).toNat) ?_ ?_ ?_ ?_
        · rw [hlost, setSpan_trail, hbase]; exact (setSpan_trail _ _ _)
        · rw [hlost, setSpan_mem, hbase]; exact (congrArg Memory.wf (setSpan_mem _ _ _)).trans hwf
        · rw [hlost, setSpan_raised, hbase]
          change s.trail.held + (v.raise _ event).raised.length < 128
          rw [raise_raised, hquiet]
          exact Nat.lt_of_le_of_lt (Nat.add_le_add_right htrail _) (by rw [List.length_append, List.length_singleton]; decide)
        · rw [hlost, setSpan_raised, hbase]
          exact List.mem_append_right _ (List.mem_singleton.mpr rfl)
      · rw [settle_relay, hlost, setSpan_relay, hbase]
      · rw [waits, settle_span, hlost, setSpan_span]
        exact List.mem_append_right _ (List.mem_singleton.mpr rfl)
  case refine_1.refine_4 =>
    refine exec_setSpan rfl hs ?_
    rw [if_pos (show (s.advance dt).reached ((s.advance dt).span x).backoffEnd = true by
      rw [advance_span]; exact advance_reached (show (s.span x).backoffEnd = some e from he) hend), advance_span]
  case refine_2 =>
    intro u endAt
    refine exec_setSpan rfl hs ?_
    have hu : (s.advance dt).span x = u := advance_span _ _ _
    have htell (t : State) : t.tellCompleted f start = t := by
      unfold State.tellCompleted
      split
      case h_3 n hn => exact absurd hn (htag n)
      all_goals rfl
    simp only [hu, u, hd, hcur]
    rw [if_pos (show start + lineTime bytes ≤ (s.advance dt).now from hend), State.completeFrame, htell, hu]
    rfl

end Sys2Proof.Machine

/-!
Demand, its lease, the grant hold and FAULT_CLEAR of the heating (R130 to R132, R141, R150): O45.
-/

namespace Sys2Proof.Machine

section
variable {s t : State}

theorem demand_congr (hh : t.heat = s.heat) (hs : t.settings = s.settings) : t.demand = s.demand := by
  unfold State.demand
  rw [hh, hs]

theorem cap_congr (hh : t.heat = s.heat) (hs : t.settings = s.settings) : t.cap = s.cap := by
  unfold State.cap
  rw [hh, hs]

theorem capacity_congr (hs : t.settings = s.settings) : t.capacity = s.capacity := by
  unfold State.capacity
  rw [hs]

theorem leff_congr (hh : t.heat.supply = s.heat.supply) (hm : t.mon = s.mon) : t.leff = s.leff := by
  unfold State.leff
  rw [hh, hm]

end

theorem zip_mul_total (a b : Stages Nat) : (Stages.zip (· * ·) a b).total = weighted a b := rfl

/-- The demand by cap state (R130). -/
theorem demand_eq (s : State) : s.demand =
    if s.heat.cap = .stopped ∨ s.heat.cap = .faulted then 0 else (weighted s.settings.ratings s.heat.onTimes + 255) / 256 := by
  unfold State.demand
  cases hc : s.heat.cap with
  | stopped | faulted => simp
  | granted | fallback => simp only [reduceCtorEq, or_self, if_false, demandOf, zip_mul_total]

/-- A change of the cap state out of FAULTED or GRANTED into FALLBACK, as the step's one event (R144). -/
theorem setCap_fallback {s : State} {old : CapState} (cause : CapCause) (hq : s.raised = []) (hc : s.heat.cap = old) (ho : old ≠ .fallback) :
    s.setCap .fallback cause = { s with
      heat := { s.heat with cap := .fallback, holdEnd := none }
      raised := [heatEvent s .fallback old cause.code s.settings.ceiling].map fun e => { group := heatGroup, event := e } } := by
  unfold State.setCap
  simp only [hc]
  rw [if_neg ho, raise_of_quiet (by exact hq)]
  rfl

theorem complete_withRaised (s : State) (l : List Raised) (k : Nat) (o : SlotOutcome) (d : Byte) (r : List Byte) :
    State.complete { s with raised := l } k o d r = { s.complete k o d r with raised := l } := rfl

section
variable {u : State} {r : Request}

theorem faultClearHeating_faulted (hq : u.raised = []) (h : u.heat.cap = .faulted) : u.faultClearHeating r =
    { State.complete { u with heat := { u.heat with cap := .fallback, holdEnd := none }, fire := { u.fire with overdraw := 0 } } r.slot .ok 0
        ([2] ++ le16 (word16 u.settings.ceiling) ++ [0]) with
      raised := [heatEvent u .fallback .faulted 6 u.settings.ceiling].map fun e => { group := heatGroup, event := e } } := by
  unfold State.faultClearHeating
  simp only
  rw [if_pos h, setCap_fallback (s := { u with fire := { u.fire with overdraw := 0 } }) .cleared hq h nofun]
  exact complete_withRaised { u with heat := { u.heat with cap := .fallback, holdEnd := none }, fire := { u.fire with overdraw := 0 } } _
    r.slot .ok 0 _

theorem faultClearHeating_other (h : u.heat.cap ≠ .faulted) : u.faultClearHeating r =
    u.complete r.slot .refusedState u.heat.cap.code ([u.heat.cap.code] ++ le16 (word16 u.cap) ++ [byte u.fire.overdraw]) := by
  unfold State.faultClearHeating
  simp only
  rw [if_neg h]

end

/-- Settles O45: demand, its lease, the grant hold and the fault clear act on the heating record (R130 to R132, R141, R144, R150). -/
theorem demandAndCapStates : Obligations.DemandAndCapStates := by
  refine ⟨⟨fun s dt r rest hs hwf hk ht => ?_, fun s dt e hs he hend => ?_, demand_eq⟩, fun s dt hs hwf => ⟨fun e hcap he hend => ?_, fun r rest ht => ?_⟩⟩
  case refine_1 =>
    intro on
    obtain ⟨w, hw⟩ : ∃ w : State, w = { s.advance dt with
      req := { s.req with handed := rest }
      heat := { s.heat with source := .request, onTimes := on, leaseEnd := some (s.now + dt + 20000000000) } } := ⟨_, rfl⟩
    have hserve : State.heatDemand { s.advance dt with req := { s.req with handed := rest } } r =
        w.complete r.slot .ok 0 (le16 (word16 w.demand) ++ [w.heat.cap.code] ++ le16 (word16 w.cap) ++ le16 (word16 w.capacity)) := by
      rw [hw]; rfl
    have hans := settle_complete_answered (s := w) (o := .ok) (d := 0)
      (r := le16 (word16 w.demand) ++ [w.heat.cap.code] ++ le16 (word16 w.cap) ++ le16 (word16 w.capacity)) (by rw [hw]; exact hwf) hk (by simp [le16])
    obtain ⟨t, htdef⟩ : ∃ t : State, (w.complete r.slot .ok 0
      (le16 (word16 w.demand) ++ [w.heat.cap.code] ++ le16 (word16 w.cap) ++ le16 (word16 w.capacity))).settle = t := ⟨_, rfl⟩
    have theat : t.heat = w.heat := by rw [← htdef, settle_heat, complete_heat]
    have tset : t.settings = w.settings := by rw [← htdef, settle_settings, complete_settings]
    rw [htdef] at hans
    refine ⟨t, (exec_serve (f := fun r u => u.heatDemand r) rfl ht hserve).trans (by rw [htdef]), by rw [theat, hw], ?_⟩
    rw [demand_congr theat tset, cap_congr theat tset, capacity_congr tset, theat]
    exact hans
  case refine_2 =>
    refine answers_quiet rfl ?_ (show s.raised = [] from raised_of_settled hs)
    rw [if_pos (show (s.advance dt).reached (s.advance dt).heat.leaseEnd = true from advance_reached he hend)]
    rfl
  case refine_3 =>
    refine answers_group rfl heatGroup _ false ?_ (show s.raised = [] from raised_of_settled hs) fun e' he' => ?_
    · rw [if_pos ⟨hcap, show (s.advance dt).reached (s.advance dt).heat.holdEnd = true from advance_reached he hend⟩]
      exact setCap_fallback .holdRanOut (show s.raised = [] from raised_of_settled hs) hcap nofun
    · rw [List.mem_singleton.mp he']
      rfl
  case refine_4 =>
    intro u
    have hserve := serve_some (s.advance dt) (fun r => r.kind == .faultClear && r.param 0 == 3) (fun r u => u.faultClearHeating r) r rest ht
    refine ⟨fun hcap => ?_, fun hcap => ?_⟩
    · refine answers_group rfl heatGroup _ false (hserve.trans ?_) (complete_raised _ _ _ _ _ |>.trans (show s.raised = [] from raised_of_settled hs)) fun e' he' => ?_
      · exact faultClearHeating_faulted (u := u) (show s.raised = [] from raised_of_settled hs) hcap
      · rw [List.mem_singleton.mp he']
        rfl
    · exact exec_settled rfl (hserve.trans (faultClearHeating_other (u := u) hcap)) (complete_settled _ _ _ _ hs)

end Sys2Proof.Machine

/-!
The train door summary of the lead (R125 to R127): O44.
-/

namespace Sys2Proof.Machine

theorem singleCar_iff (s : State) : s.singleCar = true ↔
    s.census.role = .lead ∧ (s.census.state = .valid ∨ s.census.state = .stale) ∧ s.table.records.length = 1 := by
  unfold State.singleCar State.n
  simp only [Bool.and_eq_true, beq_iff_eq, and_assoc]
  cases s.census.state <;> simp [CensusState.listed]

/-- A train side is proven exactly by a fresh roll of the whole consist that proves it, with the lead's own (R126). -/
theorem summaryReason_zero (s : State) (own : Bool) (p : HeldRoll → Bool) : summaryReason s own p = 0 ↔
    ∃ h : HeldRoll, s.door.held = some h ∧ s.door.aged = false ∧ h.contributors + 1 = s.n ∧ p h = true ∧ own = true := by
  unfold summaryReason
  cases s.door.held with
  | none => simp
  | some h =>
    simp only [Option.some.injEq, exists_eq_left']
    by_cases ha : s.door.aged = true
    · simp [ha]
    · rw [if_neg ha]
      by_cases hn : h.contributors + 1 = s.n
      · rw [if_neg (not_not.mpr hn)]
        cases p h <;> cases own <;> simp [hn, ha]
      · rw [if_pos hn]
        simp [hn]

theorem summaryNow_lead {s : State} (hr : s.census.role = .lead) :
    s.summaryNow.left = ((if s.singleCar then (if s.provenLeft then 0 else 5) else summaryReason s s.provenLeft (fun r => r.left)) == (0 : Byte)) ∧
    s.summaryNow.right = ((if s.singleCar then (if s.provenRight then 0 else 5) else summaryReason s s.provenRight (fun r => r.right)) == (0 : Byte)) := by
  unfold State.summaryNow
  rw [if_neg (by rw [hr]; nofun)]
  exact ⟨rfl, rfl⟩

theorem reason_proven (b : Bool) : ((if b then (0 : Byte) else 5) == 0) = b := by cases b <;> rfl

/-- Settles O44: the summary at the end of a step follows the held roll and the lead's own sides (R125 to R127). -/
theorem summaryNeedsFreshWholeRoll : Obligations.SummaryNeedsFreshWholeRoll := by
  have hnow {s : State} (hs : s.settled = true) : s.door.summary = s.summaryNow := ((settled_iff s).mp hs).2.2.2.2.2
  refine ⟨fun s dt e hs he hend => ?_, fun s hs hr hmany => ?_, fun s hs hr hl hone => ?_, fun s hs hr => ?_⟩
  · refine answers_quiet rfl ?_ (show s.raised = [] from raised_of_settled hs)
    rw [if_pos (show (s.advance dt).reached (s.advance dt).door.rollAgeEnd = true from advance_reached he hend)]
    rfl
  · have hsingle : ¬ s.singleCar = true := fun h => hmany ((singleCar_iff s).mp h).2
    obtain ⟨hleft, hright⟩ := summaryNow_lead hr
    rw [hnow hs, hleft, hright, if_neg hsingle, if_neg hsingle, beq_iff_eq, beq_iff_eq]
    exact ⟨summaryReason_zero s _ _, summaryReason_zero s _ _⟩
  · have hsingle : s.singleCar = true := (singleCar_iff s).mpr ⟨hr, hl, hone⟩
    obtain ⟨hleft, hright⟩ := summaryNow_lead hr
    rw [hnow hs, hleft, hright, if_pos hsingle, if_pos hsingle]
    exact ⟨reason_proven _, reason_proven _⟩
  · rw [hnow hs]
    exact if_pos hr

end Sys2Proof.Machine

/-!
The effective limit and the division of an allocation (R136 to R138): O47.
-/

namespace Sys2Proof.Machine

/-! ## The effective limit (R136) -/

theorem effectiveLimit_cases (p : Supply) (v : Nat) (h : p.cut < p.shed) :
    (p.on = false → effectiveLimit p v = 0) ∧ (p.on = true → p.shed ≤ v → effectiveLimit p v = p.limit) ∧
    (p.on = true → v ≤ p.cut → effectiveLimit p v = 0) ∧
    (p.on = true → p.cut < v → v < p.shed → effectiveLimit p v = p.limit * (v - p.cut) / (p.shed - p.cut) ∧
      effectiveLimit p v ≤ p.limit) := by
  unfold effectiveLimit
  refine ⟨fun ho => if_pos ho, fun ho hv => ?_, fun ho hv => ?_, fun ho hc hv => ?_⟩
  · rw [if_neg (by simp [ho]), if_pos hv]
  · rw [if_neg (by simp [ho]), if_neg (by omega), if_pos hv]
  · rw [if_neg (by simp [ho]), if_neg (by omega), if_neg (by omega)]
    exact ⟨rfl, Nat.div_le_of_le_mul (by rw [Nat.mul_comm]; exact Nat.mul_le_mul_right _ (by omega))⟩

/-! ## The entries (R137) -/

theorem mem_insertEntry (e x : Nat × Nat) (l : List (Nat × Nat)) : x ∈ insertEntry e l ↔ x = e ∨ x ∈ l := by
  induction l with
  | nil => simp [insertEntry]
  | cons y l ih =>
    unfold insertEntry
    split
    · simp
    · simp only [List.mem_cons, ih]
      tauto

theorem insertEntry_sorted (e : Nat × Nat) {l : List (Nat × Nat)} (h : l.Pairwise fun a b => a.1 ≤ b.1) :
    (insertEntry e l).Pairwise fun a b => a.1 ≤ b.1 := by
  induction l with
  | nil => exact List.pairwise_singleton _ _
  | cons y l ih =>
    obtain ⟨hy, hl⟩ := List.pairwise_cons.mp h
    unfold insertEntry
    split
    next hle =>
      refine List.pairwise_cons.mpr ⟨fun b hb => ?_, h⟩
      obtain rfl | hb := List.mem_cons.mp hb
      exacts [hle, hle.trans (hy b hb)]
    next hgt =>
      refine List.pairwise_cons.mpr ⟨fun b hb => ?_, ih hl⟩
      obtain rfl | hb := (mem_insertEntry e b l).mp hb
      exacts [by omega, hy b hb]

theorem foldr_insertEntry (l : List (Nat × Nat)) : (l.foldr insertEntry []).Pairwise (fun a b => a.1 ≤ b.1) ∧
    ∀ x, x ∈ l.foldr insertEntry [] ↔ x ∈ l := by
  induction l with
  | nil => exact ⟨List.Pairwise.nil, fun x => Iff.rfl⟩
  | cons e l ih =>
    refine ⟨insertEntry_sorted e ih.1, fun x => ?_⟩
    rw [List.foldr_cons, mem_insertEntry, ih.2, List.mem_cons]

/-! ## The water level (R138) -/

theorem sumAtLevel_cons (d : Nat) (ds : List Nat) (level : Nat) : sumAtLevel (d :: ds) level = min d level + sumAtLevel ds level := rfl

theorem sumAtLevel_zero (ds : List Nat) : sumAtLevel ds 0 = 0 := by
  induction ds with
  | nil => rfl
  | cons d ds ih => rw [sumAtLevel_cons, ih]; omega

/-- How many demands are above a level. -/
def countAbove (ds : List Nat) (level : Nat) : Nat := (ds.filter fun d => decide (level < d)).length

theorem countAbove_cons (d : Nat) (ds : List Nat) (level : Nat) :
    countAbove (d :: ds) level = (if level < d then 1 else 0) + countAbove ds level := by
  unfold countAbove
  rw [List.filter_cons]
  by_cases h : level < d
  · rw [if_pos (decide_eq_true h), if_pos h, List.length_cons, Nat.add_comm]
  · rw [if_neg (by simpa using h), if_neg h, Nat.zero_add]

/-- One more level costs one dA for each demand above it. -/
theorem sumAtLevel_succ (ds : List Nat) (level : Nat) : sumAtLevel ds (level + 1) = sumAtLevel ds level + countAbove ds level := by
  induction ds with
  | nil => rfl
  | cons d ds ih =>
    rw [sumAtLevel_cons, sumAtLevel_cons, countAbove_cons, ih]
    split <;> omega

theorem le_foldl_max (ds : List Nat) (b : Nat) : b ≤ ds.foldl max b ∧ ∀ d ∈ ds, d ≤ ds.foldl max b := by
  induction ds generalizing b with
  | nil => exact ⟨Nat.le_refl _, nofun⟩
  | cons d ds ih =>
    obtain ⟨h1, h2⟩ := ih (max b d)
    rw [List.foldl_cons]
    refine ⟨by omega, fun e he => ?_⟩
    obtain rfl | he := List.mem_cons.mp he
    exacts [by omega, h2 e he]

theorem sumAtLevel_top {ds : List Nat} {level : Nat} (h : ∀ d ∈ ds, d ≤ level) : sumAtLevel ds level = ds.sum := by
  induction ds with
  | nil => rfl
  | cons d ds ih =>
    rw [sumAtLevel_cons, List.sum_cons, ih fun e he => h e (List.mem_cons_of_mem _ he), Nat.min_eq_left (h d List.mem_cons_self)]

/-- The water level fits, and no level up to `top` above it does. -/
theorem waterLevel_greatest (ds : List Nat) (leff : Nat) : ∀ top, sumAtLevel ds (waterLevel ds leff top) ≤ leff ∧
    ∀ level, level ≤ top → sumAtLevel ds level ≤ leff → level ≤ waterLevel ds leff top
  | 0 => ⟨by rw [waterLevel, sumAtLevel_zero]; exact Nat.zero_le _, fun level h _ => h⟩
  | k + 1 => by
    rw [waterLevel]
    split
    next h => exact ⟨h, fun level hl _ => hl⟩
    next h =>
      obtain ⟨hfits, hmax⟩ := waterLevel_greatest ds leff k
      refine ⟨hfits, fun level hl hs => hmax level ?_ hs⟩
      obtain hl | rfl := Nat.lt_or_eq_of_le hl
      exacts [by omega, absurd hs h]

section
variable {ds : List Nat} {leff : Nat} (hover : leff < ds.sum)
include hover

/-- When the demands do not all fit, no level above the water level fits at all. -/
theorem waterLevel_max (level : Nat) (h : sumAtLevel ds level ≤ leff) : level ≤ waterLevel ds leff (maxOf ds) := by
  by_cases htop : level ≤ maxOf ds
  · exact (waterLevel_greatest ds leff _).2 level htop h
  · rw [sumAtLevel_top fun d hd => ((le_foldl_max ds 0).2 d hd).trans (by unfold maxOf at htop; omega)] at h
    omega

/-- The remainder is less than the demands above the water level. -/
theorem remainder_lt : leff - sumAtLevel ds (waterLevel ds leff (maxOf ds)) < countAbove ds (waterLevel ds leff (maxOf ds)) := by
  by_contra hge
  have hfits := (waterLevel_greatest ds leff (maxOf ds)).1
  have hmax := waterLevel_max hover (waterLevel ds leff (maxOf ds) + 1)
  rw [sumAtLevel_succ] at hmax
  omega

end

/-! ## The shares (R138) -/

section
variable (level : Nat)

theorem handOut_entries : ∀ (r : Nat) (es : List (Nat × Nat)), (handOut level r es).map (fun x => (x.position, x.demand)) = es
  | _, [] => rfl
  | r, (p, d) :: rest => by
    unfold handOut
    split <;> rw [List.map_cons, handOut_entries]

theorem handOut_grants : ∀ (r : Nat) (es : List (Nat × Nat)), ∀ x ∈ handOut level r es,
    x.grant = min x.demand level ∨ (level < x.demand ∧ x.grant = level + 1)
  | _, [], x, hx => by simp [handOut] at hx
  | r, (p, d) :: rest, x, hx => by
    unfold handOut at hx
    split at hx
    next h =>
      obtain rfl | hx := List.mem_cons.mp hx
      exacts [.inr ⟨h.1, rfl⟩, handOut_grants _ rest x hx]
    next h =>
      obtain rfl | hx := List.mem_cons.mp hx
      exacts [.inl rfl, handOut_grants _ rest x hx]

theorem handOut_sum : ∀ (r : Nat) (es : List (Nat × Nat)), r ≤ countAbove (es.map fun e => e.2) level →
    ((handOut level r es).map fun x => x.grant).sum = sumAtLevel (es.map fun e => e.2) level + r
  | r, [], h => by
    obtain rfl : r = 0 := Nat.le_zero.mp h
    rfl
  | r, (p, d) :: rest, h => by
    rw [List.map_cons, countAbove_cons] at h
    rw [List.map_cons, sumAtLevel_cons]
    unfold handOut
    split
    next hc =>
      rw [if_pos hc.1] at h
      rw [List.map_cons, List.sum_cons, handOut_sum (r - 1) rest (by omega)]
      have := hc.1
      simp only
      omega
    next hc =>
      rw [List.map_cons, List.sum_cons, handOut_sum r rest (by split at h <;> omega)]
      simp only
      omega

/-- The shares above the level: one more dA for as many as the remainder has, the level for the others. -/
theorem handOut_above : ∀ (r : Nat) (es : List (Nat × Nat)), r ≤ countAbove (es.map fun e => e.2) level →
    ((handOut level r es).filter fun x => decide (level < x.demand)).map (fun x => x.grant) =
      List.replicate r (level + 1) ++ List.replicate (((handOut level r es).filter fun x => decide (level < x.demand)).length - r) level
  | r, [], h => by
    obtain rfl : r = 0 := Nat.le_zero.mp h
    rfl
  | r, (p, d) :: rest, h => by
    rw [List.map_cons, countAbove_cons] at h
    unfold handOut
    split
    next hc =>
      rw [if_pos hc.1] at h
      obtain ⟨q, rfl⟩ : ∃ q, r = q + 1 := ⟨r - 1, by omega⟩
      rw [List.filter_cons_of_pos (p := fun x : Share => decide (level < x.demand)) (decide_eq_true hc.1), List.map_cons, Nat.add_sub_cancel, handOut_above q rest (by omega),
        List.length_cons, Nat.add_sub_add_right]
      rfl
    next hc =>
      by_cases hd : level < d
      · obtain rfl : r = 0 := by omega
        rw [List.filter_cons_of_pos (p := fun x : Share => decide (level < x.demand)) (decide_eq_true hd), List.map_cons, handOut_above 0 rest (Nat.zero_le _), List.length_cons,
          Nat.sub_zero, Nat.sub_zero, List.replicate_succ]
        simp only [List.replicate_zero, List.nil_append, Nat.min_eq_right hd.le]
      · rw [if_neg hd] at h
        rw [List.filter_cons_of_neg (p := fun x : Share => decide (level < x.demand)) (by simpa using hd), handOut_above r rest (by omega)]

end

/-! ## The division (R138) -/

/-- The entries with their demands clamped. -/
def clamped (entries : List (Nat × Nat)) : List (Nat × Nat) := entries.map fun e => (e.1, min e.2 4000)

theorem clamped_demands (entries : List (Nat × Nat)) : (clamped entries).map (fun e => e.2) = entries.map fun e => min e.2 4000 := by
  simp [clamped]

theorem sumAtLevel_clamped (entries : List (Nat × Nat)) (level : Nat) :
    sumAtLevel (entries.map fun e => min e.2 4000) level = (entries.map fun e => min (min e.2 4000) level).sum := by
  simp [sumAtLevel, Function.comp_def]

section
variable {leff : Nat} {entries : List (Nat × Nat)}

theorem divide_covered (h : (entries.map fun e => min e.2 4000).sum ≤ leff) : divide leff entries =
    { level := 0, remainder := 0, shares := (clamped entries).map fun e => { position := e.1, demand := e.2, grant := e.2 } } := by
  unfold divide
  rw [← clamped_demands] at h
  exact if_pos h

theorem divide_short (h : leff < (entries.map fun e => min e.2 4000).sum) :
    ∃ level, level = waterLevel (entries.map fun e => min e.2 4000) leff (maxOf (entries.map fun e => min e.2 4000)) ∧
      divide leff entries =
        { level := level, remainder := leff - sumAtLevel (entries.map fun e => min e.2 4000) level
          shares := handOut level (leff - sumAtLevel (entries.map fun e => min e.2 4000) level) (clamped entries) } := by
  refine ⟨_, rfl, ?_⟩
  rw [← clamped_demands] at h ⊢
  unfold divide
  exact if_neg (Nat.not_le.mpr h)

theorem grantAt_none {shares : List Share} {p : Nat} (h : ∀ x ∈ shares, x.position ≠ p) : grantAt shares p = 0 := by
  unfold grantAt
  rw [List.find?_eq_none.mpr fun x hx => by simpa using h x hx]

theorem divide_entries (leff : Nat) (entries : List (Nat × Nat)) :
    (divide leff entries).shares.map (fun x => (x.position, x.demand)) = clamped entries := by
  by_cases h : (entries.map fun e => min e.2 4000).sum ≤ leff
  · rw [divide_covered h, List.map_map]
    exact List.map_id _
  · obtain ⟨level, -, hd⟩ := divide_short (Nat.lt_of_not_le h)
    rw [hd]
    exact handOut_entries _ _ _

end

/-- Settles O47: the effective limit, the entries and the division of an allocation (R136 to R138). -/
theorem allocationDividesLimit : Obligations.AllocationDividesLimit := by
  refine ⟨fun p v h => effectiveLimit_cases p v h, fun n own list => ?_, fun leff entries => ?_⟩
  · obtain ⟨hsorted, hmem⟩ := foldr_insertEntry (((1, own) :: list).filter fun e => decide (1 ≤ e.1) && decide (e.1 ≤ n))
    refine ⟨hsorted, fun e => (hmem e).trans ?_⟩
    simp only [List.mem_filter, List.mem_cons, Bool.and_eq_true, decide_eq_true_eq]
  intro d total
  have hentries : d.shares.map (fun x => (x.position, x.demand)) = clamped entries := divide_entries leff entries
  have hle : ∀ x ∈ d.shares, x.grant ≤ x.demand := fun x hx => (divide_share_le leff entries x hx).1
  have hnone (p : Nat) (h : ∀ e ∈ entries, e.1 ≠ p) : grantAt d.shares p = 0 := by
    refine grantAt_none fun x hx => ?_
    have hin := List.mem_map_of_mem (f := fun x : Share => (x.position, x.demand)) hx
    rw [hentries] at hin
    obtain ⟨e, he, heq⟩ := List.mem_map.mp hin
    exact fun hp => h e he ((Prod.mk.inj heq).1.trans hp)
  by_cases hcover : total ≤ leff
  · have hd : d = _ := divide_covered hcover
    refine ⟨?_, hentries, hle, hnone, fun _ x hx => ?_, fun h => absurd hcover (Nat.not_le.mpr h)⟩
    · rw [Nat.min_eq_right hcover, hd, List.map_map]
      exact congrArg List.sum (clamped_demands entries)
    · rw [hd] at hx
      obtain ⟨e, -, rfl⟩ := List.mem_map.mp hx
      rfl
  · have hover : leff < total := Nat.lt_of_not_le hcover
    obtain ⟨level, hlevel, hd⟩ := divide_short hover
    have hdl : d.level = level := congrArg Division.level hd
    have hds : d.shares = _ := congrArg Division.shares hd
    have hfits := (waterLevel_greatest (entries.map fun e => min e.2 4000) leff (maxOf (entries.map fun e => min e.2 4000))).1
    have hrem := remainder_lt hover
    rw [← hlevel] at hfits hrem
    have hroom : leff - sumAtLevel (entries.map fun e => min e.2 4000) level ≤ countAbove ((clamped entries).map fun e => e.2) level := by
      rw [clamped_demands]; exact hrem.le
    refine ⟨?_, hentries, hle, hnone, fun h => absurd h hcover, fun _ => ⟨?_, fun l hl => ?_, fun x hx => ?_, ?_, ?_⟩⟩
    · rw [hds, handOut_sum level _ _ hroom, clamped_demands, Nat.min_eq_left hover.le]
      omega
    · rw [hdl, ← sumAtLevel_clamped]
      exact hfits
    · rw [← sumAtLevel_clamped] at hl
      rw [hdl, hlevel]
      exact waterLevel_max hover l hl
    · rw [hds] at hx
      rw [hdl]
      exact handOut_grants level _ _ x hx
    · rw [hdl, ← sumAtLevel_clamped]
      exact congrArg Division.remainder hd
    · rw [hdl, show d.remainder = _ from congrArg Division.remainder hd, hds]
      exact handOut_above level _ _ hroom

end Sys2Proof.Machine

/-!
What the operations of the engine, the relay and the heating share unit offer to the transmit queues, and the events they raise.
-/

namespace Sys2Proof.Machine

/-! ## Frames offered and events raised -/

theorem depth_append (u : Span) (l : List TxFrame) : Span.depth { u with txq := u.txq ++ l } = u.depth + l.length := by
  simp only [Span.depth, List.length_append]
  omega

/-- On the way from `s` to `t` each UP span is offered at most `n` frames, which join its queue while that has room, and at most
`m` events are raised. -/
structure Emits (n m : Nat) (s t : State) : Prop where
  queue : ∀ x, (s.span x).state = .up → (s.span x).depth + n ≤ 8 →
    ∃ more : List TxFrame, more.length ≤ n ∧ t.span x = { s.span x with txq := (s.span x).txq ++ more }
  events : Raises m s t

section
variable {n m n' m' : Nat} {s t u : State}

theorem Emits.of_same (hspan : ∀ x, t.span x = s.span x) (hr : t.raised = s.raised) : Emits 0 0 s t :=
  ⟨fun x _ _ => ⟨[], Nat.le_refl _, by rw [hspan, List.append_nil]⟩, .of_same hr⟩

theorem Emits.refl (s : State) : Emits 0 0 s s := .of_same (fun _ => rfl) rfl

theorem Emits.trans (h : Emits n m s t) (h' : Emits n' m' t u) : Emits (n + n') (m + m') s u := by
  refine ⟨fun x hup hroom => ?_, h.events.trans h'.events⟩
  obtain ⟨l, hl, ht⟩ := h.queue x hup (by omega)
  have hroom' : (t.span x).depth + n' ≤ 8 := by
    rw [ht, depth_append]
    omega
  obtain ⟨l', hl', hu⟩ := h'.queue x (by rw [ht]; exact hup) hroom'
  exact ⟨l ++ l', by rw [List.length_append]; omega, by rw [hu, ht, List.append_assoc]⟩

theorem Emits.mono (h : Emits n m s t) (hn : n ≤ n') (hm : m ≤ m') : Emits n' m' s t := by
  refine ⟨fun x hup hroom => ?_, h.events.mono hm⟩
  obtain ⟨l, hl, ht⟩ := h.queue x hup (by omega)
  exact ⟨l, by omega, ht⟩

/-- An operation that leaves the spans and the events alone. -/
theorem Emits.of_touches {P : List Part} (h : Touches P s t) (ha : Part.spanA ∉ P := by decide) (hb : Part.spanB ∉ P := by decide)
    (hc : Part.choices ∉ P := by decide) : Emits 0 0 s t := by
  refine .of_same (fun x => ?_) (h _ hc).2
  cases x
  exacts [(h _ ha).1, (h _ hb).1]

/-- A branch that may do nothing. -/
theorem Emits.ite {p : Prop} [Decidable p] {t u : State} (h : Emits n m s t) (h' : Emits n m s u) : Emits n m s (if p then t else u) := by
  split
  exacts [h, h']

theorem Emits.nothing (s : State) : Emits n m s s := (Emits.refl s).mono (Nat.zero_le _) (Nat.zero_le _)

/-- A frame that waits goes on waiting while the queue has room for what is offered (R32). -/
theorem Emits.waits {x : SpanId} {f : Frame} (h : Emits n m s t) (hup : (s.span x).state = .up) (hroom : (s.span x).depth + n ≤ 8)
    (hw : waits s x f) : Machine.waits t x f := by
  obtain ⟨l, -, ht⟩ := h.queue x hup hroom
  unfold Machine.waits
  rw [ht]
  exact List.mem_append_left _ hw

theorem Emits.up {x : SpanId} (h : Emits n m s t) (hup : (s.span x).state = .up) (hroom : (s.span x).depth + n ≤ 8) :
    (t.span x).state = .up ∧ (t.span x).depth ≤ (s.span x).depth + n := by
  obtain ⟨l, hl, ht⟩ := h.queue x hup hroom
  rw [ht]
  exact ⟨hup, by rw [depth_append]; omega⟩

end

theorem waits_settle {t : State} {x : SpanId} {f : Frame} (h : waits t x f) : waits t.settle x f := by
  unfold waits
  rw [settle_span]
  exact h

/-! ## Single operations -/

section
variable (s : State)

theorem emits_raise (g : Nat) (e : Event) : Emits 0 1 s (s.raise g e) :=
  ⟨fun x _ _ => ⟨[], Nat.le_refl _, by rw [raise_span, List.append_nil]⟩, raises_raise s g e⟩

theorem queueDrop_raises (x : SpanId) (k : FrameKind) : Raises 1 s (s.queueDrop x k) :=
  ⟨[_], Nat.le_refl _, by unfold State.queueDrop; rw [raise_raised, setSpan_raised]⟩

theorem raises_offer (x : SpanId) (f : TxFrame) : Raises 1 s (s.offer x f).1 := by
  unfold State.offer
  simp only
  split
  · exact (Raises.of_same rfl).mono (Nat.zero_le _)
  · split
    · exact (Raises.of_same (setSpan_raised _ _ _)).mono (Nat.zero_le _)
    · split
      · split
        · exact ((Raises.of_same (setSpan_raised _ _ _)).trans (queueDrop_raises _ x _)).mono (Nat.le_refl _)
        · exact queueDrop_raises s x _
      · exact queueDrop_raises s x _

theorem emits_offer (x : SpanId) (f : TxFrame) : Emits 1 1 s (s.offer x f).1 := by
  refine ⟨fun y hup hroom => ?_, raises_offer s x f⟩
  by_cases hy : y = x
  · subst hy
    refine ⟨[f], Nat.le_refl _, ?_⟩
    rw [offer_room s y f hup (by omega), setSpan_span]
  · refine ⟨[], Nat.zero_le _, ?_⟩
    have hspan : (s.offer x f).1.span y = s.span y := by
      rw [offer_keeps]
      exact setSpan_span_ne s x y _ hy
    rw [hspan, List.append_nil]

theorem emits_send (x : SpanId) (f : Frame) : Emits 1 1 s (s.send x f) := emits_offer s x _

theorem emits_sendIf (x : Option SpanId) (f : Frame) : Emits 1 1 s (s.sendIf x f) := by
  cases x
  exacts [.nothing s, emits_send s _ f]

@[simp] theorem send_heat (x : SpanId) (f : Frame) : (s.send x f).heat = s.heat := by
  unfold State.send
  rw [offer_keeps]
  exact setSpan_heat _ _ _

@[simp] theorem send_table (x : SpanId) (f : Frame) : (s.send x f).table = s.table := by
  unfold State.send
  rw [offer_keeps]
  exact setSpan_table _ _ _

@[simp] theorem send_relay (x : SpanId) (f : Frame) : (s.send x f).relay = s.relay := by
  unfold State.send
  rw [offer_keeps]
  exact setSpan_relay _ _ _

@[simp] theorem send_door (x : SpanId) (f : Frame) : (s.send x f).door = s.door := by
  unfold State.send
  rw [offer_keeps]
  exact setSpan_door _ _ _

@[simp] theorem send_mem (x : SpanId) (f : Frame) : (s.send x f).mem = s.mem := by
  unfold State.send
  rw [offer_keeps]
  exact setSpan_mem _ _ _

@[simp] theorem send_trail (x : SpanId) (f : Frame) : (s.send x f).trail = s.trail := by
  unfold State.send
  rw [offer_keeps]
  exact setSpan_trail _ _ _

@[simp] theorem send_mon (x : SpanId) (f : Frame) : (s.send x f).mon = s.mon := by
  unfold State.send
  rw [offer_keeps]
  exact setSpan_mon _ _ _

/-- A frame offered to an UP span with room waits there (R32). -/
theorem waits_send {x : SpanId} (f : Frame) (hup : (s.span x).state = .up) (hroom : (s.span x).depth < 8) : waits (s.send x f) x f := by
  unfold waits
  rw [send_room s x f hup hroom, setSpan_span]
  exact List.mem_append_right _ (List.mem_singleton.mpr rfl)

theorem emits_setCap (new : CapState) (cause : CapCause) : Emits 0 1 s (s.setCap new cause) := by
  unfold State.setCap
  simp only
  split
  · exact (Emits.of_touches (touches_heat s _)).mono (Nat.le_refl _) (Nat.zero_le _)
  · exact (Emits.of_touches (touches_heat s _)).trans (emits_raise _ _ _)

theorem emits_heat (v : Heat) : Emits 0 0 s { s with heat := v } := .of_touches (touches_heat s v)

theorem emits_relay (v : Relay) : Emits 0 0 s { s with relay := v } := .of_touches (touches_relay s v)

theorem emits_table (v : Table) : Emits 0 0 s { s with table := v } := .of_touches (touches_table s v)

theorem emits_setCensus (c : Census) : Emits 0 0 s (s.setCensus c) := .of_touches (touches_setCensus s c)

theorem emits_publishImage : Emits 0 0 s s.publishImage :=
  .of_touches (P := [.pub]) ((touches_publishImage (by decide)).mpr (Touches.refl _ s))

theorem emits_complete (k : Nat) (o : SlotOutcome) (d : Byte) (r : List Byte) : Emits 0 0 s (s.complete k o d r) :=
  .of_touches (P := [.mem, .slotTally]) ((touches_complete k o d r (by decide) (by decide)).mpr (Touches.refl _ s))

theorem emits_completeIf (k : Option Nat) (o : SlotOutcome) (d : Byte) (r : List Byte) : Emits 0 0 s (s.completeIf k o d r) :=
  .of_touches (P := [.mem, .slotTally]) ((touches_completeIf k o d r (by decide) (by decide)).mpr (Touches.refl _ s))

theorem emits_takeGrant (value : Nat) (gen alloc : Word16) : Emits 0 1 s (s.takeGrant value gen alloc) := by
  unfold State.takeGrant
  simp only
  split
  case h_1 | h_2 => exact (emits_heat s _).mono (Nat.le_refl _) (Nat.zero_le _)
  case h_3 => exact ((emits_heat s _).trans (emits_heat _ _)).mono (Nat.le_refl _) (Nat.zero_le _)
  case h_4 => exact ((emits_heat s _).trans (emits_heat _ _)).trans (emits_setCap _ _ _)

theorem emits_generationChanged : Emits 0 1 s s.generationChanged := by
  unfold State.generationChanged
  split
  case h_1 => exact emits_setCap s _ _
  all_goals exact .nothing s

theorem emits_noteDemands (es : List (Nat × Nat)) : Emits 0 0 s (s.noteDemands es) :=
  ((emits_publishImage s).trans (emits_table _ _)).trans (emits_publishImage _)

/-! ## Rolls, the end car and the open order -/

theorem emits_originate (k : RollKind) : Emits 1 1 s (s.originate k) := by
  cases k
  · exact emits_sendIf s _ _
  · exact (emits_noteDemands s _).trans (emits_sendIf _ _ _)

theorem emits_becomeEnd : Emits 2 2 s s.becomeEnd := by
  unfold State.becomeEnd
  exact ((emits_relay s _).trans (emits_originate _ _)).trans (emits_originate _ _)

theorem emits_reviewEnd : Emits 2 2 s s.reviewEnd := by
  unfold State.reviewEnd
  refine .ite (.ite (.ite (.nothing s) (emits_becomeEnd s)) (.ite (.nothing s) ?_)) (.nothing s)
  exact (emits_relay s _).mono (Nat.zero_le _) (Nat.zero_le _)

theorem emits_endOpenOrder (why : StopReason) : Emits 1 1 s (s.endOpenOrder why) := by
  unfold State.endOpenOrder
  split
  · exact .nothing s
  · exact (emits_relay s _).trans (emits_sendIf _ _ _)

theorem emits_relaySpanDown (x : SpanId) : Emits 1 1 s (s.relaySpanDown x) := .ite (emits_endOpenOrder s _) (.nothing s)

theorem emits_allocate : Emits 1 2 s s.allocate := by
  unfold State.allocate
  simp only
  refine .ite ?_ ?_
  · exact (((((emits_publishImage s).trans (emits_heat _ _)).trans (emits_takeGrant _ _ _ _)).trans (emits_table _ _)).trans
      (emits_heat _ _)).trans (emits_send _ _ _)
  · exact (((((emits_publishImage s).trans (emits_heat _ _)).trans (emits_takeGrant _ _ _ _)).trans (emits_table _ _)).trans
      (emits_heat _ _)).mono (Nat.zero_le _) (by omega)

/-! ## The census engine -/

theorem emits_endOutstanding (o : SlotOutcome) (d st og : Byte) : Emits 0 0 s (s.endOutstanding o d st og) :=
  .of_touches (P := [.mem, .slotTally, .doorLead, .pub])
    ((touches_endOutstanding (by decide) (by decide) (by decide) (by decide) o d st og).mpr (Touches.refl _ s))

theorem emits_dropHeldRoll : Emits 0 0 s s.dropHeldRoll :=
  .of_touches (P := [.doorLead, .pub, .summary]) ((touches_dropHeldRoll (by decide) (by decide) (by decide)).mpr (Touches.refl _ s))

theorem emits_clearAllocations : Emits 0 0 s s.clearAllocations := emits_heat s _

theorem emits_enterCensus (c : CensusState) : Emits 0 0 s (s.enterCensus c) := by
  unfold State.enterCensus
  simp only
  refine .ite (emits_setCensus s _) ?_
  split
  · exact ((emits_setCensus s _).trans (emits_relay _ _)).trans (emits_clearAllocations _)
  · exact ((((emits_setCensus s _).trans (emits_relay _ _)).trans (emits_clearAllocations _)).trans (emits_endOutstanding _ _ _ _ _)).trans
      (emits_dropHeldRoll _)

theorem emits_writeTable (own : Nat) (gen number : Word16) (lead : Word32) (rs : List CarRecord) :
    Emits 0 1 s (s.writeTable own gen number lead rs) := by
  unfold State.writeTable
  refine .ite ((emits_table s _).mono (Nat.le_refl _) (Nat.zero_le _)) ((emits_table s _).trans (emits_generationChanged _))

theorem emits_sendVoid (x : SpanId) (m : VoidMark) : Emits 1 1 s (s.sendVoid x m) := .ite (emits_send s x _) (.nothing s)

theorem emits_completeCensusSlot (o : SlotOutcome) (d : Byte) (n : Nat) (p : Byte) : Emits 0 0 s (s.completeCensusSlot o d n p) :=
  (emits_setCensus s _).trans (emits_completeIf _ _ _ _ _)

theorem emits_startSettle (n : Nat) : Emits 0 0 s (s.startSettle n) := .ite (emits_setCensus s _) (.refl s)

theorem emits_goStale (p e c : Byte) : Emits 0 1 s (s.goStale p e c) :=
  .ite ((emits_enterCensus s _).trans (emits_raise _ _ _)) (.nothing s)

theorem emits_sendBreak (x : SpanId) (c : Byte) : Emits 1 1 s (s.sendBreak x c) := emits_sendIf s _ _

theorem emits_failCensus (reason : FailReason) (p : Byte) : Emits 1 2 s (s.failCensus reason p) := by
  have h : Emits 1 2 s ((((s.enterCensus .uncensused).sendVoid (s.enterCensus .uncensused).trainSpan
      { number := (s.enterCensus .uncensused).census.number, lead := (s.enterCensus .uncensused).settings.identity
        reason := reason.code }).completeCensusSlot .aborted reason.code 0 p).censusFailedEvent reason p) :=
    (((emits_enterCensus s _).trans (emits_sendVoid _ _ _)).trans (emits_completeCensusSlot _ _ _ _ _)).trans (emits_raise _ _ _)
  exact .ite (h.trans (emits_startSettle _ _)) h

end

/-! ## The trail -/

theorem completeIf_trail (s : State) (k : Option Nat) (o : SlotOutcome) (d : Byte) (r : List Byte) : (s.completeIf k o d r).trail = s.trail := by
  cases k
  exacts [rfl, complete_trail s _ o d r]

theorem finishOrder_trail (s : State) (o : Outstanding) (m : OrderAck) (outcome : SlotOutcome) (detail : Byte) :
    (s.finishOrder o m outcome detail).trail = s.trail := by
  have h : (s.finishOrder o m outcome detail).trail = (s.complete o.slot outcome detail (orderResults o m)).trail := by
    rw [finishOrder_rest]
  rw [h, complete_trail]

/-- No operation of the blocks writes the trail: the writer does at the end of the step (R170). -/
theorem opsKeep_trail (l : Trail) : OpsKeep fun s => s.trail = l := by
  have hkeep {s t : State} (h : t.trail = s.trail) (hs : s.trail = l) : t.trail = l := h.trans hs
  refine ⟨fun h => hkeep (h .trail (by decide)).1.1, fun s x f _ => hkeep ?_, fun s x l _ => hkeep (setSpan_trail _ _ _),
    fun s c _ => hkeep rfl, fun s o d n p h => ?_, fun s v _ => hkeep rfl, fun s o m oc d _ => hkeep ?_, fun s v _ _ _ => hkeep rfl,
    fun s => hkeep ?_, fun s v g a _ => hkeep ?_⟩
  · rw [offer_keeps]
    exact setSpan_trail _ _ _
  · unfold State.completeCensusSlot
    rw [completeIf_trail]
    exact h
  · exact finishOrder_trail s o m oc d
  · unfold State.generationChanged
    split
    case h_1 => rw [setCap_keeps]
    all_goals rfl
  · rw [takeGrant_keeps]

end Sys2Proof.Machine

/-!
Frames taken from an UP span, and allocations (R28, R30, R81, R135 to R139): O46.
-/

namespace Sys2Proof.Machine

/-! ## A frame taken (R28, R30) -/

section
variable {s : State} {dt : Nat} {x : SpanId} {r : RxFrame} {rest : List RxFrame}

@[simp] theorem taking_census : (s.taking dt x rest).census = s.census := setSpan_census _ _ _
@[simp] theorem taking_table : (s.taking dt x rest).table = s.table := setSpan_table _ _ _
@[simp] theorem taking_relay : (s.taking dt x rest).relay = s.relay := setSpan_relay _ _ _
@[simp] theorem taking_heat : (s.taking dt x rest).heat = s.heat := setSpan_heat _ _ _
@[simp] theorem taking_door : (s.taking dt x rest).door = s.door := setSpan_door _ _ _
@[simp] theorem taking_mon : (s.taking dt x rest).mon = s.mon := setSpan_mon _ _ _
@[simp] theorem taking_mem : (s.taking dt x rest).mem = s.mem := setSpan_mem _ _ _
@[simp] theorem taking_trail : (s.taking dt x rest).trail = s.trail := setSpan_trail _ _ _
@[simp] theorem taking_raised : (s.taking dt x rest).raised = s.raised := setSpan_raised _ _ _
@[simp] theorem taking_fire : (s.taking dt x rest).fire = s.fire := setSpan_fire _ _ _

@[simp] theorem taking_state (y : SpanId) : ((s.taking dt x rest).span y).state = (s.span y).state := by
  by_cases h : y = x
  · subst h; rw [taking_span]
  · rw [State.taking, setSpan_span_ne _ _ _ _ h]; rfl

@[simp] theorem taking_depth (y : SpanId) : ((s.taking dt x rest).span y).depth = (s.span y).depth := by
  by_cases h : y = x
  · subst h; rw [taking_span]; rfl
  · rw [State.taking, setSpan_span_ne _ _ _ _ h]; rfl

@[simp] theorem taking_txq (y : SpanId) : ((s.taking dt x rest).span y).txq = (s.span y).txq := by
  by_cases h : y = x
  · subst h; rw [taking_span]
  · rw [State.taking, setSpan_span_ne _ _ _ _ h]; rfl

@[simp] theorem taking_delay (y : SpanId) : ((s.taking dt x rest).span y).delay = (s.span y).delay := by
  by_cases h : y = x
  · subst h; rw [taking_span]
  · rw [State.taking, setSpan_span_ne _ _ _ _ h]; rfl

@[simp] theorem taking_isUp (y : SpanId) : (s.taking dt x rest).isUp y = s.isUp y := by
  unfold State.isUp
  rw [taking_state]

@[simp] theorem taking_front : (s.taking dt x rest).front = s.front := front_congr taking_census taking_table taking_settings

@[simp] theorem taking_upstream : (s.taking dt x rest).upstream = s.upstream := upstream_congr taking_census taking_table taking_settings

@[simp] theorem taking_downstream : (s.taking dt x rest).downstream = s.downstream := by
  unfold State.downstream
  rw [taking_front]

@[simp] theorem taking_isEndCar : (s.taking dt x rest).isEndCar = s.isEndCar := by
  unfold State.isEndCar State.downstreamUp State.n
  rw [taking_census, taking_table, taking_downstream]
  cases s.downstream with
  | none => rfl
  | some y => simp only [taking_isUp]

@[simp] theorem taking_demand : (s.taking dt x rest).demand = s.demand := demand_congr taking_heat taking_settings

theorem taking_canSend {y : SpanId} (h : canSend s y) : canSend (s.taking dt x rest) y := by
  unfold canSend
  rw [taking_state, taking_depth]
  exact h

variable {c : Instr} {kind : FrameKind} {v : State}

/-- A census or wave frame is taken from an UP span (R28, R30). -/
theorem exec_takeUp {f : Frame → Nat → State → State} (h : exec c s = .next (s.run dt fun t => t.takeWhileUp x kind f))
    (ht : takeFor kind.consumer (s.span x).rxq = (some r, rest)) (hk : r.frame.kind = kind) (hup : (s.span x).state = .up)
    (hv : f r.frame r.endAt (s.taking dt x rest) = v) : exec c s = .next v.settle := by
  refine exec_run h ?_
  unfold State.takeWhileUp
  rw [takeFrame_some (s.advance dt) x kind _ r rest (by rw [advance_span]; exact ht) hk, advance_span]
  rw [show (s.advance dt).setSpan x { s.span x with rxq := rest } = s.taking dt x rest from rfl, if_pos]
  · exact hv
  · rw [taking_isUp, State.isUp, hup]; rfl

theorem listed_iff (c : CensusState) : c.listed = true ↔ c = .valid ∨ c = .stale := by cases c <;> simp [CensusState.listed]

/-- A wave frame is taken from an UP span in VALID and STALE (R81). -/
theorem exec_takeWave {f : Frame → Nat → State → State} (h : exec c s = .next (s.run dt fun t => t.takeWave x kind f))
    (ht : takeFor kind.consumer (s.span x).rxq = (some r, rest)) (hk : r.frame.kind = kind) (hup : (s.span x).state = .up)
    (hl : s.census.state = .valid ∨ s.census.state = .stale) (hv : f r.frame r.endAt (s.taking dt x rest) = v) :
    exec c s = .next v.settle := by
  refine exec_takeUp (f := fun g endAt t => if t.census.state.listed then f g endAt t else t) h ht hk hup ?_
  simp only [taking_census]
  rw [if_pos ((listed_iff _).mpr hl)]
  exact hv

end

/-! ## Taking a grant (R140, R141) -/

theorem takeGrant_table (s : State) (value : Nat) (gen alloc : Word16) : (s.takeGrant value gen alloc).table = s.table := by
  rw [takeGrant_keeps]

/-! ## The image's fields -/

theorem writeGrants_grants (a : Word16) : ∀ (rs : List ImageRecord) (gs : List Nat), gs.length = rs.length →
    (writeGrants a rs gs).map (fun q => (q.grant, q.grantAlloc)) = gs.map fun g => (word16 g, a)
  | [], [], _ => rfl
  | r :: rs, g :: gs, h => by
    rw [writeGrants, List.map_cons, List.map_cons, List.tail_cons, writeGrants_grants a rs gs (Nat.succ.inj h)]
    rfl

theorem writeDemands_length (rs : List ImageRecord) (es : List (Nat × Nat)) : (writeDemands rs es).length = rs.length :=
  length_eq_of_cars (cars_writeDemands es rs)

section
variable (s : State)

theorem publishImage_eq : ∃ (p : Published) (a : Tallies), s.publishImage = { s with pub := p, tallies := a } := by
  unfold State.publishImage
  split
  exacts [⟨_, _, rfl⟩, ⟨_, _, rfl⟩]

theorem noteDemands_eq (es : List (Nat × Nat)) : ∃ (p : Published) (a : Tallies),
    s.noteDemands es = { s with table := { s.table with records := writeDemands s.table.records es }, pub := p, tallies := a } := by
  unfold State.noteDemands
  obtain ⟨p, a, h⟩ := publishImage_eq s
  rw [h]
  exact publishImage_eq _

end

/-! ## An allocation (R137 to R139) -/

/-- The number of the next allocation (R139). -/
def nextAlloc (s : State) : Word16 := if s.heat.allocNumber = 65535 then 1 else s.heat.allocNumber + 1

/-- The division an allocation makes now. -/
def allocDivision (s : State) : Division := divide s.leff (allocEntries s.n s.demand s.heat.allocList)

/-- The grants of the positions in order. -/
def allocGrants (s : State) : List Nat := (List.range s.n).map fun i => grantAt (allocDivision s).shares (i + 1)

/-- The record of the allocation (R142). -/
def allocRecord (s : State) : AllocRecord :=
  { lineV := s.mon.lineV.reading, leff := s.leff, number := nextAlloc s, level := (allocDivision s).level
    sumDemand := ((allocDivision s).shares.map fun x => x.demand).sum, sumGrant := ((allocDivision s).shares.map fun x => x.grant).sum
    remainder := (allocDivision s).remainder, shares := (allocDivision s).shares }

/-- The lead takes the next number and its own grant (R139, R140). -/
def State.ownGrant (s : State) : State :=
  State.takeGrant { s.publishImage with heat := { s.publishImage.heat with allocNumber := nextAlloc s } }
    (grantAt (allocDivision s).shares 1) s.table.gen (nextAlloc s)

/-- The lead after its allocation, before the GRANT is offered (R75, R137). -/
def State.allotted (s : State) : State :=
  { s.ownGrant.setRecords (writeGrants (nextAlloc s) s.ownGrant.table.records (allocGrants s)) with
    heat := { s.ownGrant.heat with lastAlloc := allocRecord s } }

theorem allocate_eq (s : State) : s.allocate =
    if 1 < s.n then s.allotted.send s.allotted.trainSpan (s.allotted.waveFrame .grant 1 (grantPayload (nextAlloc s) (allocGrants s)))
    else s.allotted := rfl

section
variable (s : State)

theorem ownGrant_keeps : s.ownGrant.table = s.table ∧ s.ownGrant.settings = s.settings ∧ s.ownGrant.mem = s.mem := by
  obtain ⟨p, a, hp⟩ := publishImage_eq s
  unfold State.ownGrant
  rw [takeGrant_keeps, hp]
  exact ⟨rfl, rfl, rfl⟩

theorem ownGrant_heat : s.ownGrant.heat = { s.heat with
    allocNumber := nextAlloc s
    lastGrant := { value := grantAt (allocDivision s).shares 1, gen := s.table.gen, alloc := nextAlloc s }
    cap := if s.heat.cap = .fallback then .granted else s.heat.cap
    holdEnd := if s.heat.cap = .granted ∨ s.heat.cap = .fallback then some (s.now + 5000 * ms) else s.heat.holdEnd } := by
  obtain ⟨p, a, hp⟩ := publishImage_eq s
  unfold State.ownGrant
  rw [hp, takeGrant_heat]

theorem allotted_settings : s.allotted.settings = s.settings := by
  unfold State.allotted
  dsimp only [State.setRecords]
  rw [(ownGrant_keeps s).2.1]

theorem allotted_mem : s.allotted.mem = s.mem := by
  unfold State.allotted
  dsimp only [State.setRecords]
  rw [(ownGrant_keeps s).2.2]

theorem allotted_table : s.allotted.table = { s.table with records := writeGrants (nextAlloc s) s.table.records (allocGrants s) } := by
  have h : s.allotted.table = { s.ownGrant.table with records := writeGrants (nextAlloc s) s.ownGrant.table.records (allocGrants s) } := rfl
  rw [h, (ownGrant_keeps s).1]

theorem allotted_heat : s.allotted.heat = { s.heat with
    allocNumber := nextAlloc s
    lastGrant := { value := grantAt (allocDivision s).shares 1, gen := s.table.gen, alloc := nextAlloc s }
    cap := if s.heat.cap = .fallback then .granted else s.heat.cap
    holdEnd := if s.heat.cap = .granted ∨ s.heat.cap = .fallback then some (s.now + 5000 * ms) else s.heat.holdEnd
    lastAlloc := allocRecord s } := by
  have h : s.allotted.heat = { s.ownGrant.heat with lastAlloc := allocRecord s } := rfl
  rw [h, ownGrant_heat]

theorem emits_allotted : Emits 0 1 s s.allotted :=
  ((((emits_publishImage s).trans (emits_heat _ _)).trans (emits_takeGrant _ _ _ _)).trans (emits_table _ _)).trans (emits_heat _ _)

end

/-! ## What an allocation leaves (R137 to R140, R75) -/

theorem allocate_rest (s : State) : s.allocate.heat = s.allotted.heat ∧ s.allocate.table = s.allotted.table ∧
    s.allocate.settings = s.settings ∧ s.allocate.mem = s.mem := by
  rw [allocate_eq]
  split
  · rw [send_heat, send_table, send_settings, send_mem]
    exact ⟨rfl, rfl, allotted_settings s, allotted_mem s⟩
  · exact ⟨rfl, rfl, allotted_settings s, allotted_mem s⟩

/-- `u` is about to allocate from `list` with the supply record `supply`, and all else an allocation rests on is as in `s`. -/
structure Allocates (s u : State) (supply : Supply) (list : List (Nat × Nat)) : Prop where
  settings : u.settings = s.settings
  mon : u.mon = s.mon
  own : u.table.own = s.table.own
  gen : u.table.gen = s.table.gen
  n : u.table.records.length = s.table.records.length
  number : u.heat.allocNumber = s.heat.allocNumber
  cap : u.heat.cap = s.heat.cap
  onTimes : u.heat.onTimes = s.heat.onTimes
  supply : u.heat.supply = supply
  list : u.heat.allocList = list
  state : ∀ x, (u.span x).state = (s.span x).state
  depth : ∀ x, (u.span x).depth = (s.span x).depth

theorem Allocates.allocated {s u t : State} {supply : Supply} {list : List (Nat × Nat)} (h : Allocates s u supply list)
    (hheat : t.heat = u.allocate.heat) (htable : t.table = u.allocate.table)
    (hspan : ∀ x, t.span x = u.allocate.span x) : allocatedIn s t supply list := by
  have hn : u.n = s.table.records.length := h.n
  have hdemand : u.demand = s.demand := by
    unfold State.demand
    rw [h.cap, h.onTimes, h.settings]
  have hnumber : nextAlloc u = if s.heat.allocNumber = 65535 then 1 else s.heat.allocNumber + 1 := by
    unfold nextAlloc
    rw [h.number]
  have hdivision : allocDivision u = divide (effectiveLimit supply s.mon.lineV.reading) (allocEntries s.table.records.length s.demand list) := by
    unfold allocDivision State.leff
    rw [h.supply, h.mon, hn, hdemand, h.list]
  have hgrants : allocGrants u = (List.range s.table.records.length).map fun i => grantAt (allocDivision u).shares (i + 1) := by
    unfold allocGrants
    rw [hn]
  obtain ⟨rheat, rtable, rset, -⟩ := allocate_rest u
  rw [rheat, allotted_heat] at hheat
  rw [rtable, allotted_table] at htable
  unfold allocatedIn
  dsimp only
  rw [← hdivision, ← hnumber, ← hgrants, hheat, htable]
  refine ⟨rfl, by rw [← h.gen], rfl, rfl, rfl, rfl, fun hc => ?_, ?_, fun hone hcan => ?_⟩
  · have hgranted : (if u.heat.cap = .fallback then CapState.granted else u.heat.cap) = .granted := by
      rw [h.cap]
      obtain hc | hc := hc <;> simp [hc]
    refine ⟨hgranted, ?_⟩
    unfold State.cap
    rw [hheat]
    simp only [hgranted]
  · exact writeGrants_grants _ _ _ (by rw [hgrants, List.length_map, List.length_range, h.n])
  · have htrain : u.allotted.trainSpan = s.trainSpan := by
      unfold State.trainSpan State.cabSpan
      rw [allotted_settings, h.settings]
    have hframe : u.allotted.waveFrame .grant 1 (grantPayload (nextAlloc u) (allocGrants u)) =
        waveFrameAt .grant 1 s.table.own s.table.gen (grantPayload (nextAlloc u) (allocGrants u)) := by
      unfold State.waveFrame
      rw [allotted_table, ← h.own, ← h.gen]
      rfl
    have hcan' : canSend u s.trainSpan := by
      unfold canSend
      rw [h.state, h.depth]
      exact hcan
    obtain ⟨hup, hroom⟩ := (emits_allotted u).up hcan'.1 (by have := hcan'.2; omega)
    unfold waits
    rw [hspan, allocate_eq, if_pos (by rw [hn]; exact hone), htrain, hframe]
    exact waits_send _ _ hup (by have := hcan'.2; omega)

/-! ## HEAT_SUPPLY, the allocation timer and the DEMAND roll (R135, R137) -/

section
variable {u : State} {r : Request}

/-- The supply record of a request (R135). -/
def supplyOf (r : Request) : Supply :=
  { on := r.param 0 == 1, limit := (getLe16 r.params 2).toNat, shed := (getLe16 r.params 4).toNat, cut := (getLe16 r.params 6).toNat }

theorem heatSupply_flag (h : 1 < (r.param 0).toNat) : u.heatSupply r = u.complete r.slot .refusedRange 0 [] := by
  unfold State.heatSupply
  exact if_pos h

theorem heatSupply_threshold (hf : (r.param 0).toNat ≤ 1) (h : (getLe16 r.params 4).toNat ≤ (getLe16 r.params 6).toNat) :
    u.heatSupply r = u.complete r.slot .refusedRange 4 [] := by
  unfold State.heatSupply
  simp only
  rw [if_neg (by omega), if_pos h]

theorem heatSupply_taken (hf : (r.param 0).toNat ≤ 1) (h : (getLe16 r.params 6).toNat < (getLe16 r.params 4).toNat) {w : State}
    (allocates : Bool) (hl : (u.census.role == .lead && u.census.state.listed) = allocates)
    (hw : (if allocates then State.allocate { u with heat := { u.heat with supply := supplyOf r } }
      else { u with heat := { u.heat with supply := supplyOf r } }) = w) :
    u.heatSupply r = w.complete r.slot .ok 0 (le16 (word16 w.leff) ++ le16 w.heat.allocNumber ++ [boolByte allocates]) := by
  unfold State.heatSupply
  simp only
  rw [if_neg (by omega), if_neg (by omega), hl, show (if allocates = true then State.allocate { u with heat := { u.heat with
    supply := { on := r.param 0 == 1, limit := (getLe16 r.params 2).toNat, shed := (getLe16 r.params 4).toNat
                cut := (getLe16 r.params 6).toNat } } } else { u with heat := { u.heat with
    supply := { on := r.param 0 == 1, limit := (getLe16 r.params 2).toNat, shed := (getLe16 r.params 4).toNat
                cut := (getLe16 r.params 6).toNat } } }) = w from hw]

end

theorem allocate_heat_kept (s : State) : s.allocate.heat.supply = s.heat.supply ∧ s.allocate.heat.allocList = s.heat.allocList ∧
    s.allocate.heat.allocEnd = s.heat.allocEnd := by
  rw [(allocate_rest s).1, allotted_heat]
  exact ⟨rfl, rfl, rfl⟩

theorem allocate_mon (s : State) : s.allocate.mon = s.mon :=
  (((touches_allocate (P := [.spanA, .spanB, .choices, .heat, .table, .pub]) (by decide) (by decide) (by decide) (by decide) (by decide)
    (by decide)).mpr (Touches.refl _ s)) .mon (by decide)).1

/-- Settles O46: the supply record, the allocation timer and a DEMAND roll at the lead allocate (R135, R137). -/
theorem supplyAndRollsAllocate : Obligations.SupplyAndRollsAllocate := by
  intro s dt hs hwf hcap
  refine ⟨fun r rest ht hk => ?_, fun e he hend => ?_, fun x r rest es ht hk hes hup hrole hl hgen hdown hhop => ?_⟩
  · intro u shed cut supply leads
    have hstep {v : State} (hv : u.heatSupply r = v) : exec (.heatSupply dt) s = .next v.settle :=
      exec_serve (f := fun r u => u.heatSupply r) rfl ht hv
    refine ⟨fun h => ?_, fun hf h => ?_, fun hf h => ?_⟩
    · rw [hstep (heatSupply_flag h), settle_of_settled _ (complete_settled _ _ _ _ (show u.settled = true from hs))]
    · rw [hstep (heatSupply_threshold hf h), settle_of_settled _ (complete_settled _ _ _ _ (show u.settled = true from hs))]
    · obtain ⟨b, hb⟩ : ∃ b : Bool, (u.census.role == .lead && u.census.state.listed) = b := ⟨_, rfl⟩
      have hleads : b = true ↔ leads := by
        rw [← hb, Bool.and_eq_true, beq_iff_eq, listed_iff]
        exact Iff.rfl
      obtain ⟨v, hv⟩ : ∃ v : State, v = { u with heat := { u.heat with supply := supply } } := ⟨_, rfl⟩
      obtain ⟨w, hw⟩ : ∃ w : State, (if b then v.allocate else v) = w := ⟨_, rfl⟩
      have hwmem : w.mem = s.mem := by
        rw [← hw, hv]
        split
        exacts [(allocate_rest _).2.2.2, rfl]
      have hans := settle_complete_answered (s := w) (o := .ok) (d := 0) (r := le16 (word16 w.leff) ++ le16 w.heat.allocNumber ++ [boolByte b])
        (by rw [hwmem]; exact hwf) hk (by simp [le16])
      obtain ⟨t, htdef⟩ : ∃ t : State, (w.complete r.slot .ok 0 (le16 (word16 w.leff) ++ le16 w.heat.allocNumber ++ [boolByte b])).settle = t :=
        ⟨_, rfl⟩
      have theat : t.heat = w.heat := by rw [← htdef, settle_heat, complete_heat]
      have tmon : t.mon = w.mon := by rw [← htdef, settle_mon, complete_mon]
      have ttable : t.table = w.table := by rw [← htdef, settle_table, complete_table]
      have tspan (x : SpanId) : t.span x = w.span x := by rw [← htdef, settle_span, complete_span]
      rw [htdef, ← leff_congr (congrArg Heat.supply theat) tmon, ← theat] at hans
      have hsupply : t.heat.supply = supply := by
        rw [theat, ← hw]
        split
        · rw [(allocate_heat_kept v).1, hv]
        · rw [hv]
      refine ⟨t, (hstep (heatSupply_taken hf h b hb (w := w) (by rw [← hw, hv]; rfl))).trans (by rw [htdef]), hsupply, fun hyes => ⟨?_, ?_⟩, fun hno => ?_⟩
      · rw [if_pos (hleads.mpr hyes)] at hw
        refine Allocates.allocated (u := v) ?_ (by rw [theat, hw]) (by rw [ttable, hw]) fun x => by rw [tspan, hw]
        rw [hv]
        exact ⟨rfl, rfl, rfl, rfl, rfl, rfl, rfl, rfl, rfl, rfl, fun x => by cases x <;> rfl, fun x => by cases x <;> rfl⟩
      · rw [hleads.mpr hyes] at hans
        exact hans
      · have hfalse : b = false := Bool.eq_false_iff.mpr fun h => hno (hleads.mp h)
        rw [hfalse] at hans
        rw [hfalse, if_neg Bool.false_ne_true] at hw
        exact ⟨by rw [theat, ← hw, hv]; rfl, by rw [ttable, ← hw, hv]; rfl, hans⟩
  · obtain ⟨v, hv⟩ : ∃ v : State, v = { s.advance dt with heat := { s.heat with allocEnd := some (e + 1000 * ms) } } := ⟨_, rfl⟩
    have hstep : exec (.allocationTimerExpired dt) s = .next v.allocate.settle := by
      refine exec_run rfl ?_
      simp only [show (s.advance dt).heat.allocEnd = some e from he]
      rw [if_pos (show e ≤ (s.advance dt).now from hend), hv]
      rfl
    refine ⟨_, hstep, Allocates.allocated (u := v) ?_ (by rw [settle_heat]) (by rw [settle_table])
      fun x => settle_span _ _, ?_⟩
    · rw [hv]
      exact ⟨rfl, rfl, rfl, rfl, rfl, rfl, rfl, rfl, rfl, rfl, fun x => by cases x <;> rfl, fun x => by cases x <;> rfl⟩
    · rw [settle_heat, (allocate_heat_kept v).2.2, hv]
      rfl
  · obtain ⟨y, hy⟩ : ∃ y, s.taking dt x rest = y := ⟨_, rfl⟩
    obtain ⟨p, a, hp⟩ := noteDemands_eq { y with heat := { y.heat with allocList := es } } (es ++ [(1, y.demand)])
    obtain ⟨v, hv⟩ : ∃ v, State.noteDemands { y with heat := { y.heat with allocList := es } } (es ++ [(1, y.demand)]) = v := ⟨_, rfl⟩
    have htake : y.takeDemand x r.frame = v.allocate := by
      have hcur : (y.currentGen r.frame && y.fromBelow x r.frame) = true := by
        unfold State.currentGen State.fromBelow
        rw [← hy]
        simp [hgen, hdown, hhop]
      unfold State.takeDemand
      simp only [hes]
      rw [if_pos hcur, show y.census.role = .lead by rw [← hy]; simp [hrole], ← hv]
      rfl
    have hstep : exec (.demandRoll dt x) s = .next v.allocate.settle :=
      exec_takeWave (f := fun f _ u => u.takeDemand x f) rfl ht hk hup hl (by rw [hy]; exact htake)
    rw [hp] at hv
    refine ⟨_, hstep, ?_, Allocates.allocated (u := v) ?_ (by rw [settle_heat]) (by rw [settle_table])
      fun z => settle_span _ _⟩
    · rw [settle_heat, (allocate_heat_kept v).2.1, ← hv]
    · have hspan (z : SpanId) : v.span z = y.span z := by rw [← hv]; cases z <;> rfl
      have hlen := writeDemands_length y.table.records (es ++ [(1, y.demand)])
      refine ⟨?_, ?_, ?_, ?_, ?_, ?_, ?_, ?_, ?_, ?_, fun z => by rw [hspan, ← hy, taking_state], fun z => by rw [hspan, ← hy, taking_depth]⟩
      · rw [← hv]; dsimp only; rw [← hy, taking_settings]
      · rw [← hv]; dsimp only; rw [← hy, taking_mon]
      · rw [← hv]; dsimp only; rw [← hy, taking_table]
      · rw [← hv]; dsimp only; rw [← hy, taking_table]
      · rw [← hv]
        refine hlen.trans ?_
        rw [← hy, taking_table]
      · rw [← hv]; dsimp only; rw [← hy, taking_heat]
      · rw [← hv]; dsimp only; rw [← hy, taking_heat]
      · rw [← hv]; dsimp only; rw [← hy, taking_heat]
      · rw [← hv]; dsimp only; rw [← hy, taking_heat]
      · rw [← hv]

end Sys2Proof.Machine

/-!
The line monitor: readings and the AUX timers (R149, R152, R153, R108): O49.
-/

namespace Sys2Proof.Machine

/-! ## Readings (R152) -/

/-- The channel after a block of samples (R152). -/
def Channel.taken (c : Channel) (s : Settings) (full : Nat) (block : List (BitVec 12)) : Channel :=
  { code := (block.map fun v => v.toNat).sum * 16 / block.length
    reading := (block.map fun v => v.toNat).sum * 16 / block.length * full / 65520
    completions := c.completions + 1, nextDue := c.nextDue + s.averaging * 750000 }

section
variable {s : State} {block : List (BitVec 12)}

theorem completed_channel (s : State) (c : Chan) (block : List (BitVec 12)) :
    ({ code := blockCode block, reading := scaledReading (blockCode block) (s.settings.fullScale c)
       completions := (s.mon.channel c).completions + 1
       nextDue := (s.mon.channel c).nextDue + s.settings.averaging * 375 * us } : Channel) =
      (s.mon.channel c).taken s.settings (s.settings.fullScale c) block := by
  have htime : s.settings.averaging * 375 * us = s.settings.averaging * 750000 := by rw [Nat.mul_assoc]; rfl
  rw [htime]
  rfl

theorem completeReading_linev : s.completeReading .linev block =
    { s with mon := { s.mon with lineV := s.mon.lineV.taken s.settings s.settings.lineFull block } } := by
  unfold State.completeReading
  simp only [completed_channel]
  rfl

theorem completeReading_cari : s.completeReading .cari block =
    State.addReading { s with mon := { s.mon with carI := s.mon.carI.taken s.settings s.settings.carFull block } }
      (s.mon.carI.taken s.settings s.settings.carFull block).reading := by
  unfold State.completeReading
  simp only [completed_channel]
  rfl

theorem completeReading_auxv : s.completeReading .auxv block =
    State.judgeAux { s with mon := { s.mon with auxV := s.mon.auxV.taken s.settings s.settings.auxFull block } }
      (s.mon.auxV.taken s.settings s.settings.auxFull block).reading := by
  unfold State.completeReading
  simp only [completed_channel]
  rfl

theorem addReading_eq (s : State) (n : Nat) : s.addReading n = { s with
    fire := if s.fire.periodStart = none then s.fire else { s.fire with sum := s.fire.sum + n, readings := s.fire.readings + 1 } } := by
  unfold State.addReading
  cases s.fire.periodStart <;> rfl

theorem judgeAux_ok {n : Nat} (h : s.mon.auxLow = false) : s.judgeAux n = { s with mon := { s.mon with
    lowEnd := if s.settings.auxThreshold ≤ n then none
      else if s.mon.lowEnd = none then some (s.now + 40000000) else s.mon.lowEnd } } := by
  unfold State.judgeAux
  simp only [h, Bool.false_eq_true, if_false]
  by_cases hn : s.settings.auxThreshold ≤ n
  · rw [if_neg (by omega), if_pos hn]
  · rw [if_pos (by omega), if_neg hn]
    cases s.mon.lowEnd <;> rfl

theorem judgeAux_low {n : Nat} (h : s.mon.auxLow = true) : s.judgeAux n = { s with mon := { s.mon with
    returnEnd := if n < s.settings.auxThreshold + s.settings.auxThreshold / 20 then none
      else if s.mon.returnEnd = none then some (s.now + 200000000) else s.mon.returnEnd } } := by
  unfold State.judgeAux returnLevel
  simp only [h, if_true]
  by_cases hn : n < s.settings.auxThreshold + s.settings.auxThreshold / 20
  · rw [if_neg (by omega), if_pos hn]
  · rw [if_pos (by omega), if_neg hn]
    cases s.mon.returnEnd <;> rfl

end

/-! ## The AUX state turns LOW (R108, R153) -/

/-- The DOOR_STATE of a side that is withdrawn (R108, R113). -/
def withdrawal (s : State) (k : SideId) : List Event :=
  if (s.side k).state = .released then [doorEvent s k (lockedState (s.side k)) .released 7 0] else []

/-- A side after the AUX state has turned LOW (R108). -/
def Side.withdrawn (d : Side) : Side := if d.state = .released then atRest d (lockedState d) else d

theorem lockedState_cases (d : Side) : lockedState d = .closed ∨ (lockedState d = .unlocked ∧ d.lock = false) := by
  unfold lockedState
  cases d.lock <;> simp

theorem withdrawSide_eq (s : State) (k : SideId) : s.withdrawSide k = { s.setSide k (s.side k).withdrawn with
    raised := s.raised ++ (withdrawal s k).map fun e => { group := (sideSource k).toNat, event := e } } := by
  unfold State.withdrawSide withdrawal Side.withdrawn
  split
  next h => rw [rest_eq, enterSide_rest_eq s k _ .auxLow 0 (lockedState_cases _), h]; rfl
  next h =>
    rw [setSide_same, List.map_nil, List.append_nil]

theorem withdrawal_congr {s t : State} {k : SideId} (hs : t.side k = s.side k) (ho : t.table.own = s.table.own) :
    withdrawal t k = withdrawal s k := by
  unfold withdrawal
  rw [hs, doorEvent_congr ho]

theorem withdrawal_ofDoorUnit {s : State} {k : SideId} {e : Event} (h : e ∈ withdrawal s k) : e.ofDoorUnit = true := by
  unfold withdrawal at h
  split at h
  · rw [List.mem_singleton.mp h]
    exact doorEvent_ofDoorUnit _ _ _ _ _ _
  · exact absurd h List.not_mem_nil

theorem withdrawal_length (s : State) (k : SideId) : (withdrawal s k).length ≤ 1 := by
  unfold withdrawal
  split <;> simp

/-- Settles O49: readings, the AUX judgement and the AUX timers (R108, R149, R152, R153). -/
theorem readingsDriveAuxState : Obligations.ReadingsDriveAuxState := by
  refine ⟨fun s dt block hs hrun hlen => ?_, fun s dt e hs hwf hroom hend => ?_⟩
  · intro now code taken lineV carI auxV limit
    have hquiet : s.raised = [] := raised_of_settled hs
    have hdone (c : Chan) (hdue : (s.mon.channel c).nextDue ≤ now) : (s.advance dt).blockDone c block = true := by
      unfold State.blockDone
      simp only [Bool.and_eq_true, decide_eq_true_eq, beq_iff_eq]
      exact ⟨⟨hrun, hlen⟩, hdue⟩
    have hstep (c : Chan) (hdue : (s.mon.channel c).nextDue ≤ now) {v : State} (hv : (s.advance dt).completeReading c block = v)
        (hq : v.raised = []) : Answers (.readingCompleted dt c block) s v [] := by
      refine answers_quiet rfl ?_ hq
      rw [if_pos (hdone c hdue)]
      exact hv
    refine ⟨fun hdue => hstep .linev hdue completeReading_linev hquiet, fun hdue => hstep .cari hdue ?_ hquiet,
      fun hdue => ⟨fun hlow => hstep .auxv hdue ?_ hquiet, fun hlow => hstep .auxv hdue ?_ hquiet⟩⟩
    · rw [completeReading_cari, addReading_eq]
      rfl
    · rw [completeReading_auxv]
      exact judgeAux_ok hlow
    · rw [completeReading_auxv]
      exact judgeAux_low hlow
  · intro turned event withdrawn
    have hquiet : s.raised = [] := raised_of_settled hs
    have hchange (low : Bool) (kind : Byte) : (s.advance dt).changeAux low kind =
        ({ s.advance dt with mon := turned low } : State).raise 10 (event kind) := rfl
    refine ⟨fun hlow htimer => ?_, fun hlow htimer => ?_⟩
    · obtain ⟨u, hu⟩ : ∃ u, (s.advance dt).changeAux true 16 = u := ⟨_, rfl⟩
      obtain ⟨v, hv⟩ : ∃ v, u.withdrawSide .one = v := ⟨_, rfl⟩
      obtain ⟨w, hw⟩ : ∃ w, v.withdrawSide .two = w := ⟨_, rfl⟩
      have hveq := withdrawSide_eq u .one
      have hweq := withdrawSide_eq v .two
      rw [hv] at hveq
      rw [hw] at hweq
      rw [hchange] at hu
      have uside (k : SideId) : u.side k = s.side k := by rw [← hu, raise_side]; cases k <;> rfl
      have vside1 : v.side .one = (s.side .one).withdrawn := by rw [hveq, ← uside]; rfl
      have vside2 : v.side .two = s.side .two := by rw [hveq, ← uside]; rfl
      have uown : u.table.own = s.table.own := by rw [← hu]; rfl
      have vown : v.table.own = s.table.own := by rw [hveq]; exact uown
      have hraised : w.raised = { group := 10, event := event 16 } ::
          ((withdrawal s .one).map fun e => { group := (sideSource .one).toNat, event := e }) ++
          (withdrawal s .two).map fun e => { group := (sideSource .two).toNat, event := e } := by
        have h1 : v.raised = u.raised ++ (withdrawal u .one).map fun e => { group := (sideSource .one).toNat, event := e } := by rw [hveq]
        have h2 : w.raised = v.raised ++ (withdrawal v .two).map fun e => { group := (sideSource .two).toNat, event := e } := by rw [hweq]
        rw [h2, h1, withdrawal_congr (uside .one) uown, withdrawal_congr vside2 vown, ← hu, raise_raised, show
          ({ s.advance dt with mon := turned true } : State).raised = [] from hquiet]
        rfl
      have htrail : w.trail = s.trail := by rw [hweq]; dsimp only; rw [hveq, ← hu]; rfl
      have hmem : w.mem.wf = true := by rw [hweq]; dsimp only; rw [hveq, ← hu]; exact hwf
      have hmon : w.mon = turned true := by rw [hweq]; dsimp only; rw [hveq, ← hu]; rfl
      have hlen : s.trail.held + w.raised.length < 128 := by
        have := withdrawal_length s .one
        have := withdrawal_length s .two
        rw [hraised, List.length_append, List.length_cons, List.length_map, List.length_map]
        unfold trailRoom at hroom
        omega
      refine ⟨w.settle, exec_run rfl ?_, ?_, settle_recordedEvent (g := 10) htrail hmem hlen ?_, ?_, fun k => ?_⟩
      · rw [if_pos ⟨hlow, show (s.advance dt).reached (s.advance dt).mon.lowEnd = true from advance_reached htimer hend⟩, hchange, hu, hv, hw]
      · rw [settle_mon, hmon]
      · rw [hraised]
        exact List.mem_append_left _ List.mem_cons_self
      · refine settle_recordedTogether htrail hmem hlen fun e' he' => ?_
        obtain h | h := List.mem_append.mp he'
        · refine ⟨withdrawal_ofDoorUnit h, { group := (sideSource .one).toNat, event := e' }, ?_, rfl⟩
          rw [hraised]
          exact List.mem_append_left _ (List.mem_cons_of_mem _ (List.mem_map_of_mem h))
        · refine ⟨withdrawal_ofDoorUnit h, { group := (sideSource .two).toNat, event := e' }, ?_, rfl⟩
          rw [hraised]
          exact List.mem_append_right _ (List.mem_map_of_mem h)
      · have hside : w.side k = (s.side k).withdrawn := by
          cases k
          · rw [← vside1, hweq]; rfl
          · rw [← vside2, hweq]; rfl
        rw [settle_side, hside]
        exact ⟨fun h => if_neg h, fun h => if_pos h⟩
    · refine answers_raise (g := 10) rfl ?_ hquiet
      rw [if_pos ⟨hlow, show (s.advance dt).reached (s.advance dt).mon.returnEnd = true from advance_reached htimer hend⟩, hchange]

end Sys2Proof.Machine

/-!
Firing periods and windows (R146 to R149): O48.
-/

namespace Sys2Proof.Machine

/-! ## Publishing the firing bytes -/

theorem publishFire_fire (s : State) : s.publishFire.fire = s.fire := by
  unfold State.publishFire
  split <;> rfl

theorem publishFire_board (s : State) : s.publishFire.pub.fire = s.fire.board := by
  unfold State.publishFire
  split
  next h => exact h.symm
  next => rfl

theorem touches_publishHeat_pub (s : State) : Touches [.pub] s s.publishHeat := (touches_publishHeat (by decide)).mpr (Touches.refl _ s)

theorem touches_publishFire_pub (s : State) : Touches [.pub] s s.publishFire := (touches_publishFire (by decide)).mpr (Touches.refl _ s)

/-! ## A period start (R146 to R148) -/

/-- The firing record of a period that starts (R146, R147). -/
def startedFire (s : State) (start : Nat) : Fire :=
  let scaled := s.heat.onTimes.map (scaledOnTime s.cap s.demand)
  let phases := phasesOf s.firePosition
  { s.fire with
    periodStart := some start
    count := s.fire.count + 1
    scaled := scaled, phases := phases
    starts := Stages.zip (fun k phase => if 0 < k then some (start + phase * slotTime) else none) scaled phases
    cap := s.cap, demand := s.demand, position := s.firePosition
    expected := expectedCurrent s.settings.ratings scaled
    sum := 0, readings := 0 }

theorem startPeriod_eq (s : State) (start : Nat) : s.startPeriod start = State.publishFire { s with fire := startedFire s start } := rfl

/-- The firing record of the ended period, judged (R149). -/
def judgedFire (s : State) (count : Nat) (j : Judgement) : Fire :=
  { s.fire with
    overdraw := count, lastExpected := s.fire.expected, lastMeasured := s.fire.sum / s.fire.readings
    lastReadings := s.fire.readings, cut := false, lastJudgement := j }

section
variable {s : State}

theorem judged_iff : ((s.heat.cap == .granted || s.heat.cap == .fallback) && s.fire.readings != 0) = true ↔ judged s := by
  unfold judged
  simp

theorem overdrawn_iff : overdrawn (s.fire.sum / s.fire.readings) s.fire.expected = true ↔ overdrew s := decide_eq_true_iff

theorem judgePeriod_not (h : ¬judged s) : s.judgePeriod = { s with fire := judgedFire s s.fire.overdraw .notJudged } := by
  unfold State.judgePeriod
  simp only [Bool.eq_false_iff.mpr (mt judged_iff.mp h), Bool.false_and, Bool.false_eq_true, if_false]
  rfl

theorem judgePeriod_within (h : judged s) (ho : ¬overdrew s) : s.judgePeriod = { s with fire := judgedFire s 0 .within } := by
  unfold State.judgePeriod
  simp only [judged_iff.mpr h, Bool.eq_false_iff.mpr (mt overdrawn_iff.mp ho), Bool.false_eq_true, if_false, if_true, Bool.true_and]
  rfl

theorem judgePeriod_overdraw (h : judged s) (ho : overdrew s) (hc : s.fire.overdraw + 1 < 3) :
    s.judgePeriod = { s with fire := judgedFire s (s.fire.overdraw + 1) .overdraw } := by
  unfold State.judgePeriod
  simp only [judged_iff.mpr h, overdrawn_iff.mpr ho, if_true, Bool.true_and]
  rw [if_neg (by simp only [decide_eq_true_eq]; omega)]
  rfl

theorem judgePeriod_fault (h : judged s) (ho : overdrew s) (hc : 3 ≤ s.fire.overdraw + 1) : s.judgePeriod =
    State.overdrawFault { s with fire := judgedFire s (s.fire.overdraw + 1) .overdraw } s.fire.expected (s.fire.sum / s.fire.readings) := by
  unfold State.judgePeriod
  simp only [judged_iff.mpr h, overdrawn_iff.mpr ho, if_true, Bool.true_and]
  rw [if_pos (decide_eq_true hc)]
  rfl

end

/-! ## The fault (R148, R149) -/

/-- HEAT_FAULT of a period (R149, R170). -/
def heatFault (s : State) : Event :=
  { kind := 15, source := 9, position := byte s.table.own, detail := 3
    value := (word16 (s.fire.sum / s.fire.readings) ++ word16 s.fire.expected : Word32) }

/-- The firing record after the fault: every window has ended and the outputs are cut (R148). -/
def Fire.stopped (f : Fire) : Fire := { f with overdraw := 0, starts := Stages.all none, ends := Stages.all none, cut := true }

/-- The judged state of a period start, the heating bytes published (R149, R151). -/
def State.judgedNow (s : State) : State := s.judgePeriod.publishHeat

section
variable {s : State}

/-- What a judgement leaves alone, and what it leaves of the rest when it finds no fault. -/
theorem judgedNow_quiet {f : Fire} (h : s.judgePeriod = { s with fire := f }) : s.judgedNow.fire = f ∧ s.judgedNow.heat = s.heat ∧
    s.judgedNow.settings = s.settings ∧ s.judgedNow.census = s.census ∧ s.judgedNow.table = s.table := by
  have hpub := touches_publishHeat_pub s.judgePeriod
  unfold State.judgedNow
  rw [h] at hpub ⊢
  exact ⟨(hpub .fire (by decide)).1, (hpub .heat (by decide)).1, (hpub .settings (by decide)).1, (hpub .census (by decide)).1,
    (hpub .table (by decide)).1⟩

theorem setCap_faulted {s : State} {old : CapState} (hc : s.heat.cap = old) (ho : old ≠ .faulted) : s.setCap .faulted .overdraw =
    { s with
      heat := { s.heat with cap := .faulted, holdEnd := none }
      raised := s.raised ++ [{ group := heatGroup, event := heatEvent s .faulted old 5 0 }] } := by
  unfold State.setCap
  simp only [hc]
  rw [if_neg ho]
  rfl

theorem overdrawFault_eq {e m : Nat} (hq : s.raised = []) (hc : s.heat.cap ≠ .faulted) : s.overdrawFault e m = State.publishFire { s with
    tallies := { s.tallies with fault := s.tallies.fault + 1 }
    heat := { s.heat with cap := .faulted, holdEnd := none }
    fire := s.fire.stopped
    raised := [{ group := heatGroup, event := { kind := 15, source := 9, position := byte s.table.own, detail := 3
                                                value := (word16 m ++ word16 e : Word32) } },
      { group := heatGroup, event := heatEvent s .faulted s.heat.cap 5 0 }] } := by
  unfold State.overdrawFault
  simp only
  rw [setCap_faulted (s := State.raise { s with tallies := { s.tallies with fault := s.tallies.fault + 1 } } heatGroup _) rfl hc]
  rw [raise_raised, show State.raised { s with tallies := { s.tallies with fault := s.tallies.fault + 1 } } = [] from hq]
  rfl

theorem judgedNow_fault (hq : s.raised = []) (h : judged s) (ho : overdrew s) (hc : 3 ≤ s.fire.overdraw + 1) :
    s.judgedNow.fire = (judgedFire s (s.fire.overdraw + 1) .overdraw).stopped ∧ s.judgedNow.heat.cap = .faulted ∧
    s.judgedNow.tallies.fault = s.tallies.fault + 1 ∧
    s.judgedNow.raised = [{ group := heatGroup, event := heatFault s }, { group := heatGroup, event := heatEvent s .faulted s.heat.cap 5 0 }] ∧
    s.judgedNow.trail = s.trail ∧ s.judgedNow.mem = s.mem := by
  have hcap : s.heat.cap ≠ .faulted := by
    obtain ⟨hc | hc, -⟩ := h <;> rw [hc] <;> nofun
  obtain ⟨b, hb⟩ : ∃ b : State, b = { s with
    tallies := { s.tallies with fault := s.tallies.fault + 1 }
    heat := { s.heat with cap := .faulted, holdEnd := none }
    fire := (judgedFire s (s.fire.overdraw + 1) .overdraw).stopped
    raised := [{ group := heatGroup, event := heatFault s }, { group := heatGroup, event := heatEvent s .faulted s.heat.cap 5 0 }] } := ⟨_, rfl⟩
  have hfault : s.judgePeriod = b.publishFire := by
    rw [judgePeriod_fault h ho hc, hb]
    exact overdrawFault_eq hq hcap
  have hpub : Touches [.pub] b s.judgedNow := by
    unfold State.judgedNow
    rw [hfault]
    exact (touches_publishFire_pub b).trans (touches_publishHeat_pub _)
  have hheat : s.judgedNow.heat = b.heat := (hpub .heat (by decide)).1
  refine ⟨(hpub .fire (by decide)).1.trans (by rw [hb]), by rw [hheat, hb], (hpub .faultTally (by decide)).1.trans (by rw [hb]),
    (hpub .choices (by decide)).2.trans (by rw [hb]), (hpub .trail (by decide)).1.1.trans (by rw [hb]), (hpub .mem (by decide)).1.trans (by rw [hb])⟩

end

/-! ## The period that starts -/

section
variable {s w : State} {start : Nat} (hw : s.startPeriod start = w)
include hw

theorem startPeriod_facts : w.fire = startedFire s start ∧ w.pub.fire = w.fire.board ∧ w.heat = s.heat ∧ w.tallies.fault = s.tallies.fault ∧
    w.raised = s.raised ∧ w.trail = s.trail ∧ w.mem = s.mem := by
  have hpub : Touches [.fire, .pub] s (s.startPeriod start) := (touches_startPeriod start (by decide) (by decide)).mpr (Touches.refl _ s)
  subst hw
  have hfire : (s.startPeriod start).fire = startedFire s start := by rw [startPeriod_eq, publishFire_fire]
  refine ⟨hfire, ?_, (hpub .heat (by decide)).1, (hpub .faultTally (by decide)).1, (hpub .choices (by decide)).2, (hpub .trail (by decide)).1.1,
    (hpub .mem (by decide)).1⟩
  rw [hfire, startPeriod_eq, publishFire_board]

end

/-- Nothing fires on an empty demand (R146). -/
theorem startedFire_idle {s : State} (start : Nat) (h : s.demand = 0) : (startedFire s start).starts = Stages.all none := by
  unfold startedFire
  simp only [h]
  rfl

/-- What a period start takes over without a fault (R146). -/
theorem startedFire_quiet {s w : State} {f : Fire} {start : Nat} (hf : w.fire = f) (hheat : w.heat = s.heat) (hset : w.settings = s.settings)
    (hcensus : w.census = s.census) (htable : w.table = s.table) : startedFire w start = { startedFire s start with
      overdraw := f.overdraw, lastExpected := f.lastExpected, lastMeasured := f.lastMeasured, lastReadings := f.lastReadings, cut := f.cut
      lastJudgement := f.lastJudgement, ends := f.ends, count := f.count + 1 } := by
  have hcap : w.cap = s.cap := cap_congr hheat hset
  have hdemand : w.demand = s.demand := demand_congr hheat hset
  have hpos : w.firePosition = s.firePosition := by
    unfold State.firePosition
    rw [hcensus, htable]
  unfold startedFire
  rw [hf, hheat, hset, hcap, hdemand, hpos]

/-! ## Windows (R147) -/

section
variable {s : State} {stage : Fin 4} {a b : Nat}

theorem fire_settled (v : Fire) (hs : s.settled = true) : State.settled { s with fire := v } = true :=
  settled_of_touches (touches_fire s v) (by decide) (by decide) (by decide) hs

theorem openWindow_due (h : s.fire.starts.get stage = some a) (ha : a ≤ s.now) : s.openWindow stage = { s with fire := { s.fire with
    starts := s.fire.starts.set stage none
    ends := s.fire.ends.set stage (some (a + s.fire.scaled.get stage * 8000000)) } } := by
  unfold State.openWindow
  simp only [h]
  exact if_pos ha

theorem periodOwed_iff : s.periodOwed a = true ↔ ∃ p : Nat, s.fire.periodStart = some p ∧ p + 2048000000 ≤ a := by
  unfold State.periodOwed
  cases s.fire.periodStart with
  | none => simp
  | some p =>
    simp only [Option.some.injEq, exists_eq_left', decide_eq_true_eq]
    exact Iff.rfl

theorem followsBy_iff : s.followsBy stage a = true ↔ ∃ b : Nat, s.fire.starts.get stage = some b ∧ b ≤ a := by
  unfold State.followsBy
  cases s.fire.starts.get stage <;> simp

theorem endWindow_owed (h : s.fire.ends.get stage = some a) (ho : s.periodOwed a = true) : s.endWindow stage = s := by
  unfold State.endWindow
  simp only [h]
  exact if_pos (.inr ho)

theorem endWindow_follows (h : s.fire.ends.get stage = some a) (ha : a ≤ s.now) (ho : ¬s.periodOwed a = true)
    (hf : s.followsBy stage a = true) : s.endWindow stage = s.openWindow stage := by
  unfold State.endWindow
  simp only [h]
  rw [if_neg (by rintro (h | h); exacts [absurd ha (by omega), ho h]), if_pos hf]

theorem endWindow_ends (h : s.fire.ends.get stage = some a) (ha : a ≤ s.now) (ho : ¬s.periodOwed a = true)
    (hf : ¬s.followsBy stage a = true) :
    s.endWindow stage = { s with fire := { s.fire with ends := s.fire.ends.set stage none } } := by
  unfold State.endWindow
  simp only [h]
  rw [if_neg (by rintro (h | h); exacts [absurd ha (by omega), ho h]), if_neg hf]

end

/-- Settles O48: a period start judges, scales and opens windows; windows begin and end (R146 to R149). -/
theorem periodsScaleAndOpenWindows : Obligations.PeriodsScaleAndOpenWindows := by
  refine ⟨fun s dt start hs hwf hroom hstart hend => ?_, fun s dt a stage hs ha => ⟨fun hat => ?_, fun hat => ?_, rfl⟩⟩
  · intro next count p scale on scaled opens
    obtain ⟨u, hu⟩ : ∃ u, s.advance dt = u := ⟨_, rfl⟩
    obtain ⟨t, ht⟩ : ∃ t, u.judgedNow.startPeriod next = t := ⟨_, rfl⟩
    have ufire : u.fire = s.fire := by rw [← hu]; rfl
    have uheat : u.heat = s.heat := by rw [← hu]; rfl
    have utable : u.table = s.table := by rw [← hu]; rfl
    have uset : u.settings = s.settings := by rw [← hu]; rfl
    have ucensus : u.census = s.census := by rw [← hu]; rfl
    have uquiet : u.raised = [] := by rw [← hu]; exact raised_of_settled hs
    have ujudged : judged u ↔ judged s := by unfold judged; rw [uheat, ufire]
    have uoverdrew : overdrew u ↔ overdrew s := by unfold overdrew; rw [ufire]
    obtain ⟨tfire, tboard, theat, ttally, traised, ttrail, tmem⟩ := startPeriod_facts ht
    have hexec : exec (.periodStart dt) s = .next t.settle := by
      refine exec_run rfl ?_
      simp only [show (s.advance dt).fire.periodStart = some start from hstart]
      rw [if_pos (show start + periodTime ≤ (s.advance dt).now from hend), hu]
      exact ht
    have hpub : t.settle.pub.fire = t.settle.fire.board := by
      rw [settle_fire, (settle_settles_each t).firing]
      exact tboard
    have hperiod (w : State) (c : Nat) (j : Judgement) (hw : w.fire = judgedFire u c j ∨ w.fire = (judgedFire u c j).stopped) :
        (startedFire w next).periodStart = some next ∧ (startedFire w next).count = s.fire.count + 1 ∧ (startedFire w next).sum = 0 ∧
        (startedFire w next).readings = 0 ∧ (startedFire w next).lastExpected = s.fire.expected ∧
        (startedFire w next).lastMeasured = s.fire.sum / s.fire.readings := by
      obtain hw | hw := hw <;> rw [← ufire] <;> unfold startedFire <;> rw [hw] <;> exact ⟨rfl, rfl, rfl, rfl, rfl, rfl⟩
    refine ⟨t.settle, hexec, ?_⟩
    by_cases hfault : judged s ∧ overdrew s ∧ 3 ≤ count
    · obtain ⟨hj, ho, hc⟩ := hfault
      obtain ⟨wfire, wcap, wtally, wraised, wtrail, wmem⟩ := judgedNow_fault uquiet (ujudged.mpr hj) (uoverdrew.mpr ho) (by rw [ufire]; exact hc)
      have hidle : u.judgedNow.demand = 0 := by unfold State.demand; rw [wcap]
      have hlen : t.raised.length = 2 := by rw [traised, wraised]; rfl
      obtain ⟨h1, h2, h3, h4, h5, h6⟩ := hperiod _ _ _ (.inr wfire)
      rw [← tfire] at h1 h2 h3 h4 h5 h6
      have hfacts : t.fire.overdraw = 0 ∧ t.fire.cut = true ∧ t.fire.ends = Stages.all none := by
        rw [tfire]
        unfold startedFire
        rw [wfire]
        exact ⟨rfl, rfl, rfl⟩
      rw [settle_heat, settle_faultTally, hpub, settle_fire]
      refine ⟨h1, h2, h3, h4, h5, h6, rfl, fun hn => absurd hj hn, fun _ hn => absurd ho hn, fun _ _ hn => absurd hc (by omega),
        fun _ _ _ => ⟨by rw [theat, wcap], ?_, hfacts.1, hfacts.2.1, ?_, hfacts.2.2, ?_⟩, fun hn => absurd ⟨hj, ho, hc⟩ hn⟩
      · rw [ttally, wtally, ← hu]
        rfl
      · rw [tfire, startedFire_idle next hidle]
      · refine settle_recordedRun (by rw [ttrail, wtrail, ← hu]; rfl) (by rw [tmem, wmem, ← hu]; exact hwf) ?_ heatGroup false ?_ ?_
        · rw [hlen]
          unfold trailRoom at hroom
          omega
        · rw [traised, wraised, ← hu]
          exact List.infix_rfl
        · intro e he
          obtain rfl | he := List.mem_cons.mp he
          · rfl
          · rw [List.mem_singleton.mp he]
            rfl
    · have hquiet {c : Nat} {j : Judgement} (h : u.judgePeriod = { u with fire := judgedFire u c j }) :
          t.fire.overdraw = c ∧ t.fire.lastJudgement = j ∧ t.heat = s.heat ∧ t.fire.cap = s.cap ∧ t.fire.demand = s.demand ∧
          t.fire.scaled = scaled ∧ t.fire.expected = weighted s.settings.ratings scaled / 256 ∧
          t.fire.starts = { s0 := opens scaled.s0 0, s1 := opens scaled.s1 1, s2 := opens scaled.s2 2, s3 := opens scaled.s3 3 } ∧
          t.fire.ends = s.fire.ends ∧ t.fire.cut = false ∧
          t.fire.periodStart = some next ∧ t.fire.count = s.fire.count + 1 ∧ t.fire.sum = 0 ∧ t.fire.readings = 0 ∧
          t.fire.lastExpected = s.fire.expected ∧ t.fire.lastMeasured = s.fire.sum / s.fire.readings := by
        obtain ⟨wfire, wheat, wset, wcensus, wtable⟩ := judgedNow_quiet h
        have hstarted := startedFire_quiet (s := s) (start := next) wfire (wheat.trans uheat) (wset.trans uset) (wcensus.trans ucensus)
          (wtable.trans utable)
        have hpos : s.firePosition = p := by
          unfold State.firePosition
          exact if_congr (listed_iff _) rfl rfl
        rw [theat, wheat, uheat, tfire]
        have hstarts : (startedFire s next).starts =
            { s0 := opens scaled.s0 0, s1 := opens scaled.s1 1, s2 := opens scaled.s2 2, s3 := opens scaled.s3 3 } := by
          unfold startedFire phasesOf
          rw [hpos]
          rfl
        exact ⟨(congrArg Fire.overdraw hstarted :), (congrArg Fire.lastJudgement hstarted :), rfl, (congrArg Fire.cap hstarted :),
          (congrArg Fire.demand hstarted :), (congrArg Fire.scaled hstarted :), (congrArg Fire.expected hstarted :),
          (congrArg Fire.starts hstarted :).trans hstarts, (congrArg Fire.ends hstarted :).trans (congrArg Fire.ends ufire :),
          (congrArg Fire.cut hstarted :), hperiod _ _ _ (.inl wfire)⟩
      rw [settle_heat, settle_faultTally, hpub, settle_fire]
      by_cases hj : judged s
      · by_cases ho : overdrew s
        · have hc : count < 3 := by
            by_contra hc
            exact hfault ⟨hj, ho, by omega⟩
          obtain ⟨h1, h2, h3, h4, h5, h6, h7, h8, h9, h10, h11, h12, h13, h14, h15, h16⟩ :=
            hquiet (judgePeriod_overdraw (ujudged.mpr hj) (uoverdrew.mpr ho) (by rw [ufire]; exact hc))
          refine ⟨h11, h12, h13, h14, h15, h16, rfl, fun hn => absurd hj hn, fun _ hn => absurd ho hn, fun _ _ _ => ⟨?_, h2⟩,
            fun _ _ hn => absurd hn (by omega), fun _ => ⟨h3, h4, h5, h6, h7, h8, h9, h10⟩⟩
          rw [h1, ufire]
        · obtain ⟨h1, h2, h3, h4, h5, h6, h7, h8, h9, h10, h11, h12, h13, h14, h15, h16⟩ :=
            hquiet (judgePeriod_within (ujudged.mpr hj) (mt uoverdrew.mp ho))
          exact ⟨h11, h12, h13, h14, h15, h16, rfl, fun hn => absurd hj hn, fun _ _ => ⟨h1, h2⟩, fun _ hn _ => absurd hn ho,
            fun _ hn _ => absurd hn ho, fun _ => ⟨h3, h4, h5, h6, h7, h8, h9, h10⟩⟩
      · obtain ⟨h1, h2, h3, h4, h5, h6, h7, h8, h9, h10, h11, h12, h13, h14, h15, h16⟩ := hquiet (judgePeriod_not (mt ujudged.mp hj))
        exact ⟨h11, h12, h13, h14, h15, h16, rfl, fun _ => ⟨by rw [h1, ufire], h2⟩, fun hn _ => absurd hn hj, fun hn _ _ => absurd hn hj,
          fun hn _ _ => absurd hn hj, fun _ => ⟨h3, h4, h5, h6, h7, h8, h9, h10⟩⟩
  · exact exec_settled rfl (openWindow_due (s := s.advance dt) hat ha) (fire_settled (s := s.advance dt) _ hs)
  · intro owed
    have howed : (s.advance dt).periodOwed a = true ↔ owed := periodOwed_iff
    refine ⟨fun h => exec_settled rfl (endWindow_owed (s := s.advance dt) hat (howed.mpr h)) hs, fun hn hb => ?_, fun b hn hb hba => ?_⟩
    · refine exec_settled rfl (endWindow_ends (s := s.advance dt) hat ha (mt howed.mp hn) fun hf => ?_) (fire_settled (s := s.advance dt) _ hs)
      obtain ⟨b, hat', hba⟩ := followsBy_iff.mp hf
      exact absurd (hb b hat') (by omega)
    · refine exec_settled rfl ((endWindow_follows (s := s.advance dt) hat ha (mt howed.mp hn) (followsBy_iff.mpr ⟨b, hb, hba⟩)).trans
        (openWindow_due (s := s.advance dt) hb (hba.trans ha))) (fire_settled (s := s.advance dt) _ hs)

end Sys2Proof.Machine

/-!
The open order of a member and the GRANT (R83, R86, R87, R120, R140): O33, O34.
-/

namespace Sys2Proof.Machine

/-! ## Counts and acknowledgements (R120) -/

theorem raiseCount_eq (top : Nat) (b : Byte) : raiseCount top b = oneMore top b := by
  unfold raiseCount oneMore
  split
  · rw [Nat.min_eq_right (by omega)]
    exact BitVec.eq_of_toNat_eq (by simp [byte])
  · rw [Nat.min_eq_left (by omega)]

theorem addContribution_eq (top : Nat) (m : OrderAck) (c : Contribution) (p : Nat) : addContribution top m c p = withCar top m c p := by
  unfold addContribution withCar
  simp only [raiseCount_eq]

section
variable {s : State} {up : SpanId}

theorem sendAck_eq (hup : s.upstream = some up) (m : OrderAck) (gen : Word16) :
    s.sendAck m gen = s.send up (orderAckAt s.table.own gen m) := by
  unfold State.sendAck
  rw [hup]
  rfl

/-- The open order is answered: it is forgotten, and an ORDER_ACK waits upstream (R86). -/
theorem answer_openOrder {u v : State} (m : OrderAck) (gen : Word16) (hrelay : u.relay = s.relay) (htable : u.table = s.table)
    (hup : u.upstream = some up) (hcan : canSend u up)
    (hv : State.sendAck { u with relay := { u.relay with openOrder := none } } m gen = v) :
    v.settle.relay = { s.relay with openOrder := none } ∧ waits v.settle up (orderAckAt s.table.own gen m) := by
  obtain ⟨b, hb⟩ : ∃ b : State, b = { u with relay := { u.relay with openOrder := none } } := ⟨_, rfl⟩
  have hspan (x : SpanId) : b.span x = u.span x := by rw [hb]; cases x <;> rfl
  rw [← hb, sendAck_eq (by rw [hb]; exact hup), show b.table = s.table by rw [hb]; exact htable] at hv
  refine ⟨?_, waits_settle ?_⟩
  · rw [settle_relay, ← hv, send_relay, hb, ← hrelay]
  · rw [← hv]
    exact waits_send b _ (by rw [hspan]; exact hcan.1) (by rw [hspan]; have := hcan.2; omega)

end

section
variable {s : State} {x : SpanId} {f : Frame}

theorem fromBelow_iff : s.fromBelow x f = true ↔ s.downstream = some x ∧ f.hop.toNat = s.table.own + 1 := by
  simp [State.fromBelow]

theorem fromAbove_iff : s.fromAbove x f = true ↔ s.upstream = some x ∧ f.hop.toNat + 1 = s.table.own := by
  simp [State.fromAbove]

theorem currentGen_iff : s.currentGen f = true ↔ f.gen = s.table.gen := by
  simp [State.currentGen]

end

/-- Settles O33: the open order is answered by the ORDER_ACK from below or by the end of its wait (R86, R120). -/
theorem openOrderIsAnswered : Obligations.OpenOrderIsAnswered := by
  intro s dt x up o hs hrole hl ho hup hcan
  refine ⟨fun r rest m ht hk hm hxup hgen hdown hhop => ?_, fun hend => ?_⟩
  · obtain ⟨y, hy⟩ : ∃ y, s.taking dt x rest = y := ⟨_, rfl⟩
    have yrelay : y.relay = s.relay := by rw [← hy, taking_relay]
    have ytable : y.table = s.table := by rw [← hy, taking_table]
    have htake : y.takeOrderAck x r.frame = y.memberOrderAck m r.frame.gen := by
      unfold State.takeOrderAck
      simp only [hm]
      rw [if_pos, show y.census.role = .member by rw [← hy, taking_census]; exact hrole]
      rw [Bool.and_eq_true, currentGen_iff, fromBelow_iff, ytable, ← hy, taking_downstream]
      exact ⟨hgen, hdown, hhop⟩
    have hstep {v : State} (hv : y.memberOrderAck m r.frame.gen = v) : exec (.orderAck dt x) s = .next v.settle :=
      exec_takeWave (f := fun f _ u => u.takeOrderAck x f) rfl ht hk hxup hl (by rw [hy]; exact htake.trans hv)
    have hopen : y.relay.openOrder = some o := by rw [yrelay]; exact ho
    refine ⟨fun hnum => ?_, fun hnum => ?_⟩
    · have hack : y.memberOrderAck m r.frame.gen = State.sendAck { y with relay := { y.relay with openOrder := none } }
          (withCar 31 m o.own s.table.own) r.frame.gen := by
        unfold State.memberOrderAck
        simp only [hopen]
        rw [if_pos hnum.symm, addContribution_eq, ytable]
      exact ⟨_, hstep hack, answer_openOrder _ _ yrelay ytable (by rw [← hy, taking_upstream]; exact hup)
        (by rw [← hy]; exact taking_canSend hcan) rfl⟩
    · have hkeep : y.memberOrderAck m r.frame.gen = y := by
        unfold State.memberOrderAck
        simp only [hopen]
        exact if_neg (Ne.symm hnum)
      rw [hstep hkeep, ← hy, settle_of_settled _ (taking_settled hs)]
      rfl
  · have hack : (s.advance dt).endOpenOrder .noAck = State.sendAck { s.advance dt with relay := { s.relay with openOrder := none } }
        (ackOfOne o.number 5 o.own s.table.own) o.gen := by
      unfold State.endOpenOrder
      simp only [show (s.advance dt).relay.openOrder = some o from ho]
      rfl
    have hstep : exec (.ackWaitTimeout dt) s = .next (State.sendAck { s.advance dt with relay := { s.relay with openOrder := none } }
        (ackOfOne o.number 5 o.own s.table.own) o.gen).settle := by
      refine exec_run rfl ?_
      rw [if_pos, hack]
      rw [show (s.advance dt).relay.openOrder = some o from ho]
      exact advance_reached rfl hend
    exact ⟨_, hstep, answer_openOrder (u := s.advance dt) _ _ rfl rfl hup hcan rfl⟩

/-! ## GRANT (R87, R140) -/

theorem writeGrants_records (a : Word16) : ∀ (rs : List ImageRecord) (gs : List Nat), gs.length = rs.length →
    (writeGrants a rs gs).map (fun q => (q.car, q.demand, q.grant, q.grantAlloc)) =
      List.zipWith (fun q g => (q.car, q.demand, word16 g, a)) rs gs
  | [], [], _ => rfl
  | r :: rs, g :: gs, h => by
    rw [writeGrants, List.map_cons, List.tail_cons, writeGrants_records a rs gs (Nat.succ.inj h), List.zipWith_cons_cons]
    rfl

theorem parseGrants_length : ∀ (n : Nat) (l : List Byte), (parseGrants n l).length = n
  | 0, _ => rfl
  | n + 1, l => by rw [parseGrants, List.length_cons, parseGrants_length]

theorem parseGrant_length {f : Frame} {n : Nat} {m : GrantMsg} (h : parseGrant f n = some m) : m.grants.length = n := by
  unfold parseGrant at h
  simp only at h
  split at h
  next hc =>
    obtain rfl := Option.some.inj h
    exact (parseGrants_length _ _).trans hc.2.2.1
  next => exact nomatch h

/-- The member that has taken its grant, before the GRANT is sent on (R75, R140). -/
def State.grantNoted (s : State) (f : Frame) (m : GrantMsg) : State :=
  let t := State.takeGrant { s with relay := { s.relay with lastGrant := some (f.gen, m.alloc) } } (m.grants.getD (s.table.own - 1) 0) f.gen m.alloc
  t.setRecords (writeGrants m.alloc t.table.records m.grants)

theorem memberGrant_eq (s : State) (f : Frame) (m : GrantMsg) : s.memberGrant f m =
    if (s.grantNoted f m).isEndCar then s.grantNoted f m
    else (s.grantNoted f m).sendIf (s.grantNoted f m).downstream { (s.grantNoted f m).waveFrame .grant 1 f.payload with gen := f.gen } := rfl

/-- What taking the grant leaves of each block. -/
theorem grantNoted_facts {s t : State} {f : Frame} {m : GrantMsg} (h : s.grantNoted f m = t) :
    t.relay = { s.relay with lastGrant := some (f.gen, m.alloc) } ∧
    t.heat.lastGrant = { value := m.grants.getD (s.table.own - 1) 0, gen := f.gen, alloc := m.alloc } ∧
    t.heat.cap = (if s.heat.cap = .fallback then .granted else s.heat.cap) ∧
    t.heat.holdEnd = (if s.heat.cap = .granted ∨ s.heat.cap = .fallback then some (s.now + 5000 * ms) else s.heat.holdEnd) ∧
    t.table = { s.table with records := writeGrants m.alloc s.table.records m.grants } ∧ (∀ y, t.span y = s.span y) ∧
    t.census = s.census ∧ t.settings = s.settings := by
  obtain ⟨b, hb⟩ : ∃ b : State, b = { s with relay := { s.relay with lastGrant := some (f.gen, m.alloc) } } := ⟨_, rfl⟩
  obtain ⟨g, hg⟩ : ∃ g, b.takeGrant (m.grants.getD (s.table.own - 1) 0) f.gen m.alloc = g := ⟨_, rfl⟩
  have ht : g.setRecords (writeGrants m.alloc g.table.records m.grants) = t := by
    rw [← h, ← hg, hb]
    rfl
  have hheat := takeGrant_heat b (m.grants.getD (s.table.own - 1) 0) f.gen m.alloc
  have hkeeps := takeGrant_keeps b (m.grants.getD (s.table.own - 1) 0) f.gen m.alloc
  rw [hg] at hheat hkeeps
  have htable : g.table = s.table := by rw [hkeeps, hb]
  rw [← ht]
  dsimp only [State.setRecords]
  rw [hheat, htable]
  refine ⟨by rw [hkeeps, hb], rfl, by rw [hb], by rw [hb], rfl, fun y => ?_, by rw [hkeeps, hb], by rw [hkeeps, hb]⟩
  have hspan : g.span y = s.span y := by rw [hkeeps, hb]; cases y <;> rfl
  rw [← hspan]
  cases y <;> rfl

/-- Settles O34: a member takes its grant, writes the image and sends the GRANT on (R75, R83, R87, R140). -/
theorem grantIsTakenAndSentOn : Obligations.GrantIsTakenAndSentOn := by
  intro s dt x r rest m hs ht hk hxup hm hrole hl f passes
  obtain ⟨y, hy⟩ : ∃ y, s.taking dt x rest = y := ⟨_, rfl⟩
  have ytable : y.table = s.table := by rw [← hy, taking_table]
  have ycensus : y.census = s.census := by rw [← hy, taking_census]
  have yrelay : y.relay = s.relay := by rw [← hy, taking_relay]
  have yheat : y.heat = s.heat := by rw [← hy, taking_heat]
  have hpass : (y.currentGen f && y.fromAbove x f && y.relay.lastGrant != some (f.gen, m.alloc)) = true ↔ passes := by
    rw [Bool.and_eq_true, Bool.and_eq_true, currentGen_iff, fromAbove_iff, bne_iff_ne, ytable, yrelay, ← hy, taking_upstream, and_assoc, and_assoc]
  have htake : y.takeGrantFrame x f = if (y.currentGen f && y.fromAbove x f && y.relay.lastGrant != some (f.gen, m.alloc)) then y.memberGrant f m else y := by
    unfold State.takeGrantFrame State.n
    simp only [ycensus, hrole, ytable, f, hm]
  have hstep {v : State} (hv : y.takeGrantFrame x f = v) : exec (.grant dt x) s = .next v.settle :=
    exec_takeWave (f := fun f _ u => u.takeGrantFrame x f) rfl ht hk hxup hl (by rw [hy]; exact hv)
  refine ⟨fun hno => ?_, fun hyes => ?_⟩
  · rw [hstep (htake.trans (if_neg (mt hpass.mp hno))), ← hy, settle_of_settled _ (taking_settled hs)]
    rfl
  · obtain ⟨t, htdef⟩ : ∃ t, y.grantNoted f m = t := ⟨_, rfl⟩
    obtain ⟨trelay, tgrant, tcap, thold, ttable, tspan, tcensus, tset⟩ := grantNoted_facts htdef
    have hcars : t.table.records.map (fun r => r.car) = s.table.records.map (fun r => r.car) := by
      rw [ttable, ytable]
      exact cars_writeGrants _ _ _
    have hfront : t.front = s.front :=
      front_of_cars (tcensus.trans ycensus) (tset.trans (by rw [← hy, taking_settings])) (by rw [ttable, ytable]) hcars
    have hdown : t.downstream = s.downstream := by
      unfold State.downstream
      rw [hfront]
    have hend : t.isEndCar = s.isEndCar := by
      unfold State.isEndCar State.downstreamUp State.n State.isUp
      rw [tcensus, ycensus, hdown, length_eq_of_cars hcars, ttable, ytable]
      cases s.downstream with
      | none => rfl
      | some z => simp only [tspan, ← hy, taking_state]
    obtain ⟨v, hv⟩ : ∃ v, (if t.isEndCar then t else t.sendIf t.downstream { t.waveFrame .grant 1 f.payload with gen := f.gen }) = v := ⟨_, rfl⟩
    have hmember : y.memberGrant f m = v := by
      rw [memberGrant_eq, htdef]
      exact hv
    have hkept : v.relay = t.relay ∧ v.heat = t.heat ∧ v.table = t.table := by
      rw [← hv]
      split
      · exact ⟨rfl, rfl, rfl⟩
      · cases t.downstream with
        | none => exact ⟨rfl, rfl, rfl⟩
        | some z => exact ⟨send_relay _ _ _, send_heat _ _ _, send_table _ _ _⟩
    obtain ⟨vrelay, vheat, vtable⟩ := hkept
    refine ⟨_, hstep ((htake.trans (if_pos (hpass.mpr hyes))).trans hmember), ?_, ?_, fun hc => ?_, fun hc => ?_, ?_, fun z hne hz hcan => ?_, fun he => ?_⟩
    · rw [settle_relay, vrelay, trelay, yrelay]
    · rw [settle_heat, vheat, tgrant, ytable]
    · rw [settle_heat, vheat, tcap, thold, yheat, if_pos hc, ← hy, taking_now]
      exact ⟨by obtain hc | hc := hc <;> simp [hc], rfl⟩
    · rw [settle_heat, vheat, tcap, yheat, hc]
      rfl
    · rw [settle_table, vtable, ttable, ytable]
      exact writeGrants_records _ _ _ (parseGrant_length hm)
    · refine waits_settle ?_
      rw [if_neg (by rw [hend, hne]; exact Bool.false_ne_true), hdown, hz] at hv
      rw [← hv]
      have hframe : ({ t.waveFrame .grant 1 f.payload with gen := f.gen } : Frame) = waveFrameAt .grant 1 s.table.own f.gen f.payload := by
        unfold State.waveFrame
        rw [ttable, ytable]
        rfl
      have hcan' := taking_canSend (dt := dt) (x := x) (rest := rest) hcan
      rw [hy] at hcan'
      rw [hframe]
      exact waits_send t _ (by rw [tspan]; exact hcan'.1) (by rw [tspan]; have := hcan'.2; omega)
    · rw [if_pos (hend.trans he)] at hv
      have hspan (z : SpanId) : (v.settle.span z).txq = (s.span z).txq := by
        rw [settle_span, ← hv, tspan, ← hy, taking_txq]
      simp only [← span_a, ← span_b]
      exact ⟨hspan .a, hspan .b⟩

end Sys2Proof.Machine

/-!
The rolls of the wave relay (R75, R76, R88 to R90, R123 to R125, R134): O35.
-/

namespace Sys2Proof.Machine

/-! ## The car's own share (R123, R124) -/

section
variable {s t : State}

theorem provenLeft_congr (hf : t.front = s.front) (hd : ∀ k : SideId, t.side k = s.side k) : t.provenLeft = s.provenLeft := by
  unfold State.provenLeft
  rw [hf]
  simp only [hd]

theorem provenRight_congr (hf : t.front = s.front) (hd : ∀ k : SideId, t.side k = s.side k) : t.provenRight = s.provenRight := by
  unfold State.provenRight
  rw [hf]
  simp only [hd]

theorem combineDoorState_eq (s : State) (h : HeldRoll) : s.combineDoorState h = combinedRoll s h := by
  unfold State.combineDoorState combinedRoll State.unproven
  cases s.provenLeft && s.provenRight <;> rfl

theorem ownDoorState_eq (s : State) : s.ownDoorState =
    [1, boolByte s.provenLeft, boolByte s.provenRight, if s.provenLeft && s.provenRight then 0 else byte s.table.own] := by
  unfold State.ownDoorState State.unproven
  cases s.provenLeft && s.provenRight <;> rfl

theorem ownRoll_congr (hf : t.front = s.front) (hd : ∀ k : SideId, t.side k = s.side k) (ho : t.table.own = s.table.own)
    (hg : t.table.gen = s.table.gen) (hdem : t.demand = s.demand) (k : RollKind) : ownRoll t k = ownRoll s k := by
  cases k with
  | doorState => rw [ownRoll, ownRoll, provenLeft_congr hf hd, provenRight_congr hf hd, ho, hg]
  | demand => rw [ownRoll, ownRoll, ho, hg, hdem]

end

/-! ## The image's demands and proving codes (R75, R76) -/

theorem writeDemands_cons (rs : List ImageRecord) (e : Nat × Nat) (es : List (Nat × Nat)) : writeDemands rs (e :: es) =
    writeDemands (if e.1 = 0 then rs else rs.modify (e.1 - 1) (fun r => { r with demand := word16 e.2 })) es := rfl

/-- A record whose position no entry names is left. -/
theorem writeDemands_other (i : Nat) : ∀ (es : List (Nat × Nat)) (rs : List ImageRecord), (∀ e ∈ es, e.1 ≠ i + 1) →
    (writeDemands rs es)[i]? = rs[i]?
  | [], _, _ => rfl
  | e :: es, rs, h => by
    have he := h e (by simp)
    rw [writeDemands_cons, writeDemands_other i es _ fun e' h' => h e' (by simp [h'])]
    split
    · rfl
    · rw [List.getElem?_modify_ne]
      omega

/-- The record whose position one entry names takes that entry's demand. -/
theorem writeDemands_demand {i d : Nat} : ∀ (es : List (Nat × Nat)) (rs : List ImageRecord), es.Pairwise (fun a b => a.1 ≠ b.1) →
    (i + 1, d) ∈ es → ∀ q : ImageRecord, (writeDemands rs es)[i]? = some q → q.demand = word16 d
  | e :: es, rs, hp, hmem, q, hq => by
    obtain ⟨hhead, htail⟩ := List.pairwise_cons.mp hp
    rw [writeDemands_cons] at hq
    obtain he | he := List.mem_cons.mp hmem
    · subst he
      rw [writeDemands_other i es _ fun e' h' hc => hhead e' h' hc.symm, if_neg (Nat.succ_ne_zero i)] at hq
      rw [show (i + 1, d).1 - 1 = i from rfl, List.getElem?_modify_eq] at hq
      obtain ⟨q', -, rfl⟩ := Option.map_eq_some_iff.mp hq
      rfl
    · exact writeDemands_demand es _ htail he q hq

theorem writeProving_length (r : HeldRoll) (b : Bool) (p : Nat) (rs : List ImageRecord) : (writeProving r b p rs).length = rs.length :=
  length_eq_of_cars (cars_writeProving r b p rs)

/-- Each record takes the code of its position (R76). -/
theorem writeProving_proving (r : HeldRoll) (b : Bool) : ∀ (p : Nat) (rs : List ImageRecord) (i : Nat) (q : ImageRecord),
    (writeProving r b p rs)[i]? = some q → q.proving = provingCode r b (p + i)
  | _, [], _, _, h => nomatch h
  | p, x :: rs, 0, q, h => by
    rw [writeProving, List.getElem?_cons_zero] at h
    obtain rfl := Option.some.inj h
    rfl
  | p, x :: rs, i + 1, q, h => by
    rw [writeProving, List.getElem?_cons_succ] at h
    rw [writeProving_proving r b (p + 1) rs i q h]
    congr 1
    omega

/-! ## Taking a roll (R88) -/

section
variable {s : State} {x up : SpanId} {f : Frame}

theorem noteRoll_relay (s : State) (k : RollKind) : (s.noteRoll k).relay = s.relay.setWatch k
    { s.relay.watch k with
      lastRoll := some s.now, dueAt := if (s.relay.watch k).substitute then none else (s.relay.watch k).dueAt, substitute := false } := rfl

/-- A member that takes a DOOR_STATE roll notes it and sends it up with its own share combined (R88, R124). -/
theorem takeDoorState_member {h : HeldRoll} (hp : parseDoorState f = some h) (hg : s.currentGen f = true) (hb : s.fromBelow x f = true)
    (hr : s.census.role = .member) (hup : s.upstream = some up) : s.takeDoorState x f =
      (s.noteRoll .doorState).send up (waveFrameAt .doorState f.origin.toNat s.table.own s.table.gen (combinedRoll s h)) := by
  have hup' : (s.noteRoll .doorState).upstream = some up := hup
  have hcombine : (s.noteRoll .doorState).combineDoorState h = combinedRoll s h := combineDoorState_eq s h
  unfold State.takeDoorState
  simp only [hp, hr]
  rw [hg, hb, if_pos (by rfl), hup', hcombine, currentGen_iff.mp hg]
  rfl

theorem takeDoorState_lead {h : HeldRoll} (hp : parseDoorState f = some h) (hg : s.currentGen f = true) (hb : s.fromBelow x f = true)
    (hr : s.census.role = .lead) : s.takeDoorState x f = s.holdRoll h := by
  unfold State.takeDoorState
  simp only [hp, hr]
  rw [hg, hb, if_pos (by rfl)]

/-- A member that takes a DEMAND roll notes it and its demands and sends it up with its own entry (R75, R88, R134). -/
theorem takeDemand_member {es : List (Nat × Nat)} (hp : parseDemand f = some es) (hg : s.currentGen f = true)
    (hb : s.fromBelow x f = true) (hr : s.census.role = .member) : s.takeDemand x f = s.memberDemand f es := by
  unfold State.takeDemand
  simp only [hp, hr]
  rw [hg, hb, if_pos (by rfl)]

end

/-! ## Originating a roll (R89) -/

section
variable (s : State) (es : List (Nat × Nat))

theorem noteDemands_relay : (s.noteDemands es).relay = s.relay := by
  obtain ⟨p, a, h⟩ := noteDemands_eq s es
  rw [h]

theorem noteDemands_table : (s.noteDemands es).table = { s.table with records := writeDemands s.table.records es } := by
  obtain ⟨p, a, h⟩ := noteDemands_eq s es
  rw [h]

theorem noteDemands_span (x : SpanId) : (s.noteDemands es).span x = s.span x := by
  obtain ⟨p, a, h⟩ := noteDemands_eq s es
  rw [h]
  cases x <;> rfl

theorem noteDemands_upstream : (s.noteDemands es).upstream = s.upstream := by
  have h := sameConsist_noteDemands s es
  unfold State.upstream
  rw [h.front, h.census]

end

/-- A roll of the car's own share waits on its upstream span, and the relay is left (R89). -/
theorem originate_sends {s : State} {up : SpanId} (k : RollKind) (hup : s.upstream = some up) (hcan : (s.span up).state = .up)
    (hroom : (s.span up).depth < 8) : (s.originate k).relay = s.relay ∧ waits (s.originate k) up (ownRoll s k) := by
  cases k with
  | doorState =>
    have heq : s.originate .doorState = s.send up (ownRoll s .doorState) := by
      unfold State.originate
      rw [hup, ownDoorState_eq]
      rfl
    rw [heq]
    exact ⟨send_relay _ _ _, waits_send s _ hcan hroom⟩
  | demand =>
    obtain ⟨t, ht⟩ : ∃ t, s.noteDemands [(s.table.own, s.demand)] = t := ⟨_, rfl⟩
    have htable := noteDemands_table s [(s.table.own, s.demand)]
    have hspan := noteDemands_span s [(s.table.own, s.demand)] up
    have hupstream := noteDemands_upstream s [(s.table.own, s.demand)]
    have hrelay := noteDemands_relay s [(s.table.own, s.demand)]
    rw [ht] at htable hspan hupstream hrelay
    have heq : s.originate .demand = t.send up (ownRoll s .demand) := by
      unfold State.originate
      dsimp only
      rw [ht, hupstream, hup]
      unfold State.waveFrame
      rw [htable]
      rfl
    rw [heq]
    exact ⟨(send_relay _ _ _).trans hrelay, waits_send t _ (by rw [hspan]; exact hcan) (by rw [hspan]; exact hroom)⟩

/-- A roll that is originated while the watch of its kind is set waits upstream (R89, R90). -/
theorem setWatch_originate {s : State} {up : SpanId} (dt : Nat) (k : RollKind) (w : RollWatch) (hup : s.upstream = some up)
    (hcan : canSend s up) {v : State} (hv : ((s.advance dt).setWatch k w).originate k = v) :
    v.settle.relay = s.relay.setWatch k w ∧ waits v.settle up (ownRoll s k) := by
  obtain ⟨b, hb⟩ : ∃ b : State, b = (s.advance dt).setWatch k w := ⟨_, rfl⟩
  have hspan : b.span up = s.span up := by rw [hb]; cases up <;> rfl
  have hupb : b.upstream = some up := by rw [hb]; exact hup
  have hroll : ownRoll b k = ownRoll s k := by rw [hb]; cases k <;> rfl
  have hrelay : b.relay = s.relay.setWatch k w := by rw [hb]; rfl
  rw [← hb] at hv
  obtain ⟨hkept, hwaits⟩ := originate_sends k hupb (by rw [hspan]; exact hcan.1) (by rw [hspan]; have := hcan.2; omega)
  rw [hv] at hkept hwaits
  exact ⟨by rw [settle_relay, hkept, hrelay], waits_settle (hroll ▸ hwaits)⟩

/-! ## The rolls of a step -/

section
variable {s : State} {dt : Nat} {x : SpanId} {r : RxFrame} {rest : List RxFrame}

theorem taking_side (k : SideId) : (s.taking dt x rest).side k = s.side k := by
  cases k
  exacts [congrArg Door.side1 taking_door, congrArg Door.side2 taking_door]

theorem taking_provenLeft : (s.taking dt x rest).provenLeft = s.provenLeft := provenLeft_congr taking_front taking_side

theorem taking_provenRight : (s.taking dt x rest).provenRight = s.provenRight := provenRight_congr taking_front taking_side

theorem taking_combinedRoll (h : HeldRoll) : combinedRoll (s.taking dt x rest) h = combinedRoll s h := by
  unfold combinedRoll
  rw [taking_provenLeft, taking_provenRight, taking_table]

/-- A roll passes the filters of R83 at the car it reaches. -/
theorem taking_passes {f : Frame} (hgen : f.gen = s.table.gen) (hdown : s.downstream = some x) (hhop : f.hop.toNat = s.table.own + 1) :
    (s.taking dt x rest).currentGen f = true ∧ (s.taking dt x rest).fromBelow x f = true := by
  rw [currentGen_iff, fromBelow_iff, taking_table, taking_downstream]
  exact ⟨hgen, hdown, hhop⟩

end

/-- The lead writes the proving code of each position from the roll it holds (R76). -/
theorem provingCode_eq (h : HeldRoll) (l r : Bool) (i : Nat) : provingCode h (!(l && r)) (1 + i) =
    (if i = 0 then (if l && r then 1 else 2)
     else if h.contributors < i then 4
     else if h.firstUnproven = 0 ∨ i + 1 < h.firstUnproven.toNat then 1
     else if i + 1 = h.firstUnproven.toNat then 2
     else 3) := by
  unfold provingCode
  rw [Nat.add_comm 1 i]
  by_cases hi : i = 0
  · subst hi
    cases l && r <;> rfl
  · rw [if_neg (show ¬(i + 1 = 1) by omega), if_neg hi]
    exact if_congr (by omega) rfl rfl

/-- Settles O35: a roll is noted, combined and sent up at a member, held and written at the lead, and originated when it falls
due or none came from below for three periods (R75, R76, R88 to R90, R124, R125, R134). -/
theorem rollsAreOriginatedAndCombined : Obligations.RollsAreOriginatedAndCombined := by
  refine ⟨fun s dt x r rest hs ht hup hl hgen hdown hhop => ?_, fun s dt kind up hs hups hcan => ?_⟩
  · intro noted
    obtain ⟨hg, hb⟩ := taking_passes (dt := dt) (rest := rest) hgen hdown hhop
    refine ⟨fun up h hk hp hr hups hcan => ?_, fun h hk hp hr hown => ?_, fun up es hk hp hr hups hcan => ?_⟩
    · obtain ⟨y, hy⟩ : ∃ y, s.taking dt x rest = y := ⟨_, rfl⟩
      have hcany := taking_canSend (dt := dt) (x := x) (rest := rest) hcan
      have htake := takeDoorState_member hp hg hb (by rw [taking_census]; exact hr) (by rw [taking_upstream]; exact hups)
      refine ⟨_, exec_takeWave (f := fun f _ u => u.takeDoorState x f) rfl ht hk hup hl htake, ?_, ?_, waits_settle ?_⟩
      · rw [settle_relay, send_relay, noteRoll_relay, taking_relay, taking_now]
        rfl
      · rw [settle_relay, send_relay, noteRoll_relay, taking_relay]
        rfl
      · rw [taking_combinedRoll, taking_table]
        have hspan : ((s.taking dt x rest).noteRoll .doorState).span up = (s.taking dt x rest).span up := by cases up <;> rfl
        exact waits_send _ _ (by rw [hspan]; exact hcany.1) (by rw [hspan]; have := hcany.2; omega)
    · have htake := takeDoorState_lead hp hg hb (by rw [taking_census]; exact hr)
      refine ⟨_, exec_takeWave (f := fun f _ u => u.takeDoorState x f) rfl ht hk hup hl htake, ?_, ?_, ?_, ?_, fun i q hq => ?_⟩
      · rw [settle_door]
        rfl
      · rw [settle_door]
        show some ((s.taking dt x rest).now + 300 * ms) = _
        rw [taking_now]
        rfl
      · rw [settle_door]
        rfl
      · rw [settle_table]
        show (writeProving h _ 1 (s.taking dt x rest).table.records).length = _
        rw [writeProving_length, taking_table]
      · rw [settle_table] at hq
        have hproving := writeProving_proving h _ 1 _ i q hq
        rw [hproving]
        unfold State.unproven
        rw [provingCode_eq, taking_provenLeft, taking_provenRight]
    · have hcany := taking_canSend (dt := dt) (x := x) (rest := rest) hcan
      have htake := takeDemand_member hp hg hb (by rw [taking_census]; exact hr)
      obtain ⟨y, hy⟩ : ∃ y, s.taking dt x rest = y := ⟨_, rfl⟩
      have hyt : y.table = s.table := by rw [← hy, taking_table]
      have hydem : y.demand = s.demand := by rw [← hy, taking_demand]
      have hynow : y.now = s.now + dt := by rw [← hy, taking_now]
      have hyrelay : y.relay = s.relay := by rw [← hy, taking_relay]
      have hyup : y.upstream = some up := by rw [← hy, taking_upstream]; exact hups
      obtain ⟨n, hn⟩ : ∃ n, (y.noteRoll .demand).noteDemands (es ++ [(s.table.own, s.demand)]) = n := ⟨_, rfl⟩
      have hntable := noteDemands_table (y.noteRoll .demand) (es ++ [(s.table.own, s.demand)])
      have hnrelay := noteDemands_relay (y.noteRoll .demand) (es ++ [(s.table.own, s.demand)])
      have hnspan := noteDemands_span (y.noteRoll .demand) (es ++ [(s.table.own, s.demand)]) up
      have hnup := noteDemands_upstream (y.noteRoll .demand) (es ++ [(s.table.own, s.demand)])
      rw [hn] at hntable hnrelay hnspan hnup
      have hnspan' : n.span up = y.span up := hnspan.trans (by cases up <;> rfl)
      have hnup' : n.upstream = some up := hnup.trans hyup
      have htable : n.table = { s.table with records := writeDemands s.table.records (es ++ [(s.table.own, s.demand)]) } := by
        rw [hntable, ← hyt]
        rfl
      have hmember : y.memberDemand r.frame es = n.send up (waveFrameAt .demand r.frame.origin.toNat s.table.own s.table.gen
          (demandPayload (es ++ [(s.table.own, s.demand)]))) := by
        unfold State.memberDemand
        dsimp only
        rw [hyt, hydem, hn, hnup']
        unfold State.waveFrame
        rw [htable, hgen]
        rfl
      rw [hy] at htake hcany
      refine ⟨_, exec_takeWave (f := fun f _ u => u.takeDemand x f) rfl ht hk hup hl ((congrArg (fun z => z.takeDemand x r.frame) hy :).trans (htake.trans hmember)), ?_, ?_, ?_, ?_, waits_settle ?_⟩
      · rw [settle_relay, send_relay, hnrelay, noteRoll_relay, hyrelay, hynow]
        rfl
      · rw [settle_relay, send_relay, hnrelay, noteRoll_relay, hyrelay]
        rfl
      · rw [settle_table, send_table, htable]
        exact cars_writeDemands _ _
      · intro i d q hpw hmem hq
        rw [settle_table, send_table, htable] at hq
        exact writeDemands_demand _ _ hpw hmem q hq
      · exact waits_send n _ (by rw [hnspan']; exact hcany.1) (by rw [hnspan']; have := hcany.2; omega)
  · intro period w
    have hperiod : rollPeriod kind = period := by cases kind <;> rfl
    refine ⟨fun due hdue hle => ?_, fun hr hl hend hsub hwatch hlast => ?_⟩
    · have hdue' : ((s.advance dt).relay.watch kind).dueAt = some due := hdue
      have hstep : (s.advance dt).originateDue kind = ((s.advance dt).setWatch kind { w with dueAt := some (due + period) }).originate kind := by
        unfold State.originateDue
        simp only [hdue']
        rw [if_pos (show due ≤ (s.advance dt).now from hle), hperiod]
        rfl
      exact ⟨_, exec_run (f := fun t => t.originateDue kind) rfl hstep, setWatch_originate dt kind _ hups hcan rfl⟩
    · have hmust : (s.advance dt).mustSubstitute kind = true := by
        have hfrom : w.silentFrom kind ≤ s.now + dt := by
          unfold RollWatch.silentFrom
          rw [hperiod]
          cases hw : w.lastRoll with
          | none =>
            rw [Option.getD_none]
            omega
          | some last =>
            have := hlast last hw
            rw [Option.getD_some]
            omega
        unfold State.mustSubstitute
        simp only [Bool.and_eq_true, beq_iff_eq, decide_eq_true_iff, Bool.not_eq_true']
        exact ⟨⟨⟨⟨hr, (listed_iff _).mpr hl⟩, hend⟩, hsub⟩, hfrom⟩
      have hstep : (if (s.advance dt).mustSubstitute kind then
          ((s.advance dt).setWatch kind { (s.advance dt).relay.watch kind with
            dueAt := some ((s.advance dt).now + rollPeriod kind), substitute := true }).originate kind else s.advance dt) =
          ((s.advance dt).setWatch kind { w with dueAt := some (s.now + dt + period), substitute := true }).originate kind := by
        rw [if_pos hmust, hperiod]
        rfl
      exact ⟨_, exec_run rfl hstep, setWatch_originate dt kind _ hups hcan rfl⟩

end Sys2Proof.Machine

/-!
The decision on an order at a car (R103 to R106, R118 to R120), and the ORDER at a member (R83, R85, R92): O32.
-/

namespace Sys2Proof.Machine

/-! ## Verdicts and the sides an order addresses (R103, R118) -/

theorem verdict_eq (s : State) (k : SideId) (a : Action) : s.verdict k a = verdictOn s k a := by
  unfold State.verdict verdictOn
  cases (s.side k).state <;> simp

theorem sidesAddressed_iff (s : State) (o : Order) (position : Nat) (k : SideId) :
    sidesAddressed o position s.front k = true ↔ addressed s o position k := by
  unfold sidesAddressed addressed
  rw [Bool.and_eq_true, Bool.and_eq_true, decide_eq_true_iff, decide_eq_true_iff, and_assoc]
  refine and_congr_right fun _ => and_congr_right fun _ => ?_
  cases hf : s.front with
  | none => simp
  | some f =>
    simp only [Option.some.injEq, exists_eq_left']
    by_cases h1 : o.trainSide = 1
    · rw [if_pos h1, h1]
      cases f <;> cases k <;> simp [trainLeft]
    · rw [if_neg h1]
      by_cases h2 : o.trainSide = 2
      · rw [if_pos h2, h2]
        cases f <;> cases k <;> simp [trainRight]
      · rw [if_neg h2]
        exact ⟨fun _ => .inr (.inr ⟨h1, h2⟩), fun _ => rfl⟩

/-- The class of a car in terms of the verdicts of the sides that were handed the order (R119). -/
theorem classOf_eq (hit1 hit2 : Bool) (v1 v2 : Verdict) :
    let c := classOf (if hit1 then v1.code else 0) (if hit2 then v2.code else 0)
    let refuses (hit : Bool) (v : Verdict) : Prop := hit = true ∧ (v = .refusedFault ∨ v = .refusedStale ∨ v = .refusedAux)
    let takes (hit : Bool) (v : Verdict) : Prop := hit = true ∧ v = .taken
    (refuses hit1 v1 ∨ refuses hit2 v2 → c = .refused) ∧
      (¬(refuses hit1 v1 ∨ refuses hit2 v2) → takes hit1 v1 ∨ takes hit2 v2 → c = .applied) ∧
      (¬(refuses hit1 v1 ∨ refuses hit2 v2) → ¬(takes hit1 v1 ∨ takes hit2 v2) → c = .notAddressed) := by
  revert hit1 hit2 v1 v2
  have h (hit : Bool) (v : Verdict) : let b : Byte := if hit then v.code else 0
      (hit = true ∧ (v = .refusedFault ∨ v = .refusedStale ∨ v = .refusedAux) ↔ 3 ≤ b.toNat) ∧ (hit = true ∧ v = .taken ↔ b = 1) := by
    cases hit <;> cases v <;> decide
  intro hit1 hit2 v1 v2 c refuses takes
  have hc : c = if 3 ≤ (if hit1 then v1.code else 0).toNat ∨ 3 ≤ (if hit2 then v2.code else 0).toNat then OrderClass.refused
      else if (if hit1 then v1.code else 0) = 1 ∨ (if hit2 then v2.code else 0) = 1 then .applied else .notAddressed := rfl
  rw [or_congr (h hit1 v1).1 (h hit2 v2).1, or_congr (h hit1 v1).2 (h hit2 v2).2]
  exact ⟨fun hr => hc.trans (if_pos hr), fun hr ht => hc.trans ((if_neg hr).trans (if_pos ht)),
    fun hr ht => hc.trans ((if_neg hr).trans (if_neg ht))⟩

theorem contributionOf_classOf (s : State) (o : Order) (position : Nat) (late : Bool) (hit1 hit2 : Bool)
    (h1 : hit1 = true ↔ addressed s o position .one) (h2 : hit2 = true ↔ addressed s o position .two) :
    contributionOf s o position late
      { cls := classOf (if hit1 then (verdictOn s .one o.action).code else 0) (if hit2 then (verdictOn s .two o.action).code else 0)
        late := late, verdict1 := if hit1 then (verdictOn s .one o.action).code else 0
        verdict2 := if hit2 then (verdictOn s .two o.action).code else 0 } := by
  obtain ⟨hrefused, happlied, hnot⟩ := classOf_eq hit1 hit2 (verdictOn s .one o.action) (verdictOn s .two o.action)
  unfold contributionOf
  simp only [← h1, ← h2]
  exact ⟨trivial, hrefused, happlied, hnot, fun h => by rw [if_pos h], fun h => if_neg h, fun h => by rw [if_pos h], fun h => if_neg h⟩

/-! ## An order handed to a side (R103, R104) -/

section
variable {s : State} {k : SideId}

theorem entered_lastVerdict (d : Side) (new : DoorState) (now ct : Nat) : (d.entered new now ct).lastVerdict = d.lastVerdict := by
  have hdiscarded (e : Side) : e.discarded.lastVerdict = e.lastVerdict := by
    unfold Side.discarded
    split <;> rfl
  cases new
  case fault | isolated => exact hdiscarded _
  case unlocked | closing =>
    unfold Side.entered
    simp only
    split <;> rfl
  case absent | closed | released => rfl

theorem actOnSide_lastVerdict (o : PendingOrder) : ((s.actOnSide k o).side k).lastVerdict = (s.side k).lastVerdict := by
  have hlease (u : State) : ((u.startLease k o).side k).lastVerdict = (u.side k).lastVerdict := by
    unfold State.startLease
    rw [setSide_side]
  have henter (new : DoorState) : ((s.enterSide k new .order o.number).side k).lastVerdict = (s.side k).lastVerdict := by
    rw [enterSide_side, entered_lastVerdict]
  unfold State.actOnSide
  split
  case h_1 => exact hlease s
  case h_2 | h_3 | h_4 => exact (hlease _).trans (henter _)
  case h_5 | h_6 | h_7 => exact henter _
  case h_8 => rfl

theorem applyPending_lastVerdict (o : PendingOrder) : ((s.applyPending k o).side k).lastVerdict = (s.side k).lastVerdict := by
  unfold State.applyPending
  simp only
  split
  · show ((State.setSide _ k _).side k).lastVerdict = _
    rw [setSide_side, setSide_side]
  · rw [actOnSide_lastVerdict, setSide_side, setSide_side]

theorem raises_handToSide (o : PendingOrder) : Raises 2 s (s.handToSide k o) := by
  unfold State.handToSide
  simp only
  split
  · split
    · exact (raises_setSide s k _).trans (raises_applyPending _ k o)
    · exact ((raises_setSide s k _).trans (raises_setSide _ k _)).mono (by omega)
  · exact (raises_setSide s k _).mono (by omega)

end

/-- `u` stands as `s` does in all that an order handed to the car reads. -/
structure AtCar (s u : State) : Prop where
  census : u.census = s.census
  mon : u.mon = s.mon
  table : u.table = s.table
  settings : u.settings = s.settings
  side : ∀ k : SideId, u.side k = s.side k

section
variable {s u w : State} {k : SideId} {p : PendingOrder}

theorem verdictOn_congr (hc : u.census = s.census) (hm : u.mon = s.mon) (hd : u.side k = s.side k) (a : Action) :
    verdictOn u k a = verdictOn s k a := by
  unfold verdictOn
  rw [hc, hm, hd]

/-- The side that was handed an order, in any later state of the step that leaves it (R103 to R106). -/
theorem sideAfterOrder_of {hit : Prop} (hc : u.census = s.census) (hm : u.mon = s.mon) (ht : u.table = s.table)
    (hset : u.settings = s.settings) (hd : u.side k = s.side k) (hno : ¬hit → w.side k = s.side k)
    (hyes : hit → w.side k = (u.handToSide k p).side k ∧ (u.handToSide k p).raised ⊆ w.raised)
    (hrec : trailRoom s → ∀ (g : Nat) (e : Event), { group := g, event := e } ∈ w.raised → recordedIn s w.settle e) :
    sideAfterOrder s w.settle u.now p hit k := by
  have hverdict : u.verdict k p.action = verdictOn s k p.action := by rw [verdict_eq, verdictOn_congr hc hm hd]
  obtain ⟨b, hb⟩ : ∃ b, u.setSide k { s.side k with lastVerdict := some (verdictOn s k p.action) } = b := ⟨_, rfl⟩
  have hbside : b.side k = { s.side k with lastVerdict := some (verdictOn s k p.action) } := by rw [← hb, setSide_side]
  have hhand : u.handToSide k p = if verdictOn s k p.action = .taken then
      (if p.applyAt ≤ u.now then b.applyPending k p else b.setSide k { b.side k with pend := some p }) else b := by
    unfold State.handToSide
    simp only [hverdict, hd, hb]
  refine ⟨fun hcase => ⟨fun hn => ?_, fun hh => ?_⟩, fun hle hh htaken hroom => ?_⟩
  · rw [settle_side, hno hn]
  · obtain ⟨hside, -⟩ := hyes hh
    rw [settle_side, hside, hhand]
    by_cases htaken : verdictOn s k p.action = .taken
    · have hlt : ¬(p.applyAt ≤ u.now) := by
        obtain hlt | hn | hn := hcase
        exacts [Nat.not_le.mpr hlt, absurd hh hn, absurd htaken hn]
      rw [if_pos htaken, if_neg hlt, setSide_side, if_pos htaken, hbside]
    · rw [if_neg htaken, if_neg htaken, hbside]
  · obtain ⟨hside, hsub⟩ := hyes hh
    rw [hhand, if_pos htaken, if_pos hle] at hside hsub
    have hbase : AtSide s b k := by
      refine ⟨?_, ?_, ?_, ?_, some (verdictOn s k p.action), (s.side k).pend, hbside⟩
      · rw [← hb, setSide_census, hc]
      · rw [← hb, setSide_mon, hm]
      · rw [← hb, setSide_table, ht]
      · rw [← hb, setSide_settings, hset]
    have hnow : b.now = u.now := by rw [← hb, setSide_now]
    refine ⟨?_, hnow ▸ hbase.applied hside hsub (hrec hroom)⟩
    rw [settle_side, hside, applyPending_lastVerdict, hbside]
    exact congrArg some htaken

/-- An order handed to the car: the contribution is that of its addressed sides, and each side stands as the order leaves it in
any later state of the step that leaves the sides (R118, R119). -/
theorem handOrder_decides {o : Order} {gen : Word16} {applyAt : Nat} {late : Bool} {position : Nat} {t : State} {c : Contribution}
    (h : u.handOrder o gen applyAt late position = (t, c)) (hu : AtCar s u) :
    contributionOf s o position late c ∧ OnlySides u t ∧ Raises 4 u t ∧
      ∀ w : State, (∀ k : SideId, w.side k = t.side k) → t.raised ⊆ w.raised →
        (trailRoom s → ∀ (g : Nat) (e : Event), { group := g, event := e } ∈ w.raised → recordedIn s w.settle e) →
        ∀ k : SideId, sideAfterOrder s w.settle u.now
          { action := o.action, number := o.number, lease := o.lease, gen := gen, applyAt := applyAt, late := late }
          (addressed s o position k) k := by
  obtain ⟨p, hp⟩ : ∃ p : PendingOrder,
    PendingOrder.mk o.action o.number o.lease gen applyAt late = p := ⟨_, rfl⟩
  have hfront : u.front = s.front := front_congr hu.census hu.table hu.settings
  have hhit (k : SideId) : sidesAddressed o position u.front k = true ↔ addressed s o position k := by
    rw [hfront]
    exact sidesAddressed_iff s o position k
  have hverdict (k : SideId) : u.verdict k o.action = verdictOn s k o.action := by
    rw [verdict_eq, verdictOn_congr hu.census hu.mon (hu.side k)]
  obtain ⟨v, hv⟩ : ∃ v, (if sidesAddressed o position u.front .one = true then u.handToSide .one p else u) = v := ⟨_, rfl⟩
  have hsides := onlySides_handOrder u o gen applyAt late position
  have ht : t = if sidesAddressed o position u.front .two = true then v.handToSide .two p else v := by
    rw [← hv, ← hp]
    exact (congrArg Prod.fst h).symm
  have hc : c = _ := (congrArg Prod.snd h).symm
  have hfirst : OnlySide .one u v := by
    rw [← hv]
    split
    exacts [onlySide_handToSide u .one p, .refl _ u]
  have hsecond : OnlySide .two v t := by
    rw [ht]
    split
    exacts [onlySide_handToSide v .two p, .refl _ v]
  have hraise1 : Raises 2 u v := by
    rw [← hv]
    split
    exacts [raises_handToSide p, (Raises.of_same rfl).mono (Nat.zero_le _)]
  have hraise2 : Raises 2 v t := by
    rw [ht]
    split
    exacts [raises_handToSide p, (Raises.of_same rfl).mono (Nat.zero_le _)]
  obtain ⟨vcensus, vmon, vtable, vset, vnow, -, -⟩ := hfirst.rest
  have hside1 : t.side .one = v.side .one := hsecond.other (by simp)
  have hside2 : v.side .two = u.side .two := hfirst.other (by simp)
  refine ⟨?_, by rw [h] at hsides; exact hsides, hraise1.trans hraise2, fun w hw hsub hrec k => ?_⟩
  · rw [hc]
    unfold State.handOrder
    simp only [hverdict]
    exact contributionOf_classOf s o position late _ _ (hhit .one) (hhit .two)
  · rw [hp]
    cases k with
    | one =>
      refine sideAfterOrder_of hu.census hu.mon hu.table hu.settings (hu.side _) (fun hn => ?_) (fun hh => ?_) hrec
      · rw [hw, hside1, ← hv, if_neg (mt (hhit .one).mp hn), hu.side]
      · rw [hw, hside1]
        rw [if_pos ((hhit .one).mpr hh)] at hv
        rw [hv]
        exact ⟨rfl, List.Subset.trans hraise2.subset hsub⟩
    | two =>
      rw [← vnow]
      refine sideAfterOrder_of (vcensus.trans hu.census) (vmon.trans hu.mon) (vtable.trans hu.table) (vset.trans hu.settings)
        (hside2.trans (hu.side _)) (fun hn => ?_) (fun hh => ?_) hrec
      · rw [hw, ht, if_neg (mt (hhit .two).mp hn), hside2, hu.side]
      · rw [hw]
        rw [if_pos ((hhit .two).mpr hh)] at ht
        rw [← ht]
        exact ⟨rfl, hsub⟩

end

end Sys2Proof.Machine

/-!
An ORDER at a member (R83, R85, R92): O32.
-/

namespace Sys2Proof.Machine

/-! ## Operations that only send -/

/-- Nothing of the doors, the memory or the trail differs, and at most `n` events are raised. -/
structure Sends (n : Nat) (s t : State) : Prop where
  door : t.door = s.door
  mem : t.mem = s.mem
  trail : t.trail = s.trail
  raises : Raises n s t

section
variable {n m : Nat} {s t u : State}

theorem Sends.refl (s : State) : Sends 0 s s := ⟨rfl, rfl, rfl, .of_same rfl⟩

theorem Sends.trans (h : Sends n s t) (h' : Sends m t u) : Sends (n + m) s u :=
  ⟨h'.door.trans h.door, h'.mem.trans h.mem, h'.trail.trans h.trail, h.raises.trans h'.raises⟩

theorem Sends.mono (h : Sends n s t) (hn : n ≤ m) : Sends m s t := ⟨h.door, h.mem, h.trail, h.raises.mono hn⟩

variable (s)

theorem sends_relay (v : Relay) : Sends 0 s { s with relay := v } := ⟨rfl, rfl, rfl, .of_same rfl⟩

theorem sends_offer (x : SpanId) (f : TxFrame) : Sends 1 s (s.offer x f).1 := by
  refine ⟨?_, ?_, ?_, raises_offer s x f⟩
  · rw [offer_keeps]
    exact setSpan_door _ _ _
  · rw [offer_keeps]
    exact setSpan_mem _ _ _
  · rw [offer_keeps]
    exact setSpan_trail _ _ _

theorem sends_send (x : SpanId) (f : Frame) : Sends 1 s (s.send x f) := sends_offer s x _

theorem sends_sendIf (x : Option SpanId) (f : Frame) : Sends 1 s (s.sendIf x f) := by
  cases x
  exacts [(Sends.refl s).mono (Nat.zero_le _), sends_send s _ f]

theorem sendIf_relay (x : Option SpanId) (f : Frame) : (s.sendIf x f).relay = s.relay := by
  cases x
  exacts [rfl, send_relay s _ f]

theorem sends_endOpenOrder (why : StopReason) : Sends 1 s (s.endOpenOrder why) := by
  unfold State.endOpenOrder
  split
  · exact (Sends.refl s).mono (Nat.zero_le _)
  · exact (sends_relay s _).trans (sends_sendIf _ _ _)

theorem endOpenOrder_lastOrder (why : StopReason) : (s.endOpenOrder why).relay.lastOrder = s.relay.lastOrder := by
  unfold State.endOpenOrder
  split
  · rfl
  · unfold State.startAck State.sendAck
    rw [sendIf_relay]

end

/-! ## The order sent on (R82, R85, R86) -/

section
variable (s : State) (y : SpanId)

/-- The relay is told the loss of the order it sends on, if it is lost at once (R32, R33, R86). -/
theorem offerOrder_forwarded {f : TxFrame} {gen : Word16} {number : Byte} {endAt delay : Nat} {late : Bool}
    (hf : f.tag = .forwarded gen number endAt delay late) :
    Sends 2 s (s.offerOrder y f) ∧ (s.offerOrder y f).relay.lastOrder = s.relay.lastOrder := by
  have hoffer := sends_offer s y f
  have hrelay : (s.offer y f).1.relay = s.relay := by
    rw [offer_keeps]
    exact setSpan_relay _ _ _
  have hlost (t : State) (why : StopReason) : Sends 1 t (t.tellLost why f) ∧ (t.tellLost why f).relay.lastOrder = t.relay.lastOrder := by
    unfold State.tellLost
    simp only [hf]
    unfold State.forwardedLost
    split
    · exact ⟨(Sends.refl t).mono (Nat.zero_le _), rfl⟩
    · split
      · exact ⟨sends_endOpenOrder t why, endOpenOrder_lastOrder t why⟩
      · exact ⟨(Sends.refl t).mono (Nat.zero_le _), rfl⟩
  unfold State.offerOrder
  obtain ⟨⟨t, r⟩, h⟩ : ∃ p, s.offer y f = p := ⟨_, rfl⟩
  rw [h] at hoffer hrelay ⊢
  cases r
  case joined => exact ⟨hoffer.mono (by omega), by rw [show t.relay = s.relay from hrelay]⟩
  case discarded | dropped =>
    obtain ⟨h1, h2⟩ := hlost t _
    exact ⟨hoffer.trans h1, h2.trans (by rw [show t.relay = s.relay from hrelay])⟩

theorem offerOrder_room {f : TxFrame} (hup : (s.span y).state = .up) (hroom : (s.span y).depth < 8) :
    s.offerOrder y f = s.setSpan y { s.span y with txq := (s.span y).txq ++ [f] } := by
  unfold State.offerOrder
  rw [offer_room s y f hup hroom]

variable (f : Frame) (o : Order) (endAt : Nat) (c : Contribution)

theorem forwardOrder_sends :
    Sends 2 s (s.forwardOrder f o endAt c) ∧ (s.forwardOrder f o endAt c).relay.lastOrder = s.relay.lastOrder := by
  obtain ⟨b, hb⟩ : ∃ b : State, b = { s with relay := { s.relay with
    openOrder := some { gen := f.gen, number := o.number, own := c, ackEnd := s.now + ackWait s.table.own } } } := ⟨_, rfl⟩
  have hset : Sends 0 s b := hb ▸ sends_relay s _
  have hlast : b.relay.lastOrder = s.relay.lastOrder := by rw [hb]
  unfold State.forwardOrder
  rw [← hb]
  simp only
  split
  · exact ⟨hset.mono (by omega), hlast⟩
  next y hy =>
    obtain ⟨h1, h2⟩ := offerOrder_forwarded b y (f := { frame := { s.waveFrame .order 1 f.payload with gen := f.gen, delay := f.delay, late := f.late }
                                                        tag := .forwarded f.gen o.number endAt (if f.late then 0 else f.delay.toNat) f.late }) rfl
    exact ⟨hset.trans h1, h2.trans hlast⟩

/-- With room on the downstream span the order waits there, behind an open order (R82, R85, R86). -/
theorem forwardOrder_waits {y : SpanId} (hd : s.downstream = some y) (hup : (s.span y).state = .up) (hroom : (s.span y).depth < 8) :
    (s.forwardOrder f o endAt c).relay.openOrder =
      some { gen := f.gen, number := o.number, own := c, ackEnd := s.now + ackWait s.table.own } ∧
    { frame := { waveFrameAt .order 1 s.table.own f.gen f.payload with delay := f.delay, late := f.late }
      tag := Tag.forwarded f.gen o.number endAt (if f.late then 0 else f.delay.toNat) f.late } ∈
        ((s.forwardOrder f o endAt c).span y).txq := by
  obtain ⟨b, hb⟩ : ∃ b : State, b = { s with relay := { s.relay with
    openOrder := some { gen := f.gen, number := o.number, own := c, ackEnd := s.now + ackWait s.table.own } } } := ⟨_, rfl⟩
  have hspan : b.span y = s.span y := by rw [hb]; cases y <;> rfl
  unfold State.forwardOrder
  rw [← hb]
  simp only [hd]
  rw [offerOrder_room b y (by rw [hspan]; exact hup) (by rw [hspan]; exact hroom), setSpan_relay, setSpan_span]
  exact ⟨by rw [hb], List.mem_append_right _ (List.mem_singleton.mpr rfl)⟩

end

/-! ## A member takes an ORDER (R83, R85, R92) -/

/-- The member that has noted the order, before its sides decide (R83, R92). -/
def State.orderNoted (s : State) (f : Frame) (o : Order) : State :=
  State.noteLate { s with relay := { s.relay with lastOrder := some (f.gen, o.number) } } f o

/-- APPLY_LATE (R92). -/
def lateEvent (s : State) (f : Frame) (o : Order) : Event :=
  { kind := 13, source := 4, position := byte s.table.own, detail := o.number, value := f.gen.setWidth 32 }

theorem orderNoted_eq (s : State) (f : Frame) (o : Order) : s.orderNoted f o =
    { s with relay := { s.relay with lastOrder := some (f.gen, o.number) }
             raised := s.raised ++ if f.late then [{ group := 4, event := lateEvent s f o }] else [] } := by
  unfold State.orderNoted State.noteLate
  split
  · rfl
  · rw [List.append_nil]

theorem memberOrder_eq {s t : State} {f : Frame} {o : Order} {endAt : Nat} {c : Contribution}
    (h : (s.orderNoted f o).handOrder o f.gen (applyInstant f endAt) f.late s.table.own = (t, c)) : s.memberOrder f o endAt =
    if t.isEndCar then State.startAck { t with relay := { t.relay with openOrder := none } } o.number f.gen c
      (if s.table.own = s.n then .ended else .spanEnd)
    else t.forwardOrder f o endAt c := by
  unfold State.memberOrder
  dsimp only
  unfold State.orderNoted at h
  rw [h]

theorem startAck_eq {s : State} {up : SpanId} (hup : s.upstream = some up) (number : Byte) (gen : Word16) (c : Contribution)
    (why : StopReason) : s.startAck number gen c why = s.send up (orderAckAt s.table.own gen (ackOfOne number why.code c s.table.own)) := by
  unfold State.startAck
  rw [sendAck_eq hup]
  rfl

/-- What a member `y` of the step from `s` on leaves that decides on an ORDER with contribution `c`: its sides as the order leaves
them, an ORDER_ACK upstream at the end car, and the ORDER waiting downstream at any other (R85). -/
structure OrderDecided (s y w : State) (x : SpanId) (f : Frame) (o : Order) (endAt : Nat) (c : Contribution) : Prop where
  last : w.relay.lastOrder = some (f.gen, o.number)
  contribution : contributionOf s o s.table.own f.late c
  sides : ∀ k : SideId, sideAfterOrder s w.settle y.now
    { action := o.action, number := o.number, lease := o.lease, gen := f.gen, applyAt := applyInstant f endAt, late := f.late }
    (addressed s o s.table.own k) k
  atEnd : y.isEndCar = true → w.relay.openOrder = none ∧
    waits w x (orderAckAt s.table.own f.gen (ackOfOne o.number (if s.table.own = s.table.records.length then 1 else 2) c s.table.own))
  passedOn : ∀ z : SpanId, y.isEndCar = false → y.downstream = some z → canSend y z →
    w.relay.openOrder = some { gen := f.gen, number := o.number, own := c, ackEnd := y.now + ackWait s.table.own } ∧
    { frame := { waveFrameAt .order 1 s.table.own f.gen f.payload with delay := f.delay, late := f.late }
      tag := Tag.forwarded f.gen o.number endAt (if f.late then 0 else f.delay.toNat) f.late } ∈ (w.span z).txq
  late : f.late = true → recordedIn s w.settle (lateEvent s f o)

theorem memberOrder_decides {s y w : State} {x : SpanId} {f : Frame} {o : Order} {endAt : Nat} (hy : AtCar s y)
    (htrail : y.trail = s.trail) (hmem : y.mem = s.mem) (hwf : s.mem.wf = true) (hroom : trailRoom s) (hraised : y.raised = [])
    (hup : y.upstream = some x) (hcan : canSend y x) (hw : y.memberOrder f o endAt = w) :
    ∃ c : Contribution, OrderDecided s y w x f o endAt c := by
  obtain ⟨b, hb⟩ : ∃ b, y.orderNoted f o = b := ⟨_, rfl⟩
  have hbeq := orderNoted_eq y f o
  rw [hb] at hbeq
  have hown : y.table.own = s.table.own := by rw [hy.table]
  obtain ⟨⟨t, c⟩, htc⟩ : ∃ p, b.handOrder o f.gen (applyInstant f endAt) f.late s.table.own = p := ⟨_, rfl⟩
  have hbcar : AtCar s b := by
    rw [hbeq]
    exact ⟨hy.census, hy.mon, hy.table, hy.settings, fun k => (show _ = y.side k by cases k <;> rfl).trans (hy.side k)⟩
  obtain ⟨hcontr, honly, hraise, hsides⟩ := handOrder_decides htc hbcar
  have hmember := memberOrder_eq (s := y) (t := t) (c := c) (endAt := endAt) (by rw [hb, hown]; exact htc)
  rw [hw] at hmember
  obtain ⟨d1, d2, l, ht⟩ := honly
  have hlast : t.relay.lastOrder = some (f.gen, o.number) := by rw [ht, hbeq]
  have htend : t.isEndCar = y.isEndCar := by rw [ht, hbeq]; rfl
  have htspan (z : SpanId) : t.span z = y.span z := by rw [ht, hbeq]; cases z <;> rfl
  have httable : t.table = s.table := by rw [ht, hbeq]; exact hy.table
  have htup : t.upstream = some x := by rw [ht, hbeq]; exact hup
  have htdown : t.downstream = y.downstream := by rw [ht, hbeq]; rfl
  have htnow : t.now = y.now := by rw [ht, hbeq]
  have hbnow : b.now = y.now := by rw [hbeq]
  have hend : t.isEndCar = true → w = State.send { t with relay := { t.relay with openOrder := none } } x
      (orderAckAt s.table.own f.gen (ackOfOne o.number (if s.table.own = s.table.records.length then 1 else 2) c s.table.own)) := by
    intro he
    rw [hmember, if_pos he, startAck_eq (s := { t with relay := { t.relay with openOrder := none } }) htup, State.n, hy.table]
    dsimp only
    rw [httable]
    congr 4
    split <;> rfl
  have hsends : Sends 2 t w ∧ w.relay.lastOrder = t.relay.lastOrder := by
    by_cases he : t.isEndCar = true
    · rw [hend he]
      exact ⟨((sends_relay t _).trans (sends_send _ _ _)).mono (by omega), by rw [send_relay]⟩
    · rw [hmember, if_neg he]
      exact forwardOrder_sends t f o endAt c
  obtain ⟨hsends, hwlast⟩ := hsends
  have hwside (k : SideId) : w.side k = t.side k := by cases k <;> simp [State.side, hsends.door]
  have hbraise : b.raised = if f.late then [{ group := 4, event := lateEvent y f o }] else [] := by
    rw [hbeq, hraised, List.nil_append]
  have hlen : w.raised.length < 8 := by
    have h1 := hraise.length
    have h2 := hsends.raises.length
    have h3 : b.raised.length ≤ 1 := by
      rw [hbraise]
      split <;> simp
    omega
  have hrec (g : Nat) (e : Event) (he : { group := g, event := e } ∈ w.raised) : recordedIn s w.settle e := by
    refine settle_recordedEvent ?_ ?_ ?_ he
    · rw [hsends.trail, ht, hbeq, htrail]
    · rw [hsends.mem, ht, hbeq, hmem]
      exact hwf
    · unfold trailRoom at hroom
      omega
  refine ⟨c, hwlast.trans hlast, hcontr, ?_, fun he => ?_, fun z he hz hcanz => ?_, fun hl => ?_⟩
  · rw [← hbnow]
    exact hsides w hwside hsends.raises.subset fun _ => hrec
  · rw [hend (htend.trans he)]
    obtain ⟨e, hee⟩ : ∃ e : State, e = { t with relay := { t.relay with openOrder := none } } := ⟨_, rfl⟩
    have hespan : e.span x = y.span x := by rw [hee, ← htspan]; cases x <;> rfl
    rw [← hee]
    exact ⟨by rw [send_relay, hee], waits_send e _ (by rw [hespan]; exact hcan.1) (by rw [hespan]; have := hcan.2; omega)⟩
  · rw [hmember, if_neg (by rw [htend, he]; exact Bool.false_ne_true)]
    have := forwardOrder_waits t f o endAt c (htdown.trans hz) (by rw [htspan]; exact hcanz.1) (by rw [htspan]; have := hcanz.2; omega)
    rwa [httable, htnow] at this
  · refine hrec 4 _ (hsends.raises.subset (hraise.subset ?_))
    rw [hbraise, if_pos hl]
    unfold lateEvent
    rw [hown]
    exact List.mem_singleton.mpr rfl

/-- Settles O32: an ORDER is answered, discarded, or decided on and acknowledged or sent on (R83, R85, R92). -/
theorem orderIsDecidedAndSentOn : Obligations.OrderIsDecidedAndSentOn := by
  intro s dt x r rest o hs hwf hroom ht hk hparse hcan hrole hl f u own applyAt p
  obtain ⟨y, hy⟩ : ∃ y, s.taking dt x rest = y := ⟨_, rfl⟩
  have yset : y.settled = true := by rw [← hy]; exact taking_settled hs
  have ytable : y.table = s.table := by rw [← hy, taking_table]
  have ycan {z : SpanId} (h : canSend s z) : canSend y z := by rw [← hy]; exact taking_canSend h
  have hu : y = u := hy.symm
  have htake : y.takeOrder x f r.endAt =
      if !y.currentGen f then y.answerGeneration x f o.number
      else if !y.fromAbove x f then y
      else if y.relay.lastOrder = some (f.gen, o.number) then y
      else y.memberOrder f o r.endAt := by
    have hr : y.census.role = .member := by rw [← hy, taking_census]; exact hrole
    unfold State.takeOrder
    simp only [hr, f, hparse]
  have hstep {v : State} (hv : y.takeOrder x f r.endAt = v) : exec (.order dt x) s = .next v.settle :=
    exec_takeWave (f := fun f endAt u => u.takeOrder x f endAt) rfl ht hk hcan.1 hl (by rw [hy]; exact hv)
  have hgen (h : f.gen = s.table.gen) : (!y.currentGen f) = false := by
    rw [Bool.not_eq_false', currentGen_iff, ytable]
    exact h
  have hfrom (h1 : s.upstream = some x) (h2 : f.hop.toNat + 1 = own) : (!y.fromAbove x f) = false := by
    rw [Bool.not_eq_false', fromAbove_iff, ytable, ← hy, taking_upstream]
    exact ⟨h1, h2⟩
  have hpass (h1 : f.gen = s.table.gen) (h2 : s.upstream = some x) (h3 : f.hop.toNat + 1 = own)
      (h4 : s.relay.lastOrder ≠ some (f.gen, o.number)) : ∃ (w : State) (c : Contribution), exec (.order dt x) s = .next w.settle ∧
        OrderDecided s y w x f o r.endAt c := by
    obtain ⟨w, hw⟩ : ∃ w, y.memberOrder f o r.endAt = w := ⟨_, rfl⟩
    have hdec := memberOrder_decides (s := s) (y := y) (x := x) (f := f) (o := o) (endAt := r.endAt) (w := w)
      (by
        rw [← hy]
        exact ⟨taking_census, taking_mon, taking_table, taking_settings, taking_side⟩)
      (by rw [← hy, taking_trail]) (by rw [← hy, taking_mem]) hwf hroom (raised_of_settled yset)
      (by rw [← hy, taking_upstream]; exact h2) (ycan hcan) hw
    obtain ⟨c, hc⟩ := hdec
    refine ⟨w, c, hstep ?_, hc⟩
    rw [htake, hgen h1, hfrom h2 h3, if_neg Bool.false_ne_true, if_neg Bool.false_ne_true, if_neg ?_, hw]
    rw [← hy, taking_relay]
    exact h4
  have ynow : y.now = s.now + dt := by rw [← hy, taking_now]
  have happly : applyInstant f r.endAt = applyAt := rfl
  refine ⟨fun hne => ?_, fun heq hno => ?_, fun h1 h2 h3 h4 => ?_, fun h1 h2 h3 h4 h5 => ?_⟩
  · have hanswer : y.takeOrder x f r.endAt = y.answerGeneration x f o.number := by
      rw [htake, if_pos]
      rw [Bool.not_eq_true', ← Bool.not_eq_true, currentGen_iff, ytable]
      exact hne
    have hcany := ycan hcan
    have hsend : y.answerGeneration x f o.number = y.setSpan x { y.span x with txq := (y.span x).txq ++
        [{ frame := { kind := .orderAck, late := false, conflict := false, origin := f.hop + 1, hop := f.hop + 1, gen := f.gen
                      delay := 0, payload := [o.number, 0, 0, 0, 0, 0, 0, 3] }, tag := .plain }] } :=
      send_room y x _ hcany.1 (by have := hcany.2; omega)
    rw [hstep (hanswer.trans hsend), settle_of_settled _ (setSpan_settled yset _ _), hu]
  · have hkeep : y.takeOrder x f r.endAt = y := by
      rw [htake, hgen heq, if_neg Bool.false_ne_true]
      by_cases hf : y.fromAbove x f = true
      · rw [hf, Bool.not_true, if_neg Bool.false_ne_true, if_pos]
        rw [fromAbove_iff, ytable, ← hy, taking_upstream] at hf
        rw [← hy, taking_relay]
        obtain h | h | h := hno
        exacts [absurd hf.1 h, absurd hf.2 h, h]
      · rw [Bool.not_eq_true] at hf
        rw [hf, Bool.not_false, if_pos rfl]
    rw [hstep hkeep, settle_of_settled _ yset, hu]
  · obtain ⟨w, c, hexec, hlast, hcontr, hsides, hend, hon, -⟩ := hpass h1 h2 h3 h4
    refine ⟨w.settle, c, hexec, by rw [settle_relay, hlast], hcontr, fun k => ?_, fun he => ?_, fun z he hz hne hcanz => ?_⟩
    · have := hsides k
      rw [ynow, happly] at this
      exact this
    · obtain ⟨hopen, hwaits⟩ := hend (by rw [← hy, taking_isEndCar]; exact he)
      exact ⟨by rw [settle_relay, hopen], waits_settle hwaits⟩
    · obtain ⟨hopen, hwaits⟩ := hon z (by rw [← hy, taking_isEndCar]; exact he) (by rw [← hy, taking_downstream]; exact hz) (ycan hcanz)
      rw [ynow] at hopen
      rw [settle_relay, settle_span]
      exact ⟨hopen, hwaits⟩
  · obtain ⟨w, c, hexec, -, -, -, -, -, hlate⟩ := hpass h1 h2 h3 h4
    exact ⟨w.settle, hexec, hlate h5⟩

end Sys2Proof.Machine

/-!
What the operations of the census engine leave: entries, completions and failures (R42, R45, R47, R58, R59, R66).
-/

namespace Sys2Proof.Machine

/-! ## Entries to census states (R42) -/

section
variable (s : State) (c : CensusState)

/-- The parts an entry to a census state can touch. -/
def enterParts : List Part := [.census, .relay, .heat, .doorLead, .summary, .pub, .mem, .slotTally]

theorem touches_enterParts : Touches enterParts s (s.enterCensus c) := by
  have hrelay (u : State) (v : Relay) : Touches enterParts s { u with relay := v } ↔ Touches enterParts s u :=
    (touches_relay u v).iff_of (by decide)
  have hset : Touches enterParts s (s.setCensus { s.census with
      state := c
      timerEnd := (censusTime c).map (fun d => s.now + d)
      settleEnd := if c.busy then none else s.census.settleEnd }) :=
    (touches_setCensus_iff _ (by decide) (by decide) (by decide)).mpr (Touches.refl _ s)
  unfold State.enterCensus
  simp only
  split
  · exact hset
  · have hidle := (touches_clearAllocations (P := enterParts) (by decide) (by decide)).mpr ((hrelay _ Relay.empty).mpr hset)
    split
    · exact hidle
    · exact (touches_dropHeldRoll (by decide) (by decide) (by decide)).mpr
        ((touches_endOutstanding (by decide) (by decide) (by decide) (by decide) _ _ _ _).mpr hidle)

theorem enterCensus_rest : (∀ x : SpanId, (s.enterCensus c).span x = s.span x) ∧ (s.enterCensus c).table = s.table ∧
    (s.enterCensus c).settings = s.settings ∧ (s.enterCensus c).trail = s.trail ∧ (s.enterCensus c).raised = s.raised := by
  have h := touches_enterParts s c
  refine ⟨fun x => ?_, (h .table (by decide)).1, (h .settings (by decide)).1, (h .trail (by decide)).1.1, (h .choices (by decide)).2⟩
  cases x
  exacts [(h .spanA (by decide)).1, (h .spanB (by decide)).1]

end

/-! ## The answer of the census slot (R45) -/

section
variable {s t : State} {k : Nat} {o : SlotOutcome} {d : Byte} {r : List Byte}

/-- A slot whose answer the memory holds at the end of the step is answered after it (R168). -/
theorem answered_settle_of_mem (hm : t.mem = (s.complete k o d r).mem) (hwf : s.mem.wf = true) (hk : k < 16) (hr : r.length ≤ 32) :
    answered t.settle k o d r :=
  ((complete_answered hwf k o d hr).congr hr fun a _ _ => by rw [hm]).settle hr hk (by rw [hm]; exact complete_wf s k o d r hwf)

theorem completeCensusSlot_mem (n : Nat) (p : Byte) (h : s.census.slot = some k) :
    (s.completeCensusSlot o d n p).mem = (s.complete k o d (s.censusResults n p)).mem := by
  unfold State.completeCensusSlot
  rw [h]
  rfl

theorem censusResults_length (n : Nat) (p : Byte) : (s.censusResults n p).length ≤ 32 := by
  unfold State.censusResults
  simp [le16]

theorem completeCensusSlot_rest (n : Nat) (p : Byte) : (∀ x : SpanId, (s.completeCensusSlot o d n p).span x = s.span x) ∧
    (s.completeCensusSlot o d n p).relay = s.relay ∧ (s.completeCensusSlot o d n p).table = s.table ∧
    (s.completeCensusSlot o d n p).settings = s.settings ∧ (s.completeCensusSlot o d n p).raised = s.raised := by
  unfold State.completeCensusSlot
  cases s.census.slot with
  | none => exact ⟨fun x => setCensus_span _ _ _, rfl, rfl, rfl, rfl⟩
  | some k =>
    unfold State.completeIf
    exact ⟨fun x => (complete_span _ _ _ _ _ _).trans (setCensus_span _ _ _), complete_relay _ _ _ _ _, complete_table _ _ _ _ _,
      complete_settings _ _ _ _ _, complete_raised _ _ _ _ _⟩

end

/-! ## A census that fails (R59, R66) -/

theorem trainSpan_congr {s t : State} (hs : t.settings = s.settings) : t.trainSpan = s.trainSpan := by
  unfold State.trainSpan State.cabSpan
  rw [hs]

/-- The lead that has left its census and sent its VOID (R59). -/
def State.voided (s : State) (reason : FailReason) : State :=
  (s.enterCensus .uncensused).sendVoid (s.enterCensus .uncensused).trainSpan
    { number := (s.enterCensus .uncensused).census.number, lead := (s.enterCensus .uncensused).settings.identity, reason := reason.code }

/-- CENSUS_FAILED of the car (R67). -/
def failedEvent (s : State) (number : Word16) (reason : FailReason) (position : Byte) : Event :=
  { kind := 7, source := 3, position := byte s.table.own, detail := reason.code, value := number ++ (position.setWidth 16) }

section
variable (s : State) (reason : FailReason) (p : Byte)

theorem voided_rest : (s.voided reason).relay = Relay.empty ∧ (s.voided reason).table = s.table ∧ (s.voided reason).settings = s.settings ∧
    (s.voided reason).census = { s.census with state := .uncensused, timerEnd := none } := by
  obtain ⟨hrelay, -, htable⟩ := enterCensus_unlisted s .uncensused rfl
  have hset := (enterCensus_now s .uncensused).2
  unfold State.voided
  rw [sendVoid_census, enterCensus_census, (sendVoid_now _ _ _).2, hset]
  unfold State.sendVoid
  refine ⟨?_, ?_, rfl, rfl⟩
  · rw [apply_ite State.relay, send_relay, hrelay, ite_self]
  · rw [apply_ite State.table, send_table, htable, ite_self]

theorem failCensus_eq : s.failCensus reason p =
    if reason.retried = true ∧ (((s.voided reason).completeCensusSlot .aborted reason.code 0 p).censusFailedEvent reason p).census.retry < 3 then
      (((s.voided reason).completeCensusSlot .aborted reason.code 0 p).censusFailedEvent reason p).startSettle
        ((((s.voided reason).completeCensusSlot .aborted reason.code 0 p).censusFailedEvent reason p).census.retry + 1)
    else ((s.voided reason).completeCensusSlot .aborted reason.code 0 p).censusFailedEvent reason p := rfl

/-- But for the settle timer, a failed census is the census slot's end and the event. -/
theorem failCensus_ended : ∃ c : Census, s.failCensus reason p =
    (((s.voided reason).completeCensusSlot .aborted reason.code 0 p).censusFailedEvent reason p).setCensus c := by
  have hset (u : State) (n : Nat) : ∃ c, u.startSettle n = u.setCensus c := by
    unfold State.startSettle
    split
    exacts [⟨_, rfl⟩, ⟨u.census, rfl⟩]
  rw [failCensus_eq]
  split
  exacts [hset _ _, ⟨_, rfl⟩]

theorem failCensus_rest : (s.failCensus reason p).relay = Relay.empty ∧ (s.failCensus reason p).table = s.table ∧
    (s.failCensus reason p).settings = s.settings ∧
    { group := censusGroup, event := failedEvent s s.census.number reason p } ∈ (s.failCensus reason p).raised ∧
    (s.failCensus reason p).mem = ((s.voided reason).completeCensusSlot .aborted reason.code 0 p).mem ∧
    ∀ x : SpanId, (s.failCensus reason p).span x = (s.voided reason).span x := by
  obtain ⟨hrelay, htable, hset, hcensus⟩ := voided_rest s reason
  obtain ⟨hspan, hrelay', htable', hset', -⟩ := completeCensusSlot_rest (s := s.voided reason) (o := .aborted) (d := reason.code) 0 p
  obtain ⟨c, hc⟩ := failCensus_ended s reason p
  rw [hc]
  refine ⟨hrelay'.trans hrelay, htable'.trans htable, hset'.trans hset, ?_, rfl, fun x => ?_⟩
  · refine List.mem_append_right _ (List.mem_singleton.mpr ?_)
    have hn := congrArg Census.number (completeCensusSlot_census (s.voided reason) .aborted reason.code 0 p)
    have ho := congrArg Table.own (htable'.trans htable)
    unfold failedEvent State.eventPosition
    dsimp only at hn
    rw [hn, ho, hcensus]
  · rw [setCensus_span]
    exact (by cases x <;> rfl : (State.censusFailedEvent _ reason p).span x = _).trans (hspan x)

/-- The VOID of the failed census waits on the train span (R59). -/
theorem failCensus_void (hr : s.census.role = .lead) (hup : (s.span s.trainSpan).state = .up) (hroom : (s.span s.trainSpan).depth < 8) :
    waits (s.failCensus reason p) s.trainSpan
      (censusFrameAt .void 1 s.table.gen (voidPayload s.census.number s.settings.identity reason.code)) := by
  obtain ⟨hspan, htable, hset, -, -⟩ := enterCensus_rest s .uncensused
  obtain ⟨-, -, -, -, -, hfail⟩ := failCensus_rest s reason p
  have htrain : (s.enterCensus .uncensused).trainSpan = s.trainSpan := trainSpan_congr hset
  unfold waits
  rw [hfail]
  unfold State.voided State.sendVoid
  rw [htrain, if_pos (by unfold State.isUp; rw [hspan, hup]; rfl)]
  have hframe : (s.enterCensus .uncensused).voidFrame
      { number := (s.enterCensus .uncensused).census.number, lead := (s.enterCensus .uncensused).settings.identity, reason := reason.code } =
      censusFrameAt .void 1 s.table.gen (voidPayload s.census.number s.settings.identity reason.code) := by
    unfold State.voidFrame State.censusFrame State.censusPosition
    rw [enterCensus_census, htable, hset]
    simp only [hr]
    rfl
  rw [hframe]
  exact waits_send _ _ (by rw [hspan]; exact hup) (by rw [hspan]; exact hroom)

theorem voided_memWf (hwf : s.mem.wf = true) : (s.voided reason).mem.wf = true :=
  opsKeep_memWf.sendVoid _ _ _ (opsKeep_memWf.enterCensus s _ hwf)

theorem voided_results : (s.voided reason).censusResults 0 p = le16 s.census.number ++ [0] ++ le16 s.table.gen ++ [p, 0] := by
  obtain ⟨-, htable, -, hcensus⟩ := voided_rest s reason
  unfold State.censusResults
  rw [hcensus, htable]
  rfl

/-- The census slot of a failed census (R45). -/
theorem failCensus_answers {k : Nat} (hslot : s.census.slot = some k) (hwf : s.mem.wf = true) :
    answered (s.failCensus reason p) k .aborted reason.code (le16 s.census.number ++ [0] ++ le16 s.table.gen ++ [p, 0]) := by
  obtain ⟨-, -, -, hcensus⟩ := voided_rest s reason
  obtain ⟨-, -, -, -, hmem, -⟩ := failCensus_rest s reason p
  have hslot' : (s.voided reason).census.slot = some k := by rw [hcensus]; exact hslot
  have hlen := censusResults_length (s := s.voided reason) 0 p
  rw [voided_results] at hlen
  refine (complete_answered (voided_memWf s reason hwf) k .aborted reason.code hlen).congr hlen fun a _ _ => ?_
  rw [hmem, completeCensusSlot_mem 0 p hslot', voided_results]

theorem failCensus_answered {k : Nat} (hslot : s.census.slot = some k) (hk : k < 16) (hwf : s.mem.wf = true) :
    answered (s.failCensus reason p).settle k .aborted reason.code (le16 s.census.number ++ [0] ++ le16 s.table.gen ++ [p, 0]) := by
  have hlen := censusResults_length (s := s.voided reason) 0 p
  rw [voided_results] at hlen
  exact (failCensus_answers s reason p hslot hwf).settle hlen hk (opsKeep_memWf.failCensus s reason p hwf)

theorem retried_iff : reason.retried = true ↔
    reason = .downstreamSilent ∨ reason = .ackTimeout ∨ reason = .tableRefused ∨ reason = .spanLost := by
  cases reason <;> simp [FailReason.retried]

end

/-- A census that fails has failed as R45, R59, R66 and R67 say in every later state that keeps its census, its table, its answer, its
VOID and its event. -/
theorem censusFails_kept {s u t : State} (reason : FailReason) (p : Byte) (hr : s.census.role = .lead) (hc : u.census = s.census)
    (ht : u.table = s.table) (hset : u.settings = s.settings) (htc : t.census = (u.failCensus reason p).census)
    (htt : t.table = (u.failCensus reason p).table) (hrelay : t.relay = Relay.empty)
    (hvoid : canSend s s.trainSpan → waits t s.trainSpan (censusFrameAt .void 1 s.table.gen
      (voidPayload s.census.number s.settings.identity reason.code)))
    (hans : ∀ k : Nat, s.census.slot = some k → k < 16 →
      answered t k .aborted reason.code (le16 s.census.number ++ [0] ++ le16 s.table.gen ++ [p, 0]))
    (hevent : recordedIn s t (failedEvent u u.census.number reason p)) :
    censusFails s t u.now s.census.number s.census.slot reason p := by
  obtain ⟨-, htable, -, -, -, -⟩ := failCensus_rest u reason p
  have hcensus := htc.trans (failCensus_census u reason p)
  rw [hc, hset] at hcensus
  have hended : (if reason.retried = true ∧ s.census.retry < 3 ∧ s.settings.autoCensus = 1 then
      ({ s.census.ended with settleEnd := some (u.now + 500 * ms), retry := s.census.retry + 1 } : Census) else s.census.ended) =
      { s.census.ended with
        settleEnd := (if reason.retried = true ∧ s.census.retry < 3 ∧ s.settings.autoCensus = 1 then some (u.now + 500 * ms) else s.census.settleEnd)
        retry := if reason.retried = true ∧ s.census.retry < 3 ∧ s.settings.autoCensus = 1 then s.census.retry + 1 else s.census.retry } := by
    split <;> rfl
  rw [hended] at hcensus
  unfold failedEvent at hevent
  rw [ht, hc] at hevent
  unfold censusFails
  rw [hcensus, htt, htable, ht]
  refine ⟨hr, rfl, rfl, rfl, rfl, hrelay, hvoid, hans, hevent, fun h1 h2 h3 => ?_, fun h => ?_⟩
  · have hcond := And.intro ((retried_iff reason).mpr h1) (And.intro h3 h2)
    exact ⟨if_pos hcond, if_pos hcond⟩
  · refine if_neg fun hcond => ?_
    obtain h | h | h := h
    exacts [h ((retried_iff reason).mp hcond.1), h hcond.2.2, by omega]

/-- A census that fails in a step from `s` on fails as R45, R59, R66 and R67 say. -/
theorem censusFails_of {s u : State} (reason : FailReason) (p : Byte) (hr : s.census.role = .lead) (hc : u.census = s.census)
    (ht : u.table = s.table) (hset : u.settings = s.settings) (hspan : canSend s s.trainSpan → canSend u s.trainSpan)
    (htrail : u.trail = s.trail) (hmem : u.mem = s.mem) (hraised : u.raised = []) (hwf : s.mem.wf = true) (hroom : trailRoom s) :
    censusFails s (u.failCensus reason p).settle u.now s.census.number s.census.slot reason p := by
  obtain ⟨hrelay, -, -, hevent, -, -⟩ := failCensus_rest u reason p
  have hru : u.census.role = .lead := by rw [hc]; exact hr
  have htrain : u.trainSpan = s.trainSpan := trainSpan_congr hset
  refine censusFails_kept reason p hr hc ht hset (settle_census _) (settle_table _) (by rw [settle_relay, hrelay])
    (fun hcan => waits_settle ?_) (fun k hk hk16 => ?_) ?_
  · have hcanu := hspan hcan
    have := failCensus_void u reason p hru (by rw [htrain]; exact hcanu.1) (by rw [htrain]; have := hcanu.2; omega)
    rwa [htrain, ht, hc, hset] at this
  · have := failCensus_answered u reason p (by rw [hc]; exact hk) hk16 (by rw [hmem]; exact hwf)
    rwa [hc, ht] at this
  · have hlen := (emits_failCensus u reason p).events.length
    rw [hraised, List.length_nil] at hlen
    exact settle_recordedEvent (s := s) (g := censusGroup) ((opsKeep_trail _).failCensus u reason p htrail)
      (opsKeep_memWf.failCensus u reason p (by rw [hmem]; exact hwf)) (by unfold trailRoom at hroom; omega) hevent

end Sys2Proof.Machine

/-!
The census frames TABLE_ACK, VOID and BREAK (R58, R60, R62 to R65): O30, O31.
-/

namespace Sys2Proof.Machine

/-! ## The end-car status after a census frame (R84) -/

section
variable {s t : State}

theorem front_listed (hr : s.census.role = .member) (hl : s.census.state.listed = true) :
    s.front = (s.recordAt s.table.own).bind (fun r => spanOfEnd r.car.frontEnd) := by
  unfold State.front
  rw [hr]
  obtain hl | hl := (listed_iff _).mp hl <;> rw [hl]

/-- In VALID and STALE the front end of a member stands in its table (R73). -/
theorem front_of_listed (hr : s.census.role = .member) (hrt : t.census.role = .member) (hl : s.census.state.listed = true)
    (hlt : t.census.state.listed = true) (ht : t.table = s.table) : t.front = s.front := by
  rw [front_listed hr hl, front_listed hrt hlt]
  unfold State.recordAt
  rw [ht]

theorem isEndCar_of_listed (hr : s.census.role = .member) (hrt : t.census.role = .member) (hl : s.census.state.listed = true)
    (hlt : t.census.state.listed = true) (ht : t.table = s.table) (hlinks : SameLinks s t) : t.isEndCar = s.isEndCar := by
  unfold State.isEndCar State.downstreamUp State.downstream State.n
  rw [hr, hrt, hl, hlt, ht, front_of_listed hr hrt hl hlt ht]
  cases s.front.map otherSpan with
  | none => rfl
  | some x => simp only [hlinks x]

theorem reviewEnd_lead (hr : s.census.role = .lead) : s.reviewEnd = s := by
  unfold State.reviewEnd
  rw [if_neg (by simp [hr])]

theorem reviewEnd_of_endCar (h : s.relay.endCar = some s.isEndCar) : s.reviewEnd = s := by
  unfold State.reviewEnd
  split
  · cases he : s.isEndCar
    · rw [if_neg Bool.false_ne_true, if_pos (by rw [h, he])]
    · rw [if_pos rfl, if_pos (by rw [h, he])]
  · rfl

/-- The fresh look finds what it knows when the end-car status is as it was (R84; log 40). -/
theorem reviewEnd_known (h : endKnown s) (hr : t.census.role = s.census.role) (hl : t.census.state.listed = s.census.state.listed)
    (hrelay : t.relay.endCar = s.relay.endCar) (hend : t.isEndCar = s.isEndCar) : t.reviewEnd = t := by
  by_cases hm : s.census.role = .member ∧ s.census.state.listed = true
  · exact reviewEnd_of_endCar (by rw [hrelay, hend, h.1 hm.1 hm.2])
  · unfold State.reviewEnd
    rw [if_neg (by rwa [hr, hl])]

end

section
variable {s : State} {dt : Nat} {x : SpanId} {rest : List RxFrame}

theorem taking_reviewEnd (h : endKnown s) : (s.taking dt x rest).reviewEnd = s.taking dt x rest :=
  reviewEnd_known h (by rw [taking_census]) (by rw [taking_census]) (by rw [taking_relay]) taking_isEndCar

theorem taking_trainSpan : (s.taking dt x rest).trainSpan = s.trainSpan := trainSpan_congr taking_settings

end

/-! ## Frames of the census engine (R48) -/

section
variable {s : State} (k : FrameKind) (g : Word16) (p : List Byte)

theorem censusFrame_eq : s.censusFrame k g p = censusFrameAt k s.censusPosition g p := rfl

theorem censusPosition_member {c : Context} (hr : s.census.role = .member) (hc : s.census.ctx = some c) :
    s.censusPosition = c.position := by
  unfold State.censusPosition
  rw [hr, hc]

theorem censusPosition_lead (hr : s.census.role = .lead) : s.censusPosition = 1 := by
  unfold State.censusPosition
  rw [hr]

theorem censusPosition_congr {t : State} (hr : t.census.role = s.census.role) (hc : t.census.ctx = s.census.ctx) :
    t.censusPosition = s.censusPosition := by
  unfold State.censusPosition
  rw [hr, hc]

end

/-! ## A consist that goes STALE (R63 to R65) -/

section
variable (s : State)

theorem startSettle_eq (n : Nat) : ∃ c, s.startSettle n = s.setCensus c := by
  unfold State.startSettle
  split
  exacts [⟨_, rfl⟩, ⟨s.census, rfl⟩]

/-- CONSIST_STALE (R67). -/
def staleEvent (s : State) (position lostEnd cause : Byte) : Event :=
  { kind := 8, source := 3, position := byte s.table.own, detail := position, value := (cause ++ lostEnd ++ s.table.gen : Word32) }

theorem goStale_eq (p e c : Byte) : s.goStale p e c =
    if s.census.state = .valid then
      (s.setCensus { s.census with state := .stale, timerEnd := none }).raise censusGroup (staleEvent s p e c)
    else s := by
  unfold State.goStale
  rw [enterCensus_listed s .stale rfl]
  rfl

theorem goStale_rest (p e c : Byte) : (∀ x : SpanId, (s.goStale p e c).span x = s.span x) ∧ (s.goStale p e c).table = s.table ∧
    (s.goStale p e c).relay = s.relay ∧ (s.goStale p e c).settings = s.settings ∧ (s.goStale p e c).trail = s.trail ∧
    (s.goStale p e c).mem = s.mem ∧ (s.goStale p e c).now = s.now := by
  rw [goStale_eq]
  split
  · exact ⟨fun x => by cases x <;> rfl, rfl, rfl, rfl, rfl, rfl, rfl⟩
  · exact ⟨fun _ => rfl, rfl, rfl, rfl, rfl, rfl, rfl⟩

theorem goStale_raises (p e c : Byte) (hv : s.census.state = .valid) :
    { group := censusGroup, event := staleEvent s p e c } ∈ (s.goStale p e c).raised := by
  rw [goStale_eq, if_pos hv]
  exact List.mem_append_right _ (List.mem_singleton.mpr rfl)

theorem goStale_listed (p e c : Byte) (hl : s.census.state = .valid ∨ s.census.state = .stale) :
    (s.goStale p e c).census.state = .stale ∧ (s.goStale p e c).census.role = s.census.role ∧
      (s.goStale p e c).census.ctx = s.census.ctx := by
  rw [goStale_census]
  split
  · exact ⟨rfl, rfl, rfl⟩
  next h => exact ⟨hl.resolve_left h, rfl, rfl⟩

end

/-! ## A completed census (R47, R58) -/

/-- CENSUS_DONE (R67). -/
def doneEvent (s : State) : Event :=
  { kind := 6, source := 3, position := byte s.table.own, detail := byte s.table.records.length, value := s.census.number ++ s.table.gen }

/-- The lead that has entered VALID, before its census slot is answered (R47, R58). -/
def State.censusDone (s : State) : State :=
  (s.setCensus { s.census with state := .valid, timerEnd := none, retry := 0 }).raise censusGroup (doneEvent s)

theorem completeCensus_eq (s : State) : s.completeCensus = s.censusDone.completeCensusSlot .ok 0 s.table.records.length 0 := by
  unfold State.completeCensus
  rw [enterCensus_listed s .valid rfl]
  rfl

theorem completeCensus_answered {s : State} {k : Nat} (hslot : s.census.slot = some k) (hk : k < 16) (hwf : s.mem.wf = true) {t : State}
    (ht : t.mem = s.completeCensus.mem) : answered t.settle k .ok 0
      (le16 s.census.number ++ [byte s.table.records.length] ++ le16 s.table.gen ++ [0, 5]) := by
  rw [completeCensus_eq, completeCensusSlot_mem _ _ (show s.censusDone.census.slot = some k from hslot)] at ht
  exact answered_settle_of_mem ht hwf hk (censusResults_length (s := s.censusDone) _ _)

end Sys2Proof.Machine

/-!
O30, O31: TABLE_ACK, VOID and BREAK.
-/

namespace Sys2Proof.Machine

section
variable {s : State} {x up : SpanId}

theorem sameLinks_send (s : State) (x : SpanId) (f : Frame) : SameLinks s (s.send x f) := sameLinks_offer s x _

/-- A census frame sent up at a member that knows its end-car status leaves the status. -/
theorem send_isEndCar (f : Frame) : (s.send x f).isEndCar = s.isEndCar :=
  isEndCar_congr (sameConsist_send s x f) (sameLinks_send s x f)

theorem holdsTable_iff (c : Context) : s.holdsTable c = true ↔
    (s.census.state = .valid ∨ s.census.state = .stale) ∧ s.table.number = c.number ∧ s.table.lead = c.lead := by
  unfold State.holdsTable
  rw [Bool.and_eq_true, Bool.and_eq_true, beq_iff_eq, beq_iff_eq, listed_iff, and_assoc]

end

/-- A census fails on a frame that was taken from a receive queue (R59). -/
theorem taking_censusFails {s : State} {dt : Nat} {x : SpanId} {rest : List RxFrame} (reason : FailReason) (p : Byte) (hs : s.settled = true)
    (hr : s.census.role = .lead) (hwf : s.mem.wf = true) (hroom : trailRoom s) :
    censusFails s ((s.taking dt x rest).failCensus reason p).settle (s.now + dt) s.census.number s.census.slot reason p := by
  have h := censusFails_of (s := s) (u := s.taking dt x rest) reason p hr taking_census taking_table taking_settings taking_canSend
    taking_trail taking_mem (raised_of_settled (taking_settled hs)) hwf hroom
  rwa [taking_now] at h

theorem reviewEnd_failCensus {s : State} {reason : FailReason} {p : Byte} (hr : s.census.role = .lead) :
    (s.failCensus reason p).reviewEnd = s.failCensus reason p := by
  refine reviewEnd_lead ?_
  rw [failCensus_census]
  split
  exacts [hr, hr]

/-- The payload of the TABLE_ACK a member relays (R58). -/
def relayedAck (s : State) (c : Context) (m : TableAckMsg) : List Byte :=
  if s.holdsTable c then tableAckPayload c.number c.lead (oneMore 31 m.acks) m.refusals m.first
  else tableAckPayload c.number c.lead m.acks (oneMore 31 m.refusals) (byte c.position)

/-- A TABLE_ACK relayed by a member (R58). -/
theorem memberTableAck_relays {s : State} {x : SpanId} {m : TableAckMsg} {c : Context} (hr : s.census.role = .member)
    (hc : s.census.ctx = some c) (hx : x = otherSpan c.upstream) (hlead : m.lead = c.lead) (hnum : m.number = c.number) :
    s.memberTableAck x m = if s.census.ackForwarded = true then s else
      (s.send c.upstream { censusFrameAt .tableAck c.position 0 (relayedAck s c m) with origin := m.origin }).setCensus
        { s.census with ackForwarded := true } := by
  unfold State.memberTableAck relayedAck
  simp only [hc, raiseCount_eq]
  cases hf : s.census.ackForwarded with
  | true => rw [if_neg (by simp), if_pos rfl]
  | false =>
    rw [if_pos ⟨hx, hlead, hnum, rfl⟩, if_neg Bool.false_ne_true, send_census, censusFrame_eq, censusPosition_member hr hc, hc]

/-- Settles O30: a TABLE_ACK is counted and relayed once at a member, and decides at the lead (R58). -/
theorem tableAckIsCounted : Obligations.TableAckIsCounted := by
  intro s dt x r rest m hs hknown hwf hroom hxup ht hk hm
  obtain ⟨y, hy⟩ : ∃ y, s.taking dt x rest = y := ⟨_, rfl⟩
  have ycensus : y.census = s.census := by rw [← hy, taking_census]
  have ytable : y.table = s.table := by rw [← hy, taking_table]
  have hstep {v : State} (hv : (y.takeTableAck x r.frame).reviewEnd = v) : exec (.tableAck dt x) s = .next v.settle :=
    exec_takeUp (f := fun f _ u => (u.takeTableAck x f).reviewEnd) rfl ht hk hxup (by rw [hy]; exact hv)
  refine ⟨fun c hr hc hx hlead hnum => ?_, fun hr hst hx hlead hnum hdepth => ?_⟩
  · have htake : y.takeTableAck x r.frame = y.memberTableAck x m := by
      unfold State.takeTableAck
      simp only [hm]
      rw [ycensus, hr]
    have hrelays := memberTableAck_relays (s := y) (m := m) (by rw [ycensus]; exact hr) (by rw [ycensus]; exact hc) hx hlead hnum
    rw [ycensus] at hrelays
    refine ⟨fun hf => ?_, fun hf hcan => ?_⟩
    · rw [if_pos hf] at hrelays
      rw [hstep (v := y) (by rw [htake, hrelays, ← hy, taking_reviewEnd hknown]), ← hy, settle_of_settled _ (taking_settled hs)]
      rfl
    · rw [if_neg (by rw [hf]; exact Bool.false_ne_true)] at hrelays
      intro holds
      obtain ⟨b, hb⟩ : ∃ b, y.send c.upstream { censusFrameAt .tableAck c.position 0 (relayedAck y c m) with origin := m.origin } = b := ⟨_, rfl⟩
      have hcany : canSend y c.upstream := by rw [← hy]; exact taking_canSend hcan
      have hwaits := waits_send y { censusFrameAt .tableAck c.position 0 (relayedAck y c m) with origin := m.origin } hcany.1
        (by have := hcany.2; omega)
      rw [hb] at hrelays hwaits
      have hbend : b.isEndCar = s.isEndCar := by rw [← hb, send_isEndCar, ← hy, taking_isEndCar]
      have hbrelay : b.relay = s.relay := by rw [← hb, send_relay, ← hy, taking_relay]
      have hbset : (b.setCensus { s.census with ackForwarded := true }).isEndCar = b.isEndCar := by
        have hbc : b.census = s.census := by rw [← hb, send_census, ycensus]
        rw [← hbc]
        rfl
      have hreview : (b.setCensus { s.census with ackForwarded := true }).reviewEnd = b.setCensus { s.census with ackForwarded := true } :=
        reviewEnd_known hknown rfl rfl (by rw [setCensus_relay, hbrelay]) (hbset.trans hbend)
      have hw (f : Frame) (hf : waits b c.upstream f) : waits (b.setCensus { s.census with ackForwarded := true }).settle c.upstream f := by
        refine waits_settle ?_
        unfold waits
        rw [setCensus_span]
        exact hf
      have hholds : y.holdsTable c = true ↔ holds := by rw [holdsTable_iff, ycensus, ytable]
      refine ⟨_, hstep (by rw [htake, hrelays, hreview]), by rw [settle_census, setCensus_census], fun hh => hw _ ?_, fun hh => hw _ ?_⟩
      · unfold relayedAck at hwaits
        rwa [if_pos (hholds.mpr hh)] at hwaits
      · unfold relayedAck at hwaits
        rwa [if_neg (mt hholds.mp hh)] at hwaits
  · have htake : y.takeTableAck x r.frame =
        if m.acks.toNat + 1 = s.table.records.length ∧ m.refusals = 0 then y.completeCensus else y.failCensus .tableRefused m.first := by
      unfold State.takeTableAck State.leadTableAck State.n
      simp only [hm]
      rw [ycensus, hr, ytable]
      refine if_pos ⟨hst, ?_, ?_, hnum⟩
      · rw [hx, ← hy, taking_trainSpan]
      · rw [hlead, ← hy, taking_settings]
    refine ⟨fun hacks href => ?_, fun hno => ?_⟩
    · rw [if_pos ⟨hacks, href⟩] at htake
      have hcensus := completeCensus_census y
      rw [ycensus] at hcensus
      refine ⟨_, hstep (by rw [htake, reviewEnd_lead (by rw [hcensus]; exact hr)]), ?_, ?_, ?_, ?_, ?_, ?_, fun k hslot hk16 => ?_⟩
      · rw [settle_census, hcensus]
      · rw [settle_census, hcensus]
      · rw [settle_census, hcensus]
      · rw [settle_census, hcensus]
      · rw [settle_table, completeCensus_table, ytable]
      · have hraised : y.completeCensus.raised = [{ group := censusGroup, event := doneEvent y }] := by
          rw [completeCensus_eq, (completeCensusSlot_rest _ _).2.2.2.2]
          show y.raised ++ _ = _
          rw [← hy, show (s.taking dt x rest).raised = [] from raised_of_settled (taking_settled hs)]
          rfl
        have := settle_recordedEvent (s := s) (v := y.completeCensus) (g := censusGroup) (e := doneEvent y)
          ((opsKeep_trail _).completeCensus y (by rw [← hy, taking_trail]))
          (opsKeep_memWf.completeCensus y (by rw [← hy, taking_mem]; exact hwf))
          (by rw [hraised]; unfold trailRoom at hroom; show s.trail.held + 1 < 128; omega) (by rw [hraised]; exact List.mem_singleton.mpr rfl)
        unfold doneEvent at this
        rwa [ytable, ycensus] at this
      · have := completeCensus_answered (s := y) (by rw [ycensus]; exact hslot) hk16 (by rw [← hy, taking_mem]; exact hwf) rfl
        rwa [ytable, ycensus] at this
    · rw [if_neg hno] at htake
      have hfails := taking_censusFails (dt := dt) (x := x) (rest := rest) .tableRefused m.first hs hr hwf hroom
      rw [hy] at hfails
      exact ⟨_, hstep (by rw [htake, reviewEnd_failCensus (by rw [ycensus]; exact hr)]), hfails⟩

/-! ## VOID and BREAK (R60, R62 to R65) -/

/-- A VOID taken by a member (R62). -/
def State.voidTaken (s : State) (m : VoidMark) : State := s.leaveCensus.setCensus { s.leaveCensus.census with lastVoid := some m }

section
variable {s : State}

theorem voidTaken_rest (m : VoidMark) :
    (s.voidTaken m).census = { s.census with state := .uncensused, timerEnd := none, lastVoid := some m } ∧
    (s.voidTaken m).table = s.table ∧ ∀ x : SpanId, (s.voidTaken m).span x = s.span x := by
  obtain ⟨hspan, htable, -, -, -⟩ := enterCensus_rest s .uncensused
  unfold State.voidTaken
  rw [leaveCensus_census]
  refine ⟨rfl, htable, fun x => ?_⟩
  rw [setCensus_span]
  exact hspan x

theorem memberVoid_takes {x : SpanId} {m : VoidMark} {p : List Byte} {c : Context} (hc : s.census.ctx = some c) (hx : x = c.upstream)
    (hlead : m.lead = c.lead) : s.memberVoid x m p =
      if s.census.lastVoid = some m then s
      else if s.isUp (otherSpan x) then (s.voidTaken m).send (otherSpan x) ((s.voidTaken m).censusFrame .void s.table.gen p)
      else s.voidTaken m := by
  obtain ⟨-, htable, hspan⟩ := voidTaken_rest (s := s) m
  have hup : (s.voidTaken m).isUp (otherSpan x) = s.isUp (otherSpan x) := by
    unfold State.isUp
    rw [hspan]
  unfold State.memberVoid
  simp only [hc]
  by_cases hm : s.census.lastVoid = some m
  · rw [if_neg (by simp [hm]), if_pos hm]
  · rw [if_pos ⟨hx, hlead, hm⟩, if_neg hm, ← hup, ← htable]
    rfl

end

/-- Settles O31: a VOID clears a member once, a BREAK turns a consist STALE and goes on up (R60, R62, R64, R65). -/
theorem voidClearsAndBreakStales : Obligations.VoidClearsAndBreakStales := by
  intro s dt x r rest hs hknown hwf hroom hcanx ht u y
  obtain ⟨b, hb⟩ : ∃ b, s.taking dt x rest = b := ⟨_, rfl⟩
  have bcensus : b.census = s.census := by rw [← hb, taking_census]
  have btable : b.table = s.table := by rw [← hb, taking_table]
  have bset : b.settings = s.settings := by rw [← hb, taking_settings]
  have brelay : b.relay = s.relay := by rw [← hb, taking_relay]
  have btrail : b.trail = s.trail := by rw [← hb, taking_trail]
  have bwf : b.mem.wf = true := by rw [← hb, taking_mem]; exact hwf
  have braised : b.raised = [] := by rw [← hb]; exact raised_of_settled (taking_settled hs)
  have bcan {z : SpanId} (h : canSend s z) : canSend b z := by rw [← hb]; exact taking_canSend h
  have hquiet : b.settle = u := by rw [← hb, settle_of_settled _ (taking_settled hs)]; rfl
  refine ⟨fun m c hk hm hr hc hx hlead => ?_, fun m hk hm => ?_⟩
  · have hstep {v : State} (hv : (b.takeVoid x r.frame).reviewEnd = v) : exec (.void dt x) s = .next v.settle :=
      exec_takeUp (f := fun f _ u => (u.takeVoid x f).reviewEnd) rfl ht hk hcanx.1 (by rw [hb]; exact hv)
    have htake : b.takeVoid x r.frame = b.memberVoid x m r.frame.payload := by
      unfold State.takeVoid
      rw [bcensus, hr, hm]
    rw [memberVoid_takes (by rw [bcensus]; exact hc) hx hlead, bcensus] at htake
    refine ⟨fun hlast => ?_, fun hlast => ?_⟩
    · rw [if_pos hlast] at htake
      rw [hstep (v := b) (by rw [htake, ← hb, taking_reviewEnd hknown]), hquiet]
    · rw [if_neg hlast] at htake
      obtain ⟨vcensus, vtable, vspan⟩ := voidTaken_rest (s := b) m
      obtain ⟨v, hv⟩ : ∃ v, b.voidTaken m = v := ⟨_, rfl⟩
      rw [hv] at htake vcensus vtable vspan
      have hframe : v.censusFrame .void b.table.gen r.frame.payload = censusFrameAt .void c.position s.table.gen r.frame.payload := by
        rw [censusFrame_eq, btable, censusPosition_member (c := c) (by rw [vcensus, bcensus]; exact hr) (by rw [vcensus, bcensus]; exact hc)]
      rw [hframe] at htake
      obtain ⟨w, hw⟩ : ∃ w, b.takeVoid x r.frame = w := ⟨_, rfl⟩
      have hwrest : w.census = v.census ∧ w.table = v.table := by
        rw [← hw, htake]
        split
        exacts [⟨send_census _ _ _, send_table _ _ _⟩, ⟨rfl, rfl⟩]
      have hwcensus : w.census = { s.census with state := .uncensused, timerEnd := none, lastVoid := some m } := by
        rw [hwrest.1, vcensus, bcensus]
      refine ⟨_, hstep (by rw [hw, reviewEnd_unlisted (by rw [hwcensus]; rfl)]), ?_, ?_, ?_, ?_, ?_, ?_, fun hcan => waits_settle ?_⟩
      · rw [settle_census, hwcensus]
      · rw [settle_census, hwcensus]
      · rw [settle_census, hwcensus]
      · rw [settle_census, hwcensus]
        exact hc
      · rw [settle_census, hwcensus]
        exact hr
      · rw [settle_table, hwrest.2, vtable, btable]
      · have hcany := bcan hcan
        rw [if_pos (show b.isUp y = true by unfold State.isUp; rw [hcany.1]; rfl)] at htake
        rw [← hw, htake]
        exact waits_send v _ (by rw [vspan]; exact hcany.1) (by rw [vspan]; have : (b.span (otherSpan x)).depth ≤ 4 := hcany.2; omega)
  · intro stale
    have hstep {v : State} (hv : (b.takeBreak x r.frame).reviewEnd = v) : exec (.brk dt x) s = .next v.settle :=
      exec_takeUp (f := fun f _ u => (u.takeBreak x f).reviewEnd) rfl ht hk hcanx.1 (by rw [hb]; exact hv)
    obtain ⟨gspan, gtable, grelay, gset, gtrail, gmem, gnow⟩ := goStale_rest b m.position m.lostEnd m.cause
    have graised := goStale_raises b m.position m.lostEnd m.cause
    have gemits := emits_goStale b m.position m.lostEnd m.cause
    obtain ⟨g, hg⟩ : ∃ g, b.goStale m.position m.lostEnd m.cause = g := ⟨_, rfl⟩
    have glisted := goStale_listed b m.position m.lostEnd m.cause
    rw [hg] at gspan gtable grelay gset gtrail gmem gnow graised gemits glisted
    have hrecorded (v : State) (hsub : g.raised ⊆ v.raised) (hlen : v.raised.length ≤ 2) (htrail : v.trail = s.trail)
        (hvwf : v.mem.wf = true) (hv : s.census.state = .valid) : recordedIn s v.settle stale := by
      have := settle_recordedEvent (s := s) (v := v) (g := censusGroup) (e := staleEvent b m.position m.lostEnd m.cause) htrail hvwf
        (by unfold trailRoom at hroom; omega) (hsub (graised (by rw [bcensus]; exact hv)))
      unfold staleEvent at this
      rwa [btable] at this
    have glen : g.raised.length ≤ 1 := by
      have := gemits.events.length
      rwa [braised, List.length_nil] at this
    have gwf : g.mem.wf = true := by rw [gmem]; exact bwf
    refine ⟨fun up hr hl hdown hups hlead hcan => ?_, fun hr hx hlead => ⟨fun hl => ?_, fun hst => ?_, fun hst => ?_⟩⟩
    · rw [bcensus] at glisted
      obtain ⟨gstate, grole, gctx⟩ := glisted hl
      have grole' : g.census.role = .member := by rw [grole]; exact hr
      have hlb : b.census.state.listed = true := by rw [bcensus]; exact (listed_iff _).mpr hl
      have hlg : g.census.state.listed = true := by rw [gstate]; rfl
      have hrb : b.census.role = .member := by rw [bcensus]; exact hr
      have glinks : SameLinks b g := fun z => by unfold State.isUp; rw [gspan]
      have gup : g.upstream = some up := by
        have hbup : b.upstream = some up := by rw [← hb, taking_upstream]; exact hups
        unfold State.upstream at hbup ⊢
        simp only [hrb] at hbup
        simp only [grole']
        rw [front_of_listed hrb grole' hlb hlg gtable, hbup]
      have hframe : g.censusFrame .brk g.table.gen r.frame.payload = censusFrameAt .brk s.censusPosition s.table.gen r.frame.payload := by
        rw [censusFrame_eq, gtable, btable, censusPosition_congr grole gctx]
      have htake : b.takeBreak x r.frame = g.send up (censusFrameAt .brk s.censusPosition s.table.gen r.frame.payload) := by
        unfold State.takeBreak State.memberBreak
        simp only [hm]
        rw [bcensus, hr]
        simp only
        rw [if_pos ⟨(listed_iff _).mpr hl, by rw [← hb, taking_downstream]; exact hdown, by rw [btable]; exact hlead⟩, hg, gup, hframe]
        rfl
      obtain ⟨w, hw⟩ : ∃ w, g.send up (censusFrameAt .brk s.censusPosition s.table.gen r.frame.payload) = w := ⟨_, rfl⟩
      have hreview : w.reviewEnd = w := by
        refine reviewEnd_known hknown (by rw [← hw, send_census, grole', hr]) ?_ (by rw [← hw, send_relay, grelay, brelay]) ?_
        · rw [← hw, send_census, hlg]
          exact ((listed_iff _).mpr hl).symm
        · rw [← hw, send_isEndCar, isEndCar_of_listed hrb grole' hlb hlg gtable glinks, ← hb, taking_isEndCar]
      have hcanb := bcan hcan
      refine ⟨_, hstep (by rw [htake, hw, hreview]), ?_, ?_, waits_settle ?_, fun hv => ?_⟩
      · rw [settle_census, ← hw, send_census, gstate]
      · rw [settle_table, ← hw, send_table, gtable, btable]
      · rw [← hw]
        exact waits_send g _ (by rw [gspan]; exact hcanb.1) (by rw [gspan]; have := hcanb.2; omega)
      · have hsends := sends_send g up (censusFrameAt .brk s.censusPosition s.table.gen r.frame.payload)
        rw [hw] at hsends
        have hlen := hsends.raises.length
        exact hrecorded w hsends.raises.subset (by omega) (by rw [hsends.trail, gtrail, btrail]) (by rw [hsends.mem]; exact gwf) hv
    · rw [bcensus] at glisted
      obtain ⟨gstate, grole, gctx⟩ := glisted hl
      have htake : b.takeBreak x r.frame = g.startSettle 0 := by
        unfold State.takeBreak State.leadBreak
        simp only [hm]
        rw [bcensus, hr]
        simp only
        rw [if_pos ⟨by rw [hx, ← hb, taking_trainSpan], by rw [bset]; exact hlead⟩]
        obtain hl | hl := hl
        · rw [hl, hg]
        · have hsame : g = b := by rw [← hg, goStale_eq, bcensus, hl, if_neg (by decide)]
          rw [hl, hsame]
      have hcensus := startSettle_census g 0
      obtain ⟨c, hc⟩ := startSettle_eq g 0
      rw [gset, bset, gnow] at hcensus
      have hstate := startSettle_state g 0
      obtain ⟨w, hw⟩ : ∃ w, g.startSettle 0 = w := ⟨_, rfl⟩
      rw [hw] at hcensus hc hstate
      have hrole : w.census.role = .lead := by
        rw [hcensus, apply_ite Census.role, ite_self, grole]
        exact hr
      refine ⟨_, hstep (by rw [htake, hw, reviewEnd_lead hrole]), ?_, ?_, fun hv => ?_, fun ha => ?_⟩
      · rw [settle_census, hstate, gstate]
      · rw [settle_table, hc, setCensus_table, gtable, btable]
      · exact hrecorded w (by rw [hc]; exact List.Subset.refl _) (by rw [hc, setCensus_raised]; omega) (by rw [hc, setCensus_trail, gtrail, btrail])
          (by rw [hc]; exact gwf) hv
      · rw [settle_census, hcensus, if_pos ha, ← hb, taking_now]
        exact ⟨rfl, rfl⟩
    · have htake : b.takeBreak x r.frame = b.failCensus .spanLost 0 := by
        unfold State.takeBreak State.leadBreak
        simp only [hm]
        rw [bcensus, hr]
        simp only
        rw [if_pos ⟨by rw [hx, ← hb, taking_trainSpan], by rw [bset]; exact hlead⟩, hst]
      have hfails := taking_censusFails (dt := dt) (x := x) (rest := rest) .spanLost 0 hs hr hwf hroom
      rw [hb] at hfails
      exact ⟨_, hstep (by rw [htake, reviewEnd_failCensus (by rw [bcensus]; exact hr)]), hfails⟩
    · have htake : b.takeBreak x r.frame = b := by
        unfold State.takeBreak State.leadBreak
        simp only [hm]
        rw [bcensus, hr]
        simp only
        rw [if_pos ⟨by rw [hx, ← hb, taking_trainSpan], by rw [bset]; exact hlead⟩, hst]
      rw [hstep (v := b) (by rw [htake, ← hb, taking_reviewEnd hknown]), hquiet]

end Sys2Proof.Machine

/-!
CALL (R50 to R53): O27.
-/

namespace Sys2Proof.Machine

section
variable {s t : State}

theorem reportFrame_eq (number : Word16) (lead : Word32) (a : Answer) (rs : List CarRecord) :
    s.reportFrame number lead a rs = reportAt s.censusPosition number lead a rs := rfl

/-- The record of a car rests on its settings, its heating, its table's generation and its spans (R49, R73). -/
theorem makeRecord_congr (hset : t.settings = s.settings) (hheat : t.heat.cap = s.heat.cap) (hdem : t.demand = s.demand)
    (hgen : t.table.gen = s.table.gen) (hup : ∀ x, t.isUp x = s.isUp x) (hdelay : ∀ x, (t.span x).delay = (s.span x).delay)
    (front : SpanId) (d : Nat) : t.makeRecord front d = s.makeRecord front d := by
  unfold State.makeRecord
  simp only
  rw [hset, hheat, hdem, hgen, capacity_congr hset, hup, hdelay]

theorem newerNumber_near {held called : Word16} (h1 : 1 ≤ (called - held).toNat) (h2 : (called - held).toNat ≤ 32767) :
    newerNumber held called = true := by
  unfold newerNumber
  simp only
  rw [if_pos ⟨h1, h2⟩]

theorem newerNumber_far {held called : Word16} (h : (called - held).toNat = 0 ∨ 32768 < (called - held).toNat) :
    newerNumber held called = false := by
  unfold newerNumber
  simp only
  rw [if_neg (by omega), if_neg (by omega)]

theorem takingPart_iff (c : CensusState) : c.takingPart = true ↔ c = .enlisted ∨ c = .awaitTable := by
  cases c <;> simp [CensusState.takingPart]

theorem busy_iff (c : CensusState) : c.busy = true ↔ c = .calling ∨ c = .distributing := by
  cases c <;> simp [CensusState.busy]

end

section
variable {s : State} {dt : Nat} {x : SpanId} {rest : List RxFrame}

theorem taking_memberRecord (c : Context) : (s.taking dt x rest).memberRecord c = s.memberRecord c := by
  unfold State.memberRecord
  rw [taking_delay]
  exact makeRecord_congr taking_settings (by rw [taking_heat]) taking_demand (by rw [taking_table]) (fun _ => taking_isUp _)
    (fun _ => taking_delay _) _ _

theorem taking_leadRecord : (s.taking dt x rest).leadRecord = s.leadRecord := by
  unfold State.leadRecord State.cabSpan
  rw [taking_settings]
  exact makeRecord_congr taking_settings (by rw [taking_heat]) taking_demand (by rw [taking_table]) (fun _ => taking_isUp _)
    (fun _ => taking_delay _) _ _

end

/-! ## A CALL of another lead in a running census (R51) -/

/-- The event of a conflict that this car finds (R51, R53). -/
def conflictEvent (s : State) (who : Byte) (lead : Word32) : Event :=
  { kind := 9, source := 3, position := byte s.table.own, detail := who, value := lead }

/-- The member that has answered both leads (R51). -/
theorem memberConflict_facts {s : State} {x : SpanId} {m : CallMsg} {c : Context} (hr : s.census.role = .member) (hc : s.census.ctx = some c)
    (hx : (s.span x).state = .up) (hxroom : (s.span x).depth ≤ 4) (hup : (s.span c.upstream).state = .up)
    (hroom : (s.span c.upstream).depth ≤ 4) :
    (s.memberConflict x m c).census = { s.census with state := .uncensused, timerEnd := none } ∧
    waits (s.memberConflict x m c) x (reportAt c.position m.number m.lead .conflict []) ∧
    waits (s.memberConflict x m c) c.upstream (reportAt c.position c.number c.lead .conflict []) ∧
    { group := censusGroup, event := conflictEvent s 2 m.lead } ∈ (s.memberConflict x m c).raised ∧
    Emits 2 3 s (s.memberConflict x m c) := by
  obtain ⟨v, hv⟩ : ∃ v, s.send x (reportAt c.position m.number m.lead .conflict []) = v := ⟨_, rfl⟩
  obtain ⟨w, hw⟩ : ∃ w, v.send c.upstream (reportAt c.position c.number c.lead .conflict []) = w := ⟨_, rfl⟩
  have vcensus : v.census = s.census := by rw [← hv, send_census]
  have wcensus : w.census = s.census := by rw [← hw, send_census, vcensus]
  have heq : s.memberConflict x m c = w.leaveCensus.leadConflict 2 m.lead := by
    unfold State.memberConflict
    simp only [reportFrame_eq]
    rw [censusPosition_member hr hc, hv, censusPosition_member (by rw [vcensus]; exact hr) (by rw [vcensus]; exact hc), hw]
  have hleave : Emits 0 1 w (s.memberConflict x m c) := by
    rw [heq]
    exact (emits_enterCensus w .uncensused).trans (emits_raise _ _ _)
  have hvsend : Emits 1 1 s v := hv ▸ emits_send s x _
  have hwsend : Emits 1 1 v w := hw ▸ emits_send v c.upstream _
  have hvw : waits v x (reportAt c.position m.number m.lead .conflict []) := hv ▸ waits_send s _ hx (by omega)
  obtain ⟨hvx, hvxroom⟩ := hvsend.up hx (by omega)
  obtain ⟨hvup, hvroom⟩ := hvsend.up hup (by omega)
  have hww : waits w x (reportAt c.position m.number m.lead .conflict []) := hwsend.waits hvx (by omega) hvw
  have hwc : waits w c.upstream (reportAt c.position c.number c.lead .conflict []) := hw ▸ waits_send v _ hvup (by omega)
  obtain ⟨hwx, hwxroom⟩ := hwsend.up hvx (by omega)
  obtain ⟨hwup, hwroom⟩ := hwsend.up hvup (by omega)
  refine ⟨?_, hleave.waits hwx (by omega) hww, hleave.waits hwup (by omega) hwc, ?_, (hvsend.trans hwsend).trans hleave⟩
  · rw [heq, leadConflict_census, leaveCensus_census, wcensus]
  · have htable : w.leaveCensus.table = s.table := by
      rw [State.leaveCensus, (enterCensus_rest w _).2.1, ← hw, send_table, ← hv, send_table]
    rw [heq]
    refine List.mem_append_right _ (List.mem_singleton.mpr ?_)
    unfold conflictEvent State.eventPosition
    rw [htable]

theorem OpsKeep.memberConflict {K : State → Prop} (hK : OpsKeep K) (s : State) (x : SpanId) (m : CallMsg) (c : Context) (h : K s) :
    K (s.memberConflict x m c) :=
  hK.raise _ _ _ (hK.leaveCensus _ (hK.send _ _ _ (hK.send s x _ h)))

/-! ## Adopting a CALL (R52) -/

/-- The member that has taken the context of a CALL (R52). -/
def State.called (s : State) (x : SpanId) (m : CallMsg) : State :=
  s.setCensus { s.census with ctx := some (m.context x), lastVoid := none, ackForwarded := false, relayed := false }

theorem adoptCall_eq {s : State} {x : SpanId} {m : CallMsg} (hr : s.census.role = .member) : s.adoptCall x m =
    if s.isUp (otherSpan x) then
      if m.hop + 1 ≤ 31 then
        ((s.called x m).send (otherSpan x) (censusFrameAt .call (m.hop + 1) 0 (callPayload m.number m.lead))).enterCensus .enlisted
      else ((s.called x m).send x (reportAt (m.hop + 1) m.number m.lead .tooLong [])).enterCensus .uncensused
    else ((s.called x m).send x (reportAt (m.hop + 1) m.number m.lead .ended [s.memberRecord (m.context x)])).enterCensus .awaitTable := by
  have hpos : (s.called x m).censusPosition = m.hop + 1 := censusPosition_member (c := m.context x) hr rfl
  have hup : (s.called x m).isUp (otherSpan x) = s.isUp (otherSpan x) := by
    unfold State.isUp State.called
    rw [setCensus_span]
  have hrecord : (s.called x m).memberRecord (m.context x) = s.memberRecord (m.context x) := by
    have hspan (z : SpanId) : (s.called x m).span z = s.span z := setCensus_span _ _ _
    unfold State.memberRecord
    rw [hspan]
    exact makeRecord_congr rfl rfl rfl rfl (fun z => by unfold State.isUp; rw [hspan]) (fun z => by rw [hspan]) _ _
  have heq : s.adoptCall x m = if (s.called x m).isUp (otherSpan x) then
      if m.hop + 1 ≤ 31 then
        ((s.called x m).send (otherSpan x) ((s.called x m).censusFrame .call 0 (callPayload m.number m.lead))).enterCensus .enlisted
      else ((s.called x m).send x ((s.called x m).reportFrame m.number m.lead .tooLong [])).enterCensus .uncensused
    else ((s.called x m).send x ((s.called x m).reportFrame m.number m.lead .ended
      [(s.called x m).memberRecord (m.context x)])).enterCensus .awaitTable := rfl
  rw [heq, hup, hrecord, reportFrame_eq, reportFrame_eq, censusFrame_eq, hpos]

/-- What an adopted CALL leaves of the member (R52). -/
theorem adopted_facts {s u : State} {x : SpanId} {m : CallMsg} {c : CensusState} (hu : u.census = (s.called x m).census)
    (hc : c.listed = false) :
    (u.enterCensus c).census.ctx = some (m.context x) ∧ (u.enterCensus c).census.lastVoid = none ∧
    (u.enterCensus c).census.ackForwarded = false ∧ (u.enterCensus c).relay = Relay.empty ∧ (u.enterCensus c).census.state = c ∧
    (u.enterCensus c).census.timerEnd = (censusTime c).map (fun d => u.now + d) ∧ (u.enterCensus c).reviewEnd = u.enterCensus c := by
  have hcensus := enterCensus_census u c
  rw [hu] at hcensus
  rw [reviewEnd_unlisted (by rw [hcensus]; exact hc), (enterCensus_unlisted u c hc).1, hcensus]
  exact ⟨rfl, rfl, rfl, rfl, rfl, rfl, rfl⟩

theorem waits_enterCensus {s : State} {x : SpanId} {f : Frame} {c : CensusState} (h : waits s x f) : waits (s.enterCensus c) x f := by
  unfold waits
  rw [(enterCensus_rest s c).1]
  exact h

/-! ## A CALL at a lead (R53) -/

/-- The lead that has answered a foreign CALL (R53). -/
theorem leadCall_eq {s : State} {x : SpanId} {m : CallMsg} (hr : s.census.role = .lead) (hlead : m.lead ≠ s.settings.identity) :
    s.leadCall x m =
      let t := (s.send x (reportAt 1 m.number m.lead .conflict [])).raise censusGroup (conflictEvent s 1 m.lead)
      if s.census.state.busy then t.failCensus .leadConflict 0 else t := by
  have htable : (s.send x (reportAt 1 m.number m.lead .conflict [])).table = s.table := send_table _ _ _
  unfold State.leadCall
  rw [if_neg hlead, reportFrame_eq, censusPosition_lead hr]
  unfold State.leadConflict State.eventPosition conflictEvent
  dsimp only
  rw [htable, raise_census, send_census]

/-- Settles O27: a CALL is discarded, finds a conflict or is adopted at a member, and is answered with a conflict at a lead
(R50 to R53). -/
theorem callIsAdoptedOrAnswered : Obligations.CallIsAdoptedOrAnswered := by
  intro s dt x r rest m hs hknown hwf hroom ht hk hm hcanx u y now engaged distance
  obtain ⟨b, hb⟩ : ∃ b, s.taking dt x rest = b := ⟨_, rfl⟩
  have bcensus : b.census = s.census := by rw [← hb, taking_census]
  have btable : b.table = s.table := by rw [← hb, taking_table]
  have bset : b.settings = s.settings := by rw [← hb, taking_settings]
  have btrail : b.trail = s.trail := by rw [← hb, taking_trail]
  have bnow : b.now = s.now + dt := by rw [← hb, taking_now]
  have bwf : b.mem.wf = true := by rw [← hb, taking_mem]; exact hwf
  have braised : b.raised = [] := by rw [← hb]; exact raised_of_settled (taking_settled hs)
  have bcan {z : SpanId} (h : canSend s z) : canSend b z := by rw [← hb]; exact taking_canSend h
  have hquiet : b.settle = u := by rw [← hb, settle_of_settled _ (taking_settled hs)]; rfl
  have hstep {v : State} (hv : (b.takeCall x r.frame).reviewEnd = v) : exec (.call dt x) s = .next v.settle :=
    exec_takeUp (f := fun f _ u => (u.takeCall x f).reviewEnd) rfl ht hk hcanx.1 (by rw [hb]; exact hv)
  have hmember (hr : s.census.role = .member) : b.takeCall x r.frame = b.memberCall x m := by
    unfold State.takeCall
    simp only [hm]
    rw [bcensus, hr]
  have hleadcall (hr : s.census.role = .lead) : b.takeCall x r.frame = b.leadCall x m := by
    unfold State.takeCall
    simp only [hm]
    rw [bcensus, hr]
  have hkeep (h : b.takeCall x r.frame = b) : exec (.call dt x) s = .next u := by
    rw [hstep (v := b) (by rw [h, ← hb, taking_reviewEnd hknown]), hquiet]
  obtain ⟨hbx, hbroom⟩ := bcan hcanx
  refine ⟨fun hself => hkeep ?_, fun hr hlead => ⟨fun c hc hsame hd => hkeep ?_, fun c hc hne heng hcan => ?_, fun hadopt => ?_⟩, fun hr hlead => ?_⟩
  · cases hr : s.census.role with
    | member =>
      rw [hmember hr]
      unfold State.memberCall
      rw [if_pos (by rw [bset]; exact hself)]
    | lead =>
      rw [hleadcall hr]
      unfold State.leadCall
      rw [if_pos (by rw [bset]; exact hself)]
  · rw [hmember hr]
    unfold State.memberCall
    rw [if_neg (by rw [bset]; exact hlead), bcensus, hc]
    simp only
    rw [if_pos hsame, newerNumber_far hd, if_neg Bool.false_ne_true]
  · obtain ⟨hup, huproom⟩ := bcan hcan
    have hconflict : b.takeCall x r.frame = b.memberConflict x m c := by
      rw [hmember hr]
      unfold State.memberCall
      rw [if_neg (by rw [bset]; exact hlead), bcensus, hc]
      simp only
      rw [if_neg hne, if_pos ((takingPart_iff _).mpr heng)]
    obtain ⟨hcensus, hw1, hw2, hevent, hemits⟩ := memberConflict_facts (s := b) (x := x) (m := m) (c := c) (by rw [bcensus]; exact hr)
      (by rw [bcensus]; exact hc) hbx hbroom hup huproom
    have htrail : (b.memberConflict x m c).trail = s.trail := (opsKeep_trail s.trail).memberConflict b x m c btrail
    have hmem : (b.memberConflict x m c).mem.wf = true := opsKeep_memWf.memberConflict b x m c bwf
    have hlen := hemits.events.length
    obtain ⟨w, hw⟩ : ∃ w, b.memberConflict x m c = w := ⟨_, rfl⟩
    rw [hw] at hconflict hcensus hw1 hw2 hevent htrail hmem hlen
    rw [bcensus] at hcensus
    refine ⟨_, hstep (by rw [hconflict, reviewEnd_unlisted (by rw [hcensus]; rfl)]), ?_, ?_, waits_settle hw1, waits_settle hw2, ?_⟩
    · rw [settle_census, hcensus]
    · rw [settle_census, hcensus]
      exact hc
    · rw [braised, List.length_nil] at hlen
      have := settle_recordedEvent htrail hmem (by unfold trailRoom at hroom; omega) hevent
      unfold conflictEvent at this
      rwa [btable] at this
  · intro c
    have htake : b.takeCall x r.frame = b.adoptCall x m := by
      rw [hmember hr]
      unfold State.memberCall
      rw [if_neg (by rw [bset]; exact hlead), bcensus]
      obtain hnone | ⟨c', hc, hsame, h1, h2⟩ | ⟨c', hc, hne, heng⟩ := hadopt
      · rw [hnone]
      · rw [hc]
        simp only
        rw [if_pos hsame, newerNumber_near h1 h2, if_pos rfl]
      · rw [hc]
        simp only
        rw [if_neg hne, if_neg (mt (takingPart_iff _).mp heng)]
    rw [adoptCall_eq (by rw [bcensus]; exact hr)] at htake
    obtain ⟨a, ha⟩ : ∃ a, b.called x m = a := ⟨_, rfl⟩
    have aspan (z : SpanId) : a.span z = b.span z := by rw [← ha]; exact setCensus_span _ _ _
    have anow : a.now = s.now + dt := by rw [← ha]; exact bnow
    have hrecord : b.memberRecord (m.context x) = s.memberRecord (m.context x) := by rw [← hb]; exact taking_memberRecord _
    rw [ha, hrecord] at htake
    have hyup : b.isUp (otherSpan x) = true ↔ (s.span y).state = .up := by
      unfold State.isUp
      rw [beq_iff_eq, ← hb, taking_state]
    have hsent (z : SpanId) (f : Frame) (l : CensusState) (hl : l.listed = false) (h : b.takeCall x r.frame = (a.send z f).enterCensus l) :
        ∃ t : State, exec (.call dt x) s = .next t ∧ t.census.ctx = some c ∧ t.census.lastVoid = none ∧ t.census.ackForwarded = false ∧
          t.relay = Relay.empty ∧ t.census.state = l ∧ t.census.timerEnd = (censusTime l).map (fun d => s.now + dt + d) ∧
          ((a.span z).state = .up → (a.span z).depth ≤ 4 → waits t z f) := by
      obtain ⟨h1, h2, h3, h4, h5, h6, h7⟩ := adopted_facts (s := b) (u := a.send z f) (m := m) (x := x) (by rw [send_census, ha]) hl
      refine ⟨_, hstep (by rw [h, h7]), ?_, ?_, ?_, ?_, ?_, ?_, fun hz hd => waits_settle (waits_enterCensus (waits_send a f hz (by omega)))⟩
      · rw [settle_census, h1]
        rfl
      · rw [settle_census, h2]
      · rw [settle_census, h3]
      · rw [settle_relay, h4]
      · rw [settle_census, h5]
      · rw [settle_census, h6, send_now, anow]
    by_cases hy : (s.span y).state = .up
    · rw [if_pos (hyup.mpr hy)] at htake
      by_cases hhop : m.hop + 1 ≤ 31
      · rw [if_pos hhop] at htake
        obtain ⟨t, h0, h1, h2, h3, h4, h5, h6, h7⟩ := hsent _ _ _ rfl htake
        refine ⟨t, h0, h1, h2, h3, h4, fun _ _ => ⟨h5, h6, fun hcan => ?_⟩, fun _ hgt => absurd hhop (by omega), fun hn => absurd hy hn⟩
        have hcany := bcan hcan
        rw [aspan] at h7
        exact h7 hcany.1 hcany.2
      · rw [if_neg hhop] at htake
        obtain ⟨t, h0, h1, h2, h3, h4, h5, h6, h7⟩ := hsent _ _ _ rfl htake
        rw [aspan] at h7
        exact ⟨t, h0, h1, h2, h3, h4, fun _ hle => absurd hle hhop, fun _ _ => ⟨h5, h7 hbx hbroom⟩, fun hn => absurd hy hn⟩
    · rw [if_neg (mt hyup.mp hy)] at htake
      obtain ⟨t, h0, h1, h2, h3, h4, h5, h6, h7⟩ := hsent _ _ _ rfl htake
      rw [aspan] at h7
      exact ⟨t, h0, h1, h2, h3, h4, fun hup => absurd hup hy, fun hup => absurd hup hy, fun _ => ⟨h5, h6, h7 hbx hbroom⟩⟩
  · have htake := (hleadcall hr).trans (leadCall_eq (s := b) (x := x) (m := m) (by rw [bcensus]; exact hr) (by rw [bset]; exact hlead))
    dsimp only at htake
    obtain ⟨a, ha⟩ : ∃ a, (b.send x (reportAt 1 m.number m.lead .conflict [])).raise censusGroup (conflictEvent b 1 m.lead) = a := ⟨_, rfl⟩
    have acensus : a.census = s.census := by rw [← ha, raise_census, send_census, bcensus]
    have atable : a.table = s.table := by rw [← ha, raise_table, send_table, btable]
    have asends : Sends 1 b (b.send x (reportAt 1 m.number m.lead .conflict [])) := sends_send b x _
    have aemits : Emits 1 2 b a := by
      rw [← ha]
      exact (emits_send b x _).trans (emits_raise _ _ _)
    have awaits : waits a x (reportAt 1 m.number m.lead .conflict []) := by
      have h := waits_send b (reportAt 1 m.number m.lead .conflict []) hbx (by omega)
      rw [← ha]
      exact h
    have amem : a.mem = b.mem := by rw [← ha]; exact asends.mem
    have atrail : a.trail = s.trail := by rw [← ha]; exact asends.trail.trans btrail
    have aevent : { group := censusGroup, event := conflictEvent b 1 m.lead } ∈ a.raised := by
      rw [← ha]
      exact List.mem_append_right _ (List.mem_singleton.mpr rfl)
    have awf : a.mem.wf = true := by rw [amem]; exact bwf
    have alen := aemits.events.length
    rw [braised, List.length_nil] at alen
    rw [ha, bcensus] at htake
    obtain ⟨haup, haroom⟩ := aemits.up hbx (by omega)
    have hrecorded (v : State) (hsub : a.raised ⊆ v.raised) (hlen : v.raised.length ≤ 8) (hvt : v.trail = s.trail) (hvm : v.mem.wf = true) :
        recordedIn s v.settle { kind := 9, source := 3, position := byte s.table.own, detail := 1, value := m.lead } := by
      have := settle_recordedEvent hvt hvm (by unfold trailRoom at hroom; omega) (hsub aevent)
      unfold conflictEvent at this
      rwa [btable] at this
    by_cases hbusy : s.census.state.busy = true
    · rw [if_pos hbusy] at htake
      have hfemits := emits_failCensus a .leadConflict 0
      have hflen := hfemits.events.length
      have hcensus := failCensus_census a .leadConflict 0
      rw [if_neg (by simp [FailReason.retried]), acensus] at hcensus
      refine ⟨_, hstep (by rw [htake, reviewEnd_failCensus (by rw [acensus]; exact hr)]), waits_settle (hfemits.waits haup (by omega) awaits),
        hrecorded _ hfemits.events.subset (by omega) ((opsKeep_trail _).failCensus a _ _ atrail) (opsKeep_memWf.failCensus a _ _ awf),
        fun _ => ⟨by rw [settle_census, hcensus]; rfl, by rw [settle_census, hcensus]; rfl, fun k hslot hk16 => ?_⟩, fun h1 h2 => ?_⟩
      · have := failCensus_answered a .leadConflict 0 (by rw [acensus]; exact hslot) hk16 awf
        rwa [acensus, atable] at this
      · obtain h | h := (busy_iff _).mp hbusy
        exacts [absurd h h1, absurd h h2]
    · rw [if_neg hbusy] at htake
      refine ⟨_, hstep (by rw [htake, reviewEnd_lead (by rw [acensus]; exact hr)]), waits_settle awaits,
        hrecorded _ (List.Subset.refl _) (by omega) atrail awf, fun h => absurd ((busy_iff _).mpr h) hbusy, fun _ _ => ?_⟩
      rw [settle_census, acensus]

end Sys2Proof.Machine

/-!
REPORT (R54, R56): O28.
-/

namespace Sys2Proof.Machine

/-! ## The table a lead writes (R56, R74) -/

theorem hasRepeat_iff : ∀ rs : List CarRecord, hasRepeat rs = true ↔ ¬(rs.map (fun q => q.identity)).Nodup
  | [] => by simp [hasRepeat]
  | r :: rest => by
    rw [hasRepeat, Bool.or_eq_true, hasRepeat_iff rest, List.map_cons, List.nodup_cons, not_and_or, not_not, List.any_eq_true,
      List.mem_map]
    simp only [beq_iff_eq]

section
variable (s : State) (own : Nat) (gen number : Word16) (lead : Word32) (rs : List CarRecord)

theorem generationChanged_rest : s.generationChanged.table = s.table ∧ s.generationChanged.settings = s.settings ∧
    s.generationChanged.relay = s.relay ∧ s.generationChanged.now = s.now ∧ ∀ x : SpanId, s.generationChanged.span x = s.span x := by
  unfold State.generationChanged
  split
  case h_1 =>
    rw [setCap_keeps]
    exact ⟨rfl, rfl, rfl, rfl, fun x => by cases x <;> rfl⟩
  all_goals exact ⟨rfl, rfl, rfl, rfl, fun _ => rfl⟩

theorem writeTable_rest : (s.writeTable own gen number lead rs).table =
      { own, gen, number, signature := signature rs, lead, records := rs.map imageRecordOf } ∧
    (s.writeTable own gen number lead rs).settings = s.settings ∧ (s.writeTable own gen number lead rs).relay = s.relay ∧
    (s.writeTable own gen number lead rs).now = s.now ∧ ∀ x : SpanId, (s.writeTable own gen number lead rs).span x = s.span x := by
  unfold State.writeTable
  simp only
  split
  · exact ⟨rfl, rfl, rfl, rfl, fun x => by cases x <;> rfl⟩
  · obtain ⟨h1, h2, h3, hnow, h4⟩ := generationChanged_rest
      { s with table := { own, gen, number, signature := signature rs, lead, records := rs.map imageRecordOf } }
    exact ⟨h1, h2, h3, hnow, fun x => (h4 x).trans (by cases x <;> rfl)⟩

theorem cars_imageRecordOf : (rs.map imageRecordOf).map (fun q => q.car) = rs := by
  rw [List.map_map]
  exact List.map_id rs

end

/-- What distributing a table leaves of the lead (R56). -/
theorem buildTable_facts {s : State} {rs : List CarRecord} (hr : s.census.role = .lead) (hup : (s.span s.trainSpan).state = .up)
    (hroom : (s.span s.trainSpan).depth < 8) :
    (s.buildTable rs).census = { s.census with state := .distributing, timerEnd := some (s.now + 1500 * ms), settleEnd := none } ∧
    (s.buildTable rs).table = { own := 1, gen := newGeneration s.table.gen rs, number := s.census.number, signature := signature rs,
                                lead := s.settings.identity, records := rs.map imageRecordOf } ∧
    waits (s.buildTable rs) s.trainSpan (censusFrameAt .table 1 (newGeneration s.table.gen rs)
      (tablePayload s.census.number s.settings.identity (signature rs) rs)) := by
  obtain ⟨htable, hset, -, hnow, hspan⟩ := writeTable_rest s 1 (newGeneration s.table.gen rs) s.census.number s.settings.identity rs
  have hcensus := writeTable_census s 1 (newGeneration s.table.gen rs) s.census.number s.settings.identity rs
  obtain ⟨t, ht⟩ : ∃ t, s.writeTable 1 (newGeneration s.table.gen rs) s.census.number s.settings.identity rs = t := ⟨_, rfl⟩
  have heq : s.buildTable rs = (t.send t.trainSpan (t.censusFrame .table t.table.gen
      (tablePayload t.census.number t.settings.identity t.table.signature rs))).enterCensus .distributing := by
    rw [← ht]
    rfl
  rw [ht] at htable hset hspan hcensus hnow
  rw [trainSpan_congr hset, censusFrame_eq, censusPosition_lead (by rw [hcensus]; exact hr), hcensus, hset, htable] at heq
  refine ⟨?_, ?_, ?_⟩
  · rw [heq, enterCensus_census, send_census, send_now, hcensus, hnow]
    rfl
  · rw [heq, (enterCensus_rest _ _).2.1, send_table, htable]
  · rw [heq]
    exact waits_enterCensus (waits_send t _ (by rw [hspan]; exact hup) (by rw [hspan]; exact hroom))

/-- What the answer of a REPORT makes of the census of a lead in CALLING (R56). -/
def State.reportDecides (s : State) (records : List CarRecord) (origin : Byte) : Answer → State
  | .conflict => s.failCensus .leadConflict origin
  | .tooLong => s.failCensus .tooManyCars origin
  | .silent => s.failCensus .downstreamSilent origin
  | .ended => if hasRepeat records then s.failCensus .duplicateIdentity origin else s.buildTable records

theorem leadReport_eq {s : State} {x : SpanId} {m : ReportMsg} (h : s.census.state = .calling ∧ x = s.trainSpan ∧
    m.lead = s.settings.identity ∧ m.number = s.census.number) :
    s.leadReport x m = s.reportDecides (s.leadRecord :: m.records) m.origin m.answer := by
  unfold State.leadReport
  rw [if_pos h]
  cases m.answer <;> rfl

/-- What relaying a REPORT leaves of the member (R54). -/
theorem relayReport_facts {s : State} {m : ReportMsg} {c : Context} (hr : s.census.role = .member) (hc : s.census.ctx = some c)
    (hup : (s.span c.upstream).state = .up) (hroom : (s.span c.upstream).depth < 8) :
    waits (s.relayReport m c) c.upstream { reportAt c.position m.number m.lead m.answer (s.memberRecord c :: m.records) with
      origin := m.origin } ∧
    (m.answer = .ended → (s.relayReport m c).census.state = .awaitTable ∧ (s.relayReport m c).census.timerEnd = some (s.now + 2000 * ms)) ∧
    (m.answer ≠ .ended → (s.relayReport m c).census.state = .uncensused ∧ (s.relayReport m c).census.timerEnd = none) ∧
    (s.relayReport m c).census.state.listed = false := by
  obtain ⟨t, ht⟩ : ∃ t, s.send c.upstream { reportAt c.position m.number m.lead m.answer (s.memberRecord c :: m.records) with
      origin := m.origin } = t := ⟨_, rfl⟩
  have hw : waits t c.upstream { reportAt c.position m.number m.lead m.answer (s.memberRecord c :: m.records) with origin := m.origin } :=
    ht ▸ waits_send s _ hup hroom
  have tnow : t.now = s.now := by rw [← ht, send_now]
  have heq : s.relayReport m c =
      if m.answer = .ended then (t.setCensus { t.census with relayed := true }).enterCensus .awaitTable else t.leaveCensus := by
    rw [← ht, ← censusPosition_member hr hc]
    rfl
  rw [heq]
  by_cases ha : m.answer = .ended
  · rw [if_pos ha, enterCensus_census, setCensus_now, tnow]
    refine ⟨waits_enterCensus ?_, fun _ => ⟨rfl, rfl⟩, fun h => absurd ha h, rfl⟩
    unfold waits
    rw [setCensus_span]
    exact hw
  · rw [if_neg ha, leaveCensus_census]
    exact ⟨waits_enterCensus hw, fun h => absurd h ha, fun _ => ⟨rfl, rfl⟩, rfl⟩

/-- Settles O28: a REPORT is relayed by an ENLISTED member, and decides the census of a CALLING lead (R54, R56). -/
theorem reportIsRelayedOrDecided : Obligations.ReportIsRelayedOrDecided := by
  intro s dt x r rest m hs hknown hwf hroom hxup ht hk hm
  obtain ⟨b, hb⟩ : ∃ b, s.taking dt x rest = b := ⟨_, rfl⟩
  have bcensus : b.census = s.census := by rw [← hb, taking_census]
  have btable : b.table = s.table := by rw [← hb, taking_table]
  have bset : b.settings = s.settings := by rw [← hb, taking_settings]
  have bnow : b.now = s.now + dt := by rw [← hb, taking_now]
  have btrain : b.trainSpan = s.trainSpan := by rw [← hb, taking_trainSpan]
  have hstep {v : State} (hv : (b.takeReport x r.frame).reviewEnd = v) : exec (.report dt x) s = .next v.settle :=
    exec_takeUp (f := fun f _ u => (u.takeReport x f).reviewEnd) rfl ht hk hxup (by rw [hb]; exact hv)
  refine ⟨fun c hr hst hc hx hnum hlead hlen hcan => ?_, fun hr hst hx hlead hnum hdepth => ?_⟩
  · have htake : b.takeReport x r.frame = b.relayReport m c := by
      unfold State.takeReport State.memberReport
      simp only [hm]
      rw [bcensus, hr, hst, hc]
      exact if_pos ⟨hx, hnum, hlead, hlen⟩
    obtain ⟨hup, hdepth⟩ : canSend b c.upstream := by rw [← hb]; exact taking_canSend hcan
    obtain ⟨hw, hend, hother, hunlisted⟩ := relayReport_facts (s := b) (m := m) (c := c) (by rw [bcensus]; exact hr) (by rw [bcensus]; exact hc)
      hup (by omega)
    rw [show b.memberRecord c = s.memberRecord c by rw [← hb]; exact taking_memberRecord c] at hw
    rw [bnow] at hend
    refine ⟨_, hstep (by rw [htake, reviewEnd_unlisted hunlisted]), waits_settle hw, ?_, ?_⟩
    · rw [settle_census]
      exact hend
    · rw [settle_census]
      exact hother
  · intro records fails
    have hrb : b.census.role = .lead := by rw [bcensus]; exact hr
    have htake : b.takeReport x r.frame = b.leadReport x m := by
      unfold State.takeReport
      simp only [hm]
      rw [hrb]
    have hcond : b.census.state = .calling ∧ x = b.trainSpan ∧ m.lead = b.settings.identity ∧ m.number = b.census.number := by
      rw [bcensus, btrain, bset]
      exact ⟨hst, hx, hlead, hnum⟩
    have hrecords : b.leadRecord :: m.records = records := by rw [← hb, taking_leadRecord]
    have hfails (reason : FailReason) (h : b.leadReport x m = b.failCensus reason m.origin) : fails reason := by
      have := taking_censusFails (dt := dt) (x := x) (rest := rest) reason m.origin hs hr hwf hroom
      rw [hb] at this
      exact ⟨_, hstep (by rw [htake, h, reviewEnd_failCensus hrb]), this⟩
    have hanswer (a : Answer) (ha : m.answer = a) : b.leadReport x m = b.reportDecides records m.origin a := by
      rw [leadReport_eq hcond, hrecords, ha]
    refine ⟨fun ha => hfails _ (hanswer _ ha), fun ha => hfails _ (hanswer _ ha), fun ha => hfails _ (hanswer _ ha),
      fun ha hdup => hfails _ ((hanswer _ ha).trans (if_pos ((hasRepeat_iff _).mpr hdup))), fun ha hdup => ?_⟩
    have hbuild : b.leadReport x m = b.buildTable records := (hanswer _ ha).trans (if_neg (mt (hasRepeat_iff _).mp (not_not.mpr hdup)))
    have hbx : (b.span b.trainSpan).state = .up ∧ (b.span b.trainSpan).depth ≤ 4 := by
      rw [btrain, ← hx, ← hb, taking_state, taking_depth]
      exact ⟨hxup, hdepth⟩
    obtain ⟨hcensus, htable, hw⟩ := buildTable_facts (s := b) (rs := records) hrb hbx.1 (by omega)
    rw [btrain, ← hx, btable, bcensus, bset] at hw
    rw [btable, bcensus, bset] at htable
    rw [bcensus, bnow] at hcensus
    refine ⟨_, hstep (by rw [htake, hbuild, reviewEnd_lead (by rw [hcensus]; exact hr)]), ?_, ?_, ?_, ?_, ?_, ?_, ?_, ?_, waits_settle ?_⟩
    · rw [settle_census, hcensus]
    · rw [settle_census, hcensus]
      rfl
    · rw [settle_table, htable]
    · rw [settle_table, htable]
      rfl
    · rw [settle_table, htable]
    · rw [settle_table, htable]
    · rw [settle_table, htable]
      rfl
    · rw [settle_table, htable]
      exact cars_imageRecordOf _
    · rw [settle_table, htable]
      exact hw

end Sys2Proof.Machine

/-!
Starting a census (R44 to R47, R61, R65): O25, O26.
-/

namespace Sys2Proof.Machine

/-! ## The single-car table (R47) -/

section
variable (s : State)

theorem allocate_table : s.allocate.table = { s.table with records := writeGrants (nextAlloc s) s.table.records (allocGrants s) } := by
  rw [(allocate_rest s).2.1, allotted_table]

theorem startAllocations_rest : s.startAllocations.mem = s.mem ∧
    ∃ rs : List ImageRecord, s.startAllocations.table = { s.table with records := rs } ∧
      rs.map (fun q => q.car) = s.table.records.map (fun q => q.car) := by
  unfold State.startAllocations
  rw [allocate_table, (allocate_rest _).2.2.2]
  exact ⟨rfl, _, rfl, cars_writeGrants _ _ _⟩

theorem buildSingle_facts : ∃ rs : List ImageRecord,
    s.buildSingle.table = { own := 1, gen := nextNumber s.table.gen, number := s.census.number, signature := signature [s.leadRecord]
                            lead := s.settings.identity, records := rs } ∧
      rs.map (fun q => q.car) = [s.leadRecord] := by
  obtain ⟨t, ht⟩ : ∃ t, (s.writeTable 1 (nextNumber s.table.gen) s.census.number s.settings.identity [s.leadRecord]).clearAllocations = t := ⟨_, rfl⟩
  have htable : t.table = _ := (congrArg State.table ht.symm :).trans
    (writeTable_rest s 1 (nextNumber s.table.gen) s.census.number s.settings.identity [s.leadRecord]).1
  obtain ⟨-, rs, hrs, hcars⟩ := startAllocations_rest t.completeCensus
  have heq : s.buildSingle = t.completeCensus.startAllocations := by
    rw [← ht]
    rfl
  rw [completeCensus_table, htable] at hrs hcars
  rw [heq]
  exact ⟨rs, hrs, hcars⟩

theorem buildSingle_answered {k : Nat} (hslot : s.census.slot = some k) (hk : k < 16) (hwf : s.mem.wf = true) :
    answered s.buildSingle.settle k .ok 0 (le16 s.census.number ++ [1] ++ le16 (nextNumber s.table.gen) ++ [0, 5]) := by
  obtain ⟨t, ht⟩ : ∃ t, (s.writeTable 1 (nextNumber s.table.gen) s.census.number s.settings.identity [s.leadRecord]).clearAllocations = t := ⟨_, rfl⟩
  have htable : t.table = _ := (congrArg State.table ht.symm :).trans
    (writeTable_rest s 1 (nextNumber s.table.gen) s.census.number s.settings.identity [s.leadRecord]).1
  have hcensus : t.census = s.census := by rw [← ht, clearAllocations_census, writeTable_census]
  have hmem : t.mem.wf = true := by
    rw [← ht]
    exact opsKeep_memWf.clearAllocations _ (opsKeep_memWf.writeTable s _ _ _ _ _ hwf)
  have heq : s.buildSingle = t.completeCensus.startAllocations := by
    rw [← ht]
    rfl
  have := completeCensus_answered (s := t) (t := s.buildSingle) (by rw [hcensus]; exact hslot) hk hmem
    (by rw [heq]; exact (startAllocations_rest _).1)
  rwa [hcensus, htable] at this

end

/-! ## A census that starts (R46, R47) -/

/-- `u` is the lead that starts a census in a step from `s` on, with retry count `retry`. -/
structure Starting (s u : State) (retry : Nat) : Prop where
  role : u.census.role = .lead
  number : u.census.number = s.census.number
  retry : u.census.retry = retry
  table : u.table = s.table
  settings : u.settings = s.settings
  span : ∀ x : SpanId, u.span x = s.span x
  cap : u.heat.cap = s.heat.cap
  demand : u.demand = s.demand
  wf : u.mem.wf = true

/-- The lead that has numbered its census (R46). -/
def State.numbered (s : State) (slot : Option Nat) : State :=
  s.setCensus { s.census with number := nextNumber s.census.number, slot := slot, settleEnd := none }

theorem startCensus_eq (s : State) (slot : Option Nat) : s.startCensus slot =
    if (s.numbered slot).isUp s.cabSpan then (s.numbered slot).failCensus .leadNotAtEnd 0
    else if (s.numbered slot).isUp s.trainSpan then
      ((s.numbered slot).enterCensus .calling).send ((s.numbered slot).enterCensus .calling).trainSpan
        (((s.numbered slot).enterCensus .calling).censusFrame .call 0 (callPayload
          ((s.numbered slot).enterCensus .calling).census.number ((s.numbered slot).enterCensus .calling).settings.identity))
    else (s.numbered slot).buildSingle := rfl

theorem startCensus_role {s : State} {slot : Option Nat} (hr : s.census.role = .lead) :
    (s.startCensus slot).census.role = .lead ∧ (s.startCensus slot).census.ctx = s.census.ctx := by
  rw [startCensus_eq]
  split_ifs
  · rw [failCensus_census, apply_ite Census.role, apply_ite Census.ctx, ite_self, ite_self]
    exact ⟨hr, rfl⟩
  · rw [send_census, enterCensus_census]
    exact ⟨hr, rfl⟩
  · rw [buildSingle_census]
    exact ⟨hr, rfl⟩

theorem Starting.starts {s u : State} {retry : Nat} (h : Starting s u retry) (slot : Option Nat) :
    censusStarts s (u.startCensus slot).settle u.now slot retry := by
  obtain ⟨v, hv⟩ : ∃ v, u.numbered slot = v := ⟨_, rfl⟩
  have vcensus : v.census = { u.census with number := nextNumber s.census.number, slot := slot, settleEnd := none } := by
    rw [← hv, ← h.number]
    rfl
  have vspan (x : SpanId) : v.span x = s.span x := by rw [← hv, ← h.span]; exact setCensus_span _ _ _
  have vtable : v.table = s.table := by rw [← hv]; exact h.table
  have vset : v.settings = s.settings := by rw [← hv]; exact h.settings
  have vnow : v.now = u.now := by rw [← hv]; rfl
  have vwf : v.mem.wf = true := by rw [← hv]; exact h.wf
  have vup (x : SpanId) : v.isUp x = s.isUp x := by unfold State.isUp; rw [vspan]
  have hcab : u.cabSpan = s.cabSpan := by unfold State.cabSpan; rw [h.settings]
  have vrecord : v.leadRecord = s.leadRecord := by
    have vcab : v.cabSpan = s.cabSpan := by unfold State.cabSpan; rw [vset]
    unfold State.leadRecord
    rw [vcab]
    exact makeRecord_congr vset (by rw [← hv]; exact h.cap) (by rw [← hv]; exact h.demand) (by rw [vtable]) vup (fun x => by rw [vspan]) _ _
  have heq := startCensus_eq u slot
  rw [hv, hcab, trainSpan_congr h.settings, vup, vup] at heq
  obtain ⟨hrole, -⟩ := startCensus_role (slot := slot) h.role
  unfold censusStarts
  refine ⟨by rw [settle_census, hrole], ?_, fun hc => ?_, fun hc hup => ?_, fun hc hup => ?_⟩
  · rw [settle_census, heq]
    split_ifs
    · rw [failCensus_census, apply_ite Census.number, vcensus]
      exact ite_self _
    · rw [send_census, enterCensus_census, vcensus]
    · rw [buildSingle_census, vcensus]
  · rw [if_pos hc] at heq
    have hcensus := failCensus_census v .leadNotAtEnd 0
    rw [if_neg (by simp [FailReason.retried]), vcensus] at hcensus
    rw [heq, settle_census, hcensus]
    refine ⟨rfl, rfl, h.retry, fun k hk hk16 => ?_⟩
    have := failCensus_answered v .leadNotAtEnd 0 (by rw [vcensus]; exact hk) hk16 vwf
    rwa [vcensus, vtable] at this
  · rw [if_neg (by rw [hc]; exact Bool.false_ne_true), if_pos hup] at heq
    obtain ⟨espan, etable, eset, -, -⟩ := enterCensus_rest v .calling
    have ecensus := enterCensus_census v .calling
    obtain ⟨e, he⟩ : ∃ e, v.enterCensus .calling = e := ⟨_, rfl⟩
    rw [he] at heq espan etable eset ecensus
    rw [vcensus, vnow] at ecensus
    rw [trainSpan_congr (eset.trans vset), censusFrame_eq, censusPosition_lead (by rw [ecensus]; exact h.role), ecensus, eset, vset] at heq
    rw [heq, settle_census, settle_table, send_census, send_table, ecensus, etable]
    refine ⟨rfl, rfl, rfl, rfl, h.retry, vtable, fun hcan => waits_settle ?_⟩
    exact waits_send e _ (by rw [espan, vspan]; exact hcan.1) (by rw [espan, vspan]; have := hcan.2; omega)
  · rw [if_neg (by rw [hc]; exact Bool.false_ne_true), if_neg (by rw [hup]; exact Bool.false_ne_true)] at heq
    obtain ⟨rs, htable, hcars⟩ := buildSingle_facts v
    have hcensus := buildSingle_census v
    rw [vcensus] at hcensus
    rw [vtable, vcensus, vset, vrecord] at htable
    rw [vrecord] at hcars
    rw [heq, settle_census, settle_table, hcensus, htable]
    refine ⟨rfl, rfl, rfl, rfl, rfl, rfl, rfl, hcars, ?_, fun k hk hk16 => ?_⟩
    · unfold signature
      rw [List.flatMap_singleton]
    · have := buildSingle_answered v (by rw [vcensus]; exact hk) hk16 vwf
      rwa [vcensus, vtable] at this

/-! ## The timers (R42, R54, R56, R58, R65) -/

/-- Settles O26: the settle timer starts a census, the census timer fails or leaves one (R42, R54, R56, R58, R65). -/
theorem censusTimersAct : Obligations.CensusTimersAct := by
  intro s dt e hs hknown hwf hroom
  refine ⟨fun he hle hr h1 h2 => ?_, fun he hle => ?_⟩
  · have hstart : Starting s (s.advance dt) s.census.retry :=
      ⟨hr, rfl, rfl, rfl, rfl, fun x => by cases x <;> rfl, rfl, rfl, hwf⟩
    have hbusy : (s.advance dt).census.state.busy = false := by
      rw [← Bool.not_eq_true, busy_iff, not_or]
      exact ⟨h1, h2⟩
    refine ⟨_, exec_run (f := fun t => if t.reached t.census.settleEnd = true ∧ t.census.role = .lead ∧ t.census.state.busy = false then
      (t.startCensus none).reviewEnd else t) rfl ?_, hstart.starts none⟩
    rw [if_pos ⟨advance_reached he hle, hr, hbusy⟩, reviewEnd_lead (s := (s.advance dt).startCensus none) (startCensus_role (s := s.advance dt) hr).1]
  · have hstep {v : State} (hv : (s.advance dt).censusTimeout.reviewEnd = v) : exec (.censusTimerExpired dt) s = .next v.settle :=
      exec_run (f := fun t => if t.reached t.census.timerEnd then t.censusTimeout.reviewEnd else t) rfl
        ((if_pos (advance_reached he hle)).trans hv)
    have hfails (reason : FailReason) (hr : s.census.role = .lead) (h : (s.advance dt).censusTimeout = (s.advance dt).failCensus reason 0) :
        ∃ t : State, exec (.censusTimerExpired dt) s = .next t ∧
          censusFails s t (s.now + dt) s.census.number s.census.slot reason 0 :=
      ⟨_, hstep (by rw [h, reviewEnd_failCensus (s := s.advance dt) hr]), censusFails_of (u := s.advance dt) reason 0 hr rfl rfl rfl id rfl rfl
        (raised_of_settled hs) hwf hroom⟩
    refine ⟨fun hr hst => hfails _ hr ?_, fun hr hst => hfails _ hr ?_, fun c hr hc hst => ?_⟩
    · unfold State.censusTimeout
      rw [show (s.advance dt).census.state = .calling from hst]
    · unfold State.censusTimeout
      rw [show (s.advance dt).census.state = .distributing from hst]
    · obtain hst | hst := hst
      · have htime : (s.advance dt).censusTimeout = (s.advance dt).reportSilent c := by
          unfold State.censusTimeout
          rw [show (s.advance dt).census.state = .enlisted from hst, show (s.advance dt).census.ctx = some c from hc]
        have hcensus := reportSilent_census (s.advance dt) c
        refine ⟨_, hstep (by rw [htime, reviewEnd_unlisted (by rw [hcensus]; rfl)]), ?_, ?_, ?_, fun _ hcan => waits_settle ?_⟩
        · rw [settle_census, hcensus]
        · rw [settle_census, hcensus]
        · rw [settle_census, hcensus]
          exact hc
        · unfold State.reportSilent
          rw [reportFrame_eq, censusPosition_member (s := s.advance dt) hr hc]
          exact waits_enterCensus (waits_send (s.advance dt) _ hcan.1 (by have : ((s.advance dt).span c.upstream).depth ≤ 4 := hcan.2; omega))
      · have htime : (s.advance dt).censusTimeout = (s.advance dt).leaveCensus := by
          unfold State.censusTimeout
          rw [show (s.advance dt).census.state = .awaitTable from hst]
        have hcensus := leaveCensus_census (s.advance dt)
        refine ⟨_, hstep (by rw [htime, reviewEnd_unlisted (by rw [hcensus]; rfl)]), ?_, ?_, ?_, fun h => ?_⟩
        · rw [settle_census, hcensus]
        · rw [settle_census, hcensus]
        · rw [settle_census, hcensus]
          exact hc
        · rw [hst] at h
          exact nomatch h

/-! ## A lead that gives up its role (R45, R61) -/

section
variable {s : State} {j k : Nat} {o o' : SlotOutcome} {d d' : Byte} {r r' : List Byte}

/-- An answer outlives the completion of another slot (R168). -/
theorem answered.complete_other (h : answered s k o d r) (hr : r.length ≤ 32) (hwf : s.mem.wf = true) (hne : j ≠ k) :
    answered (s.complete j o' d' r') k o d r := by
  refine h.congr hr fun a h1 h2 => ?_
  have hout (off : Nat) (hoff : off < 64) : a ≠ slotBase j + off := by
    intro ha
    unfold slotBase at ha h1 h2
    omega
  rw [complete_read _ _ _ _ _ hwf, if_neg (show a ≠ slotBase j from hout 0 (by omega)), if_neg (fun hin => hout (a - slotBase j) (by omega) (by omega)),
    if_neg (hout 4 (by omega)), if_neg (hout 5 (by omega))]

end

section
variable (s : State)

/-- The lead that has sent its VOID and stopped its timers (R61). -/
def State.leadDropped (s : State) : State :=
  (s.sendVoid s.trainSpan { number := s.census.number, lead := s.settings.identity, reason := FailReason.leadDropped.code }).setCensus
    { s.census with timerEnd := none, settleEnd := none, retry := 0 }

theorem dropLead_eq : s.dropLead =
    if s.census.state.busy then
      (s.leadDropped.censusFailedEvent .leadDropped 0).becomeMember.completeCensusSlot .aborted FailReason.leadDropped.code 0 0
    else s.leadDropped.becomeMember := by
  unfold State.dropLead State.leadDropped
  simp only [sendVoid_census]

theorem becomeMember_rest : s.becomeMember.table = s.table ∧ ∀ x : SpanId, s.becomeMember.span x = s.span x := by
  obtain ⟨hspan, htable, -, -, -⟩ := enterCensus_rest s .uncensused
  exact ⟨htable, fun x => (by cases x <;> rfl : s.becomeMember.span x = (s.enterCensus .uncensused).span x).trans (hspan x)⟩

theorem emits_becomeMember : Emits 0 0 s s.becomeMember :=
  (((emits_enterCensus s _).trans (emits_setCensus _ _)).trans (emits_heat _ _)).trans (emits_clearAllocations _)

theorem leadDropped_rest : s.leadDropped.table = s.table ∧
    s.leadDropped.census = { s.census with timerEnd := none, settleEnd := none, retry := 0 } := by
  unfold State.leadDropped State.sendVoid
  refine ⟨?_, rfl⟩
  rw [setCensus_table, apply_ite State.table, send_table, ite_self]

/-- The VOID of the lead waits on its train span (R61). -/
theorem leadDropped_void (hr : s.census.role = .lead) (hup : (s.span s.trainSpan).state = .up) (hroom : (s.span s.trainSpan).depth < 8) :
    waits s.leadDropped s.trainSpan (censusFrameAt .void 1 s.table.gen (voidPayload s.census.number s.settings.identity 9)) := by
  unfold waits State.leadDropped State.sendVoid
  rw [setCensus_span, if_pos (by unfold State.isUp; rw [hup]; rfl)]
  unfold State.voidFrame
  rw [censusFrame_eq, censusPosition_lead hr]
  exact waits_send s _ hup hroom

theorem emits_dropLead_tail : Emits 0 1 s.leadDropped s.dropLead := by
  rw [dropLead_eq]
  refine .ite (((emits_raise _ _ _).trans (emits_becomeMember _)).trans (emits_completeCensusSlot _ _ _ _ _)) ?_
  exact (emits_becomeMember _).mono (Nat.le_refl _) (Nat.zero_le _)

theorem dropLead_table : s.dropLead.table = s.table := by
  have htable := (leadDropped_rest s).1
  rw [dropLead_eq]
  split
  · rw [completeCensusSlot_table, (becomeMember_rest _).1]
    exact htable
  · rw [(becomeMember_rest _).1, htable]

/-- The census slot of the census that DROP_LEAD ends (R45). -/
theorem dropLead_answered {k : Nat} (hbusy : s.census.state.busy = true) (hslot : s.census.slot = some k) (hwf : s.mem.wf = true) :
    answered s.dropLead k .aborted 9 (le16 s.census.number ++ [0] ++ le16 s.table.gen ++ [0, 0]) := by
  obtain ⟨ltable, lcensus⟩ := leadDropped_rest s
  obtain ⟨v, hv⟩ : ∃ v, (s.leadDropped.censusFailedEvent .leadDropped 0).becomeMember = v := ⟨_, rfl⟩
  have vcensus : v.census.number = s.census.number ∧ v.census.state = .uncensused ∧ v.census.slot = some k := by
    rw [← hv, becomeMember_census, censusFailedEvent_census, lcensus]
    exact ⟨rfl, rfl, hslot⟩
  have vtable : v.table = s.table := by rw [← hv, (becomeMember_rest _).1]; exact ltable
  have vwf : v.mem.wf = true := by
    rw [← hv]
    exact opsKeep_memWf.becomeMember _ (opsKeep_memWf.raise _ _ _ (opsKeep_memWf.setCensus _ _ (opsKeep_memWf.sendVoid s _ _ hwf) (by rw [sendVoid_census])))
  have heq : s.dropLead = v.completeCensusSlot .aborted 9 0 0 := by
    rw [dropLead_eq, if_pos hbusy, hv]
    rfl
  have hresults : v.censusResults 0 0 = le16 s.census.number ++ [0] ++ le16 s.table.gen ++ [0, 0] := by
    unfold State.censusResults
    rw [vcensus.1, vcensus.2.1, vtable]
    rfl
  have hlen := censusResults_length (s := v) 0 0
  have hmem := completeCensusSlot_mem (s := v) (o := .aborted) (d := 9) 0 0 vcensus.2.2
  rw [hresults] at hlen hmem
  rw [heq]
  exact (complete_answered vwf k .aborted 9 hlen).congr hlen fun a _ _ => by rw [hmem]

theorem dropLead_event (hbusy : s.census.state.busy = true) :
    { group := censusGroup, event := failedEvent s s.census.number .leadDropped 0 } ∈ s.dropLead.raised := by
  obtain ⟨ltable, lcensus⟩ := leadDropped_rest s
  have htail := ((emits_becomeMember (s.leadDropped.censusFailedEvent .leadDropped 0)).trans
    (emits_completeCensusSlot _ .aborted FailReason.leadDropped.code 0 0)).events.subset
  rw [dropLead_eq, if_pos hbusy]
  refine htail (List.mem_append_right _ (List.mem_singleton.mpr ?_))
  unfold failedEvent State.eventPosition
  rw [ltable, lcensus]

end

/-! ## Requests (R44, R45, R61) -/

theorem serving_reviewEnd {s : State} {dt : Nat} {q : Requests} (h : endKnown s) (k : Nat) (o : SlotOutcome) (d : Byte) (r : List Byte) :
    (State.complete { s.advance dt with req := q } k o d r).reviewEnd = State.complete { s.advance dt with req := q } k o d r := by
  refine reviewEnd_known h (by rw [complete_census]; rfl) (by rw [complete_census]; rfl) (by rw [complete_relay]; rfl) ?_
  exact isEndCar_congr (s := s) ((sameConsist_complete _ _ _ _ _).after ⟨rfl, rfl, rfl, rfl, rfl, rfl, rfl, .inr id⟩)
    fun x => (sameLinks_complete _ _ _ _ _ x).trans (by cases x <;> rfl)

theorem engaged_iff (c : CensusState) : (c.takingPart || c.busy) = true ↔
    c = .enlisted ∨ c = .awaitTable ∨ c = .calling ∨ c = .distributing := by
  rw [Bool.or_eq_true, takingPart_iff, busy_iff, or_assoc]

section
variable {s : State} {r : Request}

/-- A TRAILER refuses TAKE_LEAD (R44). -/
theorem takeLead_trailer (hk : s.settings.kind ≠ 1) : s.takeLead r = s.complete r.slot .refusedRole 0 [] := if_pos hk

theorem takeLead_engaged (hk : s.settings.kind = 1) (he : (s.census.state.takingPart || s.census.state.busy) = true) :
    s.takeLead r = s.complete r.slot .refusedBusy 0 [] := by
  unfold State.takeLead
  rw [if_neg (not_not.mpr hk), if_pos he]

theorem takeLead_starts (hk : s.settings.kind = 1) (he : ¬(s.census.state.takingPart || s.census.state.busy) = true) :
    s.takeLead r = (if s.census.role = .member then s.becomeLead else s).startCensus (some r.slot) := by
  unfold State.takeLead
  rw [if_neg (not_not.mpr hk), if_neg he]
  cases s.census.role <;> rfl

theorem censusStart_member (hr : s.census.role = .member) : s.censusStart r = s.complete r.slot .refusedRole 0 [] := by
  unfold State.censusStart
  rw [hr]

theorem censusStart_busy (hr : s.census.role = .lead) (hb : s.census.state.busy = true) :
    s.censusStart r = s.complete r.slot .refusedBusy 0 [] := by
  unfold State.censusStart
  rw [hr]
  exact if_pos hb

theorem censusStart_starts (hr : s.census.role = .lead) (hb : ¬s.census.state.busy = true) :
    s.censusStart r = (s.setCensus { s.census with retry := 0 }).startCensus (some r.slot) := by
  unfold State.censusStart
  rw [hr]
  exact if_neg hb

end

/-- A member that becomes lead starts with an empty context and no retries (R44). -/
theorem starting_becomeLead {s u : State} (hcensus : u.census = s.census) (htable : u.table = s.table) (hset : u.settings = s.settings)
    (hspan : ∀ x : SpanId, u.span x = s.span x) (hheat : u.heat = s.heat) (hwf : u.mem.wf = true) : Starting s u.becomeLead 0 where
  role := by rw [becomeLead_census]
  number := by rw [becomeLead_census, hcensus]
  retry := by rw [becomeLead_census]
  table := htable
  settings := hset
  span x := (by cases x <;> rfl : u.becomeLead.span x = u.span x).trans (hspan x)
  cap := (congrArg Heat.cap hheat :)
  demand := (show u.becomeLead.demand = u.demand from rfl).trans (demand_congr hheat hset)
  wf := hwf

/-- DROP_LEAD as its owner serves it (R61). -/
def State.dropLeadServed (s : State) (r : Request) : State :=
  match s.census.role with
  | .member => s.complete r.slot .refusedRole 0 []
  | .lead => s.dropLead.reviewEnd.complete r.slot .ok 0 []

theorem dropLeadServed_member {s : State} {r : Request} (hr : s.census.role = .member) :
    s.dropLeadServed r = s.complete r.slot .refusedRole 0 [] := by
  unfold State.dropLeadServed
  rw [hr]

theorem dropLeadServed_lead {s : State} {r : Request} (hr : s.census.role = .lead) :
    s.dropLeadServed r = s.dropLead.reviewEnd.complete r.slot .ok 0 [] := by
  unfold State.dropLeadServed
  rw [hr]

/-- Settles O25: TAKE_LEAD and CENSUS_START start a census or are refused, DROP_LEAD gives up the role (R44, R45, R61). -/
theorem censusRequestsAct : Obligations.CensusRequestsAct := by
  refine ⟨fun s dt r rest hs hknown hwf => ?_, fun s dt r rest hs hwf hroom htake => ?_⟩
  · intro u engaged
    have hu : u.settled = true := hs
    have hrefuse (o : SlotOutcome) {c : Instr}
        (hc : exec c s = .next (u.complete r.slot o 0 []).reviewEnd.settle) : exec c s = .next (u.complete r.slot o 0 []) := by
      rw [hc, serving_reviewEnd hknown, settle_of_settled _ (complete_settled _ _ _ _ hu)]
    refine ⟨fun htake => ?_, fun htake => ?_⟩
    · have hstep {v : State} (hv : (u.takeLead r).reviewEnd = v) : exec (.takeLead dt) s = .next v.settle :=
        exec_serve (f := fun r u => (u.takeLead r).reviewEnd) rfl htake hv
      refine ⟨fun hk => hrefuse .refusedRole (hstep (congrArg State.reviewEnd (takeLead_trailer (s := u) hk))),
        fun hk he => hrefuse .refusedBusy (hstep (congrArg State.reviewEnd (takeLead_engaged (s := u) hk ((engaged_iff _).mpr he)))),
        fun hk he => ?_⟩
      obtain ⟨v, hv⟩ : ∃ v, (if u.census.role = .member then u.becomeLead else u) = v := ⟨_, rfl⟩
      have hlead := takeLead_starts (s := u) (r := r) hk (mt (engaged_iff _).mp he)
      have hstart : Starting s v (if s.census.role = .member then 0 else s.census.retry) := by
        rw [← hv]
        cases hr : s.census.role with
        | member =>
          rw [if_pos (show u.census.role = .member from hr), if_pos rfl]
          exact starting_becomeLead rfl rfl rfl (fun x => by cases x <;> rfl) rfl hwf
        | lead =>
          rw [if_neg (show ¬u.census.role = .member by rw [show u.census.role = .lead from hr]; decide), if_neg (by decide)]
          exact ⟨hr, rfl, rfl, rfl, rfl, fun x => by cases x <;> rfl, rfl, rfl, hwf⟩
      obtain ⟨hrole, hctx⟩ := startCensus_role (slot := some r.slot) hstart.role
      have hnow : v.now = s.now + dt := by
        rw [← hv, apply_ite State.now]
        exact ite_self _
      rw [hv] at hlead
      refine ⟨_, hstep (by rw [hlead, reviewEnd_lead hrole]), hnow ▸ hstart.starts (some r.slot), fun hr => ?_⟩
      rw [settle_census, hctx, ← hv, if_pos (show u.census.role = .member from hr), becomeLead_census]
    · have hstep {v : State} (hv : (u.censusStart r).reviewEnd = v) : exec (.censusStart dt) s = .next v.settle :=
        exec_serve (f := fun r u => (u.censusStart r).reviewEnd) rfl htake hv
      refine ⟨fun hr => hrefuse .refusedRole (hstep (congrArg State.reviewEnd (censusStart_member (s := u) hr))),
        fun hr hb => hrefuse .refusedBusy (hstep (congrArg State.reviewEnd (censusStart_busy (s := u) hr ((busy_iff _).mpr hb)))),
        fun hr h1 h2 => ?_⟩
      obtain ⟨v, hv⟩ : ∃ v, u.setCensus { u.census with retry := 0 } = v := ⟨_, rfl⟩
      have hlead := censusStart_starts (s := u) (r := r) hr (by rw [busy_iff, not_or]; exact ⟨h1, h2⟩)
      have hstart : Starting s v 0 := by
        rw [← hv]
        exact ⟨hr, rfl, rfl, rfl, rfl, fun x => by cases x <;> rfl, rfl, rfl, hwf⟩
      have hnow : v.now = s.now + dt := by rw [← hv]; rfl
      rw [hv] at hlead
      exact ⟨_, hstep (by rw [hlead, reviewEnd_lead (startCensus_role hstart.role).1]), hnow ▸ hstart.starts (some r.slot)⟩
  · intro u
    have hu : u.settled = true := hs
    have hstep {v : State} (hv : u.dropLeadServed r = v) : exec (.dropLead dt) s = .next v.settle :=
      exec_serve (f := fun r u => u.dropLeadServed r) rfl htake hv
    refine ⟨fun hr => ?_, fun hr hslot hne => ?_⟩
    · rw [hstep (dropLeadServed_member (s := u) hr), settle_of_settled _ (complete_settled _ _ _ _ hu)]
    · have hcensus := dropLead_census u
      have htable := dropLead_table u
      obtain ⟨d, hd⟩ : ∃ d, u.dropLead = d := ⟨_, rfl⟩
      have hserved : u.dropLeadServed r = d.complete r.slot .ok 0 [] := by
        rw [dropLeadServed_lead (s := u) hr, hd, reviewEnd_unlisted (by rw [← hd, hcensus]; rfl)]
      have dwf : d.mem.wf = true := by rw [← hd]; exact opsKeep_memWf.dropLead u hwf
      rw [hd] at hcensus htable
      have hemits : Emits 0 1 u.leadDropped d := hd ▸ emits_dropLead_tail u
      have hsend : Emits 1 1 u u.leadDropped := (emits_sendVoid u _ _).trans (emits_setCensus _ _)
      refine ⟨_, hstep hserved, ?_, ?_, ?_, ?_, ?_, ?_, ?_, settle_complete_answered dwf hslot .ok 0 (by simp), fun hcan => waits_settle ?_,
        fun hb => ⟨?_, fun k hk hk16 => ?_⟩⟩
      · rw [settle_census, complete_census, hcensus]
      · rw [settle_census, complete_census, hcensus]
      · rw [settle_census, complete_census, hcensus]
      · rw [settle_census, complete_census, hcensus]
      · rw [settle_census, complete_census, hcensus]
      · rw [settle_census, complete_census, hcensus]
      · rw [settle_table, complete_table, htable]
        rfl
      · have hspan (x : SpanId) : u.span x = s.span x := by cases x <;> rfl
        have hup : (u.span u.trainSpan).state = .up ∧ (u.span u.trainSpan).depth ≤ 4 := by
          rw [hspan]
          exact hcan
        have hvoid := leadDropped_void u hr hup.1 (by omega)
        obtain ⟨h1, h2⟩ := hsend.up hup.1 (by omega)
        have := hemits.waits h1 (by omega) hvoid
        unfold waits
        rw [complete_span]
        exact this
      · have hbusy : u.census.state.busy = true := (busy_iff _).mpr hb
        have hevent := dropLead_event u hbusy
        rw [hd] at hevent
        have hlen := (hsend.trans hemits).events.length
        rw [show u.raised = [] from raised_of_settled hs, List.length_nil] at hlen
        have htrail : d.trail = s.trail := by
          rw [← hd]
          exact (opsKeep_trail s.trail).dropLead u rfl
        exact settle_recordedEvent (s := s) (v := d.complete r.slot .ok 0 []) (g := censusGroup) ((complete_trail _ _ _ _ _).trans htrail)
          (complete_wf _ _ _ _ _ dwf) (by rw [complete_raised]; unfold trailRoom at hroom; omega) (by rw [complete_raised]; exact hevent)
      · have hanswered := dropLead_answered u ((busy_iff _).mpr hb) hk hwf
        rw [hd] at hanswered
        have hlen : (le16 u.census.number ++ [0] ++ le16 u.table.gen ++ [0, 0]).length ≤ 32 := by simp [le16]
        have hother : r.slot ≠ k := fun he => hne (by rw [he]; exact hk)
        exact (hanswered.complete_other hlen dwf hother).settle hlen hk16 (complete_wf _ _ _ _ _ dwf)

end Sys2Proof.Machine

/-!
TABLE at a member (R57, R89, R141): O29.
-/

namespace Sys2Proof.Machine

/-! ## The first rolls of the end car (R89) -/

section
variable {s : State}

/-- The end car with its origination timers started, before its first rolls (R89). -/
def State.endArmed (s : State) : State :=
  { s with relay := { s.relay with
    endCar := some true
    doorWatch := { s.relay.doorWatch with dueAt := some (s.now + rollPeriod .doorState), substitute := false }
    demandWatch := { s.relay.demandWatch with dueAt := some (s.now + rollPeriod .demand), substitute := false } } }

theorem becomeEnd_eq (s : State) : s.becomeEnd = (s.endArmed.originate .doorState).originate .demand := rfl

/-- The rolls leave the image but for its demands, and the census, settings, heating and doors (R89). -/
theorem becomeEnd_rest (s : State) : SameConsist s.endArmed s.becomeEnd ∧
    (∃ rs, s.becomeEnd.table = { s.table with records := rs } ∧ rs.map (fun q => q.car) = s.table.records.map (fun q => q.car)) ∧
    s.becomeEnd.heat = s.heat ∧ ∀ k : SideId, s.becomeEnd.side k = s.side k := by
  have hfirst : s.endArmed.originate .doorState = s.endArmed.sendIf s.upstream (s.endArmed.waveFrame .doorState s.table.own s.endArmed.ownDoorState) := rfl
  have hsent (u : State) (x : Option SpanId) (f : Frame) : (u.sendIf x f).table = u.table ∧ (u.sendIf x f).heat = u.heat ∧ (u.sendIf x f).door = u.door := by
    cases x
    exacts [⟨rfl, rfl, rfl⟩, ⟨send_table u _ f, send_heat u _ f, send_door u _ f⟩]
  obtain ⟨ht1, hh1, hd1⟩ := hsent s.endArmed s.upstream (s.endArmed.waveFrame .doorState s.table.own s.endArmed.ownDoorState)
  obtain ⟨v, hv⟩ : ∃ v, s.endArmed.originate .doorState = v := ⟨_, rfl⟩
  rw [← hfirst, hv] at ht1 hh1 hd1
  obtain ⟨w, hw⟩ : ∃ w, v.noteDemands [(v.table.own, v.demand)] = w := ⟨_, rfl⟩
  have hsecond : v.originate .demand = w.sendIf w.upstream (w.waveFrame .demand w.table.own (demandPayload [(v.table.own, v.demand)])) := by
    rw [← hw]
    rfl
  obtain ⟨ht2, hh2, hd2⟩ := hsent w w.upstream (w.waveFrame .demand w.table.own (demandPayload [(v.table.own, v.demand)]))
  obtain ⟨p, a, hnoted⟩ := noteDemands_eq v [(v.table.own, v.demand)]
  rw [hw] at hnoted
  have heq : s.becomeEnd = v.originate .demand := by rw [becomeEnd_eq, hv]
  rw [← hsecond, ← heq] at ht2 hh2 hd2
  refine ⟨?_, ⟨writeDemands v.table.records [(v.table.own, v.demand)], ?_, ?_⟩, ?_, fun k => ?_⟩
  · rw [becomeEnd_eq]
    exact (sameConsist_originate _ _).trans (sameConsist_originate _ _)
  · rw [ht2, hnoted, ht1]
    rfl
  · rw [cars_writeDemands, ht1]
    rfl
  · rw [hh2, hnoted, hh1]
    rfl
  · have hdoor : s.becomeEnd.door = s.door := by
      rw [hd2, hnoted, hd1]
      rfl
    cases k
    exacts [congrArg Door.side1 hdoor, congrArg Door.side2 hdoor]

theorem becomeEnd_front (s : State) : s.becomeEnd.front = s.front :=
  (becomeEnd_rest s).1.front.trans rfl

/-- Both rolls of the end car wait upstream (R89). -/
theorem becomeEnd_sends {up : SpanId} (hups : s.upstream = some up) (hup : (s.span up).state = .up) (hroom : (s.span up).depth ≤ 6) :
    s.becomeEnd.relay.endCar = some true ∧ waits s.becomeEnd up (ownRoll s .doorState) ∧ waits s.becomeEnd up (ownRoll s .demand) := by
  obtain ⟨b, hb⟩ : ∃ b, s.endArmed = b := ⟨_, rfl⟩
  have bspan : b.span up = s.span up := by rw [← hb]; cases up <;> rfl
  have bups : b.upstream = some up := by rw [← hb]; exact hups
  have broll (k : RollKind) : ownRoll b k = ownRoll s k := by rw [← hb]; cases k <;> rfl
  obtain ⟨hrelay1, hw1⟩ := originate_sends .doorState bups (by rw [bspan]; exact hup) (by rw [bspan]; omega)
  have hemits1 := emits_originate b .doorState
  have hsame := sameConsist_originate b .doorState
  obtain ⟨v, hv⟩ : ∃ v, b.originate .doorState = v := ⟨_, rfl⟩
  rw [hv] at hrelay1 hw1 hemits1 hsame
  obtain ⟨vup, vroom⟩ := hemits1.up (x := up) (by rw [bspan]; exact hup) (by rw [bspan]; omega)
  have vups : v.upstream = some up := by
    unfold State.upstream at bups ⊢
    rw [hsame.census, hsame.front]
    exact bups
  obtain ⟨hrelay2, hw2⟩ := originate_sends .demand vups vup (by rw [bspan] at vroom; omega)
  have hemits2 := emits_originate v .demand
  have hvroll : ownRoll v .demand = ownRoll b .demand := by
    have hheat : v.heat = b.heat := by
      rw [← hv]
      show (b.sendIf b.upstream _).heat = _
      rw [bups]
      exact send_heat _ _ _
    rw [ownRoll, ownRoll, hsame.own, demand_congr hheat hsame.settings]
    have htable : v.table = b.table := by
      rw [← hv]
      show (b.sendIf b.upstream _).table = _
      rw [bups]
      exact send_table _ _ _
    rw [htable]
  have heq : s.becomeEnd = v.originate .demand := by rw [becomeEnd_eq, hb, hv]
  rw [heq]
  refine ⟨?_, ?_, ?_⟩
  · rw [hrelay2, hrelay1, ← hb]
    rfl
  · rw [← broll]
    exact hemits2.waits vup (by rw [bspan] at vroom; omega) hw1
  · rw [← broll, ← hvroll]
    exact hw2

end

/-! ## A table of another generation (R141) -/

theorem generationChanged_cap (s : State) : s.generationChanged.heat.cap = if s.heat.cap = .granted then .fallback else s.heat.cap := by
  unfold State.generationChanged
  split
  next h => rw [setCap_heat, if_pos h]
  all_goals
    rename_i h
    rw [h, if_neg (by decide)]

theorem writeTable_cap (s : State) (own : Nat) (gen number : Word16) (lead : Word32) (rs : List CarRecord) :
    (s.writeTable own gen number lead rs).heat.cap = if s.heat.cap = .granted ∧ gen ≠ s.table.gen then .fallback else s.heat.cap := by
  unfold State.writeTable
  simp only
  split
  next h => rw [if_neg (by simp [h])]
  next h =>
    rw [generationChanged_cap]
    exact if_congr (by simp [h]) rfl rfl

/-! ## The checks of a table (R57) -/

theorem tablePasses_iff {s : State} {m : TableMsg} {c : Context} : tablePasses s m c = true ↔
    ∃ q : CarRecord, m.records[c.position - 1]? = some q ∧ q.identity = s.settings.identity ∧ q.frontEnd = endCode c.upstream ∧
      crc32 (m.records.flatMap CarRecord.encode) = m.signature := by
  unfold tablePasses
  cases m.records[c.position - 1]? with
  | none => simp
  | some q =>
    simp only [Bool.and_eq_true, beq_iff_eq, Option.some.injEq, exists_eq_left', and_assoc]
    rfl

/-- The member that holds the table it adopts, VALID (R57). -/
def State.holding (s : State) (m : TableMsg) (c : Context) : State :=
  (s.writeTable c.position m.gen m.number m.lead m.records).enterCensus .valid

/-- What a member that awaits a table holds once it has adopted it (R57, R74, R141). -/
structure Held (s t : State) (m : TableMsg) (c : Context) : Prop where
  role : t.census.role = .member
  ctx : t.census.ctx = some c
  timer : t.census.timerEnd = none
  own : t.table.own = c.position
  gen : t.table.gen = m.gen
  number : t.table.number = m.number
  lead : t.table.lead = m.lead
  signature : t.table.signature = Machine.signature m.records
  cars : t.table.records.map (fun q => q.car) = m.records
  cap : t.heat.cap = if s.heat.cap = .granted ∧ m.gen ≠ s.table.gen then .fallback else s.heat.cap

theorem holding_facts {s : State} (m : TableMsg) {c : Context} (hr : s.census.role = .member) (hc : s.census.ctx = some c) :
    Held s (s.holding m c) m c ∧ (s.holding m c).census.state = .valid ∧ (s.holding m c).relay = s.relay ∧
      (s.holding m c).settings = s.settings ∧ ∀ x : SpanId, (s.holding m c).span x = s.span x := by
  obtain ⟨htable, hset, hrelay, -, hspan⟩ := writeTable_rest s c.position m.gen m.number m.lead m.records
  have hcensus := writeTable_census s c.position m.gen m.number m.lead m.records
  have hcap := writeTable_cap s c.position m.gen m.number m.lead m.records
  obtain ⟨w, hw⟩ : ∃ w, s.writeTable c.position m.gen m.number m.lead m.records = w := ⟨_, rfl⟩
  rw [hw] at htable hset hrelay hspan hcensus hcap
  have heq : s.holding m c = w.setCensus { s.census with state := .valid, timerEnd := none } := by
    unfold State.holding
    rw [hw, enterCensus_listed w .valid rfl, hcensus]
  rw [heq]
  refine ⟨⟨hr, hc, rfl, ?_, ?_, ?_, ?_, ?_, ?_, hcap⟩, rfl, hrelay, hset, fun x => (setCensus_span _ _ _).trans (hspan x)⟩
  · rw [setCensus_table, htable]
  · rw [setCensus_table, htable]
  · rw [setCensus_table, htable]
  · rw [setCensus_table, htable]
  · rw [setCensus_table, htable]
  · rw [setCensus_table, htable]
    exact cars_imageRecordOf _

/-- What adds frames, events and demands leaves what is held. -/
theorem Held.of_rest {s t u : State} {m : TableMsg} {c : Context} (h : Held s t m c) (hr : u.census.role = t.census.role)
    (hctx : u.census.ctx = t.census.ctx) (htimer : u.census.timerEnd = none)
    (htable : ∃ rs, u.table = { t.table with records := rs } ∧ rs.map (fun q => q.car) = t.table.records.map (fun q => q.car))
    (hheat : u.heat = t.heat) : Held s u m c := by
  obtain ⟨rs, hrs, hcars⟩ := htable
  refine ⟨hr.trans h.role, hctx.trans h.ctx, htimer, ?_, ?_, ?_, ?_, ?_, ?_, ?_⟩
  · rw [hrs]; exact h.own
  · rw [hrs]; exact h.gen
  · rw [hrs]; exact h.number
  · rw [hrs]; exact h.lead
  · rw [hrs]; exact h.signature
  · rw [hrs]; exact hcars.trans h.cars
  · rw [hheat]; exact h.cap

/-- The fresh look at the end-car status leaves what is held. -/
theorem reviewEnd_rest (s : State) : (∃ rs, s.reviewEnd.table = { s.table with records := rs } ∧
      rs.map (fun q => q.car) = s.table.records.map (fun q => q.car)) ∧
    s.reviewEnd.heat = s.heat ∧ s.reviewEnd.front = s.front ∧ ∀ k : SideId, s.reviewEnd.side k = s.side k := by
  have hkept : ∃ rs, s.table = { s.table with records := rs } ∧ rs.map (fun q => q.car) = s.table.records.map (fun q => q.car) :=
    ⟨s.table.records, rfl, rfl⟩
  unfold State.reviewEnd
  split_ifs
  · exact ⟨hkept, rfl, rfl, fun _ => rfl⟩
  · exact ⟨(becomeEnd_rest s).2.1, (becomeEnd_rest s).2.2.1, becomeEnd_front s, (becomeEnd_rest s).2.2.2⟩
  · exact ⟨hkept, rfl, rfl, fun _ => rfl⟩
  · exact ⟨hkept, rfl, rfl, fun k => by cases k <;> rfl⟩
  · exact ⟨hkept, rfl, rfl, fun _ => rfl⟩

theorem Held.reviewEnd {s t : State} {m : TableMsg} {c : Context} (h : Held s t m c) : Held s t.reviewEnd m c := by
  obtain ⟨htable, hheat, -, -⟩ := reviewEnd_rest t
  exact h.of_rest (by rw [reviewEnd_census]) (by rw [reviewEnd_census]) (by rw [reviewEnd_census]; exact h.timer) htable hheat

theorem Held.settle {s t : State} {m : TableMsg} {c : Context} (h : Held s t m c) : Held s t.settle m c :=
  h.of_rest (by rw [settle_census]) (by rw [settle_census]) (by rw [settle_census]; exact h.timer)
    ⟨t.table.records, settle_table t, rfl⟩ (settle_heat t)

theorem Held.send {s t : State} {m : TableMsg} {c : Context} (h : Held s t m c) (x : SpanId) (f : Frame) : Held s (t.send x f) m c :=
  h.of_rest (by rw [send_census]) (by rw [send_census]) (by rw [send_census]; exact h.timer) ⟨t.table.records, send_table t x f, rfl⟩
    (send_heat t x f)

/-! ## The last car of the table (R57, R89) -/

theorem spanOfEnd_endCode (x : SpanId) : spanOfEnd (endCode x) = some x := by cases x <;> rfl

section
variable {s t : State} {m : TableMsg} {c : Context}

/-- The front end in the car's own record is the one it was called on. -/
theorem Held.upstream (h : Held s t m c) (hl : t.census.state.listed = true) (hp : 1 ≤ c.position) {q : CarRecord}
    (hq : m.records[c.position - 1]? = some q) (hend : q.frontEnd = endCode c.upstream) : t.upstream = some c.upstream := by
  have hcar : (t.table.records[c.position - 1]?).map (fun q => q.car) = some q := by
    rw [← List.getElem?_map, h.cars, hq]
  obtain ⟨i, hi, hiq⟩ := Option.map_eq_some_iff.mp hcar
  unfold State.upstream
  rw [h.role, front_listed h.role hl]
  unfold State.recordAt
  rw [h.own, if_neg (by omega), hi]
  show spanOfEnd i.car.frontEnd = _
  rw [hiq, hend, spanOfEnd_endCode]

theorem Held.isEndCar (h : Held s t m c) (hl : t.census.state.listed = true) (hn : c.position = m.records.length) : t.isEndCar = true := by
  have hlen : t.n = c.position := by
    unfold State.n
    rw [hn, ← h.cars, List.length_map]
  unfold State.isEndCar
  rw [h.role, hl, h.own, hlen]
  simp

/-- The last car finds that it has become the end car (R84, R89). -/
theorem Held.reviewEnd_last (h : Held s t m c) (hl : t.census.state.listed = true) (hn : c.position = m.records.length)
    (hrelay : t.relay = Relay.empty) : t.reviewEnd = t.becomeEnd := by
  unfold State.reviewEnd
  rw [if_pos ⟨h.role, hl⟩, if_pos (h.isEndCar hl hn), hrelay, if_neg nofun]

/-- The TABLE_ACK of the car in its census (R48, R57). -/
def tableAckAt (c : Context) (good bad first : Byte) : Frame :=
  censusFrameAt .tableAck c.position 0 (tableAckPayload c.number c.lead good bad first)

theorem sendTableAck_eq (hr : t.census.role = .member) (hc : t.census.ctx = some c) (good bad first : Byte) :
    t.sendTableAck c good bad first = t.send c.upstream (tableAckAt c good bad first) := by
  unfold State.sendTableAck
  rw [censusFrame_eq, censusPosition_member hr hc]
  rfl

/-- The BREAK of the last car whose downstream span is UP (R57; log 27). -/
def joinedBreak (m : TableMsg) (c : Context) : Frame :=
  censusFrameAt .brk c.position m.gen
    (breakPayload { number := m.number, lead := m.lead, position := byte c.position, lostEnd := endCode (otherSpan c.upstream), cause := 10 })

theorem Held.sendBreak (h : Held s t m c) (hups : t.upstream = some c.upstream) :
    t.sendBreak (otherSpan c.upstream) joinedCode = t.send c.upstream (joinedBreak m c) := by
  unfold State.sendBreak State.breakFrame
  rw [hups, censusFrame_eq, censusPosition_member h.role h.ctx, h.gen, h.number, h.lead, h.own]
  rfl

theorem adoptTable_last (p : List Byte) (hr : s.census.role = .member) (hc : s.census.ctx = some c) (hn : c.position = m.records.length) :
    s.adoptTable m c p =
      if s.isUp (otherSpan c.upstream) then
        (((s.holding m c).send c.upstream (tableAckAt c 1 0 0)).sendBreak (otherSpan c.upstream) joinedCode).goStale (byte c.position)
          (endCode (otherSpan c.upstream)) joinedCode
      else (s.holding m c).send c.upstream (tableAckAt c 1 0 0) := by
  obtain ⟨h, -, -, -, hspan⟩ := holding_facts m hr hc
  have hlinks := sameLinks_send (s.holding m c) c.upstream (tableAckAt c 1 0 0) (otherSpan c.upstream)
  have hup : (s.holding m c).isUp (otherSpan c.upstream) = s.isUp (otherSpan c.upstream) := by
    unfold State.isUp
    rw [hspan]
  have hown : ((s.holding m c).send c.upstream (tableAckAt c 1 0 0)).table.own = c.position := by rw [send_table, h.own]
  rw [← hup, ← hlinks, ← hown, ← sendTableAck_eq h.role h.ctx]
  unfold State.adoptTable
  exact if_neg (by rw [hn]; exact Nat.lt_irrefl _)

/-- The last car that has adopted its table and looked at its end-car status (R57, R89; logs 27, 65). -/
theorem lastCar_facts (p : List Byte) (hr : s.census.role = .member) (hc : s.census.ctx = some c) (hrelay : s.relay = Relay.empty)
    (hn : c.position = m.records.length) (hp : 1 ≤ c.position) {q : CarRecord} (hq : m.records[c.position - 1]? = some q)
    (hend : q.frontEnd = endCode c.upstream) (hup : (s.span c.upstream).state = .up) (hroom : (s.span c.upstream).depth ≤ 4) {w : State}
    (hw : (s.adoptTable m c p).reviewEnd = w) :
    Held s w m c ∧ w.relay.endCar = some true ∧ waits w c.upstream (tableAckAt c 1 0 0) ∧
      (∀ k : RollKind, waits w c.upstream (ownRoll w k)) ∧
      ((s.isUp (otherSpan c.upstream)) = false → w.census.state = .valid) ∧
      ((s.isUp (otherSpan c.upstream)) = true → w.census.state = .stale ∧ waits w c.upstream (joinedBreak m c)) := by
  obtain ⟨hheld, hvalid, htrelay, htset, htspan⟩ := holding_facts m hr hc
  have hadopt := adoptTable_last (m := m) p hr hc hn
  obtain ⟨t, ht⟩ : ∃ t, s.holding m c = t := ⟨_, rfl⟩
  rw [ht] at hheld hvalid htrelay htset htspan hadopt
  have hwack := waits_send t (tableAckAt c 1 0 0) (x := c.upstream) (by rw [htspan]; exact hup) (by rw [htspan]; omega)
  have huemits := emits_send t c.upstream (tableAckAt c 1 0 0)
  have huheld := hheld.send c.upstream (tableAckAt c 1 0 0)
  have hurelay := send_relay t c.upstream (tableAckAt c 1 0 0)
  have hucensus := send_census t c.upstream (tableAckAt c 1 0 0)
  obtain ⟨u, hu⟩ : ∃ u, t.send c.upstream (tableAckAt c 1 0 0) = u := ⟨_, rfl⟩
  rw [hu] at hwack huemits huheld hurelay hucensus hadopt
  obtain ⟨huup, huroom⟩ := huemits.up (x := c.upstream) (by rw [htspan]; exact hup) (by rw [htspan]; omega)
  rw [htspan] at huroom
  have hulisted : u.census.state.listed = true := by rw [hucensus, hvalid]; rfl
  have huups := huheld.upstream hulisted hp hq hend
  obtain ⟨v, hv⟩ : ∃ v, s.adoptTable m c p = v := ⟨_, rfl⟩
  have hlast : Held s v m c ∧ v.relay = Relay.empty ∧ v.census.state.listed = true ∧ Emits 1 2 u v ∧
      (s.isUp (otherSpan c.upstream) = false → v.census.state = .valid) ∧
      (s.isUp (otherSpan c.upstream) = true → v.census.state = .stale ∧ waits v c.upstream (joinedBreak m c)) := by
    rw [hv] at hadopt
    cases hdown : s.isUp (otherSpan c.upstream) with
    | false =>
      rw [hdown, if_neg Bool.false_ne_true] at hadopt
      rw [hadopt]
      refine ⟨huheld, by rw [hurelay, htrelay, hrelay], hulisted, .nothing u, fun _ => ?_, nofun⟩
      rw [hucensus, hvalid]
    | true =>
      rw [hdown, if_pos rfl, huheld.sendBreak huups] at hadopt
      have hbheld := huheld.send c.upstream (joinedBreak m c)
      have hbwaits := waits_send u (joinedBreak m c) huup (by omega)
      have hbemits := emits_send u c.upstream (joinedBreak m c)
      have hbcensus := send_census u c.upstream (joinedBreak m c)
      have hbrelay := send_relay u c.upstream (joinedBreak m c)
      obtain ⟨b, hb⟩ : ∃ b, u.send c.upstream (joinedBreak m c) = b := ⟨_, rfl⟩
      rw [hb] at hadopt hbheld hbwaits hbemits hbcensus hbrelay
      have hbvalid : b.census.state = .valid := by rw [hbcensus, hucensus, hvalid]
      obtain ⟨gspan, gtable, grelay, -⟩ := goStale_rest b (byte c.position) (endCode (otherSpan c.upstream)) joinedCode
      have gcensus := goStale_census b (byte c.position) (endCode (otherSpan c.upstream)) joinedCode
      have gemits := emits_goStale b (byte c.position) (endCode (otherSpan c.upstream)) joinedCode
      have gheat : (b.goStale (byte c.position) (endCode (otherSpan c.upstream)) joinedCode).heat = b.heat := by
        rw [goStale_eq, apply_ite State.heat]
        exact ite_self _
      rw [← hadopt] at gspan gtable grelay gcensus gemits gheat
      rw [if_pos hbvalid] at gcensus
      refine ⟨hbheld.of_rest (by rw [gcensus]) (by rw [gcensus]) (by rw [gcensus]) ⟨b.table.records, gtable, rfl⟩ gheat,
        by rw [grelay, hbrelay, hurelay, htrelay, hrelay], by rw [gcensus]; rfl, hbemits.trans gemits, nofun, fun _ => ⟨by rw [gcensus], ?_⟩⟩
      unfold waits
      rw [gspan]
      exact hbwaits
  obtain ⟨hvheld, hvrelay, hvlisted, hvemits, hvvalid, hvstale⟩ := hlast
  obtain ⟨hvup, hvroom⟩ := hvemits.up huup (by omega)
  have hvups := hvheld.upstream hvlisted hp hq hend
  have hreview := hvheld.reviewEnd_last hvlisted hn hvrelay
  obtain ⟨hendcar, hdoor, hdemand⟩ := becomeEnd_sends hvups hvup (by omega)
  have hwemits := emits_becomeEnd v
  have hwheld := hvheld.reviewEnd
  obtain ⟨-, hheat, hfront, hside⟩ := reviewEnd_rest v
  have hsettings : v.reviewEnd.settings = v.settings := by
    rw [hreview]
    exact (becomeEnd_rest v).1.settings
  have hwcensus := reviewEnd_census v
  rw [hv] at hw
  rw [hreview] at hw hwheld hheat hfront hside hsettings hwcensus
  rw [hw] at hendcar hdoor hdemand hwemits hwheld hheat hfront hside hsettings hwcensus
  have hroll (k : RollKind) : ownRoll w k = ownRoll v k :=
    ownRoll_congr hfront hside (by rw [hwheld.own, hvheld.own]) (by rw [hwheld.gen, hvheld.gen]) (demand_congr hheat hsettings) k
  refine ⟨hwheld, hendcar, hwemits.waits hvup (by omega) (hvemits.waits huup (by omega) hwack), fun k => ?_, fun h => ?_, fun h => ?_⟩
  · rw [hroll]
    cases k
    exacts [hdoor, hdemand]
  · rw [hwcensus]
    exact hvvalid h
  · rw [hwcensus]
    exact ⟨(hvstale h).1, hwemits.waits hvup (by omega) (hvstale h).2⟩

end

end Sys2Proof.Machine

/-!
O29: a TABLE is adopted, refused or left.
-/

namespace Sys2Proof.Machine

theorem parseTable_gen {f : Frame} {m : TableMsg} (h : parseTable f = some m) : m.gen = f.gen := by
  unfold parseTable at h
  simp only at h
  split at h
  · exact (congrArg TableMsg.gen (Option.some.inj h)).symm
  · exact nomatch h

section
variable {s : State} {m : TableMsg} {c : Context}

/-- A car that is not the last of the table sends it on (R57). -/
theorem adoptTable_passes (p : List Byte) (hr : s.census.role = .member) (hc : s.census.ctx = some c) (hn : c.position < m.records.length) :
    s.adoptTable m c p = (s.holding m c).send (otherSpan c.upstream) (censusFrameAt .table c.position m.gen p) := by
  obtain ⟨h, -⟩ := holding_facts m hr hc
  have heq : s.adoptTable m c p = (s.holding m c).send (otherSpan c.upstream) ((s.holding m c).censusFrame .table m.gen p) := if_pos hn
  rw [heq, censusFrame_eq, censusPosition_member h.role h.ctx]

/-- A refused table (R57). -/
theorem refuseTable_facts (hr : s.census.role = .member) (hc : s.census.ctx = some c) (hup : (s.span c.upstream).state = .up)
    (hroom : (s.span c.upstream).depth < 8) : (s.refuseTable c).census.state = .uncensused ∧ (s.refuseTable c).table = s.table ∧
      waits (s.refuseTable c) c.upstream (tableAckAt c 0 1 (byte c.position)) := by
  have hcensus := leaveCensus_census s
  obtain ⟨hspan, htable, -, -, -⟩ := enterCensus_rest s .uncensused
  unfold State.refuseTable
  rw [sendTableAck_eq (by rw [hcensus]; exact hr) (by rw [hcensus]; exact hc), send_census, send_table, hcensus]
  exact ⟨rfl, htable, waits_send s.leaveCensus _ (by rw [State.leaveCensus, hspan]; exact hup) (by rw [State.leaveCensus, hspan]; exact hroom)⟩

end

/-- Settles O29: the TABLE of the own census is adopted, sent on or acknowledged when it passes, and refused or left otherwise
(R57, R89, R141). -/
theorem tableIsAdoptedOrRefused : Obligations.TableIsAdoptedOrRefused := by
  intro s dt x r rest m c hs hknown hcanx ht hk hm hr hc hx hlead hnum y passes ack refused
  subst hx
  obtain ⟨b, hb⟩ : ∃ b, s.taking dt c.upstream rest = b := ⟨_, rfl⟩
  have bcensus : b.census = s.census := by rw [← hb, taking_census]
  have btable : b.table = s.table := by rw [← hb, taking_table]
  have bset : b.settings = s.settings := by rw [← hb, taking_settings]
  have brelay : b.relay = s.relay := by rw [← hb, taking_relay]
  have bheat : b.heat = s.heat := by rw [← hb, taking_heat]
  have brole : b.census.role = .member := by rw [bcensus]; exact hr
  have bctx : b.census.ctx = some c := by rw [bcensus]; exact hc
  have bcan {z : SpanId} (h : canSend s z) : canSend b z := by rw [← hb]; exact taking_canSend h
  have hgen := parseTable_gen hm
  obtain ⟨hup, hroom⟩ := bcan hcanx
  have hstep {v : State} (hv : (b.takeTable c.upstream r.frame).reviewEnd = v) : exec (.table dt c.upstream) s = .next v.settle :=
    exec_takeUp (f := fun f _ u => (u.takeTable c.upstream f).reviewEnd) rfl ht hk hcanx.1 (by rw [hb]; exact hv)
  have htake : b.takeTable c.upstream r.frame =
      if b.census.state = .awaitTable then (if tablePasses b m c then b.adoptTable m c r.frame.payload else b.refuseTable c)
      else if b.census.state = .valid ∧ b.table.gen = m.gen then b
      else b.refuseTable c := by
    unfold State.takeTable State.memberTable
    rw [brole, hm]
    simp only [bctx]
    exact if_pos ⟨trivial, hlead, hnum⟩
  rw [bcensus, btable, hgen] at htake
  have hrefused (h : b.takeTable c.upstream r.frame = b.refuseTable c) : refused := by
    obtain ⟨h1, h2, h3⟩ := refuseTable_facts brole bctx hup (by omega)
    refine ⟨_, hstep (by rw [h, reviewEnd_unlisted (by rw [h1]; rfl)]), ?_, ?_, waits_settle h3⟩
    · rw [settle_census, h1]
    · rw [settle_table, h2, btable]
  refine ⟨fun hst hpass => ?_, fun hst hp hno => hrefused ?_, fun hst hsame => ?_, fun hst hno => hrefused ?_⟩
  · obtain ⟨q, hp, hq, hid, hend, hcrc⟩ := hpass
    have hadopt : b.takeTable c.upstream r.frame = b.adoptTable m c r.frame.payload := by
      rw [htake, if_pos hst, if_pos]
      rw [tablePasses_iff, bset]
      exact ⟨q, hq, hid, hend, hcrc⟩
    obtain ⟨w, hw⟩ : ∃ w, (b.adoptTable m c r.frame.payload).reviewEnd = w := ⟨_, rfl⟩
    have hheld : Held b w m c := by
      by_cases hn : c.position < m.records.length
      · have := ((holding_facts m brole bctx).1.send (otherSpan c.upstream) (censusFrameAt .table c.position m.gen r.frame.payload)).reviewEnd
        rwa [← adoptTable_passes _ brole bctx hn, hw] at this
      · have hn' : c.position = m.records.length := by
          obtain ⟨hlt, -⟩ := List.getElem?_eq_some_iff.mp hq
          omega
        exact (lastCar_facts r.frame.payload brole bctx (by rw [brelay]; exact hknown.2 (.inr (by rw [hst]; rfl))) hn' hp hq hend hup hroom hw).1
    have hfin := hheld.settle
    refine ⟨w.settle, hstep (by rw [hadopt, hw]), hfin.own, hfin.gen.trans hgen, hfin.number, hfin.lead, hfin.signature.trans hcrc, hfin.cars, hfin.timer, ?_, fun hn => ?_, fun hn => ?_⟩
    · rw [hfin.cap, bheat, btable, hgen]
    · obtain ⟨-, hvalid, -, -, hspan⟩ := holding_facts m brole bctx
      rw [adoptTable_passes _ brole bctx hn] at hw
      refine ⟨?_, fun hcan => waits_settle ?_⟩
      · rw [settle_census, ← hw, reviewEnd_census, send_census, hvalid]
      · obtain ⟨hyup, hyroom⟩ : canSend b (otherSpan c.upstream) := bcan hcan
        have hsend := waits_send (b.holding m c) (censusFrameAt .table c.position m.gen r.frame.payload) (x := otherSpan c.upstream)
          (by rw [hspan]; exact hyup) (by rw [hspan]; omega)
        have hemits := emits_send (b.holding m c) (otherSpan c.upstream) (censusFrameAt .table c.position m.gen r.frame.payload)
        obtain ⟨h1, h2⟩ := hemits.up (x := otherSpan c.upstream) (by rw [hspan]; exact hyup)
          (by rw [hspan]; omega)
        rw [hspan] at h2
        have hreview := emits_reviewEnd ((b.holding m c).send (otherSpan c.upstream) (censusFrameAt .table c.position m.gen r.frame.payload))
        rw [hw] at hreview
        exact hreview.waits (x := otherSpan c.upstream) h1 (by omega) hsend
    · obtain ⟨-, hendcar, hack, hrolls, hvalid, hstale⟩ := lastCar_facts r.frame.payload brole bctx
        (by rw [brelay]; exact hknown.2 (.inr (by rw [hst]; rfl))) hn hp hq hend hup hroom hw
      have hroll (k : RollKind) : ownRoll w.settle k = ownRoll w k :=
        ownRoll_congr (front_congr (settle_census w) (settle_table w) (settle_settings w)) (fun k => settle_side w k) (by rw [settle_table])
          (by rw [settle_table]) (demand_congr (settle_heat w) (settle_settings w)) k
      have hdown : b.isUp (otherSpan c.upstream) = true ↔ (s.span y).state = .up := by
        unfold State.isUp
        rw [beq_iff_eq, ← hb, taking_state]
      refine ⟨waits_settle hack, by rw [settle_relay, hendcar], ?_, ?_, fun hno => ?_, fun hyes => ?_⟩
      · rw [hroll]
        exact waits_settle (hrolls _)
      · rw [hroll]
        exact waits_settle (hrolls _)
      · rw [settle_census]
        exact hvalid (by rw [← Bool.not_eq_true, hdown]; exact hno)
      · obtain ⟨h1, h2⟩ := hstale (hdown.mpr hyes)
        rw [← hgen]
        exact ⟨by rw [settle_census, h1], waits_settle h2⟩
  · rw [htake, if_pos hst, if_neg]
    rw [tablePasses_iff, bset]
    rintro ⟨q, hq, hid, hend, hcrc⟩
    exact hno ⟨q, hp, hq, hid, hend, hcrc⟩
  · have hkeep : b.takeTable c.upstream r.frame = b := by
      rw [htake, if_neg (by rw [hst]; decide), if_pos ⟨hst, hsame⟩]
    rw [hstep (v := b) (by rw [hkeep, ← hb, taking_reviewEnd hknown]), ← hb, settle_of_settled _ (taking_settled hs)]
    rfl
  · rw [htake, if_neg hst, if_neg hno]

end Sys2Proof.Machine

/-!
The lead's outstanding order: how it ends, and what its own sides make of it (R116, R118, R121, R122).
-/

namespace Sys2Proof.Machine

/-! ## An order that ends (R121, R122) -/

theorem ownCounts_eq (o : Outstanding) (stop origin : Byte) : ownCounts o stop origin = leadAlone o stop origin := by
  unfold ownCounts leadAlone
  cases o.own
  exacts [rfl, addContribution_eq _ _ _ _]

theorem doorResults_length (o : Outstanding) (m : OrderAck) : (doorResults o m).length ≤ 32 := by simp [doorResults, le16]

section
variable {s t : State} {o : Outstanding} {m : OrderAck} {outcome : SlotOutcome} {detail : Byte}

theorem finishOrder_ended (hwf : s.mem.wf = true) : orderEnded (s.finishOrder o m outcome detail) o m outcome detail :=
  ⟨rfl, rfl, fun _ => (complete_answered hwf o.slot outcome detail (doorResults_length o m)).congr (doorResults_length o m)
    fun a _ _ => by rw [finishOrder_mem]; rfl, rfl⟩

/-- An order that has ended stays so while the door unit keeps its word of it and the slot its answer. -/
theorem orderEnded.congr (h : orderEnded s o m outcome detail) (hout : t.door.outstanding = s.door.outstanding)
    (hack : t.door.ackEnd = s.door.ackEnd) (hdone : t.door.lastDone = s.door.lastDone)
    (hslot : o.slot < 16 → answered s o.slot outcome detail (doorResults o m) → answered t o.slot outcome detail (doorResults o m)) :
    orderEnded t o m outcome detail := by
  obtain ⟨h1, h2, h3, h4⟩ := h
  exact ⟨hout.trans h1, hack.trans h2, fun hk => hslot hk (h3 hk), hdone.trans h4⟩

theorem orderEnded.settle (h : orderEnded s o m outcome detail) (hwf : s.mem.wf = true) : orderEnded s.settle o m outcome detail := by
  refine h.congr ?_ ?_ ?_ fun hk ha => ha.settle (doorResults_length o m) hk hwf
  all_goals rw [settle_door]

theorem finishOrder_settled (hwf : s.mem.wf = true) : orderEnded (s.finishOrder o m outcome detail).settle o m outcome detail :=
  (finishOrder_ended hwf).settle (finishOrder_wf _ _ _ _ _ hwf)

end

/-! ## The lead's own sides (R116, R118) -/

/-- The door unit with the lead's contribution in its outstanding order (R118). -/
def State.withOwn (t : State) (o : Outstanding) (c : Contribution) : State :=
  { t with door := { t.door with outstanding := some { o with own := some c } } }

/-- The lead's own sides in a step from `s` on: `v` is what they and the trail's list of events are after `u`, and `c` their
contribution (R118, R119). -/
structure LeadDecides (s u v : State) (o : Order) (gen : Word16) (applyAt : Nat) (c : Contribution) : Prop where
  contribution : contributionOf s o 1 false c
  only : OnlySides u v
  raises : Raises 4 u v
  sides : ∀ w : State, (∀ k : SideId, w.side k = v.side k) → v.raised ⊆ w.raised →
    (trailRoom s → ∀ (g : Nat) (e : Event), { group := g, event := e } ∈ w.raised → recordedIn s w.settle e) →
    ∀ k : SideId, sideAfterOrder s w.settle u.now
      { action := o.action, number := o.number, lease := o.lease, gen := gen, applyAt := applyAt, late := false }
      (addressed s o 1 k) k

theorem handOrder_leadDecides {s u : State} (hu : AtCar s u) (o : Order) (gen : Word16) (applyAt : Nat) :
    ∃ (v : State) (c : Contribution), u.handOrder o gen applyAt false 1 = (v, c) ∧ LeadDecides s u v o gen applyAt c := by
  obtain ⟨⟨v, c⟩, h⟩ : ∃ p, u.handOrder o gen applyAt false 1 = p := ⟨_, rfl⟩
  obtain ⟨h1, h2, h3, h4⟩ := handOrder_decides h hu
  exact ⟨v, c, h, h1, h2, h3, h4⟩

/-- The lead hands its outstanding order to its own sides (R116, R118). -/
theorem leadTakesOwn_decides {s u : State} {o : Outstanding} (hu : AtCar s u) (hout : u.door.outstanding = some o) (applyAt : Nat) :
    ∃ (v : State) (c : Contribution), u.leadTakesOwn { order := o.order, d0 := o.d0, gen := o.gen } applyAt = v.withOwn o c ∧
      LeadDecides s u v o.order o.gen applyAt c := by
  obtain ⟨v, c, hv, hdec⟩ := handOrder_leadDecides hu o.order o.gen applyAt
  have hvout : v.door.outstanding = some o := by
    have := handOrder_outstanding u o.order o.gen applyAt false 1
    rw [hv] at this
    exact this.trans hout
  refine ⟨v, c, ?_, hdec⟩
  unfold State.leadTakesOwn
  dsimp only
  rw [hv]
  simp only [hvout, if_true]
  rfl

/-- Events of the step stand in the trail when it has room for them all (R170). -/
theorem recorded_of_room {s w : State} (htrail : w.trail = s.trail) (hwf : w.mem.wf = true) (hlen : w.raised.length ≤ 8) :
    trailRoom s → ∀ (g : Nat) (e : Event), { group := g, event := e } ∈ w.raised → recordedIn s w.settle e :=
  fun hroom _ _ he => settle_recordedEvent htrail hwf (by unfold trailRoom at hroom; omega) he

/-- What the loss of its ORDER makes of a lead whose order is the next in flight: its sides take the order, and the order ends
PARTIAL with the lead's contribution alone (R116, R122). -/
theorem leadOrderLost_eq {s u : State} {o : Outstanding} {rest : List Flight} (hu : AtCar s u) (hout : u.door.outstanding = some o)
    (hflight : takeFlight o.order.number u.door.inFlight = (some { order := o.order, d0 := o.d0, gen := o.gen }, rest)) (why : StopReason) :
    ∃ (v : State) (c : Contribution),
      u.leadOrderLost o.order.number why = (v.withOwn o c).finishOrder { o with own := some c }
        (leadAlone { o with own := some c } why.code 1) .partially why.code ∧
      LeadDecides s { u with door := { u.door with inFlight := rest } } v o.order o.gen (u.now + o.d0 * 200 ) c := by
  have hu' : AtCar s { u with door := { u.door with inFlight := rest } } :=
    ⟨hu.census, hu.mon, hu.table, hu.settings, fun k => (show _ = u.side k by cases k <;> rfl).trans (hu.side k)⟩
  obtain ⟨v, c, hv, hdec⟩ := leadTakesOwn_decides (o := o) hu' hout (u.now + o.d0 * delayUnit)
  refine ⟨v, c, ?_, hdec⟩
  unfold State.leadOrderLost
  rw [hflight]
  dsimp only
  rw [hv, ← ownCounts_eq]
  exact if_pos rfl

theorem LeadDecides.rest {s u v : State} {o : Order} {gen : Word16} {i : Nat} {c : Contribution} (h : LeadDecides s u v o gen i c) :
    v.mem = u.mem ∧ v.trail = u.trail ∧ v.now = u.now ∧ (∀ x : SpanId, v.span x = u.span x) ∧ v.door.inFlight = u.door.inFlight ∧
      v.door.lastNumber = u.door.lastNumber ∧ v.door.outstanding = u.door.outstanding := by
  obtain ⟨d1, d2, l, hv⟩ := h.only
  rw [hv]
  exact ⟨rfl, rfl, rfl, fun x => by cases x <;> rfl, rfl, rfl, rfl⟩

/-- The sides after an order that the lead's contribution has gone into, in a later state of the step (R103 to R106). -/
theorem LeadDecides.after {s u v w : State} {o : Order} {gen : Word16} {i : Nat} {c : Contribution} (h : LeadDecides s u v o gen i c)
    (hside1 : w.door.side1 = v.door.side1) (hside2 : w.door.side2 = v.door.side2) (hraised : w.raised = v.raised) (hur : u.raised.length ≤ 4)
    (htrail : w.trail = s.trail) (hwf : w.mem.wf = true) (k : SideId) :
    sideAfterOrder s w.settle u.now
      { action := o.action, number := o.number, lease := o.lease, gen := gen, applyAt := i, late := false } (addressed s o 1 k) k := by
  refine h.sides w (fun j => ?_) (by rw [hraised]; exact List.Subset.refl _) (recorded_of_room htrail hwf ?_) k
  · cases j
    exacts [hside1, hside2]
  · have := h.raises.length
    rw [hraised]
    omega

end Sys2Proof.Machine

/-!
DOOR_ORDER at the lead (R115, R116, R122): O41.
-/

namespace Sys2Proof.Machine

/-! ## The checks of a DOOR_ORDER (R115) -/

section
variable {s : State} {r : Request}

theorem doorOrderRefusal_member (hr : s.census.role = .member) : s.doorOrderRefusal r = some (.refusedRole, 0) :=
  if_pos (by rw [hr]; decide)

theorem doorOrderRefusal_range (hr : s.census.role = .lead) {offset : Nat} (hf : doorOrderFault r.params = some offset) :
    s.doorOrderRefusal r = some (.refusedRange, byte offset) := by
  unfold State.doorOrderRefusal
  rw [if_neg (not_not.mpr hr), hf]

/-- The checks that follow at a lead on parameters within their ranges (R115). -/
theorem doorOrderRefusal_lead (hr : s.census.role = .lead) (hf : doorOrderFault r.params = none) : s.doorOrderRefusal r =
    if ¬(s.census.state = .valid ∨ (s.census.state = .stale ∧ r.param 0 ≠ 1)) then some (.refusedState, s.census.state.code)
    else if s.n < (r.param 2).toNat then some (.refusedRange, 2)
    else if (r.param 3).toNat < (r.param 2).toNat then some (.refusedRange, 3)
    else none := by
  unfold State.doorOrderRefusal
  rw [if_neg (not_not.mpr hr), hf]

theorem doorOrder_refused {o : SlotOutcome} {d : Byte} (h : s.doorOrderRefusal r = some (o, d)) : s.doorOrder r = s.complete r.slot o d [] := by
  unfold State.doorOrder
  rw [h]

theorem doorOrder_taken {a : Action} (h : s.doorOrderRefusal r = none) (ha : actionOf (r.param 0) = some a) :
    s.doorOrder r = s.takeDoorOrder r a := by
  unfold State.doorOrder
  rw [h, ha]

end

/-! ## The order that is taken (R116) -/

/-- The outstanding order that a DOOR_ORDER becomes (R116). -/
def State.newOutstanding (s : State) (r : Request) (a : Action) : Outstanding where
  slot := r.slot
  order := { number := nextOrderNumber s.door.lastNumber, action := a, trainSide := r.param 1, first := r.param 2,
             last := byte (min (r.param 3).toNat s.n), lease := r.param 4 }
  d0 := (getLe16 r.params 6).toNat * 10000
  gen := s.table.gen
  n := s.n
  own := none
  waiting := none

/-- The lead with the new order outstanding, the one before it SUPERSEDED (R116, R122). -/
def State.ordered (s : State) (out : Outstanding) : State :=
  { s.endOutstanding .superseded 0 0 0 with door := { (s.endOutstanding .superseded 0 0 0).door with
    lastNumber := out.order.number, outstanding := some out, ackEnd := some (s.now + 1000 * ms) } }

/-- The order is in flight too (R116). -/
def State.inFlightToo (s : State) (out : Outstanding) : State :=
  { s with door := { s.door with inFlight := s.door.inFlight ++ [{ order := out.order, d0 := out.d0, gen := out.gen }] } }

/-- The ORDER frame that the lead offers, with the tag by which its span tells of it (R82, R91). -/
def State.orderOffer (s : State) (out : Outstanding) : TxFrame :=
  { frame := s.orderFrame out.order out.d0, tag := .leadOrder out.order.number }

theorem takeDoorOrder_sent {s : State} {r : Request} {a : Action} {out : Outstanding} (ho : s.newOutstanding r a = out) (hn : s.n ≠ 1) :
    s.takeDoorOrder r a = ((s.ordered out).inFlightToo out).offerOrder ((s.ordered out).inFlightToo out).trainSpan
      (((s.ordered out).inFlightToo out).orderOffer out) := by
  rw [← ho]
  exact if_neg hn

theorem takeDoorOrder_alone {s v : State} {r : Request} {a : Action} {out : Outstanding} {c : Contribution}
    (ho : s.newOutstanding r a = out) (hn : s.n = 1)
    (hv : (s.ordered out).handOrder out.order out.gen (s.now + out.d0 * 200) false 1 = (v, c)) :
    s.takeDoorOrder r a = v.finishOrder { out with own := some c } (leadAlone { out with own := some c } 1 1) .ok 1 := by
  have h : s.takeDoorOrder r a =
      let p := (s.ordered out).handOrder out.order out.gen (s.now + out.d0 * delayUnit) false 1
      p.1.finishOrder { out with own := some p.2 } (ownCounts { out with own := some p.2 } 1 1) .ok 1 := by
    rw [← ho]
    exact if_pos hn
  rw [h, show delayUnit = 200 from rfl, hv]
  dsimp only
  rw [ownCounts_eq]

section
variable (s : State) (out : Outstanding)

/-- An order that ends touches its slot and the lead's own word of it alone. -/
theorem endOutstanding_shape (outcome : SlotOutcome) (d st og : Byte) : ∃ (m : Memory) (l : Tallies) (e : Option Nat) (last : LastDone),
    s.endOutstanding outcome d st og =
      { s with mem := m, tallies := l, door := { s.door with outstanding := none, ackEnd := e, lastDone := last } } := by
  unfold State.endOutstanding
  split
  · rw [finishOrder_rest, finishOrder_door, complete_eq]
    exact ⟨_, _, _, _, rfl⟩
  next h => exact ⟨s.mem, s.tallies, s.door.ackEnd, s.door.lastDone, by rw [← h]⟩

theorem endOutstanding_memWf (outcome : SlotOutcome) (d st og : Byte) (hwf : s.mem.wf = true) :
    (s.endOutstanding outcome d st og).mem.wf = true := by
  unfold State.endOutstanding
  split
  exacts [finishOrder_wf _ _ _ _ _ hwf, hwf]

theorem ordered_shape : ∃ (m : Memory) (l : Tallies) (last : LastDone), s.ordered out =
    { s with mem := m, tallies := l, door := { s.door with lastNumber := out.order.number, outstanding := some out
                                                           ackEnd := some (s.now + 1000 * ms), lastDone := last } } := by
  obtain ⟨m, l, e, last, h⟩ := endOutstanding_shape s .superseded 0 0 0
  exact ⟨m, l, last, by unfold State.ordered; rw [h]⟩

end

/-- What stands in `w` of a step from `s` on in which a request of `slot` becomes the order `number` (R116, R122). -/
structure OrderTaken (s w : State) (slot : Nat) (number : Byte) : Prop where
  number : w.door.lastNumber = number
  wf : w.mem.wf = true
  superseded : ∀ old : Outstanding, s.door.outstanding = some old → old.slot < 16 → old.slot ≠ slot →
    answered w old.slot .superseded 0 (doorResults old (leadAlone old 0 0))

section
variable {s v w : State} {slot : Nat} {number : Byte}

theorem OrderTaken.congr (h : OrderTaken s v slot number) (hn : w.door.lastNumber = v.door.lastNumber) (hm : w.mem = v.mem) :
    OrderTaken s w slot number where
  number := hn.trans h.number
  wf := by rw [hm]; exact h.wf
  superseded old ho h16 hne := (h.superseded old ho h16 hne).congr (doorResults_length _ _) fun a _ _ => by rw [hm]

theorem OrderTaken.finish (h : OrderTaken s v slot number) {o : Outstanding} (ho : o.slot = slot) (m : OrderAck) (outcome : SlotOutcome)
    (d : Byte) : OrderTaken s (v.finishOrder o m outcome d) slot number where
  number := by rw [finishOrder_door]; exact h.number
  wf := finishOrder_wf _ _ _ _ _ h.wf
  superseded old hold h16 hne :=
    ((h.superseded old hold h16 hne).complete_other (doorResults_length _ _) h.wf fun he => hne (he.symm.trans ho)).congr
      (doorResults_length _ _) fun a _ _ => by rw [finishOrder_mem]

theorem OrderTaken.settle (h : OrderTaken s v slot number) : OrderTaken s v.settle slot number where
  number := by rw [settle_door]; exact h.number
  wf := settle_mem_wf h.wf
  superseded old ho h16 hne := (h.superseded old ho h16 hne).settle (doorResults_length _ _) h16 h.wf

theorem OrderTaken.leadOrderLost (h : OrderTaken s v slot number) {o : Outstanding} (hout : v.door.outstanding = some o) (ho : o.slot = slot)
    (n : Byte) (why : StopReason) : OrderTaken s (v.leadOrderLost n why) slot number := by
  unfold State.leadOrderLost
  split
  · exact h
  next f rest _ =>
    obtain ⟨b, hb⟩ : ∃ b : State, b = { v with door := { v.door with inFlight := rest } } := ⟨_, rfl⟩
    have hbt : OrderTaken s b slot number := h.congr (by rw [hb]) (by rw [hb])
    have hbout : b.door.outstanding = some o := by rw [hb]; exact hout
    obtain ⟨⟨p, c⟩, hp⟩ : ∃ p, b.handOrder f.order f.gen (v.now + f.d0 * delayUnit) false 1 = p := ⟨_, rfl⟩
    have honly := onlySides_handOrder b f.order f.gen (v.now + f.d0 * delayUnit) false 1
    rw [hp] at honly
    obtain ⟨d1, d2, l, hpe⟩ := honly
    dsimp only at hpe
    have hpt : OrderTaken s p slot number := hbt.congr (by rw [hpe]) (by rw [hpe])
    have hpout : p.door.outstanding = some o := by rw [hpe]; exact hbout
    have htakes : b.leadTakesOwn f (v.now + f.d0 * delayUnit) = if o.order.number = f.order.number then p.withOwn o c else p := by
      unfold State.leadTakesOwn
      dsimp only
      rw [hp]
      simp only [hpout]
      rfl
    rw [← hb]
    dsimp only
    rw [htakes]
    by_cases hn : o.order.number = f.order.number
    · rw [if_pos hn]
      have hown : OrderTaken s (p.withOwn o c) slot number := hpt.congr rfl rfl
      simp only [show (p.withOwn o c).door.outstanding = some { o with own := some c } from rfl]
      split
      exacts [hown.finish (o := { o with own := some c }) ho _ _ _, hown]
    · rw [if_neg hn]
      simp only [hpout]
      split
      exacts [hpt.finish ho _ _ _, hpt]

end

/-- The end of an order is no matter of its sides and of the trail. -/
theorem finishOrder_sides (v : State) (o : Outstanding) (m : OrderAck) (outcome : SlotOutcome) (d : Byte) :
    (v.finishOrder o m outcome d).door.side1 = v.door.side1 ∧ (v.finishOrder o m outcome d).door.side2 = v.door.side2 ∧
      (v.finishOrder o m outcome d).raised = v.raised ∧ (v.finishOrder o m outcome d).door.lastNumber = v.door.lastNumber := by
  have hraised : (v.finishOrder o m outcome d).raised = (v.complete o.slot outcome d (orderResults o m)).raised := by
    rw [finishOrder_rest]
  rw [hraised, finishOrder_door, complete_raised]
  exact ⟨rfl, rfl, rfl, rfl⟩

theorem takeFlight_new {number : Byte} {f : Flight} (hf : f.order.number = number) :
    ∀ l : List Flight, (∀ g ∈ l, g.order.number ≠ number) → takeFlight number (l ++ [f]) = (some f, l)
  | [], _ => if_pos hf
  | g :: l, h => by
    have ih := takeFlight_new hf l fun e he => h e (List.mem_cons_of_mem _ he)
    show takeFlight number (g :: (l ++ [f])) = _
    unfold takeFlight
    rw [if_neg (h g List.mem_cons_self), ih]

section
variable {s u : State} {out : Outstanding}

/-- The lead with a new order outstanding, but for the order itself as before (R116). -/
theorem ordered_facts (hs : AtCar s u) (hout : u.door.outstanding = s.door.outstanding) (hwf : u.mem.wf = true) :
    AtCar s (u.ordered out) ∧ OrderTaken s (u.ordered out) out.slot out.order.number := by
  obtain ⟨m, l, last, h⟩ := ordered_shape u out
  refine ⟨?_, by rw [h], endOutstanding_memWf u _ _ _ _ hwf, fun old ho h16 hne => ?_⟩
  · rw [h]
    exact ⟨hs.census, hs.mon, hs.table, hs.settings, fun k => (show _ = u.side k by cases k <;> rfl).trans (hs.side k)⟩
  · have hend : u.endOutstanding .superseded 0 0 0 = u.finishOrder old (leadAlone old 0 0) .superseded 0 := by
      unfold State.endOutstanding
      rw [hout, ho, ← ownCounts_eq]
    obtain ⟨-, -, h3, -⟩ := finishOrder_ended (s := u) (o := old) (m := leadAlone old 0 0) (outcome := .superseded) (detail := 0) hwf
    refine (h3 h16).congr (doorResults_length _ _) fun a _ _ => ?_
    rw [← hend]
    rfl

end

/-- What the lead's order leaves when its sides have taken it and it has ended with the lead's contribution alone (R116, R122). -/
theorem ended_alone {s u v : State} {o : Outstanding} {c : Contribution} {i : Nat} {m : OrderAck} {outcome : SlotOutcome} {d : Byte}
    (h : LeadDecides s u v o.order o.gen i c) (hwf : u.mem.wf = true) (htrail : u.trail = s.trail) (hraised : u.raised.length ≤ 4) :
    (∀ k : SideId, sideAfterOrder s (v.finishOrder { o with own := some c } m outcome d).settle u.now
      { action := o.order.action, number := o.order.number, lease := o.order.lease, gen := o.gen, applyAt := i, late := false }
      (addressed s o.order 1 k) k) ∧
    orderEnded (v.finishOrder { o with own := some c } m outcome d).settle { o with own := some c } m outcome d := by
  obtain ⟨hmem, hvtrail, -, -, -, -, -⟩ := h.rest
  have hvwf : v.mem.wf = true := by rw [hmem]; exact hwf
  obtain ⟨h1, h2, hr, -⟩ := finishOrder_sides v { o with own := some c } m outcome d
  exact ⟨fun k => h.after h1 h2 hr hraised ((finishOrder_trail _ _ _ _ _).trans (hvtrail.trans htrail)) (finishOrder_wf _ _ _ _ _ hvwf) k,
    finishOrder_settled hvwf⟩

end Sys2Proof.Machine

/-!
DOOR_ORDER at the lead (R115, R116, R122): O41.
-/

namespace Sys2Proof.Machine

theorem finishOrder_span (v : State) (o : Outstanding) (m : OrderAck) (outcome : SlotOutcome) (d : Byte) (x : SpanId) :
    (v.finishOrder o m outcome d).span x = v.span x := by
  obtain ⟨c, hc⟩ : ∃ c, v.complete o.slot outcome d (orderResults o m) = c := ⟨_, rfl⟩
  have hspan : c.span x = v.span x := by rw [← hc, complete_span]
  rw [← hspan, finishOrder_rest, hc]
  cases x <;> rfl

section
variable {s u b : State} {out : Outstanding}

theorem AtCar.withFlights (h : AtCar s u) (l : List Flight) : AtCar s { u with door := { u.door with inFlight := l } } :=
  ⟨h.census, h.mon, h.table, h.settings, fun k => (show _ = u.side k by cases k <;> rfl).trans (h.side k)⟩

theorem inFlightToo_door (v : State) : (v.inFlightToo out).door =
    { v.door with inFlight := v.door.inFlight ++ [{ order := out.order, d0 := out.d0, gen := out.gen }] } := rfl

theorem inFlightToo_mem (v : State) : (v.inFlightToo out).mem = v.mem := rfl

theorem AtCar.inFlightToo (h : AtCar s u) : AtCar s (u.inFlightToo out) := h.withFlights _

/-- A lead that has offered an ORDER has taken it, whatever became of the frame (R116, R122). -/
theorem offered_taken (h : OrderTaken s b out.slot out.order.number) (hout : b.door.outstanding = some out) (x : SpanId) (f : TxFrame)
    (hf : f.tag = .leadOrder out.order.number) : OrderTaken s (b.offerOrder x f) out.slot out.order.number := by
  obtain ⟨⟨t, r⟩, ht⟩ : ∃ p, b.offer x f = p := ⟨_, rfl⟩
  have hsends := sends_offer b x f
  rw [ht] at hsends
  have htaken : OrderTaken s t out.slot out.order.number := h.congr (by rw [hsends.door]) hsends.mem
  have hlost (why : StopReason) : OrderTaken s (t.tellLost why f) out.slot out.order.number := by
    unfold State.tellLost
    simp only [hf]
    exact htaken.leadOrderLost (by rw [hsends.door]; exact hout) rfl _ _
  unfold State.offerOrder
  rw [ht]
  cases r
  exacts [htaken, hlost _, hlost _]

/-- The ORDER is lost as it is offered: the order ends PARTIAL with the lead's contribution alone (R116, R122). -/
theorem lost_at_once {rest : List Flight} {f : TxFrame} (hu : AtCar s u) (hout : u.door.outstanding = some out)
    (hflight : takeFlight out.order.number u.door.inFlight = (some { order := out.order, d0 := out.d0, gen := out.gen }, rest))
    (hwf : u.mem.wf = true) (htrail : u.trail = s.trail) (hraised : u.raised.length ≤ 4) (hf : f.tag = .leadOrder out.order.number)
    (why : StopReason) : ∃ c : Contribution, contributionOf s out.order 1 false c ∧
      (u.tellLost why f).door.inFlight = rest ∧ (∀ x : SpanId, (u.tellLost why f).span x = u.span x) ∧
      (∀ k : SideId, sideAfterOrder s (u.tellLost why f).settle u.now
        { action := out.order.action, number := out.order.number, lease := out.order.lease, gen := out.gen
          applyAt := u.now + out.d0 * 200, late := false } (addressed s out.order 1 k) k) ∧
      orderEnded (u.tellLost why f).settle { out with own := some c } (leadAlone { out with own := some c } why.code 1) .partially why.code := by
  obtain ⟨v, c, hv, hdec⟩ := leadOrderLost_eq (o := out) hu hout hflight why
  have htell : u.tellLost why f = (v.withOwn out c).finishOrder { out with own := some c }
      (leadAlone { out with own := some c } why.code 1) .partially why.code := by
    unfold State.tellLost
    simp only [hf]
    exact hv
  obtain ⟨hmem, hvtrail, hnow, hspan, hin, -, -⟩ := hdec.rest
  obtain ⟨h1, h2, hr, -⟩ := finishOrder_sides (v.withOwn out c) { out with own := some c }
    (leadAlone { out with own := some c } why.code 1) .partially why.code
  have hvwf : (v.withOwn out c).mem.wf = true := by
    show v.mem.wf = true
    rw [hmem]
    exact hwf
  refine ⟨c, hdec.contribution, ?_, fun x => ?_, fun k => ?_, ?_⟩
  · rw [htell, finishOrder_door]
    exact hin
  · rw [htell, finishOrder_span]
    exact (show _ = v.span x by cases x <;> rfl).trans ((hspan x).trans (by cases x <;> rfl))
  · rw [htell]
    exact hdec.after h1 h2 hr hraised ((finishOrder_trail _ _ _ _ _).trans (hvtrail.trans htrail)) (finishOrder_wf _ _ _ _ _ hvwf) k
  · rw [htell]
    exact finishOrder_settled hvwf

end

theorem queueDrop_rest (s : State) (x : SpanId) (kind : FrameKind) : (s.queueDrop x kind).door = s.door ∧
    (s.queueDrop x kind).mem = s.mem ∧ (s.queueDrop x kind).trail = s.trail ∧ (s.queueDrop x kind).now = s.now ∧
    (s.queueDrop x kind).raised.length = s.raised.length + 1 ∧ ((s.queueDrop x kind).span x).txq = (s.span x).txq := by
  rw [queueDrop_eq]
  cases x <;> exact ⟨rfl, rfl, rfl, rfl, List.length_append, rfl⟩

theorem AtCar.queueDrop {s u : State} (h : AtCar s u) (x : SpanId) (kind : FrameKind) : AtCar s (u.queueDrop x kind) := by
  rw [queueDrop_eq]
  cases x <;> exact ⟨h.census, h.mon, h.table, h.settings, fun k => (show _ = u.side k by cases k <;> rfl).trans (h.side k)⟩

theorem takeDoorOrder_taken {s u : State} {r : Request} {a : Action} {out : Outstanding} (ho : u.newOutstanding r a = out) (hs : AtCar s u)
    (hout : u.door.outstanding = s.door.outstanding) (hwf : u.mem.wf = true) :
    OrderTaken s (u.takeDoorOrder r a) r.slot out.order.number := by
  obtain ⟨-, htaken⟩ := ordered_facts (out := out) hs hout hwf
  have hslot : out.slot = r.slot := by rw [← ho]; rfl
  rw [← hslot]
  by_cases hn : u.n = 1
  · obtain ⟨⟨v, c⟩, hv⟩ : ∃ p, (u.ordered out).handOrder out.order out.gen (u.now + out.d0 * 200) false 1 = p := ⟨_, rfl⟩
    obtain ⟨d1, d2, l, hve⟩ := onlySides_handOrder (u.ordered out) out.order out.gen (u.now + out.d0 * 200) false 1
    rw [hv] at hve
    dsimp only at hve
    have hvt : OrderTaken s v out.slot out.order.number := htaken.congr (by rw [hve]) (by rw [hve])
    rw [takeDoorOrder_alone ho hn hv]
    exact hvt.finish (o := { out with own := some c }) rfl _ _ _
  · rw [takeDoorOrder_sent ho hn]
    have hsent : OrderTaken s ((u.ordered out).inFlightToo out) out.slot out.order.number :=
      htaken.congr (by rw [inFlightToo_door]) (inFlightToo_mem _)
    exact offered_taken hsent (by rw [inFlightToo_door]; rfl) _ _ rfl

/-- Settles O41: a DOOR_ORDER is refused by the first check that fails, or becomes the lead's outstanding order (R115, R116, R122). -/
theorem doorOrderIsCheckedAndSent : Obligations.DoorOrderIsCheckedAndSent := by
  intro s dt r rest hs hwf htake u n refused allowed
  have hu : u.settled = true := hs
  have hcar : AtCar s u := ⟨rfl, rfl, rfl, rfl, fun k => by cases k <;> rfl⟩
  have huspan (x : SpanId) : u.span x = s.span x := by cases x <;> rfl
  have hn : u.n = n := rfl
  have hstep {v : State} (hv : u.doorOrder r = v) : exec (.doorOrder dt) s = .next v.settle :=
    exec_serve (f := fun r u => u.doorOrder r) rfl htake hv
  have hrefuse {o : SlotOutcome} {d : Byte} (h : u.doorOrderRefusal r = some (o, d)) : refused o d := by
    show exec _ _ = _
    rw [hstep (doorOrder_refused h), settle_of_settled _ (complete_settled _ _ _ _ hu)]
  refine ⟨fun hr => hrefuse (doorOrderRefusal_member hr), fun hr => ⟨fun offset hf => hrefuse (doorOrderRefusal_range hr hf),
    fun hf hno => ?_, fun hf hyes hlt => ?_, fun hf hyes hle hlt => ?_, fun a hf hyes hle hrange ha => ?_⟩⟩
  · exact hrefuse ((doorOrderRefusal_lead hr hf).trans (if_pos hno))
  · exact hrefuse ((doorOrderRefusal_lead hr hf).trans ((if_neg (not_not.mpr hyes)).trans (if_pos hlt)))
  · exact hrefuse ((doorOrderRefusal_lead hr hf).trans
      ((if_neg (not_not.mpr hyes)).trans ((if_neg (Nat.not_lt.mpr hle)).trans (if_pos hlt))))
  · have hpasses : u.doorOrderRefusal r = none := (doorOrderRefusal_lead hr hf).trans
      ((if_neg (not_not.mpr hyes)).trans ((if_neg (Nat.not_lt.mpr hle)).trans (if_neg (Nat.not_lt.mpr hrange))))
    intro number o d0 pending frame
    obtain ⟨out, hout⟩ : ∃ out, u.newOutstanding r a = out := ⟨_, rfl⟩
    have houteq : out = { slot := r.slot, order := o, d0 := d0, gen := s.table.gen, n := n, own := none, waiting := none } := hout.symm
    have hset := takeDoorOrder_taken hout hcar rfl hwf
    obtain ⟨hocar, -⟩ := ordered_facts (out := out) hcar rfl hwf
    have howf : (u.ordered out).mem.wf = true := endOutstanding_memWf u _ _ _ _ hwf
    obtain ⟨m, l, last, hshape⟩ := ordered_shape u out
    have hordernumber : out.order.number = number := by rw [houteq]
    rw [hordernumber] at hset
    obtain ⟨b, hb⟩ : ∃ b, (u.ordered out).inFlightToo out = b := ⟨_, rfl⟩
    have hbcar : AtCar s b := hb ▸ hocar.inFlightToo
    have hbspan (x : SpanId) : b.span x = s.span x := by
      rw [← hb]
      unfold State.inFlightToo
      rw [hshape, ← huspan]
      cases x <;> rfl
    have hbout : b.door.outstanding = some out := by rw [← hb]; rfl
    have hbin : b.door.inFlight = s.door.inFlight ++ [{ order := out.order, d0 := out.d0, gen := out.gen }] := by
      rw [← hb]
      unfold State.inFlightToo
      rw [hshape]
      rfl
    have hbraised : b.raised = [] := by
      rw [← hb]
      unfold State.inFlightToo
      rw [hshape]
      exact (show u.raised = [] from raised_of_settled hu)
    have hbtrain : b.trainSpan = s.trainSpan := trainSpan_congr hbcar.settings
    have hboffer : (b.orderOffer out) = { frame := frame, tag := .leadOrder number } := by
      unfold State.orderOffer State.orderFrame State.waveFrame
      rw [hbcar.table, houteq]
      rfl
    have hbtaken : OrderTaken s b out.slot out.order.number := by
      rw [← hb]
      exact (ordered_facts (out := out) hcar rfl hwf).2.congr (by rw [inFlightToo_door]) (inFlightToo_mem _)
    have hbtrail : b.trail = s.trail := by
      rw [← hb]
      unfold State.inFlightToo
      rw [hshape]
      rfl
    have hbnow : b.now = s.now + dt := by
      rw [← hb]
      unfold State.inFlightToo
      rw [hshape]
      rfl
    have hdoor : u.doorOrder r = u.takeDoorOrder r a := doorOrder_taken hpasses ha
    obtain ⟨w, hw⟩ : ∃ w, u.takeDoorOrder r a = w := ⟨_, rfl⟩
    have hsent (hne : n ≠ 1) : w = b.offerOrder s.trainSpan { frame := frame, tag := .leadOrder number } := by
      rw [← hw, takeDoorOrder_sent hout hne, hb, hbtrain, hboffer]
    rw [hw] at hset hdoor
    refine ⟨_, hstep hdoor, hset.settle.number, hset.settle.superseded, fun hne hcan => ?_, fun stop hne hfresh hlost => ?_, fun h1 => ?_⟩
    · have hw' := hsent hne
      rw [offerOrder_room b _ (by rw [hbspan]; exact hcan.1) (by rw [hbspan]; have := hcan.2; omega)] at hw'
      have hwdoor : w.settle.door = { b.door with summary := w.settle.door.summary } := by
        rw [settle_door, hw', setSpan_door]
      rw [hwdoor, settle_span, hw', setSpan_span]
      refine ⟨hbout.trans (congrArg some houteq), ?_, hbin.trans (by rw [houteq]), List.mem_append_right _ (List.mem_singleton.mpr rfl),
        hbcar.side .one, hbcar.side .two⟩
      rw [← hb, inFlightToo_door]
      rfl
    · have hflight : takeFlight out.order.number b.door.inFlight =
          (some { order := out.order, d0 := out.d0, gen := out.gen }, s.door.inFlight) := by
        rw [hbin]
        exact takeFlight_new (f := { order := out.order, d0 := out.d0, gen := out.gen }) rfl _ fun f hf => by
          rw [hordernumber]
          exact hfresh f hf
      have hends (v : State) (why : StopReason) (hv : w = v.tellLost why { frame := frame, tag := .leadOrder number }) (hvdoor : v.door = b.door)
          (hvcar : AtCar s v) (hvmem : v.mem = b.mem) (hvtrail : v.trail = s.trail) (hvnow : v.now = s.now + dt) (hvraised : v.raised.length ≤ 4)
          (htxq : (v.span s.trainSpan).txq = (s.span s.trainSpan).txq) (hcode : why.code = stop) :
          w.settle.door.inFlight = s.door.inFlight ∧ (w.settle.span s.trainSpan).txq = (s.span s.trainSpan).txq ∧
            ∃ c : Contribution, contributionOf s o 1 false c ∧
              (∀ k : SideId, sideAfterOrder s w.settle (s.now + dt) pending (addressed s o 1 k) k) ∧
              orderEnded w.settle { out with own := some c } (leadAlone { out with own := some c } stop 1) .partially stop := by
        obtain ⟨c, hc, hin, hspan, hsides, hended⟩ := lost_at_once (f := { frame := frame, tag := .leadOrder number }) (rest := s.door.inFlight)
          hvcar (by rw [hvdoor]; exact hbout) (by rw [hvdoor]; exact hflight) (by rw [hvmem]; exact hbtaken.wf) hvtrail hvraised
          (by rw [hordernumber]) why
        rw [← hv] at hin hspan hsides hended
        rw [hvnow] at hsides
        rw [hcode] at hended
        have ho : out.order = o := by rw [houteq]
        rw [ho] at hc
        refine ⟨by rw [settle_door]; exact hin, by rw [settle_span, hspan, htxq], c, hc, fun k => ?_, hended⟩
        have := hsides k
        rw [houteq] at this
        exact this
      have hgoal : w.settle.door.inFlight = s.door.inFlight ∧ (w.settle.span s.trainSpan).txq = (s.span s.trainSpan).txq ∧
            ∃ c : Contribution, contributionOf s o 1 false c ∧
              (∀ k : SideId, sideAfterOrder s w.settle (s.now + dt) pending (addressed s o 1 k) k) ∧
              orderEnded w.settle { out with own := some c } (leadAlone { out with own := some c } stop 1) .partially stop := by
        obtain ⟨hdown, hstop⟩ | ⟨hup, hfull, hclass, hstop⟩ := hlost
        · refine hends b .spanEnd ?_ rfl hbcar rfl hbtrail hbnow (by rw [hbraised]; exact Nat.zero_le _) (by rw [hbspan]) hstop.symm
          rw [hsent hne]
          unfold State.offerOrder
          rw [offer_discarded b _ _ (show FrameKind.order.consumer ≠ .spanUnit by decide) (by rw [hbspan]; simpa [State.isUp] using hdown)]
        · obtain ⟨hdoor, hmem, htrail, hnow, hlen, htxq⟩ := queueDrop_rest b s.trainSpan .order
          refine hends (b.queueDrop s.trainSpan .order) .forwardLost ?_ hdoor (hbcar.queueDrop _ _) hmem (htrail.trans hbtrail)
            (hnow.trans hbnow) (by rw [hlen, hbraised]; decide) (by rw [htxq, hbspan]) hstop.symm
          · rw [hsent hne]
            unfold State.offerOrder
            rw [offer_dropped b _ _ (.inr (by rw [hbspan]; simpa [State.isUp] using hup)) (by rw [hbspan]; exact hfull)
              (fun g hg => by rw [hclass g (by rw [← hbspan]; exact hg)]; exact Nat.zero_le _)]
            rfl
      rw [houteq] at hgoal
      exact hgoal
    · obtain ⟨v, c, hv, hdec⟩ := handOrder_leadDecides hocar out.order out.gen (u.now + out.d0 * 200)
      have howraised : (u.ordered out).raised = [] := by
        rw [hshape]
        exact (show u.raised = [] from raised_of_settled hu)
      obtain ⟨hsides, hended⟩ := ended_alone (o := out) (m := leadAlone { out with own := some c } 1 1) (outcome := .ok) (d := 1) hdec howf
        (by rw [hshape]; rfl) (by rw [howraised]; exact Nat.zero_le _)
      rw [← takeDoorOrder_alone hout h1 hv, hw] at hsides hended
      have hcontr := hdec.contribution
      rw [houteq] at hcontr
      refine ⟨c, hcontr, fun k => ?_, { out with own := some c }, ?_, ?_, ?_, ?_, rfl, hended⟩
      · have := hsides k
        rw [show (u.ordered out).now = s.now + dt by rw [hshape]; rfl, houteq] at this
        exact this
      · rw [houteq]
      · rw [houteq]
      · rw [houteq]
      · rw [houteq]
        exact h1

end Sys2Proof.Machine

/-!
The lead takes its own ORDER when it has left or is lost (R91, R116, R118, R121, R122): O42.
-/

namespace Sys2Proof.Machine

/-! ## An ORDER_ACK at the lead (R121) -/

section
variable {s : State} {o : Outstanding} {c : Contribution} {m : OrderAck}

theorem leadTakesAck_other (hout : s.door.outstanding = some o) (hn : m.number ≠ o.order.number) : s.leadTakesAck m = s := by
  unfold State.leadTakesAck
  simp only [hout]
  exact if_pos hn

theorem leadTakesAck_early (hout : s.door.outstanding = some o) (hn : m.number = o.order.number) (hown : o.own = none) :
    s.leadTakesAck m = { s with door := { s.door with outstanding := some { o with waiting := some (o.waiting.getD m) } } } := by
  unfold State.leadTakesAck
  simp only [hout, hown]
  exact if_neg (not_not.mpr hn)

theorem leadTakesAck_ends (hout : s.door.outstanding = some o) (hn : m.number = o.order.number) (hown : o.own = some c) :
    s.leadTakesAck m = s.finishOrder o (withCar 32 m c 1) (if (withCar 32 m c 1).reached.toNat = o.n then .ok else .partially) m.stop := by
  unfold State.leadTakesAck
  simp only [hout, hown, addContribution_eq]
  exact if_neg (not_not.mpr hn)

/-- The ORDER_ACK that has waited for the lead's own contribution is taken (R121). -/
def State.takeWaiting (t : State) : Option OrderAck → State
  | some m => t.leadTakesAck m
  | none => t

/-- What a waiting ORDER_ACK leaves alone when it is taken. -/
theorem takeWaiting_rest (hout : s.door.outstanding = some o) (hown : o.own = some c) (w : Option OrderAck) (hwf : s.mem.wf = true) :
    (s.takeWaiting w).door.side1 = s.door.side1 ∧ (s.takeWaiting w).door.side2 = s.door.side2 ∧ (s.takeWaiting w).raised = s.raised ∧
      (s.takeWaiting w).trail = s.trail ∧ (s.takeWaiting w).mem.wf = true ∧ (s.takeWaiting w).door.inFlight = s.door.inFlight ∧
      ∀ x : SpanId, (s.takeWaiting w).span x = s.span x := by
  cases w with
  | none => exact ⟨rfl, rfl, rfl, rfl, hwf, rfl, fun _ => rfl⟩
  | some m =>
    unfold State.takeWaiting
    by_cases hn : m.number = o.order.number
    · dsimp only
      rw [leadTakesAck_ends hout hn hown]
      obtain ⟨h1, h2, h3, -⟩ := finishOrder_sides s o (withCar 32 m c 1)
        (if (withCar 32 m c 1).reached.toNat = o.n then .ok else .partially) m.stop
      exact ⟨h1, h2, h3, finishOrder_trail _ _ _ _ _, finishOrder_wf _ _ _ _ _ hwf, by rw [finishOrder_door],
        finishOrder_span _ _ _ _ _⟩
    · dsimp only
      rw [leadTakesAck_other hout hn]
      exact ⟨rfl, rfl, rfl, rfl, hwf, rfl, fun _ => rfl⟩

end

/-! ## The ORDER that has completed (R91, R116, R118) -/

theorem leadOrderCompleted_eq {s u : State} {o : Outstanding} {rest : List Flight} (hu : AtCar s u) (hout : u.door.outstanding = some o)
    (hflight : takeFlight o.order.number u.door.inFlight = (some { order := o.order, d0 := o.d0, gen := o.gen }, rest)) (start : Nat) :
    ∃ (v : State) (c : Contribution),
      u.leadOrderCompleted o.order.number start = (v.withOwn o c).takeWaiting o.waiting ∧
      LeadDecides s { u with door := { u.door with inFlight := rest } } v o.order o.gen
        (start + (1840 + ((u.span u.trainSpan).delay + 100) / 200 + o.d0) * 200) c := by
  obtain ⟨v, c, hv, hdec⟩ := leadTakesOwn_decides (o := o) (hu.withFlights rest) hout
    (start + (1840 + delayUnits (u.span u.trainSpan).delay + o.d0) * delayUnit)
  refine ⟨v, c, ?_, hdec⟩
  unfold State.leadOrderCompleted
  rw [hflight]
  dsimp only
  rw [hv]
  simp only [show (v.withOwn o c).door.outstanding = some { o with own := some c } from rfl, if_true]
  cases o.waiting <;> rfl

/-- Settles O42: the lead hands its own ORDER to its sides when the ORDER has left or is given up (R91, R116, R118, R122). -/
theorem leadTakesItsOwnOrder : Obligations.LeadTakesItsOwnOrder := by
  intro s dt start f o hs hwf hroom hr hout hown hn hin htag hcur u pendingAt
  have hflight : takeFlight o.order.number s.door.inFlight = (some { order := o.order, d0 := o.d0, gen := o.gen }, []) := by
    rw [hin]
    exact if_pos rfl
  refine ⟨fun bytes hdrive hend => ?_, fun onFirst hdrive hend hattempt => ?_⟩
  · intro i
    obtain ⟨b, hb⟩ : ∃ b, (s.advance dt).setSpan s.trainSpan { u with
      drive := .idle, busyUntil := start + lineTime bytes, deafUntil := start + lineTime bytes, cur := none, attempt := 0, sent := u.sent + 1
      idleFrom := start + lineTime bytes
      lastHello := if f.frame.kind = .hello then some (start + lineTime bytes) else u.lastHello } = b := ⟨_, rfl⟩
    have hbcar : AtCar s b := by
      rw [← hb]
      exact ⟨setSpan_census _ _ _, setSpan_mon _ _ _, setSpan_table _ _ _, setSpan_settings _ _ _, setSpan_side _ _ _⟩
    have hbdoor : b.door = s.door := by rw [← hb, setSpan_door]; rfl
    have hbspan : b.span s.trainSpan = _ := (congrArg (fun t : State => t.span s.trainSpan) hb.symm).trans (setSpan_span _ _ _)
    have hbtrain : b.trainSpan = s.trainSpan := trainSpan_congr hbcar.settings
    obtain ⟨v, c, hv, hdec⟩ := leadOrderCompleted_eq (o := o) (rest := []) hbcar (by rw [hbdoor]; exact hout) (by rw [hbdoor]; exact hflight) start
    obtain ⟨hmem, htrail, hnow, hspan, hvin, -, -⟩ := hdec.rest
    have hbmem : b.mem = s.mem := by rw [← hb, setSpan_mem]; rfl
    have hbtrail : b.trail = s.trail := by rw [← hb, setSpan_trail]; rfl
    have hbraised : b.raised = [] := by
      rw [← hb, setSpan_raised]
      exact (show (s.advance dt).raised = [] from raised_of_settled hs)
    have hvwf : (v.withOwn o c).mem.wf = true := by
      show v.mem.wf = true
      rw [hmem, hbmem]
      exact hwf
    obtain ⟨h1, h2, h3, h4, h5, h6, h7⟩ := takeWaiting_rest (s := v.withOwn o c) (o := { o with own := some c }) (c := c) rfl rfl o.waiting hvwf
    obtain ⟨w, hw⟩ : ∃ w, (v.withOwn o c).takeWaiting o.waiting = w := ⟨_, rfl⟩
    have hexec : exec (.frameCompleted dt s.trainSpan) s = .next w.settle := by
      refine exec_run (f := fun t => _) rfl ?_
      have hu : (s.advance dt).span s.trainSpan = u := advance_span _ _ _
      simp only [hu, u, hdrive, hcur]
      rw [if_pos (show start + lineTime bytes ≤ (s.advance dt).now from hend), State.completeFrame, hu]
      rw [hb]
      unfold State.tellCompleted
      simp only [htag]
      rw [hv, hw]
    rw [hw] at h1 h2 h3 h4 h5 h6 h7
    have hwspan : w.span s.trainSpan = b.span s.trainSpan := by
      rw [h7]
      exact (show _ = v.span s.trainSpan by cases s.trainSpan <;> rfl).trans ((hspan _).trans (by cases s.trainSpan <;> rfl))
    rw [hbtrain, hbspan] at hdec
    have hbnow : b.now = s.now + dt := by rw [← hb, setSpan_now]; rfl
    refine ⟨w.settle, c, hexec, ?_, ?_, ?_, hdec.contribution, fun k => ?_, fun hnone => ?_, fun m hm hnum => ?_⟩
    · rw [settle_door]
      exact h6.trans hvin
    · rw [settle_span, hwspan, hbspan]
    · rw [settle_span, hwspan, hbspan]
    · have := hdec.after h1 h2 h3 (by show b.raised.length ≤ 4; rw [hbraised]; decide) (h4.trans (htrail.trans hbtrail)) h5 k
      rw [show (State.now { b with door := { b.door with inFlight := [] } }) = s.now + dt from hbnow] at this
      exact this
    · have halone : w = v.withOwn o c := by
        rw [← hw, hnone]
        rfl
      rw [settle_door, halone]
      rfl
    · rw [← hw, hm]
      unfold State.takeWaiting
      dsimp only
      rw [leadTakesAck_ends (o := { o with own := some c }) rfl hnum rfl]
      exact finishOrder_settled hvwf
  · obtain ⟨b, hb⟩ : ∃ b, ((s.advance dt).setSpan s.trainSpan (u.gaveUp (start + 16000))).raise (spanSource s.trainSpan).toNat
      (sendFailed (s.advance dt) s.trainSpan f) = b := ⟨_, rfl⟩
    have hbcar : AtCar s b := by
      rw [← hb]
      exact ⟨setSpan_census _ _ _, setSpan_mon _ _ _, setSpan_table _ _ _, setSpan_settings _ _ _, setSpan_side _ _ _⟩
    have hbdoor : b.door = s.door := by rw [← hb, raise_door, setSpan_door]; rfl
    have hbraised : b.raised.length ≤ 4 := by
      rw [← hb, raise_raised, setSpan_raised, show (s.advance dt).raised = [] from raised_of_settled hs]
      exact (show 1 ≤ 4 by decide)
    have hbnow : b.now = s.now + dt := by rw [← hb, raise_now, setSpan_now]; rfl
    obtain ⟨c, hc, hvin, -, hsides, hended⟩ := lost_at_once (f := f) (out := o) (rest := []) hbcar (by rw [hbdoor]; exact hout)
      (by rw [hbdoor]; exact hflight) (by rw [← hb, raise_mem, setSpan_mem]; exact hwf) (by rw [← hb, raise_trail, setSpan_trail]; rfl)
      hbraised htag .forwardLost
    obtain ⟨g, hexec, hg⟩ := exec_jamEnd hdrive hend (endJam_giveUp (s := s.advance dt) (x := s.trainSpan) (f := f) (by rw [advance_span]; exact hcur)
      (by rw [advance_span]; exact hattempt))
    rw [advance_span, hb] at hg
    rw [hbnow] at hsides
    exact ⟨_, c, exec_run hexec hg, by rw [settle_door]; exact hvin, hc, hsides, hended⟩

end Sys2Proof.Machine

/-!
The commands that can take a span out of UP or into it (R14, R16, R18, R22): what their step comes down to.
-/

namespace Sys2Proof.Machine

/-- The state of a step from `s` on in which the span unit acts: requests, the relay and the choices apart it is `s` after the elapsed
time, and of the spans only frames received and the enables may differ. -/
structure Linking (s : State) (dt : Nat) (b : State) : Prop where
  rest : ∃ (n : Nat) (rq : Requests) (bp : Bypass), b =
    { s.advance dt with choices := n, req := rq, bypass := bp, spanA := b.spanA, spanB := b.spanB }
  spans : ∀ x : SpanId, ∃ (q : List RxFrame) (e : Bool), b.span x = { s.span x with rxq := q, enable := e }

section
variable {s b : State} {dt : Nat}

theorem linking_advance : Linking s dt (s.advance dt) :=
  ⟨⟨s.choices, s.req, s.bypass, rfl⟩, fun x => ⟨(s.span x).rxq, (s.span x).enable, by cases x <;> rfl⟩⟩

theorem Linking.setSpan (h : Linking s dt b) (x : SpanId) {v : Span} (hv : ∃ (q : List RxFrame) (e : Bool), v = { s.span x with rxq := q, enable := e }) :
    Linking s dt (b.setSpan x v) := by
  obtain ⟨⟨n, rq, bp, hb⟩, hspans⟩ := h
  refine ⟨⟨n, rq, bp, ?_⟩, fun y => ?_⟩
  · rw [hb]
    cases x <;> rfl
  · obtain rfl | hy := eq_or_ne y x
    · rw [setSpan_span]
      exact hv
    · rw [setSpan_span_ne _ _ _ _ hy]
      exact hspans y

theorem linking_taking {x : SpanId} {rest : List RxFrame} : Linking s dt (s.taking dt x rest) :=
  linking_advance.setSpan x ⟨rest, (s.span x).enable, rfl⟩

theorem Linking.withReq (h : Linking s dt b) (rq : Requests) : Linking s dt { b with req := rq } := by
  obtain ⟨⟨n, _, bp, hb⟩, hspans⟩ := h
  exact ⟨⟨n, rq, bp, by rw [hb]⟩, fun x => (by cases x <;> rfl : State.span { b with req := rq } x = b.span x) ▸ hspans x⟩

theorem Linking.withBypass (h : Linking s dt b) (bp : Bypass) : Linking s dt { b with bypass := bp } := by
  obtain ⟨⟨n, rq, _, hb⟩, hspans⟩ := h
  exact ⟨⟨n, rq, bp, by rw [hb]⟩, fun x => (by cases x <;> rfl : State.span { b with bypass := bp } x = b.span x) ▸ hspans x⟩

theorem Linking.setEnable (h : Linking s dt b) (x : SpanId) (e : Bool) : Linking s dt (b.setEnable x e) := by
  obtain ⟨q, e', hx⟩ := h.spans x
  exact h.setSpan x ⟨q, e, by rw [hx]⟩

theorem Linking.disableSpans (h : Linking s dt b) (sel : Byte) : Linking s dt (b.disableSpans sel) := by
  have hone (x : SpanId) {v : State} (hv : Linking s dt v) : Linking s dt (if selects sel x then v.setEnable x false else v) := by
    split
    exacts [hv.setEnable x false, hv]
  exact hone .b (hone .a h)

theorem Linking.state (h : Linking s dt b) (x : SpanId) : (b.span x).state = (s.span x).state := by
  obtain ⟨q, e, hx⟩ := h.spans x
  rw [hx]

theorem Linking.isUp (h : Linking s dt b) (x : SpanId) : b.isUp x = s.isUp x := by
  unfold State.isUp
  rw [h.state]

end

/-- One span's exit is an exit of the spans that are this one. -/
theorem exitSpan_eq_where (s : State) (x : SpanId) (target : ExitTo) (cause : Cause) :
    s.exitSpan x target cause = s.exitWhere (fun y => y == x) target cause := by
  cases x <;> rfl

/-! ## Exits -/

/-- `t` follows a step from `s` on in which span `x` exits with a cause: what follows stands in `t`, but that a waiting slot may be
answered after it. -/
def LinkExits (s : State) (dt : Nat) (x : SpanId) (t : State) : Prop :=
  ∃ (b : State) (p : SpanId → Bool) (target : ExitTo) (cause : Cause), Linking s dt b ∧ p x = true ∧
    (t = (b.exitWhere p target cause).settle ∨
      ∃ r ∈ s.req.handed, t = ((b.exitWhere p target cause).completeSpan r.slot .ok).settle)

theorem linkExits_span {s b : State} {dt : Nat} {x : SpanId} (h : Linking s dt b) (target : ExitTo) (cause : Cause) :
    LinkExits s dt x (b.exitSpan x target cause).settle :=
  ⟨b, fun y => y == x, target, cause, h, beq_self_eq_true x, .inl (congrArg State.settle (exitSpan_eq_where b x target cause))⟩

section
variable {s t b : State} {dt : Nat} {x : SpanId}

theorem stays_up (h : b.isUp x = true) : b.settle.isUp x = true := by
  unfold State.isUp
  rw [settle_span]
  exact h

theorem completeSpan_isUp (b : State) (k : Nat) (o : SlotOutcome) (y : SpanId) : (b.completeSpan k o).isUp y = b.isUp y := by
  unfold State.isUp
  rw [completeSpan_eq, complete_span]

theorem exitWhere_isUp (b : State) {p : SpanId → Bool} {y : SpanId} (hp : p y = false) (target : ExitTo) (cause : Cause) :
    (b.exitWhere p target cause).isUp y = b.isUp y := by
  unfold State.isUp
  rw [(exitWhere_exits b p target cause).state y hp]

theorem helloWhileUp_exits (h : Linking s dt b) (m : HelloMsg) (hup : s.isUp x = true) :
    LinkExits s dt x (b.helloWhileUp x m).settle ∨ (b.helloWhileUp x m).isUp x = true := by
  have hbup := (h.isUp x).trans hup
  unfold State.helloWhileUp
  cases (b.span x).partner with
  | none => exact .inr hbup
  | some p =>
    dsimp only
    split_ifs
    · exact .inl (linkExits_span h _ _)
    · exact .inl (linkExits_span h _ _)
    · exact .inl (linkExits_span h _ _)
    · right
      rw [State.enqueueHello, sameLinks_send, State.isUp, setSpan_span]
      exact hbup
    · right
      rw [State.isUp, setSpan_span]
      exact hbup

theorem takeKeepalive_exits (h : Linking s dt b) (f : Frame) (hup : s.isUp x = true) :
    LinkExits s dt x (b.takeKeepalive x f).settle ∨ (b.takeKeepalive x f).isUp x = true := by
  have hbup := (h.isUp x).trans hup
  unfold State.takeKeepalive
  split
  · split_ifs
    · exact .inl (linkExits_span h _ _)
    · right
      rw [State.isUp, setSpan_span]
      exact hbup
  · exact .inr hbup

theorem takeHello_exits (h : Linking s dt b) (f : Frame) (hup : s.isUp x = true) :
    LinkExits s dt x (b.takeHello x f).settle ∨ (b.takeHello x f).isUp x = true := by
  have hbup := (h.isUp x).trans hup
  have hstate : (b.span x).state = .up := by simpa [State.isUp] using hbup
  cases hm : parseHello f with
  | none =>
    right
    unfold State.takeHello
    rw [hm]
    exact hbup
  | some m =>
    rw [takeHello_up hm hstate]
    exact helloWhileUp_exits h m hup

/-- What a served row makes of span `x`, if what its request does may take the span out of UP. -/
theorem serve_exits {p : Request → Bool} {f : Request → State → State} (hup : s.isUp x = true)
    (hf : ∀ (r : Request) (b : State), r ∈ s.req.handed → Linking s dt b →
      LinkExits s dt x (f r b).settle ∨ (f r b).isUp x = true) :
    LinkExits s dt x ((s.advance dt).serve p f).settle ∨ ((s.advance dt).serve p f).isUp x = true := by
  obtain ⟨⟨q, rest⟩, h⟩ : ∃ q, takeRequest p s.req.handed = q := ⟨_, rfl⟩
  cases q with
  | none =>
    rw [serve_none (s.advance dt) p f rest h]
    exact .inr ((linking_advance.isUp x).trans hup)
  | some r =>
    rw [serve_some (s.advance dt) p f r rest h]
    obtain ⟨hmem, -⟩ := takeRequest_mem h
    obtain ⟨hr, -⟩ := hmem r rfl
    exact hf r _ hr (linking_advance.withReq _)

theorem takeFrame_exits {kind : FrameKind} {f : RxFrame → State → State} (hup : s.isUp x = true)
    (hf : ∀ (r : RxFrame) (b : State), Linking s dt b → LinkExits s dt x (f r b).settle ∨ (f r b).isUp x = true) :
    LinkExits s dt x ((s.advance dt).takeFrame x kind f).settle ∨ ((s.advance dt).takeFrame x kind f).isUp x = true := by
  have hstay : (s.advance dt).isUp x = true := (linking_advance.isUp x).trans hup
  unfold State.takeFrame
  rw [advance_span]
  obtain ⟨⟨q, rest⟩, h⟩ : ∃ q, takeFor kind.consumer (s.span x).rxq = q := ⟨_, rfl⟩
  simp only [h]
  cases q with
  | none => exact .inr hstay
  | some r =>
    dsimp only
    split
    · exact hf r _ linking_taking
    · exact .inr hstay

/-- Of the selected spans, those that satisfy `p` exit and the slot is answered. -/
theorem exits_answered {p : SpanId → Bool} {r : Request} (h : Linking s dt b) (hr : r ∈ s.req.handed) (hup : s.isUp x = true) (target : ExitTo)
    (cause : Cause) : LinkExits s dt x ((b.exitWhere p target cause).completeSpan r.slot .ok).settle ∨
      ((b.exitWhere p target cause).completeSpan r.slot .ok).isUp x = true := by
  cases hp : p x with
  | true => exact .inl ⟨b, p, target, cause, h, hp, .inr ⟨r, hr, rfl⟩⟩
  | false =>
    rw [completeSpan_isUp, exitWhere_isUp b hp]
    exact .inr ((h.isUp x).trans hup)

/-- A link command that takes a span out of UP does it by an exit. -/
theorem link_exits {c : Instr} (h : linkCommand c dt x) (hc : exec c s = .next t) (hup : s.isUp x = true) (hdown : t.isUp x = false) :
    LinkExits s dt x t := by
  have hcases {f : State → State} (hrun : exec c s = .next (s.run dt f))
      (hf : LinkExits s dt x (f (s.advance dt)).settle ∨ (f (s.advance dt)).isUp x = true) : LinkExits s dt x t := by
    have ht : t = (f (s.advance dt)).settle := by
      rw [exec_run hrun rfl] at hc
      exact (Host.Outcome.next.inj hc).symm
    obtain hexits | hstay := hf
    · rwa [ht]
    · rw [ht, stays_up hstay] at hdown
      exact absurd hdown (by decide)
  have hadvance : (s.advance dt).isUp x = true := (linking_advance.isUp x).trans hup
  obtain rfl | rfl | rfl | rfl | rfl | rfl | rfl := h
  · exact hcases (f := fun t => t.takeFrame x .hello fun r u => u.takeHello x r.frame) rfl
      (takeFrame_exits hup fun r b hb => takeHello_exits hb r.frame hup)
  · exact hcases (f := fun t => t.takeFrame x .keepalive fun r u => u.takeKeepalive x r.frame) rfl
      (takeFrame_exits hup fun r b hb => takeKeepalive_exits hb r.frame hup)
  · refine hcases (f := fun t => if (t.span x).state = .up ∧ t.reached (t.span x).silenceEnd = true then t.exitSpan x .probing .silence else t) rfl ?_
    split
    exacts [.inl (linkExits_span linking_advance _ _), .inr hadvance]
  · refine hcases (f := fun t => if (t.span x).state = .up ∧ 32 ≤ (t.span x).bucket then t.exitSpan x .probing .errors else t) rfl ?_
    split
    exacts [.inl (linkExits_span linking_advance _ _), .inr hadvance]
  · refine hcases (f := fun t => t.serve (fun r => r.spanAction 2) fun r u => u.withSelector r fun sel v =>
        ((v.disableSpans sel).exitWhere (fun x => selects sel x && (v.span x).state != .off) .off .disabled).completeSpan r.slot .ok) rfl
      (serve_exits hup fun r b hr hb => ?_)
    unfold State.withSelector
    split
    · exact exits_answered (hb.disableSpans _) hr hup _ _
    · rw [completeSpan_isUp, hb.isUp]
      exact .inr hup
  · refine hcases (f := fun t => t.serve (fun r => r.spanAction 3) fun r u => u.withSelector r fun sel v =>
        let isOff (x : SpanId) : Bool := selects sel x && (v.span x).state == .off
        if isOff .a || isOff .b then v.completeSpan r.slot .refusedState
        else (v.exitWhere (selects sel) .probing .hostRestart).completeSpan r.slot .ok) rfl (serve_exits hup fun r b hr hb => ?_)
    unfold State.withSelector
    split
    · dsimp only
      split
      · rw [completeSpan_isUp, hb.isUp]
        exact .inr hup
      · exact exits_answered hb hr hup _ _
    · rw [completeSpan_isUp, hb.isUp]
      exact .inr hup
  · refine hcases (f := fun t => t.serve (fun r => r.spanAction 4) fun r u =>
        match u.bypass.relay with
        | .opened => (u.switchRelay false r.slot).exitWhere (fun x => (u.span x).state != .off) .off .bypassed
        | .closed => u.completeSpan r.slot .ok
        | .switching => u.completeSpan r.slot .refusedBusy) rfl (serve_exits hup fun r b hr hb => ?_)
    cases b.bypass.relay with
    | opened =>
      refine .inl ⟨b.switchRelay false r.slot, _, _, _, hb.withBypass _, ?_, .inl rfl⟩
      have hbup := (hb.isUp x).trans hup
      simp only [State.isUp, beq_iff_eq] at hbup
      rw [hbup]
      rfl
    | closed =>
      dsimp only
      rw [completeSpan_isUp, hb.isUp]
      exact .inr hup
    | switching =>
      dsimp only
      rw [completeSpan_isUp, hb.isUp]
      exact .inr hup

end

end Sys2Proof.Machine

/-!
The ends of the lead's outstanding order: its ORDER_ACK, its timeout, a census or DROP_LEAD, and the loss of its span (R114, R116,
R120 to R122): O43.
-/

namespace Sys2Proof.Machine

/-! ## ORDER_ACK and timeout (R120 to R122) -/

theorem takeOrderAck_lead {s : State} {x : SpanId} {f : Frame} {m : OrderAck} (hp : parseOrderAck f = some m) (hg : s.currentGen f = true)
    (hb : s.fromBelow x f = true) (hr : s.census.role = .lead) : s.takeOrderAck x f = s.leadTakesAck m := by
  unfold State.takeOrderAck
  simp only [hp, hr]
  rw [if_pos (by rw [hg, hb]; rfl)]

/-- That an ORDER_ACK waits is not published (R127). -/
theorem waiting_settled {s : State} {o : Outstanding} (hs : s.settled = true) (hout : s.door.outstanding = some o) (w : Option OrderAck) :
    State.settled { s with door := { s.door with outstanding := some { o with waiting := w } } } = true := by
  obtain ⟨hraised, himage, hdoor, hheat, hread, hsum⟩ := (settled_iff s).mp hs
  refine (settled_iff _).mpr ⟨hraised, himage, hdoor.trans ?_, hheat, hread, hsum⟩
  have hlead : s.leadBlock = State.leadBlock { s with door := { s.door with outstanding := some { o with waiting := w } } } := by
    unfold State.leadBlock
    cases s.census.role with
    | member => rfl
    | lead => simp only [hout]
  unfold State.doorBytes
  rw [hlead]

theorem endOutstanding_eq {s : State} {o : Outstanding} (hout : s.door.outstanding = some o) (outcome : SlotOutcome) (d st og : Byte) :
    s.endOutstanding outcome d st og = s.finishOrder o (leadAlone o st og) outcome d := by
  unfold State.endOutstanding
  simp only [hout, ownCounts_eq]

/-! ## A census that ends the order (R114, R122) -/

section
variable {s t : State} {o : Outstanding} {m : OrderAck} {outcome : SlotOutcome} {d : Byte}

/-- An order has ended and the memory is in its canonical form. -/
structure OrderOver (t : State) (o : Outstanding) (m : OrderAck) (outcome : SlotOutcome) (d : Byte) : Prop where
  ended : orderEnded t o m outcome d
  wf : t.mem.wf = true

theorem OrderOver.congr (h : OrderOver s o m outcome d) (hd : t.door = s.door) (hm : t.mem = s.mem) : OrderOver t o m outcome d where
  ended := h.ended.congr (by rw [hd]) (by rw [hd]) (by rw [hd]) fun _ ha => ha.congr (doorResults_length _ _) fun a _ _ => by rw [hm]
  wf := by rw [hm]; exact h.wf

theorem OrderOver.complete (h : OrderOver s o m outcome d) {k : Nat} (hk : k ≠ o.slot) (out : SlotOutcome) (b : Byte) (r : List Byte) :
    OrderOver (s.complete k out b r) o m outcome d where
  ended := h.ended.congr (by rw [complete_door]) (by rw [complete_door]) (by rw [complete_door]) fun _ ha =>
    ha.complete_other (doorResults_length _ _) h.wf hk
  wf := complete_wf _ _ _ _ _ h.wf

theorem OrderOver.settle (h : OrderOver s o m outcome d) : OrderOver s.settle o m outcome d :=
  ⟨h.ended.settle h.wf, settle_mem_wf h.wf⟩

theorem OrderOver.sends {n : Nat} (h : OrderOver s o m outcome d) (hs : Sends n s t) : OrderOver t o m outcome d :=
  h.congr hs.door hs.mem

theorem OrderOver.sendVoid (h : OrderOver s o m outcome d) (x : SpanId) (v : VoidMark) : OrderOver (s.sendVoid x v) o m outcome d := by
  unfold State.sendVoid
  split
  exacts [h.sends (sends_send _ _ _), h]

theorem OrderOver.setCensus (h : OrderOver s o m outcome d) (c : Census) : OrderOver (s.setCensus c) o m outcome d := h.congr rfl rfl

theorem OrderOver.raise (h : OrderOver s o m outcome d) (g : Nat) (e : Event) : OrderOver (s.raise g e) o m outcome d := h.congr rfl rfl

theorem OrderOver.dropHeldRoll (h : OrderOver s o m outcome d) : OrderOver s.dropHeldRoll o m outcome d :=
  ⟨h.ended.congr rfl rfl rfl fun _ ha => ha, h.wf⟩

theorem OrderOver.completeCensusSlot (h : OrderOver s o m outcome d) (hslot : s.census.slot ≠ some o.slot) (out : SlotOutcome) (b : Byte)
    (n : Nat) (p : Byte) : OrderOver (s.completeCensusSlot out b n p) o m outcome d := by
  unfold State.completeCensusSlot State.completeIf
  cases hk : s.census.slot with
  | none => exact h.setCensus _
  | some k => exact (h.setCensus _).complete (fun he => hslot (by rw [hk, he])) _ _ _

theorem finishOrder_over (hwf : s.mem.wf = true) : OrderOver (s.finishOrder o m outcome d) o m outcome d :=
  ⟨finishOrder_ended hwf, finishOrder_wf _ _ _ _ _ hwf⟩

theorem OrderOver.startSettle (h : OrderOver s o m outcome d) (n : Nat) : OrderOver (s.startSettle n) o m outcome d := by
  obtain ⟨c, hc⟩ := startSettle_eq s n
  rw [hc]
  exact h.setCensus c

end

/-- The car in a census state other than VALID and STALE, before a lead's outstanding order ends (R42, R81, R129). -/
def State.unlisted (s : State) (c : CensusState) : State :=
  State.clearAllocations { s.setCensus { s.census with
    state := c
    timerEnd := (censusTime c).map (fun d => s.now + d)
    settleEnd := if c.busy then none else s.census.settleEnd } with relay := Relay.empty }

theorem enterCensus_leadUnlisted {s : State} {c : CensusState} (hr : s.census.role = .lead) (hc : c.listed = false) :
    s.enterCensus c = ((s.unlisted c).endOutstanding .aborted c.code 0 0).dropHeldRoll := by
  unfold State.enterCensus
  dsimp only
  rw [if_neg (by rw [hc]; exact Bool.false_ne_true)]
  split
  next h => exact absurd (hr.symm.trans h) (by decide)
  next => rfl

section
variable {s : State} {o : Outstanding} (hr : s.census.role = .lead) (hout : s.door.outstanding = some o) (hwf : s.mem.wf = true)
include hr hout hwf

/-- A census state other than VALID and STALE ends a lead's outstanding order (R114, R122). -/
theorem enterCensus_aborts {c : CensusState} (hc : c.listed = false) : OrderOver (s.enterCensus c) o (leadAlone o 0 0) .aborted c.code := by
  have h : OrderOver _ o (leadAlone o 0 0) .aborted c.code := finishOrder_over (s := s.unlisted c) hwf
  rw [enterCensus_leadUnlisted hr hc, endOutstanding_eq (s := s.unlisted c) hout]
  exact h.dropHeldRoll

theorem failCensus_aborts (hslot : s.census.slot ≠ some o.slot) (reason : FailReason) (p : Byte) :
    OrderOver (s.failCensus reason p) o (leadAlone o 0 0) .aborted 0 := by
  have h : OrderOver (s.voided reason) o (leadAlone o 0 0) .aborted 0 :=
    (enterCensus_aborts hr hout hwf (c := .uncensused) rfl).sendVoid _ _
  obtain ⟨-, -, -, hcensus⟩ := voided_rest s reason
  obtain ⟨c, hc⟩ := failCensus_ended s reason p
  rw [hc]
  exact ((h.completeCensusSlot (by rw [hcensus]; exact hslot) _ _ _ _).raise _ _).setCensus _

/-- A census that a lead starts, but for a single car, ends its outstanding order (R114, R122). -/
theorem startCensus_aborts {slot : Option Nat} (hslot : slot ≠ some o.slot) :
    (s.isUp s.cabSpan = true → OrderOver (s.startCensus slot) o (leadAlone o 0 0) .aborted 0) ∧
    (s.isUp s.cabSpan = false → s.isUp s.trainSpan = true → OrderOver (s.startCensus slot) o (leadAlone o 0 0) .aborted 1) := by
  have hup (x : SpanId) : (s.numbered slot).isUp x = s.isUp x := by cases x <;> rfl
  rw [startCensus_eq]
  refine ⟨fun h => ?_, fun h h' => ?_⟩
  · rw [if_pos ((hup _).trans h)]
    exact failCensus_aborts (s := s.numbered slot) hr hout hwf hslot _ _
  · rw [if_neg fun hn => Bool.false_ne_true (h.symm.trans ((hup _).symm.trans hn)), if_pos ((hup _).trans h')]
    exact (enterCensus_aborts (s := s.numbered slot) hr hout hwf (c := .calling) rfl).sends (sends_send _ _ _)

/-- DROP_LEAD ends the outstanding order (R61, R114, R122). -/
theorem dropLead_aborts (hslot : s.census.slot ≠ some o.slot) : OrderOver s.dropLead o (leadAlone o 0 0) .aborted 0 := by
  obtain ⟨-, lcensus⟩ := leadDropped_rest s
  have hsends : Sends 1 s s.leadDropped := by
    unfold State.leadDropped State.sendVoid
    split
    · obtain ⟨h1, h2, h3, h4⟩ := sends_send s s.trainSpan (s.voidFrame { number := s.census.number, lead := s.settings.identity, reason := FailReason.leadDropped.code })
      exact ⟨h1, h2, h3, h4⟩
    · exact ⟨rfl, rfl, rfl, (Raises.of_same rfl).mono (Nat.zero_le _)⟩
  have hmember {v : State} (hv : v.census = s.leadDropped.census) (hd : v.door = s.leadDropped.door) (hm : v.mem = s.leadDropped.mem) :
      OrderOver v.becomeMember o (leadAlone o 0 0) .aborted 0 ∧ v.becomeMember.census.slot = s.census.slot := by
    have h := enterCensus_aborts (s := v) (o := o) (by rw [hv, lcensus]; exact hr) (by rw [hd, hsends.door]; exact hout)
      (by rw [hm, hsends.mem]; exact hwf) (c := .uncensused) rfl
    refine ⟨h.congr rfl rfl, ?_⟩
    rw [becomeMember_census, hv, lcensus]
  rw [dropLead_eq]
  split
  · obtain ⟨h, hs⟩ := hmember (v := s.leadDropped.censusFailedEvent .leadDropped 0) rfl rfl rfl
    exact h.completeCensusSlot (by rw [hs]; exact hslot) _ _ _ _
  · exact (hmember (v := s.leadDropped) rfl rfl rfl).1

end

end Sys2Proof.Machine

/-!
The lead's ORDER is lost with its span (R21, R40, R116, R122): O43.
-/

namespace Sys2Proof.Machine

/-! ## What the decision on an order reads of a lead -/

section
variable {s t : State}

/-- At a lead with VALID or STALE an order is decided on alike whatever else the census holds. -/
structure LikeLead (s t : State) : Prop where
  role : s.census.role = .lead ∧ t.census.role = .lead
  state : t.census.state = s.census.state
  mon : t.mon = s.mon
  settings : t.settings = s.settings
  side : ∀ k : SideId, t.side k = s.side k

theorem LikeLead.verdict (h : LikeLead s t) (k : SideId) (a : Action) : verdictOn t k a = verdictOn s k a := by
  unfold verdictOn
  rw [h.state, h.mon, h.side]

theorem LikeLead.hits (h : LikeLead s t) (o : Order) (p : Nat) (k : SideId) : addressed t o p k ↔ addressed s o p k := by
  obtain ⟨hs, ht⟩ := h.role
  have hfront : t.front = s.front := by
    unfold State.front State.cabSpan
    rw [h.settings]
    simp only [hs, ht]
  unfold addressed
  rw [hfront]

theorem LikeLead.contribution (h : LikeLead s t) {o : Order} {p : Nat} {late : Bool} {c : Contribution}
    (hc : contributionOf t o p late c) : contributionOf s o p late c := by
  unfold contributionOf at hc ⊢
  simp only [h.verdict, h.hits] at hc
  exact hc

theorem LikeLead.handed (h : LikeLead s t) {o : Order} {n : Nat} {p : PendingOrder} {k : SideId} {d : Side}
    (hd : handedSide t p (addressed t o n k) k d) : handedSide s p (addressed s o n k) k d := by
  unfold handedSide at hd ⊢
  simp only [h.verdict, h.hits, h.side] at hd
  exact hd

end

/-- The order that the lead's sides hold when its ORDER is lost at `now` (R116). -/
def lostPending (o : Outstanding) (now : Nat) : PendingOrder :=
  { action := o.order.action, number := o.order.number, lease := o.order.lease, gen := o.gen, applyAt := now + o.d0 * 200, late := false }

/-- `s` with another census state. -/
def State.seenAs (s : State) (v : CensusState) : State := { s with census := { s.census with state := v } }

/-- A lead in VALID or STALE, in a step from `s` on, whose outstanding order waits for its ORDER to leave (R116). -/
structure Awaiting (s : State) (now : Nat) (o : Outstanding) (u : State) : Prop where
  role : u.census.role = .lead
  state : u.census.state = s.census.state ∨ u.census.state = .stale
  mon : u.mon = s.mon
  settings : u.settings = s.settings
  side : ∀ k : SideId, u.side k = s.side k
  now : u.now = now
  outstanding : u.door.outstanding = some o
  flight : u.door.inFlight = [{ order := o.order, d0 := o.d0, gen := o.gen }]
  wf : u.mem.wf = true

/-- What the loss of its ORDER leaves of the lead's outstanding order (R116, R122). -/
structure SpanLost (s : State) (now : Nat) (o : Outstanding) (u : State) : Prop where
  role : u.census.role = .lead
  state : u.census.state = s.census.state ∨ u.census.state = .stale
  flight : u.door.inFlight = []
  took : ∃ (v : CensusState) (c : Contribution), (v = s.census.state ∨ v = .stale) ∧ contributionOf (s.seenAs v) o.order 1 false c ∧
    (0 < o.d0 → ∀ k : SideId, handedSide (s.seenAs v) (lostPending o now) (addressed (s.seenAs v) o.order 1 k) k (u.side k)) ∧
    OrderOver u { o with own := some c } (leadAlone { o with own := some c } 2 1) .partially 2

/-- `w` stands as `u` at a lead, but for the census state, which may have become STALE, and what no door order reads. -/
structure LeadKeeps (u w : State) : Prop where
  role : w.census.role = u.census.role
  state : w.census.state = u.census.state ∨ w.census.state = .stale
  mon : w.mon = u.mon
  settings : w.settings = u.settings
  door : w.door = u.door
  now : w.now = u.now
  mem : w.mem = u.mem

section
variable {s u w : State} {now : Nat} {o : Outstanding}

theorem LeadKeeps.side (h : LeadKeeps u w) (k : SideId) : w.side k = u.side k := by
  cases k <;> simp [State.side, h.door]

theorem Awaiting.keeps (h : Awaiting s now o u) (hk : LeadKeeps u w) : Awaiting s now o w where
  role := hk.role.trans h.role
  state := hk.state.elim (fun he => by rw [he]; exact h.state) .inr
  mon := hk.mon.trans h.mon
  settings := hk.settings.trans h.settings
  side k := (hk.side k).trans (h.side k)
  now := hk.now.trans h.now
  outstanding := by rw [hk.door]; exact h.outstanding
  flight := by rw [hk.door]; exact h.flight
  wf := by rw [hk.mem]; exact h.wf

theorem SpanLost.keeps (h : SpanLost s now o u) (hk : LeadKeeps u w) : SpanLost s now o w := by
  obtain ⟨hrole, hstate, hflight, v, c, hv, hc, hsides, hover⟩ := h
  exact ⟨hk.role.trans hrole, hk.state.elim (fun he => by rw [he]; exact hstate) .inr, by rw [hk.door]; exact hflight, v, c, hv, hc, fun hd k => by rw [hk.side]; exact hsides hd k,
    hover.congr hk.door hk.mem⟩

/-! ## Frames that are told lost (R40) -/

theorem forwardedLost_keeps (hr : u.census.role = .lead) (gen : Word16) (n : Byte) (why : StopReason) : LeadKeeps u (u.forwardedLost gen n why) := by
  have hrefl : LeadKeeps u u := ⟨rfl, .inl rfl, rfl, rfl, rfl, rfl, rfl⟩
  unfold State.forwardedLost
  split
  · exact hrefl
  next p hp =>
    split
    · unfold State.endOpenOrder
      simp only [hp]
      unfold State.startAck State.sendAck
      have hups : State.upstream { u with relay := { u.relay with openOrder := none } } = none := by
        unfold State.upstream
        simp only [hr]
      rw [hups]
      exact ⟨rfl, .inl rfl, rfl, rfl, rfl, rfl, rfl⟩
    · exact hrefl

theorem finishOrder_census (v : State) (p : Outstanding) (m : OrderAck) (outcome : SlotOutcome) (d : Byte) :
    (v.finishOrder p m outcome d).census = v.census := by
  have hcensus : (v.finishOrder p m outcome d).census = (v.complete p.slot outcome d (orderResults p m)).census := by
    rw [finishOrder_rest]
  rw [hcensus, complete_census]

/-- The next ORDER in flight is told lost: the lead's sides take it, and the order ends (R116, R122). -/
theorem Awaiting.lost (h : Awaiting s now o u) (hr : s.census.role = .lead) : SpanLost s now o (u.leadOrderLost o.order.number .spanEnd) := by
  obtain ⟨q, hq⟩ : ∃ q : State, q = { u with trail := { oldest := 0, next := 128, gap := 0 } } := ⟨_, rfl⟩
  have hfull : ¬trailRoom q := by
    rw [hq]
    exact (by decide : ¬Trail.held { oldest := 0, next := 128, gap := 0 } ≤ 64)
  have hqside (k : SideId) : q.side k = u.side k := by rw [hq]; cases k <;> rfl
  have hcar : AtCar q u := by
    rw [hq]
    exact ⟨rfl, rfl, rfl, rfl, fun k => by cases k <;> rfl⟩
  have hlike : LikeLead (s.seenAs u.census.state) q := by
    rw [hq]
    exact ⟨⟨hr, h.role⟩, rfl, h.mon, h.settings, fun k => (show _ = u.side k by cases k <;> rfl).trans
      ((h.side k).trans (by cases k <;> rfl))⟩
  obtain ⟨v, c, hv, hdec⟩ := leadOrderLost_eq (o := o) (rest := []) hcar h.outstanding (by rw [h.flight]; exact if_pos rfl) .spanEnd
  obtain ⟨hmem, -, -, -, hin, -, -⟩ := hdec.rest
  obtain ⟨d1, d2, l, hve⟩ := hdec.only
  have hover : OrderOver (u.leadOrderLost o.order.number .spanEnd) { o with own := some c } (leadAlone { o with own := some c } 2 1) .partially 2 := by
    rw [hv]
    exact finishOrder_over (show v.mem.wf = true by rw [hmem]; exact h.wf)
  obtain ⟨h1, h2, h3, -⟩ := finishOrder_sides (v.withOwn o c) { o with own := some c } (leadAlone { o with own := some c } 2 1) .partially 2
  have hcensus : (u.leadOrderLost o.order.number .spanEnd).census = u.census := by
    rw [hv, finishOrder_census, show (v.withOwn o c).census = v.census from rfl, hve]
  refine ⟨by rw [hcensus]; exact h.role, by rw [hcensus]; exact h.state, ?_, u.census.state, c, h.state, hlike.contribution hdec.contribution, fun hd k => hlike.handed ?_, hover⟩
  · rw [hv, finishOrder_door]
    exact hin
  · obtain ⟨w, hw⟩ : ∃ w, u.leadOrderLost o.order.number .spanEnd = w := ⟨_, rfl⟩
    have hwside (j : SideId) : w.side j = v.side j := by
      rw [← hw, hv]
      cases j
      exacts [h1, h2]
    have hwraised : w.raised = v.raised := by
      rw [← hw, hv]
      exact h3
    have hraised : v.raised ⊆ w.raised := by
      rw [hwraised]
      exact List.Subset.refl _
    obtain ⟨hlater, -⟩ := hdec.sides w hwside hraised (fun hroom => absurd hroom hfull) k
    have hnow : State.now { u with door := { u.door with inFlight := [] } } = now := h.now
    rw [hnow, settle_side] at hlater
    rw [hw]
    exact hlater (.inl (show now < now + o.d0 * 200 by omega))

theorem takeFlight_one {n : Byte} {f : Flight} (hn : f.order.number ≠ n) : (takeFlight n [f]).1 = none := by
  simp [takeFlight, hn]

theorem leadOrderLost_none {n : Byte} (why : StopReason) (h : (takeFlight n u.door.inFlight).1 = none) : u.leadOrderLost n why = u := by
  unfold State.leadOrderLost
  obtain ⟨⟨p, rest⟩, hp⟩ : ∃ p, takeFlight n u.door.inFlight = p := ⟨_, rfl⟩
  rw [hp] at h ⊢
  rw [show p = none from h]

/-- A frame that is told lost leaves the order waiting, or is the ORDER itself. -/
theorem Awaiting.tellLost (h : Awaiting s now o u) (hr : s.census.role = .lead) (f : TxFrame) :
    (f.tag = .leadOrder o.order.number → SpanLost s now o (u.tellLost .spanEnd f)) ∧
    (f.tag ≠ .leadOrder o.order.number → Awaiting s now o (u.tellLost .spanEnd f)) := by
  unfold State.tellLost
  cases f.tag with
  | plain => exact ⟨nofun, fun _ => h⟩
  | forwarded gen n i d late => exact ⟨nofun, fun _ => h.keeps (forwardedLost_keeps h.role gen n _)⟩
  | leadOrder n =>
    refine ⟨fun hn => ?_, fun hn => ?_⟩
    · obtain rfl : n = o.order.number := by simpa using hn
      exact h.lost hr
    · dsimp only
      rw [leadOrderLost_none]
      · exact h
      · rw [h.flight]
        exact takeFlight_one fun he => hn (by rw [← he])

theorem SpanLost.tellLost (h : SpanLost s now o u) (f : TxFrame) : SpanLost s now o (u.tellLost .spanEnd f) := by
  unfold State.tellLost
  cases f.tag with
  | plain => exact h
  | forwarded gen n i d late => exact h.keeps (forwardedLost_keeps h.role gen n _)
  | leadOrder n =>
    dsimp only
    rw [leadOrderLost_none]
    · exact h
    · rw [h.flight]
      rfl

/-- The frames of a queue are told lost one after the other (R40). -/
def State.tellAll (u : State) (fs : List TxFrame) : State := fs.foldl (fun w f => w.tellLost .spanEnd f) u

theorem SpanLost.tellAll (h : SpanLost s now o u) (fs : List TxFrame) : SpanLost s now o (u.tellAll fs) := by
  induction fs generalizing u with
  | nil => exact h
  | cons f fs ih => exact ih (h.tellLost f)

theorem Awaiting.tellAll (h : Awaiting s now o u) (hr : s.census.role = .lead) (fs : List TxFrame) :
    ((∃ f ∈ fs, f.tag = .leadOrder o.order.number) → SpanLost s now o (u.tellAll fs)) ∧
    (¬(∃ f ∈ fs, f.tag = .leadOrder o.order.number) → Awaiting s now o (u.tellAll fs)) := by
  induction fs generalizing u with
  | nil => exact ⟨fun ⟨f, hf, _⟩ => absurd hf List.not_mem_nil, fun _ => h⟩
  | cons g fs ih =>
    obtain ⟨hyes, hno⟩ := h.tellLost hr g
    by_cases hg : g.tag = .leadOrder o.order.number
    · exact ⟨fun _ => (hyes hg).tellAll fs, fun hn => absurd ⟨g, List.mem_cons_self, hg⟩ hn⟩
    · obtain ⟨ihyes, ihno⟩ := ih (hno hg)
      refine ⟨fun ⟨f, hf, htag⟩ => ihyes ?_, fun hn => ihno fun ⟨f, hf, htag⟩ => hn ⟨f, List.mem_cons_of_mem _ hf, htag⟩⟩
      obtain rfl | hf := List.mem_cons.mp hf
      exacts [absurd htag hg, ⟨f, hf, htag⟩]

/-! ## The report (R21, R64) -/

theorem LeadKeeps.trans {v : State} (h : LeadKeeps u v) (h' : LeadKeeps v w) : LeadKeeps u w :=
  ⟨h'.role.trans h.role, h'.state.elim (fun he => by rw [he]; exact h.state) .inr, h'.mon.trans h.mon, h'.settings.trans h.settings,
    h'.door.trans h.door, h'.now.trans h.now, h'.mem.trans h.mem⟩

theorem leadKeeps_choices (n : Nat) : LeadKeeps u { u with choices := n } := ⟨rfl, .inl rfl, rfl, rfl, rfl, rfl, rfl⟩

theorem startSettle_keeps (n : Nat) : LeadKeeps u (u.startSettle n) := by
  unfold State.startSettle
  split
  exacts [⟨rfl, .inl rfl, rfl, rfl, rfl, rfl, rfl⟩, ⟨rfl, .inl rfl, rfl, rfl, rfl, rfl, rfl⟩]

theorem goStale_keeps (p e c : Byte) : LeadKeeps u (u.goStale p e c) := by
  rw [goStale_eq]
  split
  exacts [⟨rfl, .inr rfl, rfl, rfl, rfl, rfl, rfl⟩, ⟨rfl, .inl rfl, rfl, rfl, rfl, rfl, rfl⟩]

theorem raise_keeps (g : Nat) (e : Event) : LeadKeeps u (u.raise g e) := ⟨rfl, .inl rfl, rfl, rfl, rfl, rfl, rfl⟩

/-- The SPAN_DOWN report at a lead outside a census (R21, R64). -/
theorem spanDownReport_lead (hr : u.census.role = .lead) (hb : u.census.state.busy = false) (x : SpanId) (cause : Cause) (lost : Word32) :
    u.spanDownReport x cause lost = (u.raise (spanSource x).toNat
      { kind := 2, source := spanSource x, position := u.eventPosition, detail := cause.code, value := lost }).leadSpanEvent x cause.code := by
  obtain ⟨v, hv⟩ : ∃ v, u.raise (spanSource x).toNat
      { kind := 2, source := spanSource x, position := u.eventPosition, detail := cause.code, value := lost } = v := ⟨_, rfl⟩
  have hvr : v.census.role = .lead := by rw [← hv]; exact hr
  have hvb : v.census.state.busy = false := by rw [← hv]; exact hb
  have hrelay : v.relaySpanDown x = v := by
    unfold State.relaySpanDown
    rw [if_neg fun h => absurd (h.1.symm.trans hvr) (by decide)]
  have hcensus : v.censusSpanDown x cause = v.leadSpanEvent x cause.code := by
    unfold State.censusSpanDown
    simp only [hvr]
    exact if_neg (by rw [hvb]; exact Bool.false_ne_true)
  have hreview : (v.leadSpanEvent x cause.code).reviewEnd = v.leadSpanEvent x cause.code := by
    refine reviewEnd_lead ?_
    have h := (goStale_keeps (u := v) (byte v.table.own) (endCode x) cause.code).trans (startSettle_keeps 0)
    exact h.role.trans hvr
  unfold State.spanDownReport
  rw [hv]
  dsimp only
  rw [hrelay, hcensus, hreview]

theorem spanDownReport_keeps (hr : u.census.role = .lead) (hb : u.census.state.busy = false) (x : SpanId) (cause : Cause) (lost : Word32) :
    LeadKeeps u (u.spanDownReport x cause lost) := by
  rw [spanDownReport_lead hr hb]
  exact (raise_keeps _ _).trans ((goStale_keeps _ _ _).trans (startSettle_keeps 0))

/-! ## An exit of a lead's span (R21, R40) -/

/-- The order waits for its ORDER to leave, or is lost. -/
def AwaitingOrLost (s : State) (now : Nat) (o : Outstanding) (u : State) : Prop := Awaiting s now o u ∨ SpanLost s now o u

/-- What the choice of an order reads of two acts: each keeps the order waiting or lost, a lost one lost, and the first loses it. -/
theorem eitherOrder_lost {f g : State → State} (hf : ∀ u, AwaitingOrLost s now o u → SpanLost s now o (f u))
    (hg : ∀ u, AwaitingOrLost s now o u → AwaitingOrLost s now o (g u)) (hgl : ∀ u, SpanLost s now o u → SpanLost s now o (g u))
    (h : AwaitingOrLost s now o u) : SpanLost s now o (u.eitherOrder f g) ∧ SpanLost s now o (u.eitherOrder g f) := by
  have hc : AwaitingOrLost s now o { u with choices := u.choices + 1 } :=
    h.imp (fun h => h.keeps (leadKeeps_choices _)) fun h => h.keeps (leadKeeps_choices _)
  unfold State.eitherOrder
  dsimp only
  constructor <;> split
  exacts [hgl _ (hf _ hc), hf _ (hg _ hc), hf _ (hg _ hc), hgl _ (hf _ hc)]

variable (hr : s.census.role = .lead) (hl : s.census.state = .valid ∨ s.census.state = .stale)
include hr hl

omit hr in
theorem not_busy {c : CensusState} (h : c = s.census.state ∨ c = .stale) : c.busy = false := by
  obtain rfl | rfl := h
  · obtain h | h := hl <;> rw [h] <;> rfl
  · rfl

omit hr in
theorem AwaitingOrLost.report (h : AwaitingOrLost s now o u) (x : SpanId) (cause : Cause) (lost : Word32) :
    AwaitingOrLost s now o (u.spanDownReport x cause lost) :=
  h.imp (fun h => h.keeps (spanDownReport_keeps h.role (not_busy hl h.state) x cause lost))
    fun h => h.keeps (spanDownReport_keeps h.role (not_busy hl h.state) x cause lost)

omit hl in
theorem AwaitingOrLost.tellAll (h : AwaitingOrLost s now o u) (fs : List TxFrame) : AwaitingOrLost s now o (u.tellAll fs) := by
  obtain h | h := h
  · obtain ⟨hyes, hno⟩ := h.tellAll hr fs
    by_cases hf : ∃ f ∈ fs, f.tag = .leadOrder o.order.number
    exacts [.inr (hyes hf), .inl (hno hf)]
  · exact .inr (h.tellAll fs)

theorem AwaitingOrLost.exitFollows (h : AwaitingOrLost s now o u) (x : SpanId) (v : Span) (cause : Cause) :
    AwaitingOrLost s now o (u.exitFollows x v cause) ∧ (SpanLost s now o u → SpanLost s now o (u.exitFollows x v cause)) := by
  have hreport (b : State) (hb : SpanLost s now o b) (l : Word32) : SpanLost s now o (b.spanDownReport x cause l) :=
    hb.keeps (spanDownReport_keeps hb.role (not_busy hl hb.state) x cause l)
  unfold State.exitFollows
  dsimp only
  split
  · exact ⟨h, id⟩
  · split
    · exact ⟨h.report hl x cause _, fun hb => hreport u hb _⟩
    · unfold State.eitherOrder
      have hchoice : LeadKeeps u { u with choices := u.choices + 1 } := leadKeeps_choices _
      have hc : AwaitingOrLost s now o { u with choices := u.choices + 1 } := h.imp (fun h => h.keeps hchoice) fun h => h.keeps hchoice
      dsimp only
      split
      · exact ⟨(hc.tellAll hr v.queued).report hl x cause _, fun hb => hreport _ ((hb.keeps hchoice).tellAll v.queued) _⟩
      · exact ⟨(hc.report hl x cause _).tellAll hr v.queued, fun hb => (hreport _ (hb.keeps hchoice) _).tellAll v.queued⟩

/-- The exit of the UP span that holds the ORDER loses it (R40, R116). -/
theorem AwaitingOrLost.exitLoses (h : AwaitingOrLost s now o u) (x : SpanId) {v : Span} (cause : Cause) (hup : v.state = .up) {f : TxFrame}
    (hf : f ∈ v.queued) (htag : f.tag = .leadOrder o.order.number) : SpanLost s now o (u.exitFollows x v cause) := by
  have htell (b : State) (hb : AwaitingOrLost s now o b) : SpanLost s now o (b.tellAll v.queued) := by
    obtain hb | hb := hb
    exacts [(hb.tellAll hr v.queued).1 ⟨f, hf, htag⟩, hb.tellAll v.queued]
  unfold State.exitFollows
  dsimp only
  rw [if_neg (not_not.mpr hup), if_neg fun hall => by
    have := List.all_eq_true.mp hall f hf
    rw [htag] at this
    exact absurd this (by simp)]
  exact (eitherOrder_lost (f := fun b => b.tellAll v.queued) htell (fun b hb => hb.report hl x cause _)
    (fun b hb => hb.keeps (spanDownReport_keeps hb.role (not_busy hl hb.state) x cause _)) h).1

end

end Sys2Proof.Machine

/-!
The ends of the lead's outstanding order (R114, R116, R120 to R122): O43.
-/

namespace Sys2Proof.Machine

/-- The spans of `b` that satisfy `p` have exited, and nothing has followed (R3). -/
def State.exitedWhere (b : State) (p : SpanId → Bool) (target : ExitTo) (cause : Cause) : State :=
  { b with
    spanA := if p .a then b.spanA.exit b.now cause target else b.spanA
    spanB := if p .b then b.spanB.exit b.now cause target else b.spanB }

/-- What follows the exit of span `y`, if it is among those that exit from `b` (R21, R40). -/
def State.following (b : State) (p : SpanId → Bool) (cause : Cause) (y : SpanId) (u : State) : State :=
  if p y then u.exitFollows y (b.span y) cause else u

theorem exitWhere_eq (b : State) (p : SpanId → Bool) (target : ExitTo) (cause : Cause) : b.exitWhere p target cause =
    if p .a && p .b then (b.exitedWhere p target cause).eitherOrder (b.following p cause .a) (b.following p cause .b)
    else b.following p cause .b (b.following p cause .a (b.exitedWhere p target cause)) := rfl

theorem exitedWhere_span (b : State) (p : SpanId → Bool) (target : ExitTo) (cause : Cause) (y : SpanId) :
    (b.exitedWhere p target cause).span y = if p y then (b.span y).exit b.now cause target else b.span y := by
  cases y <;> rfl

section
variable {s b : State} {dt now : Nat} {o : Outstanding} {x : SpanId}

/-- The train span leaves UP while it holds the ORDER: the ORDER is lost, whichever span's exit is followed first (R3, R40, R116). -/
theorem exitWhere_loses (hr : s.census.role = .lead) (hl : s.census.state = .valid ∨ s.census.state = .stale) (h : Awaiting s now o b)
    {p : SpanId → Bool} (hp : p x = true) (hup : (b.span x).state = .up) {f : TxFrame} (hf : f ∈ (b.span x).queued)
    (htag : f.tag = .leadOrder o.order.number) (target : ExitTo) (cause : Cause) : SpanLost s now o (b.exitWhere p target cause) := by
  obtain ⟨e, he⟩ : ∃ e : State, b.exitedWhere p target cause = e := ⟨_, rfl⟩
  have hbase : AwaitingOrLost s now o e := .inl (h.keeps (by rw [← he]; exact ⟨rfl, .inl rfl, rfl, rfl, rfl, rfl, rfl⟩))
  have hfollow (y : SpanId) (u : State) (hu : AwaitingOrLost s now o u) : AwaitingOrLost s now o (b.following p cause y u) := by
    unfold State.following
    split
    exacts [(hu.exitFollows hr hl y _ cause).1, hu]
  have hkept (y : SpanId) (u : State) (hu : SpanLost s now o u) : SpanLost s now o (b.following p cause y u) := by
    unfold State.following
    split
    exacts [(AwaitingOrLost.exitFollows hr hl (.inr hu) y _ cause).2 hu, hu]
  have hlost (u : State) (hu : AwaitingOrLost s now o u) : SpanLost s now o (b.following p cause x u) := by
    unfold State.following
    rw [if_pos hp]
    exact hu.exitLoses hr hl x cause hup hf htag
  rw [exitWhere_eq, he]
  cases x with
  | a =>
    split
    exacts [(eitherOrder_lost hlost (hfollow .b) (hkept .b) hbase).1, hkept .b _ (hlost e hbase)]
  | b =>
    split
    exacts [(eitherOrder_lost hlost (hfollow .a) (hkept .a) hbase).2, hlost _ (hfollow .a e hbase)]

theorem SpanLost.complete (h : SpanLost s now o b) {k : Nat} (hk : k ≠ o.slot) (out : SlotOutcome) (d : Byte) (r : List Byte) :
    SpanLost s now o (b.complete k out d r) := by
  obtain ⟨hrole, hstate, hflight, v, c, hv, hc, hsides, hover⟩ := h
  exact ⟨by rw [complete_census]; exact hrole, by rw [complete_census]; exact hstate, by rw [complete_door]; exact hflight, v, c, hv, hc,
    fun hd k => by rw [complete_side]; exact hsides hd k, hover.complete hk _ _ _⟩

theorem Linking.awaiting (h : Linking s dt b) (hr : s.census.role = .lead) (hout : s.door.outstanding = some o)
    (hin : s.door.inFlight = [{ order := o.order, d0 := o.d0, gen := o.gen }]) (hwf : s.mem.wf = true) : Awaiting s (s.now + dt) o b := by
  obtain ⟨⟨n, rq, bp, hb⟩, -⟩ := h
  rw [hb]
  exact ⟨hr, .inl rfl, rfl, rfl, fun k => by cases k <;> rfl, rfl, hout, hin, hwf⟩

end

theorem listed_not_busy {c : CensusState} (h : c = .valid ∨ c = .stale) : ¬c.busy = true := by
  obtain rfl | rfl := h <;> decide

theorem not_engaged {c : CensusState} (h : c = .valid ∨ c = .stale) : ¬(c.takingPart || c.busy) = true := by
  obtain rfl | rfl := h <;> decide

/-- A census that a lead starts in a step from `s` on, but for a single car, ends its outstanding order (R114, R122). -/
theorem starts_aborts {s u : State} {o : Outstanding} {c : Instr} {slot : Option Nat} (hr : u.census.role = .lead)
    (hout : u.door.outstanding = some o) (hwf : u.mem.wf = true) (hset : u.settings = s.settings) (hup : ∀ x : SpanId, u.isUp x = s.isUp x)
    (hslot : slot ≠ some o.slot) (hexec : exec c s = .next (u.startCensus slot).reviewEnd.settle) :
    (s.isUp s.cabSpan = true → ∃ t : State, exec c s = .next t ∧ orderEnded t o (leadAlone o 0 0) .aborted 0) ∧
    (s.isUp s.cabSpan = false → s.isUp s.trainSpan = true →
      ∃ t : State, exec c s = .next t ∧ orderEnded t o (leadAlone o 0 0) .aborted 1) := by
  obtain ⟨h1, h2⟩ := startCensus_aborts hr hout hwf hslot
  have htrain : u.trainSpan = s.trainSpan := trainSpan_congr hset
  have hcab : u.cabSpan = s.cabSpan := by
    unfold State.cabSpan
    rw [hset]
  rw [hcab, hup] at h1 h2
  rw [htrain, hup] at h2
  rw [reviewEnd_lead (startCensus_role hr).1] at hexec
  exact ⟨fun h => ⟨_, hexec, (h1 h).settle.ended⟩, fun h h' => ⟨_, hexec, (h2 h h').settle.ended⟩⟩

/-- Settles O43: how the lead's outstanding order ends (R114, R116, R120 to R122). -/
theorem outstandingOrderEnds : Obligations.OutstandingOrderEnds := by
  intro s dt o hs hwf hr hout
  refine ⟨fun x r rest m ht hk hp hup hl hg hd hhop => ?_, fun e he hend => ?_, ?_⟩
  · intro u
    obtain ⟨y, hy⟩ : ∃ y, s.taking dt x rest = y := ⟨_, rfl⟩
    have hu : y = u := hy.symm
    have yset : y.settled = true := by rw [← hy]; exact taking_settled hs
    have ydoor : y.door = s.door := by rw [← hy, taking_door]
    have yout : y.door.outstanding = some o := by rw [ydoor]; exact hout
    have ywf : y.mem.wf = true := by rw [← hy, taking_mem]; exact hwf
    have hstep {v : State} (hv : y.leadTakesAck m = v) : exec (.orderAck dt x) s = .next v.settle := by
      refine exec_takeWave (f := fun f _ u => u.takeOrderAck x f) rfl ht hk hup hl ?_
      rw [hy, takeOrderAck_lead hp (currentGen_iff.mpr (by rw [← hy, taking_table]; exact hg))
        (fromBelow_iff.mpr (by rw [← hy, taking_downstream, taking_table]; exact ⟨hd, hhop⟩)) (by rw [← hy, taking_census]; exact hr)]
      exact hv
    refine ⟨fun hne => ?_, fun c hn hown => ?_, fun hn hown hw => ?_⟩
    · rw [hstep (leadTakesAck_other yout hne), settle_of_settled _ yset, hu]
    · exact ⟨_, hstep (leadTakesAck_ends yout hn hown), finishOrder_settled ywf⟩
    · have hearly := leadTakesAck_early yout hn hown
      rw [hw, Option.getD_none] at hearly
      rw [hstep hearly, settle_of_settled _ (waiting_settled yset yout (some m)), ← ydoor, ← hu]
  · refine ⟨_, exec_run (f := fun t => if t.reached t.door.ackEnd then t.endOutstanding .timedOut 5 StopReason.noAck.code 1 else t) rfl rfl, ?_⟩
    rw [if_pos (show (s.advance dt).reached (s.advance dt).door.ackEnd = true from advance_reached he hend),
      endOutstanding_eq (s := s.advance dt) hout]
    exact finishOrder_settled hwf
  · intro listed aborted starts
    refine ⟨fun r rest hne => ⟨fun htake hslot => ?_, fun htake hl => ?_, fun htake hkind hl => ?_⟩, fun e he hend hl => ?_,
      fun c t f hlink hc hup hdown hl hf htag hown hin hslots => ?_⟩
    · obtain ⟨u, hu⟩ : ∃ u : State, u = { s.advance dt with req := { s.req with handed := rest } } := ⟨_, rfl⟩
      have hover : OrderOver u.dropLead o (leadAlone o 0 0) .aborted 0 := by
        rw [hu]
        exact dropLead_aborts hr hout hwf hslot
      have hreview : u.dropLead.reviewEnd = u.dropLead := reviewEnd_unlisted (by rw [dropLead_census]; rfl)
      refine ⟨_, exec_serve (f := fun r u => u.dropLeadServed r) rfl htake rfl, ?_⟩
      rw [← hu, dropLeadServed_lead (by rw [hu]; exact hr), hreview]
      exact (hover.complete hne _ _ _).settle.ended
    · obtain ⟨u, hu⟩ : ∃ u : State, u = { s.advance dt with req := { s.req with handed := rest } } := ⟨_, rfl⟩
      refine starts_aborts (u := u.setCensus { u.census with retry := 0 }) (slot := some r.slot) (by rw [hu]; exact hr) (by rw [hu]; exact hout)
        (by rw [hu]; exact hwf) (by rw [hu]; rfl) (fun x => by rw [hu]; cases x <;> rfl) (by simpa using hne)
        (exec_serve (f := fun r u => (u.censusStart r).reviewEnd) rfl htake ?_)
      rw [← hu, censusStart_starts (by rw [hu]; exact hr) (by rw [hu]; exact listed_not_busy hl)]
    · obtain ⟨u, hu⟩ : ∃ u : State, u = { s.advance dt with req := { s.req with handed := rest } } := ⟨_, rfl⟩
      have hur : u.census.role = .lead := by rw [hu]; exact hr
      refine starts_aborts (u := u) (slot := some r.slot) hur (by rw [hu]; exact hout)
        (by rw [hu]; exact hwf) (by rw [hu]; rfl) (fun x => by rw [hu]; cases x <;> rfl) (by simpa using hne)
        (exec_serve (f := fun r u => (u.takeLead r).reviewEnd) rfl htake ?_)
      rw [← hu, takeLead_starts (by rw [hu]; exact hkind) (by rw [hu]; exact not_engaged hl), if_neg (by rw [hur]; decide)]
    · refine starts_aborts (u := s.advance dt) (slot := none) hr hout hwf rfl (fun x => by cases x <;> rfl) (by simp)
        (exec_run (f := fun t => if t.reached t.census.settleEnd = true ∧ t.census.role = .lead ∧ t.census.state.busy = false then
          (t.startCensus none).reviewEnd else t) rfl (if_pos ⟨advance_reached he hend, hr, not_busy hl (.inl rfl)⟩))
    · obtain ⟨b, p, target, cause, hb, hp, ht⟩ := link_exits hlink hc hup hdown
      have hbspan : (b.span s.trainSpan).state = .up ∧ f ∈ (b.span s.trainSpan).queued := by
        obtain ⟨q, e, hspan⟩ := hb.spans s.trainSpan
        rw [hspan]
        exact ⟨by simpa [State.isUp] using hup, hf⟩
      have hlost := exitWhere_loses hr hl (hb.awaiting hr hout hin hwf) hp hbspan.1 hbspan.2 htag target cause
      have hsettled {w : State} (hw : SpanLost s (s.now + dt) o w) (htw : t = w.settle) :
          ∃ (v : CensusState) (c : Contribution), (v = s.census.state ∨ v = .stale) ∧ contributionOf (s.seenAs v) o.order 1 false c ∧
            t.door.inFlight = [] ∧
            (0 < o.d0 → ∀ k : SideId, handedSide (s.seenAs v) (lostPending o (s.now + dt)) (addressed (s.seenAs v) o.order 1 k) k (t.side k)) ∧
            orderEnded t { o with own := some c } (leadAlone { o with own := some c } 2 1) .partially 2 := by
        obtain ⟨-, -, hflight, v, c, hv, hc, hsides, hover⟩ := hw
        rw [htw]
        exact ⟨v, c, hv, hc, by rw [settle_door]; exact hflight, fun hd k => by rw [settle_side]; exact hsides hd k, hover.settle.ended⟩
      obtain ht | ⟨r, hmem, ht⟩ := ht
      · exact hsettled hlost ht
      · exact hsettled (hlost.complete (hslots r hmem) _ _ _) ht

end Sys2Proof.Machine

/-!
Frames of a lost span that are told lost, one after the other (R40, R86, R116): what they leave alone.
-/

namespace Sys2Proof.Machine

/-! ## The lead's order (R116, R122) -/

/-- The loss of a lead's ORDER is a matter of its door unit, of a slot and of the events of its sides alone. -/
theorem leadOrderLost_shape (u : State) (n : Byte) (why : StopReason) : ∃ (d : Door) (m : Memory) (l : Tallies) (r : List Raised),
    u.leadOrderLost n why = { u with door := d, mem := m, tallies := l, raised := u.raised ++ r } ∧ r.length ≤ 4 ∧
      (u.mem.wf = true → m.wf = true) ∧ (u.door.outstanding = none → m = u.mem ∧ d.outstanding = none) := by
  unfold State.leadOrderLost
  split
  · exact ⟨u.door, u.mem, u.tallies, [], by rw [List.append_nil], Nat.zero_le _, id, fun h => ⟨rfl, h⟩⟩
  next f rest _ =>
    obtain ⟨b, hb⟩ : ∃ b : State, b = { u with door := { u.door with inFlight := rest } } := ⟨_, rfl⟩
    obtain ⟨⟨p, c⟩, hp⟩ : ∃ p, b.handOrder f.order f.gen (u.now + f.d0 * delayUnit) false 1 = p := ⟨_, rfl⟩
    obtain ⟨-, ⟨d1, d2, l, hpe⟩, ⟨r, hrlen, hpr⟩, -⟩ := handOrder_decides hp (s := b) ⟨rfl, rfl, rfl, rfl, fun _ => rfl⟩
    have hplain : ∃ d : Door, p = { u with door := d, raised := u.raised ++ r } ∧ d.outstanding = u.door.outstanding := by
      have hl : l = u.raised ++ r := by
        rw [hpe, hb] at hpr
        exact hpr
      rw [hpe, hb, hl]
      exact ⟨_, rfl, rfl⟩
    obtain ⟨d, hpd, hdout⟩ := hplain
    have htakes : b.leadTakesOwn f (u.now + f.d0 * delayUnit) = match p.door.outstanding with
      | none => p
      | some o => if o.order.number = f.order.number then p.withOwn o c else p := by
      unfold State.leadTakesOwn
      dsimp only
      rw [hp]
      rfl
    have hends (v : State) (d' : Door) (hv : v = { u with door := d', raised := u.raised ++ r }) (o : Outstanding) (m : OrderAck)
        (hsome : u.door.outstanding ≠ none) (out : SlotOutcome) (q : Byte) :
        ∃ (d : Door) (m' : Memory) (l : Tallies) (r : List Raised), v.finishOrder o m out q = { u with door := d, mem := m', tallies := l, raised := u.raised ++ r } ∧
          r.length ≤ 4 ∧ (u.mem.wf = true → m'.wf = true) ∧ (u.door.outstanding = none → m' = u.mem ∧ d.outstanding = none) := by
      have hm : v.mem = u.mem := by rw [hv]
      refine ⟨(v.finishOrder o m out q).door, (v.finishOrder o m out q).mem, { v.tallies with slot := v.tallies.slot + 1 }, r, ?_, hrlen,
        fun hwf => finishOrder_wf _ _ _ _ _ (by rw [hm]; exact hwf), fun h => absurd h hsome⟩
      rw [finishOrder_rest, complete_eq, ← finishOrder_mem, hv]
    rw [← hb]
    dsimp only
    rw [htakes]
    cases hout : u.door.outstanding with
    | none =>
      have hpout : p.door.outstanding = none := by rw [hpd]; exact hdout.trans hout
      simp only [hpout]
      exact ⟨d, u.mem, u.tallies, r, hpd, hrlen, id, fun _ => ⟨rfl, hdout.trans hout⟩⟩
    | some o =>
      have hpout : p.door.outstanding = some o := by rw [hpd]; exact hdout.trans hout
      simp only [hpout]
      by_cases hn : o.order.number = f.order.number
      · rw [if_pos hn]
        simp only [show (p.withOwn o c).door.outstanding = some { o with own := some c } from rfl]
        split
        · have := hends (p.withOwn o c) (p.withOwn o c).door (by unfold State.withOwn; rw [hpd]) { o with own := some c }
            (ownCounts { o with own := some c } why.code 1) (by rw [hout]; nofun) .partially why.code
          rw [hout] at this
          exact this
        · refine ⟨(p.withOwn o c).door, u.mem, u.tallies, r, ?_, hrlen, id, nofun⟩
          unfold State.withOwn
          rw [hpd]
      · rw [if_neg hn]
        simp only [hpout]
        split
        · have := hends p d hpd o (ownCounts o why.code 1) (by rw [hout]; nofun) .partially why.code
          rw [hout] at this
          exact this
        · exact ⟨d, u.mem, u.tallies, r, hpd, hrlen, id, nofun⟩

/-! ## Frames that are told lost -/

/-- How many ORDER_ACKs the open order can still give rise to (R86). -/
def State.openCount (u : State) : Nat := u.relay.openOrder.isSome.toNat

/-- The ORDER_ACK with which a member ends an open order for the loss of a span (R86, R120). -/
def lostAck (u : State) (o : OpenOrder) : Frame := orderAckAt u.table.own o.gen (ackOfOne o.number 2 o.own u.table.own)

/-- What stands in `w` when at most `k` frames of a lost span have been told lost since `u`. -/
structure Told (k : Nat) (u w : State) : Prop where
  census : w.census = u.census
  table : w.table = u.table
  settings : w.settings = u.settings
  heat : w.heat = u.heat
  trail : w.trail = u.trail
  now : w.now = u.now
  relay : w.relay = { u.relay with openOrder := w.relay.openOrder }
  count : w.openCount ≤ u.openCount
  emits : Emits (u.openCount - w.openCount) (4 * k) u w
  wf : u.mem.wf = true → w.mem.wf = true
  mem : u.door.outstanding = none → w.mem = u.mem ∧ w.door.outstanding = none
  acked : ∀ (o : OpenOrder) (up : SpanId), u.relay.openOrder = some o → u.upstream = some up → (u.span up).state = .up →
    (u.span up).depth < 8 → w.relay.openOrder = some o ∨ (w.relay.openOrder = none ∧ waits w up (lostAck u o))
  follows : Follows u w

section
variable {k l : Nat} {u v w : State}

theorem openCount_none (h : u.relay.openOrder = none) : u.openCount = 0 := by
  unfold State.openCount
  rw [h]
  rfl

theorem openOrder_none (h : u.openCount ≤ 0) : u.relay.openOrder = none := by
  unfold State.openCount at h
  cases ho : u.relay.openOrder with
  | none => rfl
  | some o =>
    rw [ho] at h
    exact absurd h (Nat.not_succ_le_zero 0)

theorem openCount_some {o : OpenOrder} (h : u.relay.openOrder = some o) : u.openCount = 1 := by
  unfold State.openCount
  rw [h]
  rfl

theorem openCount_le (u : State) : u.openCount ≤ 1 := by
  unfold State.openCount
  exact Bool.toNat_le _

theorem Told.refl (u : State) : Told 0 u u where
  census := rfl
  table := rfl
  settings := rfl
  heat := rfl
  trail := rfl
  now := rfl
  relay := rfl
  count := Nat.le_refl _
  emits := by rw [Nat.sub_self]; exact .refl u
  wf := id
  mem h := ⟨rfl, h⟩
  acked _ _ h _ _ _ := .inl h
  follows := .refl u

theorem Told.upstream (h : Told k u w) : w.upstream = u.upstream := upstream_congr h.census h.table h.settings

theorem Told.lostAck (h : Told k u w) (o : OpenOrder) : lostAck w o = lostAck u o := by
  unfold Sys2Proof.Machine.lostAck
  rw [h.table]

theorem Follows.trans {a b c : State} (h : Follows a b) (h' : Follows b c) : Follows a c where
  bypass := h'.bypass.trans h.bypass
  besides x := (h'.besides x).trans (h.besides x)
  rests x hx := by
    obtain ⟨h1, h2⟩ := h.rests x hx
    obtain ⟨h3, h4⟩ := h'.rests x (by rw [h.state]; exact hx)
    exact ⟨h3.trans h1, h4.trans h2⟩

theorem Told.trans (h : Told k u v) (h' : Told l v w) : Told (k + l) u w where
  census := h'.census.trans h.census
  table := h'.table.trans h.table
  settings := h'.settings.trans h.settings
  heat := h'.heat.trans h.heat
  trail := h'.trail.trans h.trail
  now := h'.now.trans h.now
  relay := by
    rw [h'.relay, h.relay]
  count := Nat.le_trans h'.count h.count
  emits := by
    have h1 := h.count
    have h2 := h'.count
    exact (h.emits.trans h'.emits).mono (by omega) (by omega)
  wf hwf := h'.wf (h.wf hwf)
  mem hn := by
    obtain ⟨h1, h2⟩ := h.mem hn
    obtain ⟨h3, h4⟩ := h'.mem h2
    exact ⟨h3.trans h1, h4⟩
  acked o up ho hup hst hroom := by
    obtain hv | ⟨hv, hack⟩ := h.acked o up ho hup hst hroom
    · have hemits := h.emits
      rw [openCount_some ho, openCount_some hv] at hemits
      obtain ⟨h1, h2⟩ := hemits.up hst (by omega)
      obtain hw | ⟨hw, hwaits⟩ := h'.acked o up hv (by rw [h.upstream]; exact hup) h1 (by omega)
      · exact .inl hw
      · rw [h.lostAck] at hwaits
        exact .inr ⟨hw, hwaits⟩
    · have hcount := h'.count
      rw [openCount_none hv] at hcount
      have hw := openOrder_none hcount
      have hemits := h'.emits
      rw [openCount_none hv, openCount_none hw] at hemits
      have hdepth := h.emits.up hst (by have := openCount_le u; omega)
      obtain ⟨h1, h2⟩ := hdepth
      have := openCount_le u
      exact .inr ⟨hw, hemits.waits h1 (by omega) hack⟩
  follows := h.follows.trans h'.follows

theorem Told.mono (h : Told k u w) (hk : k ≤ l) : Told l u w :=
  { h with emits := h.emits.mono (Nat.le_refl _) (Nat.mul_le_mul_left 4 hk) }

/-- An open order ends with SPAN_END (R86). -/
theorem told_endOpenOrder (u : State) : Told 1 u (u.endOpenOrder .spanEnd) ∧ (u.endOpenOrder .spanEnd).relay.openOrder = none := by
  cases ho : u.relay.openOrder with
  | none =>
    have hsame : u.endOpenOrder .spanEnd = u := by
      unfold State.endOpenOrder
      rw [ho]
    rw [hsame]
    exact ⟨(Told.refl u).mono (by omega), ho⟩
  | some o =>
    obtain ⟨b, hb⟩ : ∃ b : State, b = { u with relay := { u.relay with openOrder := none } } := ⟨_, rfl⟩
    obtain ⟨f, hf⟩ : ∃ f : Frame, (u.endOpenOrder .spanEnd = b.sendIf b.upstream f) ∧ f = lostAck u o := by
      refine ⟨_, ?_, rfl⟩
      unfold State.endOpenOrder
      simp only [ho]
      unfold State.startAck State.sendAck
      rw [hb]
      rfl
    obtain ⟨hend, hfa⟩ := hf
    have hups : b.upstream = u.upstream := by rw [hb]; rfl
    have bspan (x : SpanId) : b.span x = u.span x := by rw [hb]; cases x <;> rfl
    have hsent : Emits 1 1 b (b.sendIf b.upstream f) := emits_sendIf b _ _
    have hfields : (b.sendIf b.upstream f).census = b.census ∧ (b.sendIf b.upstream f).table = b.table ∧
        (b.sendIf b.upstream f).settings = b.settings ∧ (b.sendIf b.upstream f).heat = b.heat ∧
        (b.sendIf b.upstream f).now = b.now := by
      cases b.upstream
      exacts [⟨rfl, rfl, rfl, rfl, rfl⟩, ⟨send_census _ _ _, send_table _ _ _, send_settings _ _ _, send_heat _ _ _, send_now _ _ _⟩]
    obtain ⟨h1, h2, h3, h4, h5⟩ := hfields
    have hsends := sends_sendIf b b.upstream f
    have hrelay := sendIf_relay b b.upstream f
    rw [hend]
    have hnone : (b.sendIf b.upstream f).relay.openOrder = none := by rw [hrelay, hb]
    refine ⟨⟨h1.trans (by rw [hb]), h2.trans (by rw [hb]), h3.trans (by rw [hb]), h4.trans (by rw [hb]), hsends.trail.trans (by rw [hb]),
      h5.trans (by rw [hb]), by rw [hrelay, hb], ?_, ?_, fun hwf => ?_, fun hn => ⟨?_, ?_⟩, fun o' up ho' hup hst hroom => .inr ⟨hnone, ?_⟩, ?_⟩, hnone⟩
    · rw [openCount_none hnone]
      exact Nat.zero_le _
    · rw [openCount_some ho, openCount_none hnone]
      have hset : Emits 0 0 u b := by
        rw [hb]
        exact emits_relay u _
      exact (hset.trans hsent).mono (by omega) (by omega)
    · rw [hsends.mem, hb]
      exact hwf
    · rw [hsends.mem, hb]
    · rw [hsends.door, hb]
      exact hn
    · obtain rfl : o = o' := Option.some.inj (ho.symm.trans ho')
      rw [hups, hup, hfa]
      exact waits_send b _ (by rw [bspan]; exact hst) (by rw [bspan]; exact hroom)
    · have hbf : Follows u b := by
        rw [hb]
        exact (Follows.refl u).congr (fun x => by cases x <;> rfl) rfl
      exact hbf.trans ((opsKeep_follows b).sendIf _ _ _ (.refl b) (by rw [hfa]; exact (show FrameKind.orderAck.consumer ≠ .spanUnit by decide)))

theorem told_tellLost (u : State) (f : TxFrame) : Told 1 u (u.tellLost .spanEnd f) := by
  have hnothing : Told 1 u u := (Told.refl u).mono (by omega)
  unfold State.tellLost
  cases f.tag with
  | plain => exact hnothing
  | forwarded gen n i d late =>
    dsimp only
    unfold State.forwardedLost
    split
    · exact hnothing
    · split
      exacts [(told_endOpenOrder u).1, hnothing]
  | leadOrder n =>
    dsimp only
    have hfollows := (opsKeep_follows u).leadOrderLost u n .spanEnd (.refl u)
    obtain ⟨d, m, a, r, h, hlen, hwf, hmem⟩ := leadOrderLost_shape u n .spanEnd
    rw [h] at hfollows ⊢
    exact ⟨rfl, rfl, rfl, rfl, rfl, rfl, rfl, Nat.le_refl _, by
      rw [show State.openCount { u with door := d, mem := m, tallies := a, raised := u.raised ++ r } = u.openCount from rfl, Nat.sub_self]
      exact ⟨fun x _ _ => ⟨[], Nat.zero_le _, by rw [List.append_nil]; cases x <;> rfl⟩, ⟨r, hlen, rfl⟩⟩, hwf, hmem,
      fun _ _ ho _ _ _ => .inl ho, hfollows⟩

theorem told_tellAll (fs : List TxFrame) : ∀ u : State, Told fs.length u (u.tellAll fs) := by
  induction fs with
  | nil => exact Told.refl
  | cons f fs ih =>
    intro u
    exact ((told_tellLost u f).trans (ih (u.tellLost .spanEnd f))).mono (by rw [List.length_cons]; omega)

/-- Frames without an ORDER of the lead are no matter of the doors. -/
theorem tellAll_door {fs : List TxFrame} (h : ∀ f ∈ fs, ∀ n : Byte, f.tag ≠ .leadOrder n) : ∀ u : State, (u.tellAll fs).door = u.door := by
  induction fs with
  | nil => exact fun _ => rfl
  | cons f fs ih =>
    intro u
    refine (ih (fun g hg => h g (List.mem_cons_of_mem _ hg)) (u.tellLost .spanEnd f)).trans ?_
    have hf := h f List.mem_cons_self
    unfold State.tellLost
    cases ht : f.tag with
    | plain => rfl
    | leadOrder n => exact absurd ht (hf n)
    | forwarded gen n i d late =>
      dsimp only
      unfold State.forwardedLost
      split
      · rfl
      · split
        exacts [(sends_endOpenOrder u _).door, rfl]

end

/-! ## What follows an exit (R21, R40) -/

/-- What follows the exit of an UP span is its report, with the frames of its queue told lost before or after it. -/
theorem exitFollows_form (u : State) (x : SpanId) {v : Span} (hup : v.state = .up) (cause : Cause) :
    ∃ (n : Nat) (before after : List TxFrame), before ++ after ⊆ v.queued ∧ before.length + after.length ≤ v.queued.length ∧
      u.exitFollows x v cause =
        ((State.tellAll { u with choices := n } before).spanDownReport x cause ((v.partner.map fun p => p.identity).getD 0)).tellAll after := by
  unfold State.exitFollows
  dsimp only
  rw [if_neg (not_not.mpr hup)]
  split
  · exact ⟨u.choices, [], [], by simp, Nat.zero_le _, rfl⟩
  · unfold State.eitherOrder
    dsimp only
    split
    · exact ⟨u.choices + 1, v.queued, [], by simp, by simp, rfl⟩
    · exact ⟨u.choices + 1, [], v.queued, by simp, by simp, rfl⟩

end Sys2Proof.Machine

/-!
The exit of an UP span and the state its report finds (R19 to R21, R40).
-/

namespace Sys2Proof.Machine

/-- The state of a step from `s` on in which span `x` has left UP, before anything follows (R11, R19, R20). -/
structure Parted (s : State) (dt : Nat) (x : SpanId) (cause : Cause) (e : State) : Prop where
  rest : ∃ (n : Nat) (rq : Requests) (bp : Bypass), e =
    { s.advance dt with choices := n, req := rq, bypass := bp, spanA := e.spanA, spanB := e.spanB }
  down : e.isUp x = false
  cause : (e.span x).lastCause = cause
  other : s.isUp (otherSpan x) = true → ∃ (q : List RxFrame) (b : Bool), e.span (otherSpan x) = { s.span (otherSpan x) with rxq := q, enable := b }
  otherDown : s.isUp (otherSpan x) = false → e.isUp (otherSpan x) = false

/-- `z` is `w` but for the answer that a waiting request of `s` may have been given. -/
structure Closing (s w z : State) : Prop where
  census : z.census = w.census
  table : z.table = w.table
  relay : z.relay = w.relay
  raised : z.raised = w.raised
  trail : z.trail = w.trail
  span : ∀ x : SpanId, z.span x = w.span x
  wf : w.mem.wf = true → z.mem.wf = true
  answered : ∀ (k : Nat) (o : SlotOutcome) (d : Byte) (r : List Byte), r.length ≤ 32 → w.mem.wf = true →
    (∀ q ∈ s.req.handed, q.slot ≠ k) → Machine.answered w k o d r → Machine.answered z k o d r

theorem Closing.refl (s w : State) : Closing s w w := ⟨rfl, rfl, rfl, rfl, rfl, fun _ => rfl, id, fun _ _ _ _ _ _ _ h => h⟩

theorem closing_complete {s : State} (w : State) {r : Request} (hr : r ∈ s.req.handed) : Closing s w (w.completeSpan r.slot .ok) := by
  rw [completeSpan_eq]
  exact ⟨complete_census _ _ _ _ _, complete_table _ _ _ _ _, complete_relay _ _ _ _ _, complete_raised _ _ _ _ _, complete_trail _ _ _ _ _,
    complete_span _ _ _ _ _, complete_wf _ _ _ _ _, fun k o d l hl hwf hne h => h.complete_other hl hwf (hne r hr)⟩

section
variable {s b t : State} {dt : Nat} {x : SpanId}

theorem exit_isUp (u : Span) (now : Nat) (cause : Cause) (target : ExitTo) : ((u.exit now cause target).state == .up) = false := by
  cases target <;> rfl

theorem exit_lastCause (u : Span) (now : Nat) (cause : Cause) (target : ExitTo) : (u.exit now cause target).lastCause = cause := by
  cases target <;> rfl

/-- With the other span no longer UP or not exiting, an exit is followed for span `x` alone (R21, R40). -/
theorem exitWhere_parted (h : Linking s dt b) {p : SpanId → Bool} (hp : p x = true)
    (hother : p (otherSpan x) = true → s.isUp (otherSpan x) = false) (target : ExitTo) (cause : Cause) :
    ∃ e : State, Parted s dt x cause e ∧ b.exitWhere p target cause = e.exitFollows x (b.span x) cause := by
  obtain ⟨e, he⟩ : ∃ e : State, b.exitedWhere p target cause = e := ⟨_, rfl⟩
  have hspan (y : SpanId) : e.span y = if p y then (b.span y).exit b.now cause target else b.span y := by
    rw [← he, exitedWhere_span]
  obtain ⟨n, rq, bp, hb⟩ := h.rest
  have hparted (m : Nat) : Parted s dt x cause { e with choices := m } := by
    have hspan' (y : SpanId) : State.span { e with choices := m } y = e.span y := by cases y <;> rfl
    refine ⟨⟨m, rq, bp, ?_⟩, ?_, ?_, fun hy => ?_, fun hy => ?_⟩
    · rw [← he]
      unfold State.exitedWhere
      rw [hb]
    · rw [State.isUp, hspan', hspan, if_pos hp]
      exact exit_isUp _ _ _ _
    · rw [hspan', hspan, if_pos hp]
      exact exit_lastCause _ _ _ _
    · rw [hspan', hspan, if_neg fun hpy => by rw [hother hpy] at hy; exact absurd hy (by decide)]
      exact h.spans _
    · rw [State.isUp, hspan', hspan]
      split
      · exact exit_isUp _ _ _ _
      · exact (h.isUp _).trans hy
  have hfollow (u : State) : b.following p cause (otherSpan x) u = u := by
    unfold State.following
    by_cases hpy : p (otherSpan x) = true
    · have hdown := hother hpy
      rw [← h.isUp] at hdown
      rw [if_pos hpy]
      unfold State.exitFollows
      exact if_pos (by simpa [State.isUp] using hdown)
    · exact if_neg hpy
  have hx (u : State) : b.following p cause x u = u.exitFollows x (b.span x) cause := if_pos hp
  rw [exitWhere_eq, he]
  by_cases hboth : (p .a && p .b) = true
  · refine ⟨{ e with choices := e.choices + 1 }, hparted _, ?_⟩
    rw [if_pos hboth]
    unfold State.eitherOrder
    cases x with
    | a => simp only [show ∀ u : State, b.following p cause .b u = u from hfollow, hx, ite_self]
    | b => simp only [show ∀ u : State, b.following p cause .a u = u from hfollow, hx, ite_self]
  · refine ⟨e, hparted e.choices, ?_⟩
    rw [if_neg hboth]
    cases x with
    | a => exact (hfollow _).trans (hx e)
    | b => exact (congrArg (b.following p cause .b) (hfollow e)).trans (hx e)

/-- A span that leaves UP, the other one standing: its report, with the frames of its queue told lost before or after it. -/
theorem linkExits_reported (h : LinkExits s dt x t) (hup : s.isUp x = true) (hother : s.isUp (otherSpan x) = true → t.isUp (otherSpan x) = true) :
    ∃ (cause : Cause) (e z : State) (lost : Word32) (before after : List TxFrame), Parted s dt x cause e ∧
      before ++ after ⊆ (s.span x).cur.toList ++ (s.span x).txq ∧ before.length + after.length ≤ ((s.span x).cur.toList ++ (s.span x).txq).length ∧
      Closing s (((e.tellAll before).spanDownReport x cause lost).tellAll after) z ∧ t = z.settle := by
  obtain ⟨b, p, target, cause, hb, hp, ht⟩ := h
  obtain ⟨z, hz, htz⟩ : ∃ z, Closing s (b.exitWhere p target cause) z ∧ t = z.settle := by
    obtain ht | ⟨r, hr, ht⟩ := ht
    exacts [⟨_, .refl _ _, ht⟩, ⟨_, closing_complete _ hr, ht⟩]
  have hy : p (otherSpan x) = true → s.isUp (otherSpan x) = false := by
    intro hpy
    rw [← Bool.not_eq_true]
    intro hsy
    have h1 := hother hsy
    rw [htz, State.isUp, settle_span, hz.span, (exitWhere_exits b p target cause).exits _ hpy, exit_isUp] at h1
    exact absurd h1 (by decide)
  obtain ⟨e, he, hwhere⟩ := exitWhere_parted hb hp hy target cause
  have hbx := hb.spans x
  obtain ⟨q, en, hbx⟩ := hbx
  obtain ⟨n, before, after, hsub, hlen, hform⟩ := exitFollows_form e x (v := b.span x) (by rw [hbx]; simpa [State.isUp] using hup) cause
  have hqueued : (b.span x).queued = (s.span x).cur.toList ++ (s.span x).txq := by
    rw [hbx]
    rfl
  rw [hqueued] at hsub hlen
  have he' : Parted s dt x cause { e with choices := n } := by
    obtain ⟨⟨m, rq, bp, hr⟩, h1, h2, h3, h4⟩ := he
    have hspan' (y : SpanId) : State.span { e with choices := n } y = e.span y := by cases y <;> rfl
    refine ⟨⟨n, rq, bp, by rw [hr]⟩, ?_, ?_, fun hy => ?_, fun hy => ?_⟩
    · rw [State.isUp, hspan']; exact h1
    · rw [hspan']; exact h2
    · rw [hspan']; exact h3 hy
    · rw [State.isUp, hspan']; exact h4 hy
  rw [hwhere, hform] at hz
  exact ⟨cause, _, z, _, before, after, he', hsub, hlen, hz, htz⟩

end

end Sys2Proof.Machine

/-!
The SPAN_DOWN report at a member (R54, R63, R84, R86).
-/

namespace Sys2Proof.Machine

/-- The SPAN_DOWN event raised (R21). -/
def State.downRaised (u : State) (x : SpanId) (cause : Cause) (lost : Word32) : State :=
  u.raise (spanSource x).toNat
    { kind := 2, source := spanSource x, position := u.eventPosition, detail := cause.code, value := lost }

theorem spanDownReport_eq (u : State) (x : SpanId) (cause : Cause) (lost : Word32) : u.spanDownReport x cause lost =
    (((u.downRaised x cause lost).relaySpanDown x).censusSpanDown x cause).reviewEnd := rfl

theorem emits_leaveCensus (s : State) : Emits 0 0 s s.leaveCensus := emits_enterCensus s _

theorem emits_memberSpanLost (s : State) (x : SpanId) (code : Byte) : Emits 1 2 s (s.memberSpanLost x code) := by
  unfold State.memberSpanLost
  split
  · exact (emits_sendBreak s x code).trans (emits_goStale _ _ _ _)
  · split
    · exact ((emits_sendVoid s _ _).trans (emits_leaveCensus _)).mono (Nat.le_refl _) (by omega)
    · exact .nothing s

theorem emits_leadSpanEvent (s : State) (x : SpanId) (cause : Byte) : Emits 0 1 s (s.leadSpanEvent x cause) :=
  (emits_goStale s _ _ _).trans (emits_startSettle _ _)

theorem emits_censusSpanDown (s : State) (x : SpanId) (cause : Cause) : Emits 1 2 s (s.censusSpanDown x cause) := by
  unfold State.censusSpanDown
  split
  · exact .ite (.ite (emits_failCensus s _ _) (.nothing s)) ((emits_leadSpanEvent s x _).mono (by omega) (by omega))
  · split
    case' h_8 | h_9 => exact emits_memberSpanLost s x _
    · exact .ite ((emits_leaveCensus s).mono (by omega) (by omega)) (((emits_send s _ _).trans (emits_leaveCensus _)).mono (by omega) (by omega))
    · exact .ite ((emits_leaveCensus s).mono (by omega) (by omega)) (.nothing s)
    all_goals exact .nothing s

theorem emits_spanDownReport (u : State) (x : SpanId) (cause : Cause) (lost : Word32) : Emits 4 6 u (u.spanDownReport x cause lost) := by
  rw [spanDownReport_eq]
  exact (((emits_raise u _ _).trans (emits_relaySpanDown _ x)).trans (emits_censusSpanDown _ x cause)).trans (emits_reviewEnd _)

section
variable {u : State} {x : SpanId} {cause : Cause} {lost : Word32} (hr : u.census.role = .member)
include hr

/-! ## Outside VALID and STALE (R54) -/

omit hr in
theorem spanDownReport_unlisted (hl : u.census.state.listed = false) (hafter : ((u.downRaised x cause lost).censusSpanDown x cause).census.state.listed = false) :
    u.spanDownReport x cause lost = (u.downRaised x cause lost).censusSpanDown x cause := by
  rw [spanDownReport_eq, relaySpanDown_unlisted (s := u.downRaised x cause lost) hl, reviewEnd_unlisted hafter]

theorem report_uncensused (hc : u.census.state = .uncensused) : (u.spanDownReport x cause lost).census = u.census := by
  have hsame := censusSpanDown_uncensused (s := u.downRaised x cause lost) hr hc x cause
  have hl : u.census.state.listed = false := by rw [hc]; rfl
  rw [spanDownReport_unlisted hl (by rw [hsame]; exact hl), hsame]
  rfl

theorem report_enlisted {k : Context} (hc : u.census.state = .enlisted) (hk : u.census.ctx = some k) :
    (u.spanDownReport x cause lost).census = { u.census with state := .uncensused, timerEnd := none } ∧
    (k.upstream = otherSpan x → (u.span (otherSpan x)).state = .up → (u.span (otherSpan x)).depth < 8 →
      waits (u.spanDownReport x cause lost) (otherSpan x) (reportAt k.position k.number k.lead .silent [])) ∧
    Emits 1 3 u (u.spanDownReport x cause lost) := by
  obtain ⟨v, hv⟩ : ∃ v, u.downRaised x cause lost = v := ⟨_, rfl⟩
  have hvc : v.census = u.census := by rw [← hv]; rfl
  have hvspan (y : SpanId) : v.span y = u.span y := by rw [← hv]; exact raise_span _ _ _ _
  have htakes : v.censusSpanDown x cause = if x = k.upstream then v.leaveCensus else v.reportSilent k := by
    unfold State.censusSpanDown
    simp only [hvc, hr, hc, hk]
  have hcensus : (v.censusSpanDown x cause).census = { u.census with state := .uncensused, timerEnd := none } := by
    rw [htakes, ← hvc]
    split
    exacts [leaveCensus_census v, reportSilent_census v k]
  have hreport : u.spanDownReport x cause lost = v.censusSpanDown x cause := by
    rw [spanDownReport_unlisted (by rw [hc]; rfl) (by rw [hv, hcensus]; rfl), hv]
  refine ⟨by rw [hreport, hcensus], fun hup hst hroom => ?_, ?_⟩
  case refine_2 =>
    rw [hreport, ← hv]
    exact (emits_raise u _ _).trans (emits_censusSpanDown _ x cause)
  rw [hreport, htakes, if_neg (by rw [hup]; cases x <;> decide)]
  unfold State.reportSilent
  rw [reportFrame_eq, censusPosition_member (by rw [hvc]; exact hr) (by rw [hvc]; exact hk), hup]
  exact waits_enterCensus (waits_send v _ (by rw [hvspan]; exact hst) (by rw [hvspan]; exact hroom))

theorem report_awaitTable {k : Context} (hc : u.census.state = .awaitTable) (hk : u.census.ctx = some k) :
    (k.upstream = x ∨ u.census.relayed = true →
      (u.spanDownReport x cause lost).census = { u.census with state := .uncensused, timerEnd := none }) ∧
    (k.upstream = otherSpan x → u.census.relayed = false → (u.spanDownReport x cause lost).census = u.census) := by
  obtain ⟨v, hv⟩ : ∃ v, u.downRaised x cause lost = v := ⟨_, rfl⟩
  have hvc : v.census = u.census := by rw [← hv]; rfl
  have hl : u.census.state.listed = false := by rw [hc]; rfl
  have htakes : v.censusSpanDown x cause = if x = k.upstream ∨ u.census.relayed = true then v.leaveCensus else v := by
    unfold State.censusSpanDown
    simp only [hvc, hr, hc, hk]
  refine ⟨fun h => ?_, fun hup hrelayed => ?_⟩
  · rw [if_pos (h.imp Eq.symm id)] at htakes
    have hcensus : (v.censusSpanDown x cause).census = { u.census with state := .uncensused, timerEnd := none } := by
      rw [htakes, ← hvc]
      exact leaveCensus_census v
    rw [spanDownReport_unlisted hl (by rw [hv, hcensus]; rfl), hv, hcensus]
  · rw [if_neg (by rw [hup, hrelayed]; cases x <;> decide)] at htakes
    rw [spanDownReport_unlisted hl (by rw [hv, htakes, hvc]; exact hl), hv, htakes, hvc]

/-! ## The upstream span in VALID or STALE (R63) -/

theorem report_cut (hl : u.census.state = .valid ∨ u.census.state = .stale) (hup : u.upstream = some x) :
    (u.spanDownReport x cause lost).census = { u.census with state := .uncensused, timerEnd := none } ∧
    (u.spanDownReport x cause lost).relay = Relay.empty ∧ (u.spanDownReport x cause lost).table = u.table ∧
    ((u.span (otherSpan x)).state = .up → (u.span (otherSpan x)).depth < 8 →
      waits (u.spanDownReport x cause lost) (otherSpan x) (censusFrameAt .void u.censusPosition u.table.gen
        (voidPayload u.table.number u.table.lead 10))) ∧
    Emits 1 3 u (u.spanDownReport x cause lost) := by
  obtain ⟨v, hv⟩ : ∃ v, u.downRaised x cause lost = v := ⟨_, rfl⟩
  have hvc : v.census = u.census := by rw [← hv]; rfl
  have hvt : v.table = u.table := by rw [← hv]; rfl
  have hvspan (y : SpanId) : v.span y = u.span y := by rw [← hv]; exact raise_span _ _ _ _
  have hvup : v.upstream = some x := (upstream_congr hvc hvt (by rw [← hv]; rfl)).trans hup
  have hvfront : v.front = some x := by
    unfold State.upstream at hvup
    rw [hvc, hr] at hvup
    exact hvup
  have hvdown : v.downstream = some (otherSpan x) := by
    unfold State.downstream
    rw [hvfront]
    rfl
  have hne : ¬(some (otherSpan x) = some x) := by cases x <;> decide
  have hrelay : v.relaySpanDown x = v := by
    unfold State.relaySpanDown
    rw [hvdown, if_neg fun h => hne h.2.2]
  obtain ⟨m, hm⟩ : ∃ m : VoidMark, m = { number := v.table.number, lead := v.table.lead, reason := FailReason.cut.code } := ⟨_, rfl⟩
  have htakes : v.censusSpanDown x cause = (v.sendVoid (otherSpan x) m).leaveCensus := by
    have hlost : v.censusSpanDown x cause = v.memberSpanLost x cause.code := by
      unfold State.censusSpanDown
      obtain h | h := hl <;> simp only [hvc, hr, h]
    rw [hlost]
    unfold State.memberSpanLost
    rw [hvdown, if_neg hne, if_pos hvup, hm]
  have hcensus : (v.censusSpanDown x cause).census = { u.census with state := .uncensused, timerEnd := none } := by
    rw [htakes, leaveCensus_census, sendVoid_census, hvc]
  have hreport : u.spanDownReport x cause lost = (v.sendVoid (otherSpan x) m).leaveCensus := by
    rw [spanDownReport_eq, hv, hrelay, reviewEnd_unlisted (by rw [hcensus]; rfl), htakes]
  obtain ⟨hrel, -, htab⟩ := enterCensus_unlisted (v.sendVoid (otherSpan x) m) .uncensused rfl
  have hvoid : (v.sendVoid (otherSpan x) m).table = u.table := by
    unfold State.sendVoid
    rw [apply_ite State.table, send_table, ite_self, hvt]
  rw [hreport, ← htakes]
  refine ⟨hcensus, by rw [htakes]; exact hrel, by rw [htakes]; exact htab.trans hvoid, fun hst hroom => ?_, ?_⟩
  case refine_2 =>
    rw [← hv]
    exact (emits_raise u _ _).trans (emits_censusSpanDown _ x cause)
  rw [htakes]
  refine waits_enterCensus ?_
  unfold State.sendVoid
  rw [if_pos (by unfold State.isUp; rw [hvspan, hst]; rfl)]
  have hframe : v.voidFrame m = censusFrameAt .void u.censusPosition u.table.gen (voidPayload u.table.number u.table.lead 10) := by
    unfold State.voidFrame
    rw [censusFrame_eq, hm, hvt, censusPosition_congr (s := u) (t := v) (by rw [hvc]) (by rw [hvc])]
    rfl
  rw [hframe]
  exact waits_send v _ (by rw [hvspan]; exact hst) (by rw [hvspan]; exact hroom)

end

end Sys2Proof.Machine

/-!
The SPAN_DOWN report of the downstream span at a member in VALID or STALE (R63, R84, R86, R89).
-/

namespace Sys2Proof.Machine

theorem becomeEnd_relay (s : State) : s.becomeEnd.relay = s.endArmed.relay := by
  have hone (v : State) (k : RollKind) : (v.originate k).relay = v.relay := by
    cases k with
    | doorState => exact sendIf_relay v _ _
    | demand =>
      show (State.sendIf (v.noteDemands [(v.table.own, v.demand)]) _ _).relay = v.relay
      rw [sendIf_relay, noteDemands_relay]
  rw [becomeEnd_eq, hone, hone]

/-- The BREAK of a member for its own span event (R48, R63). -/
theorem sendBreak_eq {s : State} {up : SpanId} (hup : s.upstream = some up) (x : SpanId) (code : Byte) :
    s.sendBreak x code = s.send up (ownBreak s x code) := by
  unfold State.sendBreak
  rw [hup]
  rfl

theorem ownBreak_congr {s t : State} (hc : t.census = s.census) (ht : t.table = s.table) (x : SpanId) (code : Byte) :
    ownBreak t x code = ownBreak s x code := by
  unfold ownBreak
  rw [censusPosition_congr (s := s) (t := t) (by rw [hc]) (by rw [hc]), ht]

theorem front_of_downstream {s : State} {x : SpanId} (h : s.downstream = some x) : s.front = some (otherSpan x) := by
  unfold State.downstream at h
  cases hf : s.front with
  | none => rw [hf] at h; exact nomatch h
  | some f =>
    rw [hf] at h
    rw [← (Option.some.inj h : otherSpan f = x)]
    cases f <;> rfl

theorem upstream_of_downstream {s : State} {x : SpanId} (hr : s.census.role = .member) (h : s.downstream = some x) :
    s.upstream = some (otherSpan x) := by
  unfold State.upstream
  rw [hr]
  exact front_of_downstream h

/-- What the loss of its downstream span leaves of a member in VALID or STALE (R63, R84, R86, R89). -/
structure DownLost (u r : State) (x : SpanId) (cause : Cause) : Prop where
  state : r.census.state = .stale
  gen : r.table.gen = u.table.gen
  brk : waits r (otherSpan x) (ownBreak u x cause.code)
  stale : u.census.state = .valid → { group := censusGroup, event := ownStale u x cause.code } ∈ r.raised
  openOrder : r.relay.openOrder = none
  acked : ∀ o : OpenOrder, u.relay.openOrder = some o → waits r (otherSpan x) (lostAck u o)
  endCar : r.relay.endCar = some true
  rolls : u.relay.endCar = some false → waits r (otherSpan x) (ownRoll u .doorState) ∧ waits r (otherSpan x) (ownRoll u .demand)
  emits : Emits (u.openCount + 3) 9 u r

theorem report_downstream {u : State} {x : SpanId} {cause : Cause} {lost : Word32} {b : Bool} (hr : u.census.role = .member)
    (hl : u.census.state = .valid ∨ u.census.state = .stale) (hd : u.downstream = some x) (hx : u.isUp x = false)
    (hst : (u.span (otherSpan x)).state = .up) (hroom : (u.span (otherSpan x)).depth + u.openCount ≤ 5) (hknown : u.relay.endCar = some b) :
    DownLost u (u.spanDownReport x cause lost) x cause := by
  obtain ⟨y, hy⟩ : ∃ y, otherSpan x = y := ⟨_, rfl⟩
  rw [hy] at hst hroom
  have hlisted : u.census.state.listed = true := (listed_iff _).mpr hl
  have hfront : u.front = some y := hy ▸ front_of_downstream hd
  obtain ⟨v, hv⟩ : ∃ v, u.downRaised x cause lost = v := ⟨_, rfl⟩
  have hvc : v.census = u.census := by rw [← hv]; rfl
  have hvt : v.table = u.table := by rw [← hv]; rfl
  have hvset : v.settings = u.settings := by rw [← hv]; rfl
  have hvr : v.relay = u.relay := by rw [← hv]; rfl
  have hvspan (z : SpanId) : v.span z = u.span z := by rw [← hv]; exact raise_span _ _ _ _
  have hvemits : Emits 0 1 u v := by rw [← hv]; exact emits_raise u _ _
  have hcount : v.openCount = u.openCount := by unfold State.openCount; rw [hvr]
  have hvdown : v.downstream = some x := by
    unfold State.downstream
    rw [front_congr hvc hvt hvset]
    exact hd
  -- the open order ends
  obtain ⟨w, hw⟩ : ∃ w, v.relaySpanDown x = w := ⟨_, rfl⟩
  obtain ⟨htold, hopen⟩ := told_endOpenOrder v
  have hend : v.endOpenOrder .spanEnd = w := by
    rw [← hw]
    unfold State.relaySpanDown
    exact (if_pos ⟨by rw [hvc]; exact hr, by rw [hvc]; exact hlisted, hvdown⟩).symm
  rw [hend] at htold hopen
  have hwc : w.census = u.census := htold.census.trans hvc
  have hwt : w.table = u.table := htold.table.trans hvt
  have hwset : w.settings = u.settings := htold.settings.trans hvset
  have hwfront : w.front = some y := (front_congr hwc hwt hwset).trans hfront
  have hwup : w.upstream = some y := by
    unfold State.upstream
    rw [hwc, hr]
    exact hwfront
  have hwemits := htold.emits
  rw [openCount_none hopen, hcount, Nat.sub_zero] at hwemits
  obtain ⟨hwst, hwdepth⟩ := hwemits.up (x := y) (by rw [hvspan]; exact hst) (by rw [hvspan]; omega)
  rw [hvspan] at hwdepth
  -- the BREAK and CONSIST_STALE
  obtain ⟨a, ha⟩ : ∃ a, w.sendBreak x cause.code = a := ⟨_, rfl⟩
  have hasend : a = w.send y (ownBreak u x cause.code) := by
    rw [← ha, sendBreak_eq hwup, ownBreak_congr hwc hwt]
  have hac : a.census = u.census := by rw [hasend, send_census, hwc]
  have hat : a.table = u.table := by rw [hasend, send_table, hwt]
  obtain ⟨g, hg⟩ : ∃ g, a.goStale (byte w.table.own) (endCode x) cause.code = g := ⟨_, rfl⟩
  obtain ⟨gspan, gtable, grelay, gset, -, -, -⟩ := goStale_rest a (byte w.table.own) (endCode x) cause.code
  obtain ⟨gstate, grole, -⟩ := goStale_listed a (byte w.table.own) (endCode x) cause.code (by rw [hac]; exact hl)
  rw [hg] at gspan gtable grelay gset gstate grole
  have hlost : w.censusSpanDown x cause = g := by
    have hdown : w.downstream = some x := by
      unfold State.downstream
      rw [hwfront, ← hy]
      cases x <;> rfl
    have hmember : w.censusSpanDown x cause = w.memberSpanLost x cause.code := by
      unfold State.censusSpanDown
      obtain h | h := hl <;> simp only [hwc, hr, h]
    rw [hmember]
    unfold State.memberSpanLost
    rw [if_pos hdown, ha, hg]
  have haemits : Emits 1 1 w a := by rw [hasend]; exact emits_send w _ _
  have hgemits : Emits 0 1 a g := by rw [← hg]; exact emits_goStale a _ _ _
  have hawaits : waits a y (ownBreak u x cause.code) := by
    rw [hasend]
    exact waits_send w _ hwst (by omega)
  obtain ⟨hast, hadepth⟩ := haemits.up (x := y) hwst (by omega)
  have gwaits {f : Frame} (h : waits a y f) : waits g y f := by
    unfold waits
    rw [gspan]
    exact h
  -- the first rolls
  have grole' : g.census.role = .member := by rw [grole, hac]; exact hr
  have glisted : g.census.state.listed = true := by rw [gstate]; rfl
  have gtable' : g.table = u.table := gtable.trans hat
  have gfront : g.front = some y := (front_of_listed hr grole' hlisted glisted gtable').trans hfront
  have gdown : g.downstream = some x := by
    unfold State.downstream
    rw [gfront, ← hy]
    cases x <;> rfl
  have hlinks : SameLinks u g := by
    intro z
    unfold State.isUp
    have h1 : (g.span z).state = (a.span z).state := by rw [gspan]
    have h2 : (a.span z).state = (w.span z).state := by
      have := sameLinks_send w y (ownBreak u x cause.code) z
      rw [← hasend] at this
      have h3 := ((opsKeep_follows w).send w y (ownBreak u x cause.code) (.refl w) (show FrameKind.brk.consumer ≠ .spanUnit by decide))
      rw [← hasend] at h3
      exact h3.state z
    rw [h1, h2, htold.follows.state, hvspan]
  have gend : g.isEndCar = true := by
    unfold State.isEndCar State.downstreamUp
    rw [grole', glisted, gdown]
    simp only [hlinks x, hx]
    simp
  have gups : g.upstream = some y := by
    unfold State.upstream
    rw [grole']
    exact gfront
  have grelayEnd : g.relay.endCar = some b := by
    rw [grelay, hasend, send_relay, htold.relay, hvr]
    exact hknown
  have gopen : g.relay.openOrder = none := by rw [grelay, hasend, send_relay]; exact hopen
  have hreport : u.spanDownReport x cause lost = g.reviewEnd := by
    rw [spanDownReport_eq, hv, hw, hlost]
  have hreview : g.reviewEnd = if b = true then g else g.becomeEnd := by
    unfold State.reviewEnd
    rw [if_pos ⟨grole', glisted⟩, if_pos gend, grelayEnd]
    cases b <;> rfl
  have hemits : Emits (u.openCount + 1) 7 u g := (((hvemits.trans hwemits).trans haemits).trans hgemits).mono (by omega) (by omega)
  have hrev : Emits 2 2 g g.reviewEnd := emits_reviewEnd g
  obtain ⟨hgst, hgdepth⟩ := hemits.up (x := y) hst (by omega)
  have hkeep {f : Frame} (h : waits g y f) : waits g.reviewEnd y f := hrev.waits hgst (by omega) h
  rw [hreport]
  refine ⟨by rw [reviewEnd_census]; exact gstate, ?_, ?_, fun hvalid => hrev.events.subset ?_, ?_, fun o ho => ?_, ?_, fun hb => ?_,
    (hemits.trans hrev).mono (by omega) (by omega)⟩
  · obtain ⟨⟨rs, hrs, -⟩, -, -, -⟩ := reviewEnd_rest g
    rw [hrs, gtable']
  · rw [hy]
    exact hkeep (gwaits hawaits)
  · have := goStale_raises a (byte w.table.own) (endCode x) cause.code (by rw [hac]; exact hvalid)
    rw [hg] at this
    unfold staleEvent at this
    rw [hat, hwt] at this
    exact this
  · rw [hreview]
    split
    · exact gopen
    · rw [becomeEnd_relay]
      exact gopen
  · rw [hy]
    have hovups : v.upstream = some y := (upstream_congr hvc hvt hvset).trans (by unfold State.upstream; rw [hr]; exact hfront)
    obtain hn | ⟨-, hack⟩ := htold.acked o y (by rw [hvr]; exact ho) hovups (by rw [hvspan]; exact hst)
      (by rw [hvspan]; rw [openCount_some ho] at hroom; omega)
    · rw [hopen] at hn
      exact nomatch hn
    · have hack' : waits w y (lostAck u o) := by
        have : lostAck v o = lostAck u o := by unfold lostAck; rw [hvt]
        rwa [this] at hack
      exact hkeep (gwaits (haemits.waits hwst (by omega) hack'))
  · rw [hreview]
    cases b with
    | true => exact grelayEnd
    | false =>
      rw [if_neg (by decide), becomeEnd_relay]
      rfl
  · obtain rfl : b = false := Option.some.inj (hknown.symm.trans hb)
    rw [hreview, if_neg (by decide), hy]
    obtain ⟨-, h1, h2⟩ := becomeEnd_sends gups hgst (by omega)
    have hdoor : g.door = u.door := by
      have h1 : g.door = a.door := by
        rw [← hg, goStale_eq]
        split <;> rfl
      rw [h1, hasend, send_door, ← hend, (sends_endOpenOrder v _).door, ← hv]
      rfl
    have hheat : g.heat = u.heat := by
      have h1 : g.heat = a.heat := by
        rw [← hg, goStale_eq]
        split <;> rfl
      rw [h1, hasend, send_heat, htold.heat, ← hv]
      rfl
    have hset : g.settings = u.settings := by rw [gset, hasend, send_settings, hwset]
    have hroll (k : RollKind) : ownRoll g k = ownRoll u k := by
      refine ownRoll_congr (gfront.trans hfront.symm) (fun j => ?_) (by rw [gtable']) (by rw [gtable']) ?_ k
      · cases j <;> simp [State.side, hdoor]
      · exact demand_congr hheat hset
    rw [← hroll, ← hroll]
    exact ⟨h1, h2⟩

end Sys2Proof.Machine

/-!
What the report of a span that has left UP finds, and what of it the step leaves (R19, R21, R40).
-/

namespace Sys2Proof.Machine

/-- `u` is what the SPAN_DOWN report of span `x` finds in a step from `s` to `t`, and `r` what the report leaves of it. -/
structure Departed (s : State) (dt : Nat) (t : State) (x : SpanId) (cause : Cause) (u r : State) : Prop where
  census : u.census = s.census
  table : u.table = s.table
  settings : u.settings = s.settings
  heat : u.heat = s.heat
  now : u.now = s.now + dt
  trail : u.trail = s.trail
  wf : u.mem.wf = true
  raised : u.raised.length ≤ 32
  relay : u.relay = { s.relay with openOrder := u.relay.openOrder }
  count : u.openCount ≤ s.openCount
  down : u.isUp x = false
  other : u.isUp (otherSpan x) = s.isUp (otherSpan x)
  queue : canSend s (otherSpan x) → (u.span (otherSpan x)).state = .up ∧ (u.span (otherSpan x)).depth + u.openCount ≤ 4 + s.openCount
  acked : ∀ o : OpenOrder, s.relay.openOrder = some o → s.upstream = some (otherSpan x) → canSend s (otherSpan x) →
    u.relay.openOrder = some o ∨ (u.relay.openOrder = none ∧ waits u (otherSpan x) (lostAck s o))
  door : (∀ f ∈ (s.span x).cur.toList ++ (s.span x).txq, ∀ n : Byte, f.tag ≠ .leadOrder n) → u.door = s.door
  left : (t.span x).state ≠ .up
  cause : (t.span x).lastCause = cause
  tcensus : t.census = r.census
  ttable : t.table = r.table
  trelay : t.relay = { r.relay with openOrder := t.relay.openOrder }
  tcount : t.openCount ≤ r.openCount
  keeps : ∀ f : Frame, (r.span (otherSpan x)).state = .up → (r.span (otherSpan x)).depth + r.openCount ≤ 8 →
    waits r (otherSpan x) f → waits t (otherSpan x) f
  records : ∀ (g : Nat) (e : Event), { group := g, event := e } ∈ r.raised → recordedIn s t e
  answers : r.door.outstanding = none → ∀ (k : Nat) (o : SlotOutcome) (d : Byte) (l : List Byte), l.length ≤ 32 → k < 16 →
    (∀ q ∈ s.req.handed, q.slot ≠ k) → answered r k o d l → answered t k o d l

/-- The answer of a slot stands while nothing but the spans and the waves of the car have acted. -/
theorem Told.answered {k n : Nat} {u w : State} {o : SlotOutcome} {d : Byte} {l : List Byte} (h : Told n u w) (hout : u.door.outstanding = none)
    (hl : l.length ≤ 32) (ha : answered u k o d l) : Machine.answered w k o d l :=
  ha.congr hl fun a _ _ => by rw [(h.mem hout).1]

section
variable {s t : State} {dt : Nat} {x : SpanId}

theorem Parted.fields {cause : Cause} {e : State} (h : Parted s dt x cause e) : e.census = s.census ∧ e.table = s.table ∧
    e.settings = s.settings ∧ e.heat = s.heat ∧ e.now = s.now + dt ∧ e.trail = s.trail ∧ e.mem = s.mem ∧ e.raised = s.raised ∧
    e.relay = s.relay ∧ e.door = s.door := by
  obtain ⟨n, rq, bp, he⟩ := h.rest
  rw [he]
  exact ⟨rfl, rfl, rfl, rfl, rfl, rfl, rfl, rfl, rfl, rfl⟩

/-- A link command that takes span `x` out of UP, and only this span, reports it. -/
theorem link_departed (hs : s.settled = true) (hwf : s.mem.wf = true) (hspans : s.spansSound) (hroom : trailRoom s) (h : LinkExits s dt x t)
    (hup : s.isUp x = true) (hother : s.isUp (otherSpan x) = true → t.isUp (otherSpan x) = true) :
    ∃ (cause : Cause) (lost : Word32) (u : State), Departed s dt t x cause u (u.spanDownReport x cause lost) := by
  obtain ⟨cause, e, z, lost, before, after, he, hsub, hlen, hz, ht⟩ := linkExits_reported h hup hother
  obtain ⟨y, hy⟩ : ∃ y, otherSpan x = y := ⟨_, rfl⟩
  obtain ⟨u, hu⟩ : ∃ u, e.tellAll before = u := ⟨_, rfl⟩
  obtain ⟨r, hr⟩ : ∃ r, u.spanDownReport x cause lost = r := ⟨_, rfl⟩
  obtain ⟨w, hw⟩ : ∃ w, r.tellAll after = w := ⟨_, rfl⟩
  rw [hu, hr, hw] at hz
  have hb : Told before.length e u := hu ▸ told_tellAll before e
  have ha : Told after.length r w := hw ▸ told_tellAll after r
  have hreport : Emits 4 6 u r := hr ▸ emits_spanDownReport u x cause lost
  obtain ⟨hec, het, heset, heheat, henow, hetrail, hemem, heraised, herelay, hedoor⟩ := he.fields
  have hcount : e.openCount = s.openCount := by unfold State.openCount; rw [herelay]
  have hdepth : before.length + after.length ≤ 8 := by
    have hx := (hspans.span x).1.2.1
    refine Nat.le_trans hlen ?_
    unfold Span.depth at hx
    rw [List.length_append]
    cases hc : (s.span x).cur <;> simp [hc] at hx ⊢ <;> omega
  have hraised : e.raised = [] := by rw [heraised]; exact raised_of_settled hs
  have hulen := hb.emits.events.length
  have hrlen := hreport.events.length
  have hwlen := ha.emits.events.length
  rw [hraised, List.length_nil] at hulen
  have hucensus : u.census = s.census := hb.census.trans hec
  have hutable : u.table = s.table := hb.table.trans het
  have huwf : u.mem.wf = true := hb.wf (by rw [hemem]; exact hwf)
  have hrwf : r.mem.wf = true := hr ▸ opsKeep_memWf.spanDownReport u x cause lost huwf
  have hutrail : u.trail = s.trail := hb.trail.trans hetrail
  have hrtrail : r.trail = s.trail := hr ▸ (opsKeep_trail s.trail).spanDownReport u x cause lost hutrail
  have hfollows : Follows e w := (hb.follows.trans (hr ▸ (opsKeep_follows u).spanDownReport u x cause lost (.refl u))).trans ha.follows
  have hzw : z.openCount = w.openCount := by unfold State.openCount; rw [hz.relay]
  have htrelay : t.relay = w.relay := by rw [ht, settle_relay, hz.relay]
  have hspan (v : SpanId) : t.span v = w.span v := by rw [ht, settle_span, hz.span]
  have hqueue (hcan : canSend s y) : (e.span y).state = .up ∧ (e.span y).depth = (s.span y).depth := by
    obtain ⟨q, en, hey⟩ := he.other (by rw [hy]; unfold State.isUp; rw [hcan.1]; rfl)
    rw [← hy, hey]
    exact ⟨by rw [hy]; exact hcan.1, rfl⟩
  refine ⟨cause, lost, u, ?_⟩
  rw [hr]
  exact {
    census := hucensus
    table := hutable
    settings := hb.settings.trans heset
    heat := hb.heat.trans heheat
    now := hb.now.trans henow
    trail := hutrail
    wf := huwf
    raised := by omega
    relay := by rw [hb.relay, herelay]
    count := by rw [← hcount]; exact hb.count
    down := by
      unfold State.isUp
      rw [hb.follows.state]
      exact he.down
    other := by
      unfold State.isUp
      rw [hb.follows.state]
      cases hsy : s.isUp (otherSpan x) with
      | false =>
        have := he.otherDown hsy
        unfold State.isUp at this hsy
        rw [this, hsy]
      | true =>
        obtain ⟨q, en, hey⟩ := he.other hsy
        rw [hey]
    queue := fun hcan => by
      rw [hy] at hcan ⊢
      obtain ⟨h1, h2⟩ := hqueue hcan
      have hle := hb.count
      have hone := openCount_le e
      have hfour := hcan.2
      obtain ⟨h3, h4⟩ := hb.emits.up h1 (by omega)
      exact ⟨h3, by omega⟩
    acked := fun o ho hups hcan => by
      rw [hy] at hups hcan ⊢
      obtain ⟨h1, h2⟩ := hqueue hcan
      have hfour := hcan.2
      have hlost : lostAck e o = lostAck s o := by unfold lostAck; rw [het]
      rw [← hlost]
      exact hb.acked o y (by rw [herelay]; exact ho) ((upstream_congr hec het heset).trans hups) h1 (by omega)
    door := fun hno => by
      rw [← hu, tellAll_door (fun f hf => hno f (hsub (List.mem_append_left _ hf))), hedoor]
    left := fun hst => by
      rw [hspan, hfollows.state] at hst
      have hdown := he.down
      unfold State.isUp at hdown
      rw [hst] at hdown
      exact absurd hdown (by decide)
    cause := by
      rw [hspan]
      have hsame := congrArg Span.lastCause (hfollows.besides x)
      exact (show (w.span x).lastCause = (e.span x).lastCause from hsame).trans he.cause
    tcensus := by rw [ht, settle_census, hz.census, ha.census]
    ttable := by rw [ht, settle_table, hz.table, ha.table]
    trelay := by rw [htrelay, ← ha.relay]
    tcount := by
      unfold State.openCount
      rw [htrelay]
      exact ha.count
    keeps := fun f hst hlen hw => by
      rw [hy] at hst hlen hw ⊢
      have hle := Nat.sub_le r.openCount w.openCount
      have := ha.emits.waits hst (by omega) hw
      unfold waits at this ⊢
      rwa [hspan]
    records := fun g e' hmem => by
      have hin : { group := g, event := e' } ∈ z.raised := by rw [hz.raised]; exact ha.emits.events.subset hmem
      rw [ht]
      exact settle_recordedEvent (by rw [hz.trail, ha.trail, hrtrail]) (hz.wf (ha.wf hrwf))
        (by rw [hz.raised]; unfold trailRoom at hroom; omega) hin
    answers := fun hout k o d l hl hk hne hans => by
      rw [ht]
      exact (hz.answered k o d l hl (ha.wf hrwf) hne (ha.answered hout hl hans)).settle hl hk (hz.wf (ha.wf hrwf)) }

end

end Sys2Proof.Machine

/-!
The loss of an UP span at a member (R54, R63, R84, R86): the first part of O19.
-/

namespace Sys2Proof.Machine

section
variable {s t u : State} {dt : Nat} {x : SpanId} {cause : Cause} {lost : Word32}
  (h : Departed s dt t x cause u (u.spanDownReport x cause lost))
include h

theorem Departed.position : u.censusPosition = s.censusPosition :=
  censusPosition_congr (by rw [h.census]) (by rw [h.census])

theorem Departed.upstream : u.upstream = s.upstream := upstream_congr h.census h.table h.settings

theorem Departed.front : u.front = s.front := front_congr h.census h.table h.settings

theorem Departed.downstream : u.downstream = s.downstream := by
  unfold State.downstream
  rw [h.front]

/-- What waits in the report goes on waiting, if the report has sent little. -/
theorem Departed.waits {n m : Nat} {f : Frame} (hemits : Emits n m u (u.spanDownReport x cause lost)) (hcan : canSend s (otherSpan x)) (hn : n ≤ 2)
    (hw : Machine.waits (u.spanDownReport x cause lost) (otherSpan x) f) : Machine.waits t (otherSpan x) f := by
  obtain ⟨h1, h2⟩ := h.queue hcan
  have hs := openCount_le s
  have hr := openCount_le (u.spanDownReport x cause lost)
  obtain ⟨h3, h4⟩ := hemits.up h1 (by omega)
  exact h.keeps f h3 (by omega) hw

theorem Departed.room (hcan : canSend s (otherSpan x)) :
    (u.span (otherSpan x)).state = .up ∧ (u.span (otherSpan x)).depth + u.openCount ≤ 5 := by
  obtain ⟨h1, h2⟩ := h.queue hcan
  have hs := openCount_le s
  exact ⟨h1, by omega⟩

variable (hr : s.census.role = .member)
include hr

/-- An ENLISTED member reports SILENT upstream and is UNCENSUSED (R54). -/
theorem lost_enlisted {k : Context} (hk : s.census.ctx = some k) (hc : s.census.state = .enlisted) :
    t.census.state = .uncensused ∧ t.census.timerEnd = none ∧ t.census.ctx = some k ∧
      (k.upstream = otherSpan x → canSend s (otherSpan x) →
        waits t (otherSpan x) (reportAt k.position k.number k.lead .silent [])) := by
  obtain ⟨hcensus, hwaits, hemits⟩ := report_enlisted (u := u) (x := x) (cause := cause) (lost := lost) (k := k)
    (by rw [h.census]; exact hr) (by rw [h.census]; exact hc) (by rw [h.census]; exact hk)
  rw [h.tcensus, hcensus, h.census]
  refine ⟨rfl, rfl, hk, fun hup hcan => ?_⟩
  obtain ⟨h1, h2⟩ := h.room hcan
  exact h.waits hemits hcan (by omega) (hwaits hup h1 (by omega))

/-- A member in AWAIT_TABLE leaves its census for the upstream span or once it has relayed an END (R54). -/
theorem lost_awaitTable {k : Context} (hk : s.census.ctx = some k) (hc : s.census.state = .awaitTable) :
    (k.upstream = x ∨ s.census.relayed = true →
      t.census.state = .uncensused ∧ t.census.timerEnd = none ∧ t.census.ctx = some k) ∧
    (k.upstream = otherSpan x → s.census.relayed = false → t.census = s.census) := by
  obtain ⟨hleaves, hstays⟩ := report_awaitTable (u := u) (x := x) (cause := cause) (lost := lost) (k := k)
    (by rw [h.census]; exact hr) (by rw [h.census]; exact hc) (by rw [h.census]; exact hk)
  rw [h.census] at hleaves hstays
  rw [h.tcensus]
  refine ⟨fun hor => ?_, hstays⟩
  rw [hleaves hor]
  exact ⟨rfl, rfl, hk⟩

theorem lost_uncensused (hc : s.census.state = .uncensused) : t.census = s.census := by
  rw [h.tcensus, report_uncensused (by rw [h.census]; exact hr) (by rw [h.census]; exact hc), h.census]

variable (hl : s.census.state = .valid ∨ s.census.state = .stale)
include hl

/-- A member in VALID or STALE that loses its upstream span leaves the census with a VOID of reason CUT downstream (R63). -/
theorem lost_upstream (hups : s.upstream = some x) : t.census.state = .uncensused ∧ t.census.role = .member ∧ t.relay = Relay.empty ∧
    t.table = s.table ∧ (canSend s (otherSpan x) → waits t (otherSpan x) (censusFrameAt .void s.censusPosition s.table.gen
      (voidPayload s.table.number s.table.lead 10))) := by
  obtain ⟨hcensus, hrelay, htable, hwaits, hemits⟩ := report_cut (u := u) (x := x) (cause := cause) (lost := lost)
    (by rw [h.census]; exact hr) (by rw [h.census]; exact hl) (h.upstream.trans hups)
  rw [h.position, h.table] at hwaits
  rw [h.tcensus, h.ttable, hcensus, htable, h.census]
  refine ⟨rfl, hr, ?_, h.table, fun hcan => ?_⟩
  · have hcount := h.tcount
    rw [openCount_none (u := u.spanDownReport x cause lost) (by rw [hrelay]; rfl)] at hcount
    rw [h.trelay, openOrder_none hcount, hrelay]
    rfl
  · obtain ⟨h1, h2⟩ := h.room hcan
    exact h.waits hemits hcan (by omega) (hwaits h1 (by omega))

/-- A member in VALID or STALE that loses its downstream span is STALE with a BREAK upstream, its open order ends, and it is the end
car (R63, R84, R86, R89). -/
theorem lost_downstream (hknown : endKnown s) (hdown : s.downstream = some x) (hcan : canSend s (otherSpan x)) :
    t.census.state = .stale ∧ t.table.gen = s.table.gen ∧ waits t (otherSpan x) (ownBreak s x cause.code) ∧
      (s.census.state = .valid → recordedIn s t (ownStale s x cause.code)) ∧ t.relay.openOrder = none ∧
      (∀ o : OpenOrder, s.relay.openOrder = some o → waits t (otherSpan x) (lostAck s o)) ∧ t.relay.endCar = some true ∧
      (s.isEndCar = false → (∀ f ∈ (s.span x).cur.toList ++ (s.span x).txq, ∀ n : Byte, f.tag ≠ .leadOrder n) →
        waits t (otherSpan x) (ownRoll s .doorState) ∧ waits t (otherSpan x) (ownRoll s .demand)) := by
  obtain ⟨h1, h2⟩ := h.room hcan
  have hend : s.relay.endCar = some s.isEndCar := hknown.1 hr ((listed_iff _).mpr hl)
  have huend : u.relay.endCar = some s.isEndCar := by rw [h.relay]; exact hend
  have hl' : u.census.state = .valid ∨ u.census.state = .stale := by rw [h.census]; exact hl
  have hlost : DownLost u (u.spanDownReport x cause lost) x cause :=
    report_downstream (by rw [h.census]; exact hr) hl' (h.downstream.trans hdown) h.down h1 h2 huend
  have hstale : ownStale u x cause.code = ownStale s x cause.code := by unfold ownStale; rw [h.table]
  have hbrk : ownBreak u x cause.code = ownBreak s x cause.code := ownBreak_congr h.census h.table _ _
  have hack (o : OpenOrder) : lostAck u o = lostAck s o := by unfold lostAck; rw [h.table]
  obtain ⟨h3, h4⟩ := hlost.emits.up h1 (by omega)
  have hopen := openCount_none hlost.openOrder
  have hkeep {f : Frame} (hw : waits (u.spanDownReport x cause lost) (otherSpan x) f) : waits t (otherSpan x) f :=
    h.keeps f h3 (by omega) hw
  have hnone : t.relay.openOrder = none := openOrder_none (hopen ▸ h.tcount)
  rw [h.tcensus, h.ttable]
  refine ⟨hlost.state, by rw [hlost.gen, h.table], hbrk ▸ hkeep hlost.brk, fun hv => ?_, hnone, fun o ho => ?_, ?_, fun hne hno => ?_⟩
  · rw [← hstale]
    exact h.records _ _ (hlost.stale (by rw [h.census]; exact hv))
  · obtain hopen' | ⟨hopen', hw⟩ := h.acked o ho (upstream_of_downstream hr hdown) hcan
    · rw [← hack]
      exact hkeep (hlost.acked o hopen')
    · exact hkeep (hlost.emits.waits h1 (by omega) hw)
  · rw [h.trelay]
    exact hlost.endCar
  · have hdoor := h.door hno
    have hroll (k : RollKind) : ownRoll u k = ownRoll s k := by
      refine ownRoll_congr h.front (fun j => ?_) (by rw [h.table]) (by rw [h.table]) (demand_congr h.heat h.settings) k
      cases j <;> simp [State.side, hdoor]
    obtain ⟨h5, h6⟩ := hlost.rolls (by rw [huend, hne])
    rw [hroll] at h5 h6
    exact ⟨hkeep h5, hkeep h6⟩

end

end Sys2Proof.Machine

/-!
Span events at a lead (R60, R64 to R66): what of O19 says the lead's census takes.
-/

namespace Sys2Proof.Machine

/-! ## A census that fails ends the outstanding order -/

theorem failCensus_outstanding {s : State} (hr : s.census.role = .lead) (reason : FailReason) (p : Byte) :
    (s.failCensus reason p).door.outstanding = none := by
  have henter : (s.enterCensus .uncensused).door.outstanding = none := by
    rw [enterCensus_leadUnlisted hr rfl]
    exact endOutstanding_outstanding (s.unlisted .uncensused) .aborted _ 0 0
  have hvoid : (s.voided reason).door.outstanding = none := by
    unfold State.voided State.sendVoid
    rw [apply_ite State.door, send_door, ite_self]
    exact henter
  obtain ⟨c, hc⟩ := failCensus_ended s reason p
  rw [hc]
  show ((s.voided reason).completeCensusSlot .aborted reason.code 0 p).door.outstanding = none
  unfold State.completeCensusSlot State.completeIf
  cases (s.voided reason).census.slot with
  | none => exact hvoid
  | some k => exact (congrArg Door.outstanding (complete_door _ _ _ _ _)).trans hvoid

/-- The census slot is no slot of a request handed on (R165, R168). -/
theorem census_slot_free {s : State} (hslots : s.slotsSound) {k : Nat} (hk : s.census.slot = some k) :
    k < 16 ∧ ∀ q ∈ s.req.handed, q.slot ≠ k := by
  obtain ⟨-, -, hnodup, -, hrange, -⟩ := hslots
  unfold State.holders at hnodup hrange
  rw [hk] at hnodup hrange
  refine ⟨hrange k (by simp), fun q hq hqk => ?_⟩
  have hin : k ∈ s.req.handed.map (fun r => r.slot) := List.mem_map.mpr ⟨q, hq, hqk⟩
  simp only [Option.toList_some, List.append_assoc, List.nodup_append, List.mem_append, List.mem_singleton] at hnodup
  exact hnodup.2.2 k hin k (.inr (.inl rfl)) rfl

/-! ## A span event outside a census (R64, R65) -/

/-- What a span event makes of a lead outside a census stands in every later state that keeps its census, its table and its event. -/
theorem leadGoesStale_kept {s u t : State} {x : SpanId} {code : Byte} (hr : s.census.role = .lead) (hc : u.census = s.census)
    (ht : u.table = s.table) (hset : u.settings = s.settings) (htc : t.census = (u.leadSpanEvent x code).census)
    (htt : t.table = (u.leadSpanEvent x code).table)
    (hevent : ∀ (g : Nat) (e : Event), { group := g, event := e } ∈ (u.leadSpanEvent x code).raised → recordedIn s t e) :
    leadGoesStale s t u.now x code := by
  obtain ⟨v, hv⟩ : ∃ v, u.goStale (byte u.table.own) (endCode x) code = v := ⟨_, rfl⟩
  obtain ⟨-, vtable, -, vset, -, -, vnow⟩ := goStale_rest u (byte u.table.own) (endCode x) code
  have vcensus := goStale_census u (byte u.table.own) (endCode x) code
  rw [hv] at vtable vset vnow vcensus
  rw [hc] at vcensus
  have hshape : u.leadSpanEvent x code = v.startSettle 0 := by rw [← hv]; rfl
  have hsettle : v.startSettle 0 = if s.settings.autoCensus = 1 then
      v.setCensus { v.census with settleEnd := some (u.now + 500 * ms), retry := 0 } else v := by
    unfold State.startSettle
    rw [vset, hset, vnow]
  have hbase : v.census.role = s.census.role ∧ v.census.number = s.census.number ∧ v.census.settleEnd = s.census.settleEnd ∧
      v.census.retry = s.census.retry ∧ (s.census.state = .valid → v.census.state = .stale) ∧
      (s.census.state ≠ .valid → v.census.state = s.census.state) := by
    rw [vcensus]
    split
    next h => exact ⟨rfl, rfl, rfl, rfl, fun _ => rfl, fun hn => absurd h hn⟩
    next h => exact ⟨rfl, rfl, rfl, rfl, fun hv => absurd hv h, fun _ => rfl⟩
  obtain ⟨hrole, hnumber, hend, hretry, hvalid, hother⟩ := hbase
  have htable : t.table = s.table := by
    rw [htt, hshape, hsettle]
    split
    exacts [vtable.trans ht, vtable.trans ht]
  rw [hshape, hsettle] at htc
  unfold leadGoesStale
  refine ⟨?_, ?_, htable, fun h => ⟨?_, hevent censusGroup _ ?_⟩, fun h => ?_, fun h => ?_, fun h => ?_⟩
  · rw [htc, apply_ite State.census, setCensus_census, apply_ite Census.role, hrole, ite_self]
    exact hr
  · rw [htc, apply_ite State.census, setCensus_census, apply_ite Census.number, hnumber, ite_self]
  · rw [htc, apply_ite State.census, setCensus_census, apply_ite Census.state, hvalid h, ite_self]
  · have := goStale_raises u (byte u.table.own) (endCode x) code (by rw [hc]; exact h)
    unfold staleEvent at this
    rw [hv, ht] at this
    rw [hshape]
    exact (emits_startSettle (s := v) 0).events.subset this
  · rw [htc, apply_ite State.census, setCensus_census, apply_ite Census.state, hother h, ite_self]
  · rw [htc, if_pos h]
    exact ⟨rfl, rfl⟩
  · rw [htc, if_neg h]
    exact ⟨hend, hretry⟩

/-! ## The loss of a span -/

section
variable {s t u : State} {dt : Nat} {x : SpanId} {cause : Cause} {lost : Word32}
  (h : Departed s dt t x cause u (u.spanDownReport x cause lost)) (hr : s.census.role = .lead)
include h hr

/-- Outside a census (R64, R65). -/
theorem lost_leadIdle (hb : s.census.state.busy = false) : leadGoesStale s t (s.now + dt) x cause.code := by
  obtain ⟨v, hv⟩ : ∃ v, u.downRaised x cause lost = v := ⟨_, rfl⟩
  have hreport : u.spanDownReport x cause lost = v.leadSpanEvent x cause.code :=
    (spanDownReport_lead (by rw [h.census]; exact hr) (by rw [h.census]; exact hb) x cause lost).trans (by rw [← hv]; rfl)
  have hvnow : v.now = s.now + dt := by rw [← hv]; exact h.now
  rw [← hvnow]
  have htc := h.tcensus
  have htt := h.ttable
  have hrec := h.records
  rw [hreport] at htc htt hrec
  exact leadGoesStale_kept hr (by rw [← hv]; exact h.census) (by rw [← hv]; exact h.table) (by rw [← hv]; exact h.settings) htc htt hrec

/-- In a census (R60): the train span's loss fails it, the cab-end span's does not. -/
theorem lost_leadBusy (hslots : s.slotsSound) (hb : s.census.state.busy = true) :
    (x = s.trainSpan → censusFails (s.setSpan x (t.span x)) t (s.now + dt) s.census.number s.census.slot .spanLost 0) ∧
    (x = s.cabSpan → t.census = s.census) := by
  obtain ⟨v, hv⟩ : ∃ v, u.downRaised x cause lost = v := ⟨_, rfl⟩
  have hvc : v.census = s.census := by rw [← hv]; exact h.census
  have hvt : v.table = s.table := by rw [← hv]; exact h.table
  have hvset : v.settings = s.settings := by rw [← hv]; exact h.settings
  have hvnow : v.now = s.now + dt := by rw [← hv]; exact h.now
  have hvr : v.census.role = .lead := by rw [hvc]; exact hr
  have hrelay : v.relaySpanDown x = v := by
    unfold State.relaySpanDown
    rw [if_neg fun h => absurd (h.1.symm.trans hvr) (by decide)]
  have hcensus : v.censusSpanDown x cause = if x = s.trainSpan then v.failCensus .spanLost 0 else v := by
    unfold State.censusSpanDown
    simp only [hvr]
    rw [if_pos (by rw [hvc]; exact hb), trainSpan_congr hvset]
  have hreport : u.spanDownReport x cause lost = (v.censusSpanDown x cause).reviewEnd := by rw [spanDownReport_eq, hv, hrelay]
  refine ⟨fun hx => ?_, fun hx => ?_⟩
  · have hreport : u.spanDownReport x cause lost = v.failCensus .spanLost 0 := by
      rw [hreport, hcensus, if_pos hx, reviewEnd_failCensus hvr]
    have htc := h.tcensus
    have htt := h.ttable
    have htrelay := h.trelay
    have htcount := h.tcount
    have hrec := h.records
    have hans := h.answers
    rw [hreport] at htc htt htrelay htcount hrec hans
    obtain ⟨hfrelay, -, -, hevent, -, -⟩ := failCensus_rest v .spanLost 0
    have hnone : t.relay.openOrder = none :=
      openOrder_none (by rwa [openCount_none (u := v.failCensus .spanLost 0) (by rw [hfrelay]; rfl)] at htcount)
    rw [← hvnow, ← setSpan_census s x (t.span x)]
    refine censusFails_kept (s := s.setSpan x (t.span x)) (u := v) .spanLost 0 (by rw [setSpan_census]; exact hr) (by rw [setSpan_census]; exact hvc)
      (by rw [setSpan_table]; exact hvt) (by rw [setSpan_settings]; exact hvset) htc htt (by rw [htrelay, hnone, hfrelay]; rfl)
      (fun hcan => ?_) (fun k hk hk16 => ?_) ?_
    · have htrain : (s.setSpan x (t.span x)).trainSpan = x := (trainSpan_congr (setSpan_settings _ _ _)).trans hx.symm
      have hup := hcan.1
      rw [htrain, setSpan_span] at hup
      exact absurd hup h.left
    · rw [setSpan_census] at hk
      obtain ⟨-, hfree⟩ := census_slot_free hslots hk
      have := failCensus_answers v .spanLost 0 (k := k) (by rw [hvc]; exact hk) (by rw [← hv]; exact h.wf)
      rw [hvc, hvt] at this
      rw [setSpan_census, setSpan_table]
      exact hans (failCensus_outstanding hvr _ _) k _ _ _ (by simp [le16]) hk16 hfree this
    · obtain ⟨j, hj, hat⟩ := hrec _ _ hevent
      exact ⟨j, by rwa [setSpan_trail], by rwa [setSpan_trail]⟩
  · have hreport : u.spanDownReport x cause lost = v := by
      rw [hreport, hcensus, if_neg (by rw [hx]; unfold State.trainSpan; cases s.cabSpan <;> decide), reviewEnd_lead hvr]
    rw [h.tcensus, hreport, hvc]

end

end Sys2Proof.Machine

/-!
The command that takes a span into UP (R13, R14): what the SPAN_UP report finds.
-/

namespace Sys2Proof.Machine

/-- In a step from `s` on only span `x` and the events have changed, with at most `n` of these. -/
structure Only (s : State) (dt : Nat) (x : SpanId) (n : Nat) (u : State) : Prop where
  census : u.census = s.census
  table : u.table = s.table
  settings : u.settings = s.settings
  relay : u.relay = s.relay
  mem : u.mem = s.mem
  trail : u.trail = s.trail
  now : u.now = s.now + dt
  raised : u.raised.length ≤ n
  other : ∃ q : List RxFrame, u.span (otherSpan x) = { s.span (otherSpan x) with rxq := q }

section
variable {s t u b : State} {dt n : Nat} {x : SpanId}

theorem only_advance (hs : s.settled = true) (x : SpanId) : Only s dt x 0 (s.advance dt) where
  census := rfl
  table := rfl
  settings := rfl
  relay := rfl
  mem := rfl
  trail := rfl
  now := rfl
  raised := by rw [show (s.advance dt).raised = s.raised from rfl, raised_of_settled hs]; exact Nat.le_refl _
  other := ⟨_, advance_span s dt _⟩

theorem Only.setSpan (h : Only s dt x n u) (v : Span) : Only s dt x n (u.setSpan x v) where
  census := (setSpan_census _ _ _).trans h.census
  table := (setSpan_table _ _ _).trans h.table
  settings := (setSpan_settings _ _ _).trans h.settings
  relay := (setSpan_relay _ _ _).trans h.relay
  mem := (setSpan_mem _ _ _).trans h.mem
  trail := (setSpan_trail _ _ _).trans h.trail
  now := (setSpan_now _ _ _).trans h.now
  raised := by rw [setSpan_raised]; exact h.raised
  other := by rw [setSpan_span_ne u x (otherSpan x) v (by cases x <;> decide)]; exact h.other

theorem Only.enqueueHello (h : Only s dt x n u) : Only s dt x (n + 1) (u.enqueueHello x) where
  census := (send_census u x _).trans h.census
  table := (send_table u x _).trans h.table
  settings := (send_settings u x _).trans h.settings
  relay := (send_relay u x _).trans h.relay
  mem := (sends_send u x _).mem.trans h.mem
  trail := (sends_send u x _).trail.trans h.trail
  now := (send_now u x _).trans h.now
  raised := by
    have := h.raised
    exact Nat.le_trans (sends_send u x (unitFrame .hello)).raises.length (by omega)
  other := by
    have hspan : (u.enqueueHello x).span (otherSpan x) = u.span (otherSpan x) := by
      unfold State.enqueueHello State.send
      rw [offer_keeps]
      exact setSpan_span_ne u x (otherSpan x) _ (by cases x <;> decide)
    rw [hspan]
    exact h.other

theorem Only.mono {m : Nat} (h : Only s dt x n u) (hn : n ≤ m) : Only s dt x m u := { h with raised := Nat.le_trans h.raised hn }

/-- Span `x` has come UP in a step from `s` to `t`: its report ends the step. -/
def Arrives (s : State) (dt : Nat) (x : SpanId) (t : State) : Prop :=
  ∃ (u : State) (p : Partner), Only s dt x 2 u ∧ u.isUp x = true ∧ t = (u.spanUpReport x p).settle

theorem exitWhere_down (b : State) (p : SpanId → Bool) (hdown : b.isUp x = false) (target : ExitTo) (cause : Cause) :
    (b.exitWhere p target cause).isUp x = false := by
  cases hp : p x with
  | true =>
    unfold State.isUp
    rw [(exitWhere_exits b p target cause).exits x hp]
    exact exit_isUp _ _ _ _
  | false => exact (exitWhere_isUp b hp target cause).trans hdown

theorem exitSpan_down (b : State) (hdown : b.isUp x = false) (target : ExitTo) (cause : Cause) :
    (b.exitSpan x target cause).isUp x = false := by
  rw [exitSpan_eq_where]
  exact exitWhere_down b _ hdown target cause

theorem greet_arrives (h : Only s dt x 1 b) (hdown : b.isUp x = false) (m : HelloMsg) :
    Arrives s dt x (b.greet x m).settle ∨ (b.greet x m).isUp x = false := by
  unfold State.greet
  split_ifs
  · exact .inr (exitSpan_down b hdown _ _)
  · refine .inl ⟨_, _, (h.setSpan _).enqueueHello, ?_, rfl⟩
    rw [State.enqueueHello, sameLinks_send, State.isUp, setSpan_span]
    rfl
  · right
    rw [State.isUp, setSpan_span]
    exact hdown

theorem takeHello_arrives (h : Only s dt x 0 b) (hdown : b.isUp x = false) (f : Frame) :
    Arrives s dt x (b.takeHello x f).settle ∨ (b.takeHello x f).isUp x = false := by
  have hgreet (m : HelloMsg) := greet_arrives (h.mono (Nat.zero_le _)) hdown m
  have hsearch (m : HelloMsg) : Arrives s dt x (b.helloWhileSearching x m).settle ∨ (b.helloWhileSearching x m).isUp x = false := by
    unfold State.helloWhileSearching
    split_ifs
    · exact .inr (exitSpan_down b hdown _ _)
    · exact .inr hdown
    · refine greet_arrives (b := b.enterGreeting x) (h.setSpan _).enqueueHello ?_ m
      unfold State.enterGreeting
      rw [State.enqueueHello, sameLinks_send, State.isUp, setSpan_span]
      rfl
  unfold State.takeHello
  cases parseHello f with
  | none => exact .inr hdown
  | some m =>
    dsimp only
    split
    next => exact hsearch m
    next => exact hsearch m
    next => exact hgreet m
    next hup =>
      unfold State.isUp at hdown
      rw [hup] at hdown
      exact absurd hdown (by decide)
    next => exact .inr hdown
    next => exact .inr hdown

theorem takeKeepalive_down (hdown : b.isUp x = false) (f : Frame) : b.takeKeepalive x f = b := by
  unfold State.takeKeepalive
  split
  next hup _ _ =>
    unfold State.isUp at hdown
    rw [hup] at hdown
    exact absurd hdown (by decide)
  next => rfl

theorem serve_down {p : Request → Bool} {f : Request → State → State} (hdown : b.isUp x = false)
    (hf : ∀ (r : Request) (v : State), v.isUp x = false → (f r v).isUp x = false) : (b.serve p f).isUp x = false := by
  obtain ⟨⟨q, rest⟩, h⟩ : ∃ q, takeRequest p b.req.handed = q := ⟨_, rfl⟩
  cases q with
  | none =>
    rw [serve_none b p f rest h]
    exact hdown
  | some r =>
    rw [serve_some b p f r rest h]
    exact hf r _ (by cases x <;> exact hdown)

theorem takeFrame_down {kind : FrameKind} {f : RxFrame → State → State} (hdown : b.isUp x = false)
    (hf : ∀ (r : RxFrame) (v : State), v.isUp x = false → (f r v).isUp x = false) : (b.takeFrame x kind f).isUp x = false := by
  unfold State.takeFrame
  dsimp only
  split
  · split
    · refine hf _ _ ?_
      rw [State.isUp, setSpan_span]
      exact hdown
    · exact hdown
  · exact hdown

/-- A link command that takes a span into UP is a HELLO, and the SPAN_UP report ends its step. -/
theorem link_arrives (hs : s.settled = true) {c : Instr} (h : linkCommand c dt x) (hc : exec c s = .next t) (hdown : s.isUp x = false)
    (hup : t.isUp x = true) : Arrives s dt x t := by
  have hcases {f : State → State} (hrun : exec c s = .next (s.run dt f))
      (hf : Arrives s dt x (f (s.advance dt)).settle ∨ (f (s.advance dt)).isUp x = false) : Arrives s dt x t := by
    have ht : t = (f (s.advance dt)).settle := by
      rw [exec_run hrun rfl] at hc
      exact (Host.Outcome.next.inj hc).symm
    obtain harrives | hstay := hf
    · rwa [ht]
    · rw [ht, State.isUp, settle_span] at hup
      exact absurd (hup.symm.trans hstay) (by decide)
  have hadvance : (s.advance dt).isUp x = false := (linking_advance.isUp x).trans hdown
  have hexit {p : Prop} [Decidable p] (hp : p → (s.span x).state = .up) (v : State) : (if p then v else s.advance dt) = s.advance dt := by
    refine if_neg fun h => ?_
    unfold State.isUp at hdown
    rw [hp h] at hdown
    exact absurd hdown (by decide)
  obtain rfl | rfl | rfl | rfl | rfl | rfl | rfl := h
  · refine hcases (f := fun t => t.takeFrame x .hello fun r u => u.takeHello x r.frame) rfl ?_
    unfold State.takeFrame
    rw [advance_span]
    dsimp only
    split
    · split
      · refine takeHello_arrives ((only_advance hs x).setSpan _) ?_ _
        rw [State.isUp, setSpan_span]
        exact hdown
      · exact .inr hadvance
    · exact .inr hadvance
  · refine hcases (f := fun t => t.takeFrame x .keepalive fun r u => u.takeKeepalive x r.frame) rfl (.inr ?_)
    exact takeFrame_down hadvance fun r v hv => by rw [takeKeepalive_down hv]; exact hv
  · refine hcases (f := fun t => if (t.span x).state = .up ∧ t.reached (t.span x).silenceEnd = true then t.exitSpan x .probing .silence else t)
      rfl (.inr ?_)
    rw [hexit fun h => by rw [advance_span] at h; exact h.1]
    exact hadvance
  · refine hcases (f := fun t => if (t.span x).state = .up ∧ 32 ≤ (t.span x).bucket then t.exitSpan x .probing .errors else t) rfl (.inr ?_)
    rw [hexit fun h => by rw [advance_span] at h; exact h.1]
    exact hadvance
  · refine hcases (f := fun t => t.serve (fun r => r.spanAction 2) fun r u => u.withSelector r fun sel v =>
        ((v.disableSpans sel).exitWhere (fun x => selects sel x && (v.span x).state != .off) .off .disabled).completeSpan r.slot .ok) rfl
      (.inr (serve_down hadvance fun r v hv => ?_))
    unfold State.withSelector
    split
    · rw [completeSpan_isUp]
      refine exitWhere_down _ _ ?_ _ _
      rw [State.isUp, disableSpans_span, apply_ite Span.state, ite_self]
      exact hv
    · rw [completeSpan_isUp]
      exact hv
  · refine hcases (f := fun t => t.serve (fun r => r.spanAction 3) fun r u => u.withSelector r fun sel v =>
        let isOff (x : SpanId) : Bool := selects sel x && (v.span x).state == .off
        if isOff .a || isOff .b then v.completeSpan r.slot .refusedState
        else (v.exitWhere (selects sel) .probing .hostRestart).completeSpan r.slot .ok) rfl (.inr (serve_down hadvance fun r v hv => ?_))
    unfold State.withSelector
    split
    · dsimp only
      split
      · rw [completeSpan_isUp]
        exact hv
      · rw [completeSpan_isUp]
        exact exitWhere_down v _ hv _ _
    · rw [completeSpan_isUp]
      exact hv
  · refine hcases (f := fun t => t.serve (fun r => r.spanAction 4) fun r u =>
        match u.bypass.relay with
        | .opened => (u.switchRelay false r.slot).exitWhere (fun x => (u.span x).state != .off) .off .bypassed
        | .closed => u.completeSpan r.slot .ok
        | .switching => u.completeSpan r.slot .refusedBusy) rfl (.inr (serve_down hadvance fun r v hv => ?_))
    cases v.bypass.relay with
    | opened => exact exitWhere_down _ _ (by cases x <;> exact hv) _ _
    | closed =>
      dsimp only
      rw [completeSpan_isUp]
      exact hv
    | switching =>
      dsimp only
      rw [completeSpan_isUp]
      exact hv

end

end Sys2Proof.Machine

/-!
The span events at the census (R54, R60, R63 to R65, R84, R86): O19.
-/

namespace Sys2Proof.Machine

/-- The SPAN_UP event raised (R21). -/
def State.upRaised (u : State) (x : SpanId) (p : Partner) : State :=
  u.raise (spanSource x).toNat
    { kind := 1, source := spanSource x, position := u.eventPosition, detail := p.endCode, value := p.identity }

theorem spanUpReport_eq (u : State) (x : SpanId) (p : Partner) : u.spanUpReport x p = ((u.upRaised x p).censusSpanUp x).reviewEnd := rfl

/-- A fresh look at the end-car status of a car known as the end car changes no table and leaves the status known (R84). -/
theorem reviewEnd_wasEnd {s : State} (hr : s.census.role = .member) (hl : s.census.state.listed = true) (h : s.relay.endCar = some true) :
    s.reviewEnd.table = s.table ∧ s.reviewEnd.relay.endCar = some s.reviewEnd.isEndCar ∧ ∀ x : SpanId, s.reviewEnd.span x = s.span x := by
  unfold State.reviewEnd
  rw [if_pos ⟨hr, hl⟩, h]
  cases he : s.isEndCar with
  | true => exact ⟨rfl, h.trans (congrArg some he.symm), fun _ => rfl⟩
  | false => exact ⟨rfl, congrArg some he.symm, fun x => by cases x <;> rfl⟩

theorem emits_censusSpanUp (s : State) (x : SpanId) : Emits 1 2 s (s.censusSpanUp x) := by
  unfold State.censusSpanUp
  split
  · exact .ite (.ite (emits_failCensus s _ _) (.nothing s)) ((emits_leadSpanEvent s x _).mono (by omega) (by omega))
  · exact .ite ((emits_sendBreak s x _).trans (emits_goStale _ _ _ _)) (.nothing s)

theorem emits_spanUpReport (u : State) (x : SpanId) (p : Partner) : Emits 3 5 u (u.spanUpReport x p) := by
  rw [spanUpReport_eq]
  exact ((emits_raise u _ _).trans (emits_censusSpanUp _ x)).trans (emits_reviewEnd _)

section
variable {s u : State} {dt : Nat} {x : SpanId} {p : Partner} (h : Only s dt x 2 u)
include h

theorem Only.report_wf (hwf : s.mem.wf = true) : (u.spanUpReport x p).mem.wf = true :=
  opsKeep_memWf.spanUpReport u x p (by rw [h.mem]; exact hwf)

/-- The events of the report are recorded. -/
theorem Only.records (hwf : s.mem.wf = true) (hroom : trailRoom s) {g : Nat} {e : Event}
    (hin : { group := g, event := e } ∈ (u.spanUpReport x p).raised) : recordedIn s (u.spanUpReport x p).settle e := by
  have hlen := (emits_spanUpReport u x p).events.length
  have hu := h.raised
  exact settle_recordedEvent ((opsKeep_trail s.trail).spanUpReport u x p h.trail) (h.report_wf hwf)
    (by unfold trailRoom at hroom; omega) hin

theorem Only.canSend (hcan : canSend s (otherSpan x)) : Machine.canSend u (otherSpan x) := by
  obtain ⟨q, hq⟩ := h.other
  unfold Machine.canSend
  rw [hq]
  exact hcan

/-- The downstream span of a member in VALID or STALE comes UP: STALE, with a BREAK of cause JOINED (R63, R84). -/
theorem arrived_downstream (hwf : s.mem.wf = true) (hroom : trailRoom s) (hknown : endKnown s) (hr : s.census.role = .member)
    (hl : s.census.state = .valid ∨ s.census.state = .stale) (hx : s.isUp x = false) (hdown : s.downstream = some x)
    (hcan : Machine.canSend s (otherSpan x)) :
    let t := (u.spanUpReport x p).settle
    t.census.state = .stale ∧ t.table = s.table ∧ waits t (otherSpan x) (ownBreak s x 10) ∧
      (s.census.state = .valid → recordedIn s t (ownStale s x 10)) ∧ t.relay.endCar = some t.isEndCar := by
  have hlisted : s.census.state.listed = true := (listed_iff _).mpr hl
  obtain ⟨hst, hroomq⟩ := h.canSend hcan
  obtain ⟨v, hv⟩ : ∃ v, u.upRaised x p = v := ⟨_, rfl⟩
  have hvc : v.census = s.census := by rw [← hv]; exact h.census
  have hvt : v.table = s.table := by rw [← hv]; exact h.table
  have hvset : v.settings = s.settings := by rw [← hv]; exact h.settings
  have hvrelay : v.relay = s.relay := by rw [← hv]; exact h.relay
  have hvspan (y : SpanId) : v.span y = u.span y := by rw [← hv]; exact raise_span _ _ _ _
  have hvfront : v.front = s.front := front_congr hvc hvt hvset
  obtain ⟨a, ha⟩ : ∃ a, v.sendBreak x joinedCode = a := ⟨_, rfl⟩
  have hasend : a = v.send (otherSpan x) (ownBreak s x joinedCode) := by
    rw [← ha, sendBreak_eq ((upstream_congr hvc hvt hvset).trans (upstream_of_downstream hr hdown)), ownBreak_congr hvc hvt]
  have hac : a.census = s.census := by rw [hasend, send_census, hvc]
  have hat : a.table = s.table := by rw [hasend, send_table, hvt]
  obtain ⟨g, hg⟩ : ∃ g, a.goStale (byte v.table.own) (endCode x) joinedCode = g := ⟨_, rfl⟩
  obtain ⟨gspan, gtable, grelay, -⟩ := goStale_rest a (byte v.table.own) (endCode x) joinedCode
  obtain ⟨gstate, grole, -⟩ := goStale_listed a (byte v.table.own) (endCode x) joinedCode (by rw [hac]; exact hl)
  rw [hg] at gspan gtable grelay gstate grole
  have hreport : u.spanUpReport x p = g.reviewEnd := by
    have hup : v.censusSpanUp x = (v.sendBreak x joinedCode).goStale (byte v.table.own) (endCode x) joinedCode := by
      unfold State.censusSpanUp
      simp only [hvc, hr]
      exact if_pos ⟨hlisted, by unfold State.downstream; rw [hvfront]; exact hdown⟩
    rw [spanUpReport_eq, hv, hup, ha, hg]
  have hwasEnd : s.isEndCar = true := by
    unfold State.isEndCar State.downstreamUp
    rw [hr, hlisted, hdown]
    simp only [hx]
    simp
  have gend : g.relay.endCar = some true := by
    rw [grelay, hasend, send_relay, hvrelay, hknown.1 hr hlisted, hwasEnd]
  obtain ⟨htable, hend, hspan⟩ := reviewEnd_wasEnd (s := g) (by rw [grole, hac]; exact hr) (by rw [gstate]; rfl) gend
  have hrev : g.reviewEnd.census.role = .member ∧ g.reviewEnd.census.state.listed = true := by
    rw [reviewEnd_census, grole, hac, gstate]
    exact ⟨hr, rfl⟩
  have hendCar : g.reviewEnd.settle.isEndCar = g.reviewEnd.isEndCar :=
    isEndCar_of_listed hrev.1 (by rw [settle_census]; exact hrev.1) hrev.2 (by rw [settle_census]; exact hrev.2) (settle_table _)
      fun y => by unfold State.isUp; rw [settle_span]
  dsimp only
  rw [hreport, settle_census, settle_table, settle_relay, hendCar, reviewEnd_census]
  refine ⟨gstate, by rw [htable, gtable, hat], waits_settle ?_, fun hval => ?_, hend⟩
  · have hw : waits a (otherSpan x) (ownBreak s x joinedCode) := by
      rw [hasend]
      exact waits_send v _ (by rw [hvspan]; exact hst) (by rw [hvspan]; omega)
    unfold waits at hw ⊢
    rw [hspan, gspan]
    exact hw
  · have hin := goStale_raises a (byte v.table.own) (endCode x) joinedCode (by rw [hac]; exact hval)
    unfold staleEvent at hin
    rw [hg, hat, hvt] at hin
    rw [← hreport]
    refine h.records (p := p) (g := censusGroup) hwf hroom ?_
    rw [hreport]
    exact (emits_reviewEnd g).events.subset hin

/-- Any other span that comes UP is no matter of a member's census. -/
theorem arrived_elsewhere (hr : s.census.role = .member)
    (hno : ¬((s.census.state = .valid ∨ s.census.state = .stale) ∧ s.downstream = some x)) :
    (u.spanUpReport x p).settle.census = s.census := by
  have hdown : (u.upRaised x p).downstream = s.downstream := by
    unfold State.downstream
    rw [front_congr (s := s) (t := u.upRaised x p) h.census h.table h.settings]
  have hsame : (u.upRaised x p).censusSpanUp x = u.upRaised x p := by
    unfold State.censusSpanUp
    have hc : (u.upRaised x p).census = s.census := h.census
    simp only [hc, hr]
    exact if_neg fun hyes => hno ⟨(listed_iff _).mp hyes.1, hdown ▸ hyes.2⟩
  rw [settle_census, spanUpReport_eq, reviewEnd_census, hsame]
  exact h.census

variable (hr : s.census.role = .lead)
include hr

theorem arrived_leadIdle (hwf : s.mem.wf = true) (hroom : trailRoom s) (hb : s.census.state.busy = false) :
    leadGoesStale s (u.spanUpReport x p).settle (s.now + dt) x joinedCode := by
  obtain ⟨v, hv⟩ : ∃ v, u.upRaised x p = v := ⟨_, rfl⟩
  have hvc : v.census = s.census := by rw [← hv]; exact h.census
  have hvnow : v.now = s.now + dt := by rw [← hv]; exact h.now
  have hreport : u.spanUpReport x p = v.leadSpanEvent x joinedCode := by
    have hup : v.censusSpanUp x = v.leadSpanEvent x joinedCode := by
      unfold State.censusSpanUp
      simp only [hvc, hr]
      exact if_neg (by rw [hb]; exact Bool.false_ne_true)
    have hrole : (v.leadSpanEvent x joinedCode).census.role = .lead := by
      have hkeeps := (goStale_keeps (u := v) (byte v.table.own) (endCode x) joinedCode).trans (startSettle_keeps 0)
      exact hkeeps.role.trans (by rw [hvc]; exact hr)
    rw [spanUpReport_eq, hv, hup, reviewEnd_lead hrole]
  rw [← hvnow]
  refine leadGoesStale_kept hr hvc (by rw [← hv]; exact h.table) (by rw [← hv]; exact h.settings) (by rw [settle_census, hreport])
    (by rw [settle_table, hreport]) fun g e hin => ?_
  rw [← hreport] at hin
  exact h.records hwf hroom hin

/-- A lead in a census whose cab-end span comes UP fails it (R60). -/
theorem arrived_leadBusy (hslots : s.slotsSound) (hroom : trailRoom s) (hb : s.census.state.busy = true) :
    (x = s.cabSpan → censusFails s (u.spanUpReport x p).settle (s.now + dt) s.census.number s.census.slot .leadNotAtEnd 0) ∧
    (x = s.trainSpan → (u.spanUpReport x p).settle.census = s.census) := by
  obtain ⟨v, hv⟩ : ∃ v, u.upRaised x p = v := ⟨_, rfl⟩
  have hvc : v.census = s.census := by rw [← hv]; exact h.census
  have hvt : v.table = s.table := by rw [← hv]; exact h.table
  have hvset : v.settings = s.settings := by rw [← hv]; exact h.settings
  have hvmem : v.mem = s.mem := by rw [← hv]; exact h.mem
  have hvnow : v.now = s.now + dt := by rw [← hv]; exact h.now
  have hvspan (y : SpanId) : v.span y = u.span y := by rw [← hv]; exact raise_span _ _ _ _
  have hvr : v.census.role = .lead := by rw [hvc]; exact hr
  have hcensus : v.censusSpanUp x = if x = s.cabSpan then v.failCensus .leadNotAtEnd 0 else v := by
    have hcab : v.cabSpan = s.cabSpan := by unfold State.cabSpan; rw [hvset]
    unfold State.censusSpanUp
    simp only [hvr]
    rw [if_pos (by rw [hvc]; exact hb), hcab]
  refine ⟨fun hx => ?_, fun hx => ?_⟩
  · have hreport : u.spanUpReport x p = v.failCensus .leadNotAtEnd 0 := by
      rw [spanUpReport_eq, hv, hcensus, if_pos hx, reviewEnd_failCensus hvr]
    have htrain : v.trainSpan = otherSpan x := (trainSpan_congr hvset).trans (by rw [hx]; rfl)
    have hstrain : s.trainSpan = otherSpan x := by rw [hx]; rfl
    obtain ⟨hrelay, -, -, hevent, -, -⟩ := failCensus_rest v .leadNotAtEnd 0
    rw [← hvnow]
    refine censusFails_kept .leadNotAtEnd 0 hr hvc hvt hvset (by rw [settle_census, hreport]) (by rw [settle_table, hreport])
      (by rw [settle_relay, hreport, hrelay]) (fun hcan => waits_settle ?_) (fun k hk hk16 => ?_) ?_
    · rw [hstrain] at hcan ⊢
      obtain ⟨hst, hlen⟩ := h.canSend hcan
      have hvoid := failCensus_void v .leadNotAtEnd 0 hvr (by rw [htrain, hvspan]; exact hst) (by rw [htrain, hvspan]; omega)
      rwa [htrain, hvt, hvc, hvset, ← hreport] at hvoid
    · have hans := failCensus_answered v .leadNotAtEnd 0 (by rw [hvc]; exact hk) hk16 (by rw [hvmem]; exact hslots.1)
      rwa [hvc, hvt, ← hreport] at hans
    · refine h.records (p := p) (g := censusGroup) hslots.1 hroom ?_
      rw [hreport]
      exact hevent
  · have hreport : u.spanUpReport x p = v := by
      rw [spanUpReport_eq, hv, hcensus, if_neg (by rw [hx]; unfold State.trainSpan; cases s.cabSpan <;> decide), reviewEnd_lead hvr]
    rw [settle_census, hreport, hvc]

end

/-- Settles O19: the SPAN_DOWN report of the exit and the SPAN_UP report of the entry say what the census takes. -/
theorem censusTakesSpanEvents : Obligations.CensusTakesSpanEvents := by
  unfold Obligations.CensusTakesSpanEvents
  intro c s t dt x hs hslots hspans hknown hroom hlink hc y now hother
  have hwf := hslots.1
  have hidle (h1 : s.census.state ≠ .calling) (h2 : s.census.state ≠ .distributing) : s.census.state.busy = false := by
    rw [← Bool.not_eq_true, busy_iff]
    exact fun h => h.elim h1 h2
  refine ⟨fun hup hdown => ?_, fun hdown hup => ?_⟩
  · obtain ⟨cause, lost, u, h⟩ := link_departed hs hwf hspans hroom (link_exits hlink hc hup hdown) hup hother
    dsimp only
    rw [h.cause]
    refine ⟨fun hr => ⟨fun k hk => ⟨lost_enlisted h hr hk, lost_awaitTable h hr hk⟩, lost_uncensused h hr,
      fun hl => ⟨lost_downstream h hr hl hknown, lost_upstream h hr hl⟩⟩, fun hr => ⟨fun hb => ?_, fun h1 h2 => ?_⟩⟩
    · exact lost_leadBusy h hr hslots ((busy_iff _).mpr hb)
    · exact lost_leadIdle h hr (hidle h1 h2)
  · obtain ⟨u, p, h, -, ht⟩ := link_arrives hs hlink hc hdown hup
    rw [ht]
    refine ⟨fun hr => ⟨fun hl hx hcan => arrived_downstream h hwf hroom hknown hr hl hdown hx hcan, arrived_elsewhere h hr⟩,
      fun hr => ⟨fun hb => ?_, fun h1 h2 => ?_⟩⟩
    · exact arrived_leadBusy h hr hslots hroom ((busy_iff _).mpr hb)
    · exact arrived_leadIdle h hr hwf hroom (hidle h1 h2)

end Sys2Proof.Machine

/-!
CONFIGURE (R163, R164): O10.
-/

namespace Sys2Proof.Machine

/-! ## The door sides (R95, R98) -/

/-- A side as the adoption leaves it (R95, R98; log 31). -/
def sideStarted (s : State) (k : SideId) (present : Bool) (mask : Byte) : Side :=
  if present then
    ({ s.side k with masked := maskCauses mask, halfStart := s.now, sampled := false } : Side).enter (s.side k).rest s.now
      s.settings.closeTimeout
  else s.side k

/-- The event of a side that the adoption starts (R113). -/
def sideMoved (s : State) (k : SideId) (present : Bool) : List Event :=
  if present then [doorEvent s k (lockedState (s.side k)) (s.side k).state 1 0] else []

/-- Events of a group as they are raised. -/
def raisedAs (g : Nat) (es : List Event) : List Raised := es.map fun e => { group := g, event := e }

theorem startSide_eq (s : State) (k : SideId) (present : Bool) (mask : Byte) : s.startSide k present mask =
    { s.setSide k (sideStarted s k present mask) with raised := s.raised ++ raisedAs (sideSource k).toNat (sideMoved s k present) } := by
  unfold State.startSide sideStarted sideMoved
  cases present with
  | false => cases k <;> exact congrArg (fun l => ({ s with raised := l } : State)) (List.append_nil _).symm
  | true =>
    have hmove (d : Side) (hd : d.state = (s.side k).state) : (s.setSide k d).moveSide k (s.side k).rest .configured 0 =
        { s.setSide k (d.enter (s.side k).rest s.now s.settings.closeTimeout) with
          raised := s.raised ++ raisedAs (sideSource k).toNat [doorEvent s k (lockedState (s.side k)) (s.side k).state 1 0] } := by
      rw [moveSide_eq, widen_byte, ← hd]
      cases k <;> rfl
    exact hmove _ rfl

/-! ## The adoption (R164) -/

/-- The settings are in force, the part runs and the relay has started toward OPEN (R3, R5, R11, R164). -/
def State.inForce (s : State) (new : Settings) : State :=
  State.startSpans { s with settings := new, port := { s.port with running := true } }

/-- Both sides of `s` started, with their events (R95, R113). -/
def State.sidesStarted (s : State) (one two : Bool) : State :=
  { s with
    door := { s.door with side1 := sideStarted s .one one s.settings.mask1, side2 := sideStarted s .two two s.settings.mask2 }
    raised := s.raised ++ (raisedAs 5 (sideMoved s .one one) ++ raisedAs 6 (sideMoved s .two two)) }

theorem startSides_eq (s : State) (one two : Bool) :
    (s.startSide .one one s.settings.mask1).startSide .two two s.settings.mask2 = s.sidesStarted one two := by
  rw [startSide_eq s, startSide_eq]
  unfold State.sidesStarted
  rw [← List.append_assoc]
  rfl

/-- The HEAT_STATE of an entry to FALLBACK (R144). -/
def fallbackMoved (s : State) : List Event :=
  if s.heat.cap = .fallback then [] else [heatEvent s .fallback s.heat.cap 1 s.settings.ceiling]

theorem startHeat_eq (s : State) : s.startHeat =
    { s with
      heat := { s.heat with source := .standby, onTimes := s.settings.standby, leaseEnd := none, cap := .fallback, holdEnd := none }
      raised := s.raised ++ raisedAs heatGroup (fallbackMoved s) } := by
  unfold State.startHeat State.setCap fallbackMoved
  dsimp only
  split
  next h => exact congrArg (fun l => ({ s with
      heat := { s.heat with source := .standby, onTimes := s.settings.standby, leaseEnd := none, cap := .fallback, holdEnd := none }
      raised := l } : State)) (List.append_nil _).symm
  next h => rfl

/-- The CONFIGURED event (R164). -/
def configuredEvent (new : Settings) : Event :=
  { kind := 18, source := 11, position := 0, detail := byte new.kind, value := new.identity }

/-- The events of an adoption, in the order in which they are raised. -/
def adoptionEvents (b : State) (new : Settings) (one two : Bool) : List Raised :=
  raisedAs 5 (sideMoved b .one one) ++ raisedAs 6 (sideMoved b .two two) ++ raisedAs heatGroup (fallbackMoved b) ++
    raisedAs 11 [configuredEvent new]

/-- The adoption as it reaches each block (R164). -/
theorem adopt_blocks (s : State) (new : Settings) (one two : Bool) (hone : one = decide (new.doorSides = 1 ∨ new.doorSides = 3))
    (htwo : two = decide (new.doorSides = 2 ∨ new.doorSides = 3)) :
    let b := s.inForce new
    ∃ (p : Published), s.adopt new = { b with
        door := { b.door with side1 := sideStarted b .one one new.mask1, side2 := sideStarted b .two two new.mask2 }
        heat := { b.heat with source := .standby, onTimes := new.standby, leaseEnd := none, cap := .fallback, holdEnd := none }
        fire := startedFire (b.sidesStarted one two).startHeat s.now
        mon := b.startMonitor.mon
        pub := p
        raised := s.raised ++ adoptionEvents b new one two } := by
  intro b
  have hsides : (b.startSide .one (new.doorSides = 1 ∨ new.doorSides = 3) new.mask1).startSide .two (new.doorSides = 2 ∨ new.doorSides = 3)
      new.mask2 = b.sidesStarted one two := by
    rw [hone, htwo]
    exact startSides_eq b _ _
  have hpub (u : State) : ∃ p, u.publishFire = { u with pub := p } := by
    unfold State.publishFire
    split
    exacts [⟨u.pub, rfl⟩, ⟨_, rfl⟩]
  unfold State.adopt
  dsimp only
  rw [show State.startSpans { s with settings := new, port := { s.port with running := true } } = b from rfl, hsides, startPeriod_eq]
  obtain ⟨p, hp⟩ := hpub { (b.sidesStarted one two).startHeat with fire := startedFire (b.sidesStarted one two).startHeat s.now }
  refine ⟨p, ?_⟩
  have hevents : s.raised ++ (raisedAs 5 (sideMoved b .one one) ++ raisedAs 6 (sideMoved b .two two)) ++ raisedAs heatGroup (fallbackMoved b) ++
      raisedAs 11 [configuredEvent new] = s.raised ++ adoptionEvents b new one two := by
    unfold adoptionEvents
    simp only [List.append_assoc]
  rw [hp, ← hevents, startHeat_eq]
  rfl

/-- A started side is at rest by its debounced lock level, its generator running from the adoption (R95, R98). -/
theorem sideStarted_rests (s : State) (k : SideId) (mask : Byte) : let e := sideStarted s k true mask
    e.state = (if (s.side k).lock then .closed else .unlocked) ∧ e.lock = (s.side k).lock ∧ e.halfStart = s.now ∧ e.relHigh = false ∧
      e.masked = { mismatch := false, closeTimeout := mask.getLsbD 0, lockLost := !mask.getLsbD 1 } := by
  have hrest : (s.side k).rest = if (s.side k).lock then .closed else .unlocked := rfl
  unfold sideStarted
  rw [if_pos rfl, hrest]
  by_cases h : (s.side k).lock = true
  · rw [if_pos h]
    exact ⟨rfl, rfl, rfl, rfl, rfl⟩
  · rw [if_neg h]
    exact ⟨rfl, rfl, rfl, rfl, rfl⟩

theorem sideMoved_ofDoorUnit {s : State} {k : SideId} {present : Bool} {e : Event} (h : e ∈ sideMoved s k present) : e.ofDoorUnit = true := by
  unfold sideMoved at h
  cases present with
  | false => exact absurd h List.not_mem_nil
  | true =>
    rw [List.mem_singleton.mp h]
    exact doorEvent_ofDoorUnit _ _ _ _ _ _

theorem adoptionEvents_length (b : State) (new : Settings) (one two : Bool) : (adoptionEvents b new one two).length ≤ 4 := by
  have hside (k : SideId) (present : Bool) : (sideMoved b k present).length ≤ 1 := by
    unfold sideMoved
    split <;> simp
  have hheat : (fallbackMoved b).length ≤ 1 := by
    unfold fallbackMoved
    split <;> simp
  have h1 := hside .one one
  have h2 := hside .two two
  unfold adoptionEvents raisedAs
  simp only [List.length_append, List.length_map, List.length_singleton]
  omega

theorem mem_raisedAs {g : Nat} {es : List Event} {e : Event} (h : e ∈ es) : { group := g, event := e } ∈ raisedAs g es :=
  List.mem_map_of_mem h

section
variable {s : State} {dt : Nat} {r : Request} {rest : List Request} (hs : s.settled = true)
  (ht : takeRequest (fun r => r.kind == .configure) s.req.handed = (some r, rest))
include hs ht

theorem configure_refuses :
    let u : State := { s.advance dt with req := { s.req with handed := rest } }
    (s.port.running = true → exec (.configure dt) s = .next (u.complete r.slot .refusedState 0 [])) ∧
    (s.port.running = false → ∀ offset : Nat, settingsFault (parseSettings (s.mem.readList 0x0040 40)) = some offset →
      exec (.configure dt) s = .next (u.complete r.slot .refusedRange (byte offset) [])) := by
  intro u
  have hu : u.settled = true := hs
  refine ⟨fun hrun => ?_, fun hrun offset hfault => ?_⟩
  · rw [exec_serve (c := .configure dt) (f := fun r u => u.configure r) rfl ht (if_pos hrun), settle_of_settled _ (complete_settled _ _ _ _ hu)]
  · have hc : u.configure r = u.complete r.slot .refusedRange (byte offset) [] := by
      unfold State.configure
      rw [if_neg (by rw [show u.port.running = false from hrun]; exact Bool.false_ne_true)]
      dsimp only
      rw [show u.mem = s.mem from rfl, hfault]
    rw [exec_serve (c := .configure dt) (f := fun r u => u.configure r) rfl ht hc, settle_of_settled _ (complete_settled _ _ _ _ hu)]

omit hs in
/-- CONFIGURE with good settings (R164). -/
theorem configure_adopts (hrun : s.port.running = false) {new : Settings} (hnew : parseSettings (s.mem.readList 0x0040 40) = new)
    (hgood : settingsFault new = none) :
    exec (.configure dt) s = .next ((State.adopt { s.advance dt with req := { s.req with handed := rest } } new).complete r.slot .ok 0
      [1, new.spanEnables, 2]).settle := by
  obtain ⟨u, hu⟩ : ∃ u : State, u = { s.advance dt with req := { s.req with handed := rest } } := ⟨_, rfl⟩
  rw [← hu]
  have hc : u.configure r = (u.adopt new).complete r.slot .ok 0 [1, new.spanEnables, 2] := by
    obtain ⟨p, hp⟩ := adopt_blocks u new _ _ rfl rfl
    unfold State.configure
    rw [if_neg (by rw [hu, show State.port { s.advance dt with req := { s.req with handed := rest } } = s.port from rfl, hrun]; exact Bool.false_ne_true)]
    dsimp only
    rw [show u.mem = s.mem by rw [hu]; rfl, hnew, hgood]
    dsimp only
    rw [hp]
    rfl
  exact exec_serve (c := .configure dt) (f := fun r u => u.configure r) rfl ht (by rw [← hu]; exact hc)

end

/-- Settles O10: the refusals, and the adoption block by block (R163, R164). -/
theorem configureAdoptsOrRefuses : Obligations.ConfigureAdoptsOrRefuses := by
  unfold Obligations.ConfigureAdoptsOrRefuses
  refine ⟨fun s dt r rest hs ht => configure_refuses hs ht, ?_⟩
  intro s dt r rest hs ht hrun hwf hslot new hgood low started moved
  obtain ⟨one, hone⟩ : ∃ b, decide (new.doorSides = 1 ∨ new.doorSides = 3) = b := ⟨_, rfl⟩
  obtain ⟨two, htwo⟩ : ∃ b, decide (new.doorSides = 2 ∨ new.doorSides = 3) = b := ⟨_, rfl⟩
  obtain ⟨u, hu⟩ : ∃ u : State, u = { s.advance dt with req := { s.req with handed := rest } } := ⟨_, rfl⟩
  obtain ⟨b, hb⟩ : ∃ b, u.inForce new = b := ⟨_, rfl⟩
  obtain ⟨p, hadopt⟩ := adopt_blocks u new one two hone.symm htwo.symm
  have hraised : u.raised = [] := by rw [hu]; exact raised_of_settled hs
  rw [hb, hraised, List.nil_append] at hadopt
  obtain ⟨v, hv⟩ : ∃ v, (u.adopt new).complete r.slot .ok 0 [1, new.spanEnables, 2] = v := ⟨_, rfl⟩
  have hexec := configure_adopts (dt := dt) ht hrun rfl hgood
  rw [← hu, hv] at hexec
  have horone : (new.doorSides == 1 || new.doorSides == 3) = one := by rw [← hone]; simp [Bool.decide_or, beq_eq_decide]
  have hortwo : (new.doorSides == 2 || new.doorSides == 3) = two := by rw [← htwo]; simp [Bool.decide_or, beq_eq_decide]
  have hwf' : (u.adopt new).mem.wf = true := by rw [hadopt, ← hb, hu]; exact hwf
  have hlen : [1, new.spanEnables, 2].length ≤ 32 := by simp
  have hans := complete_answered hwf' r.slot .ok 0 (r := [1, new.spanEnables, 2]) hlen
  rw [hv] at hans
  have hvwf : v.mem.wf = true := hv ▸ complete_wf _ _ _ _ _ hwf'
  obtain ⟨h3, h4, h5⟩ := hans.settle hlen hslot hvwf
  have hside (k : SideId) (present : Bool) (mask : Byte) (e : Side) (he : e = sideStarted b k present mask) (hsame : b.side k = s.side k)
      (hnow : b.now = s.now + dt) : started present mask (s.side k) e := by
    cases present with
    | false => exact he.trans hsame
    | true =>
      have := sideStarted_rests b k mask
      rw [← he, hsame, hnow] at this
      exact this
  have hvraised : v.raised = adoptionEvents b new one two := by rw [← hv, complete_raised, hadopt]
  have hvtrail : v.trail = s.trail := by rw [← hv, complete_trail, hadopt, ← hb, hu]; rfl
  have hdoor : v.door.side1 = sideStarted b .one one new.mask1 ∧ v.door.side2 = sideStarted b .two two new.mask2 := by
    rw [← hv, complete_door, hadopt]
    exact ⟨rfl, rfl⟩
  have hheat : v.heat = { s.heat with source := .standby, onTimes := new.standby, leaseEnd := none, cap := .fallback, holdEnd := none } := by
    rw [← hv, complete_heat, hadopt, ← hb, hu]
    rfl
  have hset : v.settings = new := by rw [← hv, complete_settings, hadopt, ← hb]; rfl
  have hfire : v.fire.periodStart = some (s.now + dt) ∧ v.fire.count = s.fire.count + 1 := by
    rw [← hv, complete_fire, hadopt, ← hb, startHeat_eq, hu]
    exact ⟨rfl, rfl⟩
  have hmon : v.mon.running = true ∧ v.mon.auxLow = false := by
    rw [← hv, complete_mon, hadopt]
    exact ⟨rfl, rfl⟩
  have hspans : v.bypass = { s.bypass with relay := .switching, drive := true, doneAt := some (s.now + dt + 20000000) } ∧
      v.spanA = { s.spanA with lfsr := lfsrSeed (low ^^^ 0x5A5A), enable := new.spanEnables.getLsbD 0 } ∧
      v.spanB = { s.spanB with lfsr := lfsrSeed (low ^^^ 0xA5A5), enable := new.spanEnables.getLsbD 1 } := by
    rw [← hv, complete_eq, hadopt, ← hb, hu]
    exact ⟨rfl, rfl, rfl⟩
  have hrest : v.port.running = true ∧ v.census = s.census ∧ v.relay = s.relay ∧ v.table = s.table := by
    rw [← hv, complete_eq, hadopt, ← hb, hu]
    exact ⟨rfl, rfl, rfl, rfl⟩
  have hcap : v.settle.cap = new.ceiling := by
    unfold State.cap
    rw [settle_heat, settle_settings, hset, hheat]
  obtain ⟨hbypass, hspanA, hspanB⟩ := hspans
  obtain ⟨hport, hcensus, hrelay, htable⟩ := hrest
  have hbside (k : SideId) : b.side k = s.side k := by rw [← hb, hu]; cases k <;> rfl
  have hbnow : b.now = s.now + dt := by rw [← hb, hu]; rfl
  have hone' := hside .one one new.mask1 _ hdoor.1 (hbside .one) hbnow
  have htwo' := hside .two two new.mask2 _ hdoor.2 (hbside .two) hbnow
  refine ⟨v.settle, hexec, ?_⟩
  rw [settle_port, settle_settings, settle_bypass, settle_spanA, settle_spanB, settle_side1, settle_side2, settle_heat, settle_fire,
    settle_mon, settle_census, settle_relay, settle_table, hcap, hheat, horone, hortwo]
  refine ⟨hport, hset, hbypass, hspanA, hspanB, hone', htwo', rfl, rfl, rfl, rfl, hfire.1, hfire.2, hmon.1, hmon.2, hcensus, hrelay, htable,
    h3, h4, h5, fun hroom => ?_⟩
  have hroom' : s.trail.held + v.raised.length < 128 := by
    have := adoptionEvents_length b new one two
    rw [hvraised]
    unfold trailRoom at hroom
    omega
  have hmoved (k : SideId) (present : Bool) : moved present k = sideMoved b k present := by
    unfold sideMoved
    rw [hbside k, doorEvent_congr (u := b) (s := s) (by rw [← hb, hu]; rfl)]
  refine ⟨?_, fun hne => ?_, ?_⟩
  · refine settle_recordedEvent (g := 11) hvtrail hvwf hroom' ?_
    rw [hvraised]
    exact List.mem_append_right _ (mem_raisedAs (List.mem_singleton.mpr rfl))
  · refine settle_recordedEvent (g := heatGroup) hvtrail hvwf hroom' ?_
    rw [hvraised]
    refine List.mem_append_left _ (List.mem_append_right _ (mem_raisedAs ?_))
    have hbheat : b.heat.cap = s.heat.cap := by rw [← hb, hu]; rfl
    unfold fallbackMoved
    rw [hbheat, if_neg hne, ← hb, hu]
    exact List.mem_singleton.mpr rfl
  · refine settle_recordedTogether hvtrail hvwf hroom' fun e he => ?_
    rw [hmoved, hmoved] at he
    obtain he | he := List.mem_append.mp he
    · refine ⟨sideMoved_ofDoorUnit he, { group := 5, event := e }, ?_, rfl⟩
      rw [hvraised]
      exact List.mem_append_left _ (List.mem_append_left _ (List.mem_append_left _ (mem_raisedAs he)))
    · refine ⟨sideMoved_ofDoorUnit he, { group := 6, event := e }, ?_, rfl⟩
      rw [hvraised]
      exact List.mem_append_left _ (List.mem_append_left _ (List.mem_append_right _ (mem_raisedAs he)))

end Sys2Proof.Machine

/-!
The blocks the port reads (R155): a block reads as its bytes, and the rows of a table that lie one after the other in it as
their parts.
-/

namespace Sys2Proof.Machine

/-- The port reads the bytes `l` from address `a` on. -/
def Reads (s : State) (a : Nat) (l : List Byte) : Prop := ∀ i : Nat, i < l.length → s.readByte (a + i) = byteAt l i

/-- A table is read when each of its rows is. -/
theorem shows_iff (s : State) (base : Nat) (rows : List (Nat × List Byte)) : shows s base rows ↔ ∀ row ∈ rows, Reads s (base + row.1) row.2 :=
  Iff.rfl

theorem byteAt_append_left {l : List Byte} (m : List Byte) {i : Nat} (h : i < l.length) : byteAt (l ++ m) i = byteAt l i := by
  simp [byteAt, List.getElem?_append_left h]

section
variable {s : State} {a : Nat} {l m : List Byte}

theorem Reads.left (h : Reads s a (l ++ m)) : Reads s a l := fun i hi => by
  rw [h i (by simp; omega), byteAt_append_left m hi]

theorem Reads.right (h : Reads s a (l ++ m)) : Reads s (a + l.length) m := fun i hi => by
  rw [Nat.add_assoc, h _ (by simp [hi]), byteAt_append_length]

theorem Reads.append (h : Reads s a l) (h' : Reads s (a + l.length) m) : Reads s a (l ++ m) := fun i hi => by
  rcases Nat.lt_or_ge i l.length with hl | hl
  · rw [byteAt_append_left m hl, h i hl]
  · obtain ⟨j, rfl⟩ := Nat.exists_eq_add_of_le hl
    rw [byteAt_append_length, ← h' j (by simp at hi; omega), Nat.add_assoc]

end

/-- The rows stand one after the other from offset `o` on. -/
def inOrder : Nat → List (Nat × List Byte) → Prop
  | _, [] => True
  | o, row :: rest => row.1 = o ∧ inOrder (o + row.2.length) rest

/-- The bytes of the rows, one row after the other. -/
def rowBytes (rows : List (Nat × List Byte)) : List Byte := rows.flatMap Prod.snd

/-- Rows that follow one another in a block that is read are read. -/
theorem shows_of_inOrder {s : State} {base o : Nat} {rows : List (Nat × List Byte)} (hrows : inOrder o rows)
    (h : Reads s (base + o) (rowBytes rows)) : shows s base rows := by
  induction rows generalizing o with
  | nil => exact fun _ hrow => absurd hrow List.not_mem_nil
  | cons row rest ih =>
    obtain ⟨hoff, hrest⟩ := hrows
    have hrow : Reads s (base + o) (row.2 ++ rowBytes rest) := h
    refine (shows_iff _ _ _).2 fun r hr => ?_
    rcases List.mem_cons.1 hr with rfl | hr
    · rw [hoff]
      exact hrow.left
    · exact ih hrest (by rw [← Nat.add_assoc]; exact hrow.right) r hr

/-- A table is read with every table that holds its rows. -/
theorem shows_of_subset {s : State} {base : Nat} {rows more : List (Nat × List Byte)} (h : shows s base more) (hsub : rows ⊆ more) :
    shows s base rows := fun row hrow => h row (hsub hrow)

/-- Entry `i` of a list of entries of `w` bytes each. -/
theorem Reads.entry {α : Type} {s : State} {a w : Nat} {f : α → List Byte} (hw : ∀ x, (f x).length = w) {l : List α} {i : Nat} {x : α}
    (h : Reads s a (l.flatMap f)) (hx : l[i]? = some x) : Reads s (a + w * i) (f x) := by
  induction l generalizing a i with
  | nil => exact absurd hx (by simp)
  | cons y l ih =>
    cases i with
    | zero =>
      obtain rfl : y = x := Option.some.inj hx
      exact h.left
    | succ i =>
      have := ih h.right hx
      rwa [hw, Nat.add_assoc, Nat.add_comm w, ← Nat.mul_succ] at this

/-! ## The areas of R155 -/

theorem areaOf_image {a : Nat} (h : a < 1056) : areaOf (0x0600 + a) = .image := by
  unfold areaOf
  grind

theorem areaOf_summary {a : Nat} (h : a < 64) : areaOf a = .summary := by
  unfold areaOf
  grind

theorem areaOf_spanA {a : Nat} (h : a < 128) : areaOf (0x0C00 + a) = .spanA := by
  unfold areaOf
  grind

theorem areaOf_spanB {a : Nat} (h : a < 128) : areaOf (0x0C80 + a) = .spanB := by
  unfold areaOf
  grind

theorem areaOf_door {a : Nat} (h : a < 128) : areaOf (0x0D00 + a) = .door := by
  unfold areaOf
  grind

theorem areaOf_heat {a : Nat} (h : a < 256) : areaOf (0x0E00 + a) = .heat := by
  unfold areaOf
  grind

theorem areaOf_readings {a : Nat} (h : a < 64) : areaOf (0x0F00 + a) = .readings := by
  unfold areaOf
  grind

/-! ## The blocks -/

theorem le16_length (w : Word16) : (le16 w).length = 2 := rfl

theorem le32_length (w : Word32) : (le32 w).length = 4 := rfl

/-- A published block is read as its counter and its bytes (R112, R143, R154). -/
theorem reads_board {s : State} {base : Nat} {counter : Word32} {l : List Byte} (more : List Byte)
    (h : ∀ i : Nat, i < 4 + l.length → s.readByte (base + i) = boardByte counter (l ++ more) i) : Reads s base (le32 counter ++ l) :=
  fun i hi => by
    rw [List.length_append, le32_length] at hi
    rw [h i hi, boardByte]
    split
    · exact (byteAt_append_left l ‹_›).symm
    · obtain ⟨j, rfl⟩ := Nat.exists_eq_add_of_le (Nat.le_of_not_lt ‹_›)
      rw [Nat.add_sub_cancel_left, byteAt_append_left more (by omega)]
      exact (byteAt_append_length (le32 counter) l j).symm

theorem summaryBlock_length (s : State) : s.summaryBlock.length = 64 := rfl

theorem reads_summary (s : State) : Reads s 0x0000 s.summaryBlock := fun i hi => by
  rw [Nat.zero_add, State.readByte, areaOf_summary hi]

theorem CarRecord.stored_length (r : CarRecord) : r.stored.length = 16 := rfl

theorem ImageRecord.stored_length (p : Nat) (r : ImageRecord) : (r.stored p).length = 32 := rfl

/-- The image with its counter: the bytes that lie in the area of the image (R69, R70). -/
theorem reads_image {s : State} {head rest more : List Byte} (himage : s.pub.image = head ++ (rest ++ more)) (hhead : head.length = 16)
    (hrest : rest.length ≤ 1036) : Reads s 0x0600 (head ++ (le32 s.pub.imageCounter ++ rest)) := fun i hi => by
  have hlen : i < 20 + rest.length := by
    simp only [List.length_append, hhead, le32_length] at hi
    omega
  rw [State.readByte, areaOf_image (by omega)]
  dsimp only
  rw [Nat.add_sub_cancel_left, himage]
  by_cases h16 : i < 16
  · rw [if_pos h16, byteAt_append_left _ (by omega), byteAt_append_left _ (by omega)]
  · obtain ⟨j, rfl⟩ := Nat.exists_eq_add_of_le (Nat.le_of_not_lt h16)
    rw [if_neg h16, Nat.add_sub_cancel_left, ← hhead, byteAt_append_length]
    by_cases h20 : j < 4
    · rw [if_pos (by omega), byteAt_append_left _ h20]
    · obtain ⟨k, rfl⟩ := Nat.exists_eq_add_of_le (Nat.le_of_not_lt h20)
      rw [if_neg (by omega), show head.length + (4 + k) - 4 = head.length + k by omega, byteAt_append_length,
        byteAt_append_left _ (by omega)]
      exact (byteAt_append_length (le32 s.pub.imageCounter) rest k).symm

/-! ## Image records -/

theorem recordsStored_append (p : Nat) (l m : List ImageRecord) :
    recordsStored p (l ++ m) = recordsStored p l ++ recordsStored (p + l.length) m := by
  induction l generalizing p with
  | nil => rfl
  | cons r l ih => simp [recordsStored, ih, Nat.add_right_comm, Nat.add_assoc]

theorem recordsStored_length (p : Nat) (l : List ImageRecord) : (recordsStored p l).length = 32 * l.length := by
  induction l generalizing p with
  | nil => rfl
  | cons r l ih =>
    rw [recordsStored, List.length_append, ih, ImageRecord.stored_length, List.length_cons]
    omega

/-- Record `i` in the image. -/
theorem recordsStored_split {l : List ImageRecord} {i : Nat} {r : ImageRecord} (h : l[i]? = some r) :
    ∃ before after : List Byte, recordsStored 1 l = before ++ (r.stored (i + 1) ++ after) ∧ before.length = 32 * i := by
  obtain ⟨hi, rfl⟩ := List.getElem?_eq_some_iff.1 h
  refine ⟨recordsStored 1 (l.take i), recordsStored (i + 2) (l.drop (i + 1)), ?_, ?_⟩
  · conv => lhs; rw [← List.take_append_drop i l, recordsStored_append, List.drop_eq_getElem_cons hi, recordsStored,
      List.length_take_of_le hi.le, Nat.add_comm 1 i]
  · rw [recordsStored_length, List.length_take_of_le hi.le]

end Sys2Proof.Machine

/-!
The tables of the blocks the device writes lie in the blocks (R23, R41, R69, R74, R111, R127, R142, R151, R154, R161).
-/

namespace Sys2Proof.Machine

theorem boolByte_eq (b : Bool) : boolByte b = if b then 1 else 0 := rfl

/-! ## Summary (R161, R170) -/

theorem summaryRows_bytes (s : State) : rowBytes (summaryRows s) = s.summaryBlock := by
  cases h : s.port.resetCause <;> simp [rowBytes, summaryRows, State.summaryBlock, h, boolByte_eq, Tallies.list, Trail.held]

theorem shows_summary (s : State) : shows s 0x0000 (summaryRows s) :=
  shows_of_inOrder (o := 0) (by simp [inOrder, summaryRows, le16, le32]) (by rw [summaryRows_bytes]; exact reads_summary s)

/-! ## Spans (R23, R41) -/

/-- The table of a span block with its echo entries. -/
def spanTable (relay : RelayState) (u : Span) : List (Nat × List Byte) :=
  (spanRows relay u).take 19 ++ (32, u.echo.flatMap Excursion.block) :: (spanRows relay u).drop 19

theorem echoRow_eq (e : Excursion) : echoRow e = Excursion.block e := by
  cases h : e.polarity <;> simp [echoRow, Excursion.block, h]

theorem history_bytes {l : List Nat} (h : l.length ≤ 4) :
    (l.map word16 ++ List.replicate (4 - l.length) 0).flatMap le16 =
      le16 (word16 (l.getD 0 0)) ++ le16 (word16 (l.getD 1 0)) ++ le16 (word16 (l.getD 2 0)) ++ le16 (word16 (l.getD 3 0)) := by
  match l, h with
  | [], _ => rfl
  | [_], _ => rfl
  | [_, _], _ => rfl
  | [_, _, _], _ => rfl
  | [_, _, _, _], _ => rfl

theorem spanTable_bytes (relay : RelayState) {u : Span} (h : u.history.length ≤ 4) : rowBytes (spanTable relay u) = spanBlock relay u := by
  unfold spanBlock
  dsimp only
  rw [history_bytes h]
  cases hp : u.partner <;> cases hc : u.cur <;>
    simp [rowBytes, spanTable, spanRows, hp, hc, List.range_succ, le16, le32]

theorem block_length (e : Excursion) : (Excursion.block e).length = 6 := rfl

theorem echo_length {l : List Excursion} (h : l.length = 4) : (l.flatMap Excursion.block).length = 24 := by
  simp [List.length_flatMap, block_length, h]

/-- Where a span block begins (R155). -/
def spanBase : SpanId → Nat
  | .a => 0x0C00
  | .b => 0x0C80

/-- The bytes of a span, which lie in the area of a span block. -/
theorem reads_span (s : State) (x : SpanId) (hh : (s.span x).history.length ≤ 4) (he : (s.span x).echo.length = 4) :
    Reads s (spanBase x) (spanBlock s.bypass.relay (s.span x)) := fun i hi => by
  have hlen : i < 128 := by
    rw [← spanTable_bytes _ hh] at hi
    simpa [rowBytes, spanTable, spanRows, le16, le32, block_length, he] using hi
  cases x <;> simp only [spanBase, State.readByte, areaOf_spanA hlen, areaOf_spanB hlen, Nat.add_sub_cancel_left] <;> rfl

theorem spanTable_inOrder (relay : RelayState) {u : Span} (h : u.echo.length = 4) : inOrder 0 (spanTable relay u) := by
  simp [inOrder, spanTable, spanRows, le16, le32, block_length, h]

theorem shows_spanTable (s : State) (x : SpanId) (hh : (s.span x).history.length ≤ 4) (he : (s.span x).echo.length = 4) :
    shows s (spanBase x) (spanTable s.bypass.relay (s.span x)) :=
  shows_of_inOrder (o := 0) (spanTable_inOrder _ he) (by rw [spanTable_bytes _ hh]; exact reads_span s x hh he)

theorem spanRows_subset (relay : RelayState) (u : Span) : spanRows relay u ⊆ spanTable relay u := fun row hrow => by
  rw [← List.take_append_drop 19 (spanRows relay u)] at hrow
  rcases List.mem_append.1 hrow with h | h
  · exact List.mem_append_left _ h
  · exact List.mem_append_right _ (List.mem_cons_of_mem _ h)

/-- A span block with its echo entries (R23, R41). -/
theorem shows_span (s : State) (x : SpanId) (hh : (s.span x).history.length ≤ 4) (he : (s.span x).echo.length = 4) :
    shows s (spanBase x) (spanRows s.bypass.relay (s.span x)) ∧
      ∀ (i : Nat) (e : Excursion), (s.span x).echo[i]? = some e →
        shows s (spanBase x) [(32 + 6 * i, echoRow e)] := by
  have htable := shows_spanTable s x hh he
  refine ⟨shows_of_subset htable (spanRows_subset _ _), fun i e hi => (shows_iff _ _ _).2 fun row hrow => ?_⟩
  obtain rfl := List.mem_singleton.1 hrow
  have hechoes := (shows_iff _ _ _).1 htable (32, (s.span x).echo.flatMap Excursion.block) (by simp [spanTable])
  rw [echoRow_eq]
  have := hechoes.entry block_length hi
  rwa [Nat.add_assoc] at this

/-! ## Consist image (R69, R70, R74) -/

/-- Image bytes 0 to 15. -/
def imageHead (s : State) : List Byte := s.imageBytes.take 16

/-- Image bytes 20 to 31. -/
def imageTail (s : State) : List Byte :=
  [spanOptCode s.front, spanOptCode s.upstream, spanOptCode s.downstream, byte s.census.retry] ++ le16 s.workNumber ++
    le32 s.workLead ++ [0, 0]

theorem imageBytes_eq (s : State) :
    s.imageBytes = imageHead s ++ (imageTail s ++ (recordsStored 1 s.table.records ++ List.replicate (32 * (32 - s.n)) 0)) := rfl

theorem spanOptCode_eq (x : Option SpanId) : spanOptCode x = (x.map endCode).getD 0 := by cases x <;> rfl

theorem workNumber_eq (s : State) :
    s.workNumber = if s.census.role = .lead then s.census.number else (s.census.ctx.map fun c => c.number).getD 0 := by
  unfold State.workNumber
  cases hr : s.census.role <;> cases hc : s.census.ctx <;> rfl

theorem workLead_eq (s : State) :
    s.workLead = if s.census.role = .lead then s.settings.identity else (s.census.ctx.map fun c => c.lead).getD 0 := by
  unfold State.workLead
  cases hr : s.census.role <;> cases hc : s.census.ctx <;> rfl

theorem imageRows_bytes (s : State) : rowBytes (imageRows s) = imageHead s ++ (le32 s.pub.imageCounter ++ imageTail s) := by
  unfold imageHead imageTail State.imageBytes
  rw [workNumber_eq, workLead_eq, spanOptCode_eq, spanOptCode_eq, spanOptCode_eq]
  cases hr : s.census.role <;> simp [rowBytes, imageRows, le16, le32, State.n, hr]

theorem recordRows_bytes (p : Nat) (r : ImageRecord) : rowBytes (recordRows p r) = r.stored p := by
  simp [rowBytes, recordRows, ImageRecord.stored, CarRecord.stored]

theorem imageHead_length (s : State) : (imageHead s).length = 16 := rfl

theorem imageTail_length (s : State) : (imageTail s).length = 12 := rfl

section
variable {s : State} (h : s.pub.image = s.imageBytes)
include h

theorem shows_image : shows s 0x0600 (imageRows s) :=
  shows_of_inOrder (o := 0) (by simp [inOrder, imageRows, le16, le32]) (by
    rw [imageRows_bytes]
    exact reads_image (h.trans (imageBytes_eq s)) (imageHead_length s) (by rw [imageTail_length]; omega))

theorem shows_record {i : Nat} {r : ImageRecord} (hi : i < 32) (hr : s.table.records[i]? = some r) :
    shows s (0x0620 + 32 * i) (recordRows (i + 1) r) := by
  obtain ⟨before, after, hsplit, hbefore⟩ := recordsStored_split hr
  have hreads := reads_image (s := s) (head := imageHead s) (rest := imageTail s ++ (before ++ r.stored (i + 1)))
    (more := after ++ List.replicate (32 * (32 - s.n)) 0) (by simp [h, imageBytes_eq, hsplit]) (imageHead_length s)
    (by simp [imageTail_length, hbefore, ImageRecord.stored_length]; omega)
  have hrecord := hreads.right.right.right.right
  rw [imageHead_length, le32_length, imageTail_length, hbefore] at hrecord
  exact shows_of_inOrder (o := 0) (by simp [inOrder, recordRows, le16, le32]) (by rwa [recordRows_bytes])

theorem shows_noRecord {i : Nat} (hi : i < 32) (hr : s.table.records.length ≤ i) :
    shows s (0x0620 + 32 * i) [(0, List.replicate 32 0)] := by
  have hsplit : List.replicate (32 * (32 - s.n)) (0 : Byte) =
      List.replicate (32 * (i - s.n)) 0 ++ (List.replicate 32 0 ++ List.replicate (32 * (31 - i)) 0) := by
    simp only [List.replicate_append_replicate, State.n]
    congr 1
    omega
  have hreads := reads_image (s := s) (head := imageHead s)
    (rest := imageTail s ++ (recordsStored 1 s.table.records ++ (List.replicate (32 * (i - s.n)) 0 ++ List.replicate 32 0)))
    (more := List.replicate (32 * (31 - i)) 0) (by simp only [h, imageBytes_eq, hsplit, List.append_assoc]) (imageHead_length s)
    (by simp [imageTail_length, recordsStored_length, State.n]; omega)
  have hrecord := hreads.right.right.right.right.right
  rw [imageHead_length, le32_length, imageTail_length, recordsStored_length, List.length_replicate,
    show 1536 + 16 + 4 + 12 + 32 * s.table.records.length + 32 * (i - s.n) = 0x0620 + 32 * i by simp [State.n]; omega] at hrecord
  exact shows_of_inOrder (o := 0) (by simp [inOrder]) (by simpa [rowBytes] using hrecord)

end

/-! ## Door board (R111, R127) -/

theorem Causes.byte_eq (c : Causes) :
    Causes.byte c = boolByte c.mismatch + 2 * boolByte c.closeTimeout + 4 * boolByte c.lockLost := by
  obtain ⟨mismatch, closeTimeout, lockLost⟩ := c
  cases mismatch <;> cases closeTimeout <;> cases lockLost <;> rfl

theorem closeOutput_eq (set : Settings) (d : Side) :
    closeOutput set d = (d.state == .closing || (d.state == .fault && set.closeOnFault == 1)) := by
  unfold closeOutput
  cases d.state <;> rfl

theorem proven_eq {d : Side} (h : d.state ≠ .absent) : d.proven = (d.state != .released && d.lock) := by
  unfold Side.proven
  cases hd : d.state
  case absent => exact absurd hd h
  all_goals rfl

theorem stampOfTimer_eq (e : Option Nat) : stampOfTimer e = (e.map fun t => word32 (t / 2000000)).getD 0 := by cases e <;> rfl

theorem actionCodeOpt_eq (a : Option Action) : actionCodeOpt a = (a.map Action.code).getD 0 := by cases a <;> rfl

theorem skipCodeOpt_eq (k : Option Skip) : skipCodeOpt k = (k.map Skip.code).getD 0 := by cases k <;> rfl

theorem sideBlock_eq (set : Settings) {d : Side} (h : d.state ≠ .absent) : sideBlock set d = rowBytes (sideRows set d) := by
  unfold sideBlock
  rw [if_neg h]
  dsimp only
  rw [Causes.byte_eq, Causes.byte_eq, Causes.byte_eq, closeOutput_eq, proven_eq h, stampOfTimer_eq, stampOfTimer_eq,
    actionCodeOpt_eq, skipCodeOpt_eq]
  cases hp : d.pend <;> cases hv : d.lastVerdict <;> simp [rowBytes, sideRows, hp, hv, stampOf, ms, le16, le32, boolByte_eq]

theorem sideBlock_absent (set : Settings) {d : Side} (h : d.state = .absent) : sideBlock set d = List.replicate 28 0 := if_pos h

theorem sideBlock_length (set : Settings) (d : Side) : (sideBlock set d).length = 28 := by
  unfold sideBlock
  split
  · rfl
  · cases d.pend <;> rfl

theorem leadBlock_member {s : State} (h : s.census.role = .member) : s.leadBlock = List.replicate 64 0 := by
  unfold State.leadBlock
  rw [h]

/-- The order handling of a lead stands in its table, with the summary of this moment (R126, R127). -/
theorem leadRows_bytes {s : State} (h : s.census.role = .lead) (hsummary : s.door.summary = s.summaryNow) :
    rowBytes (leadRows s) = s.leadBlock := by
  have hn : s.door.summary.n = byte s.n := by
    rw [hsummary, State.summaryNow, h]
    rfl
  have hcontributors : s.door.summary.contributors = (s.door.held.map fun r => byte (r.contributors + 1)).getD 0 := by
    rw [hsummary, State.summaryNow, h]
    cases s.door.held <;> rfl
  unfold State.leadBlock
  rw [h]
  dsimp only
  rw [hn, hcontributors]
  cases hheld : s.door.held <;> cases hout : s.door.outstanding <;>
    simp [rowBytes, leadRows, hheld, hout, le16, State.n, boolByte_eq]

theorem leadBlock_length {s : State} (h : s.census.role = .lead) (hsummary : s.door.summary = s.summaryNow)
    (hcounts : s.door.lastDone.counts.length = 8) : s.leadBlock.length = 64 := by
  rw [← leadRows_bytes h hsummary]
  simp [rowBytes, leadRows, le16, hcounts]

/-- Where the block of a side begins (R111). -/
def sideBase : SideId → Nat
  | .one => 0x0D08
  | .two => 0x0D24

/-- The head of the door board, bytes 4 to 7. -/
def doorHead (s : State) : List Byte :=
  [byte s.settings.doorSides, byte s.settings.releaseFrequency, byte s.settings.closeOnFault, boolByte s.mon.auxLow]

section
variable {s : State} (h : s.pub.door = s.doorBytes)
include h

/-- The bytes of the door board that lie in its area, with the first bytes `l` of its order handling. -/
theorem reads_door {l more : List Byte} (hlead : s.leadBlock = l ++ more) (hl : l.length ≤ 64) :
    Reads s 0x0D00 (le32 s.pub.doorCounter ++ (doorHead s ++ (sideBlock s.settings s.door.side1 ++ (sideBlock s.settings s.door.side2 ++ l)))) := by
  refine reads_board more fun i hi => ?_
  simp only [List.length_append, sideBlock_length, show (doorHead s).length = 4 from rfl] at hi
  rw [State.readByte, areaOf_door (by omega)]
  dsimp only
  rw [Nat.add_sub_cancel_left, h, State.doorBytes, hlead]
  simp only [doorHead, List.append_assoc]

theorem shows_door : shows s 0x0D00 (doorRows s) :=
  shows_of_inOrder (o := 0) (by simp [inOrder, doorRows, le32]) (by
    have := reads_door h (l := []) rfl (Nat.zero_le _)
    rw [← List.append_assoc] at this
    exact this.left)

theorem reads_side (k : SideId) : Reads s (sideBase k) (sideBlock s.settings (s.side k)) := by
  have hread := reads_door h (l := []) rfl (Nat.zero_le _)
  cases k with
  | one => exact hread.right.right.left
  | two =>
    have := hread.right.right.right.left
    rwa [sideBlock_length] at this

theorem shows_side {k : SideId} (hk : (s.side k).state ≠ .absent) :
    shows s (sideBase k) (sideRows s.settings (s.side k)) :=
  shows_of_inOrder (o := 0) (by simp [inOrder, sideRows, le16, le32]) (by
    rw [← sideBlock_eq _ hk]
    exact reads_side h k)

theorem shows_absentSide {k : SideId} (hk : (s.side k).state = .absent) :
    shows s (sideBase k) [(0, List.replicate 28 0)] :=
  shows_of_inOrder (o := 0) (by simp [inOrder]) (by
    have := reads_side h k
    rw [sideBlock_absent _ hk] at this
    simpa [rowBytes] using this)

theorem reads_lead (hlead : s.leadBlock.length = 64) : Reads s 0x0D40 s.leadBlock := by
  have hread := (reads_door h (List.append_nil s.leadBlock).symm hlead.le).right.right.right.right
  rwa [sideBlock_length, sideBlock_length] at hread

theorem shows_lead (hrole : s.census.role = .lead) (hsummary : s.door.summary = s.summaryNow)
    (hcounts : s.door.lastDone.counts.length = 8) : shows s 0x0D00 (leadRows s) :=
  shows_of_inOrder (o := 64) (by simp [inOrder, leadRows, le16, hcounts]) (by
    rw [leadRows_bytes hrole hsummary]
    exact reads_lead h (leadBlock_length hrole hsummary hcounts))

theorem shows_member (hrole : s.census.role = .member) : shows s 0x0D00 [(64, List.replicate 64 0)] :=
  shows_of_inOrder (o := 64) (by simp [inOrder]) (by
    have hlead := leadBlock_member hrole
    have hread := reads_lead h (by rw [hlead]; rfl)
    rw [hlead] at hread
    simpa [rowBytes] using hread)

end

/-! ## Heating board (R142, R151) -/

/-- The allocation entries of the heating board. -/
def shareBytes (s : State) : List Byte := (List.range 32).flatMap fun i => shareBlock s.heat.lastAlloc.shares (i + 1)

theorem shareBlock_length (l : List Share) (p : Nat) : (shareBlock l p).length = 4 := by
  unfold shareBlock
  split <;> rfl

theorem shareBytes_length (s : State) : (shareBytes s).length = 128 := by
  simp [shareBytes, List.length_flatMap, shareBlock_length]

theorem heatRows_bytes (s : State) : rowBytes (heatRows s) ++ shareBytes s = le32 s.pub.heatCounter ++ s.heatBytes := by
  unfold State.heatBytes
  dsimp only
  rw [stampOfTimer_eq, stampOfTimer_eq]
  cases hr : s.census.role <;>
    simp [rowBytes, heatRows, shareBytes, hr, Stages.bytes, le16, le32, boolByte_eq]

theorem heatRows_length (s : State) : (rowBytes (heatRows s)).length = 64 := by simp [rowBytes, heatRows, le16, le32, boolByte_eq]

theorem board_length (f : Fire) : (Fire.board f).length = 64 := by
  simp [Fire.board, Stages.bytes, le16_length, le32_length]

theorem fireRows_bytes (f : Fire) : rowBytes (fireRows f) = f.board := by
  simp [rowBytes, fireRows, Fire.board, Stages.bytes, le16, le32]

section
variable {s : State} (h : s.pub.heat = s.heatBytes)
include h

/-- The heating board with the firing bytes `l`. -/
theorem reads_heat {l more : List Byte} (hfire : s.pub.fire = l ++ more) (hl : l.length ≤ 64) :
    Reads s 0x0E00 (rowBytes (heatRows s) ++ (shareBytes s ++ l)) := by
  have hsize := congrArg List.length (heatRows_bytes s)
  simp only [List.length_append, heatRows_length, shareBytes_length, le32_length] at hsize
  rw [← List.append_assoc, heatRows_bytes, List.append_assoc]
  refine reads_board more fun i hi => ?_
  rw [List.length_append] at hi
  rw [State.readByte, areaOf_heat (by omega)]
  dsimp only
  rw [Nat.add_sub_cancel_left, h, hfire, List.append_assoc]

theorem shows_heat : shows s 0x0E00 (heatRows s) :=
  shows_of_inOrder (o := 0) (by simp [inOrder, heatRows, le16, le32])
    (reads_heat h (List.nil_append s.pub.fire).symm (Nat.zero_le _)).left

theorem shows_share {p : Nat} (hp : 1 ≤ p) (hp' : p ≤ 32) : shows s 0x0E00 [(60 + 4 * p, shareBlock s.heat.lastAlloc.shares p)] := by
  obtain ⟨i, rfl⟩ := Nat.exists_eq_add_of_le' hp
  have hread : Reads s (0x0E00 + 64) (shareBytes s) := by
    have := (reads_heat h (List.nil_append s.pub.fire).symm (Nat.zero_le _)).right.left
    rwa [heatRows_length] at this
  have hi : (List.range 32)[i]? = some i := List.getElem?_range (by omega)
  have hentry := hread.entry (fun i => shareBlock_length s.heat.lastAlloc.shares (i + 1)) hi
  refine (shows_iff _ _ _).2 fun row hrow => ?_
  obtain rfl := List.mem_singleton.1 hrow
  rwa [show 0x0E00 + (60 + 4 * (i + 1)) = 0x0E00 + 64 + 4 * i by omega]

theorem shows_fire (hfire : s.pub.fire = s.fire.board) : shows s 0x0E00 (fireRows s.fire) :=
  shows_of_inOrder (o := 192) (by simp [inOrder, fireRows, le16, le32]) (by
    have hread := (reads_heat h (hfire.trans (List.append_nil _).symm) (board_length s.fire).le).right.right
    rw [heatRows_length, shareBytes_length] at hread
    rwa [fireRows_bytes])

end

/-! ## Readings (R154) -/

theorem readingsRows_bytes (s : State) : rowBytes (readingsRows s) = le32 s.pub.readingsCounter ++ s.readingsBytes := by
  simp [rowBytes, readingsRows, State.readingsBytes, returnLevel, le16, le32]

theorem readingsBytes_length (s : State) : s.readingsBytes.length = 60 := by
  simp [State.readingsBytes, le16_length, le32_length]

theorem shows_readings {s : State} (h : s.pub.readings = s.readingsBytes) : shows s 0x0F00 (readingsRows s) :=
  shows_of_inOrder (o := 0) (by simp [inOrder, readingsRows, le16, le32]) (by
    rw [readingsRows_bytes]
    refine reads_board [] fun i hi => ?_
    rw [readingsBytes_length] at hi
    rw [State.readByte, areaOf_readings (by omega)]
    dsimp only
    rw [Nat.add_sub_cancel_left, h, List.append_nil])

end Sys2Proof.Machine

/-!
O7: the read-out of every block the device writes, the codes, the echo and ATTN.
-/

namespace Sys2Proof.Machine

/-! ## Echo and ATTN (R159, R160, R169) -/

/-- 1 for a tally that differs from its mark. -/
def differsFrom (tally mark : Word16) : Nat := if tally = mark then 0 else 1

/-- Mark `i` as the port reads it. -/
theorem mark_eq (s : State) {i : Nat} (h : i < 6) : s.mark i = s.readByte (0x0501 + 2 * i) ++ s.readByte (0x0500 + 2 * i) := by
  have harea (a : Nat) (h : a < 64) : areaOf (0x0500 + a) = .marks := by
    unfold areaOf
    grind
  rw [show 0x0501 + 2 * i = 0x0500 + (2 * i + 1) by omega, State.readByte, State.readByte, harea _ (by omega), harea _ (by omega)]
  rfl

theorem filter_singleton_length {α : Type} (p : α → Bool) (a : α) (l : List α) :
    ((a :: l).filter p).length = (if p a then 1 else 0) + (l.filter p).length := by
  rw [List.filter_cons]
  split <;> simp [Nat.add_comm]

theorem differing_eq (s : State) : s.differing =
    differsFrom s.tallies.slot (s.mark 0) + differsFrom s.tallies.consist (s.mark 1) + differsFrom s.tallies.door (s.mark 2) +
      differsFrom s.tallies.heat (s.mark 3) + differsFrom s.tallies.trail (s.mark 4) + differsFrom s.tallies.fault (s.mark 5) := by
  have hone (w m : Word16) : (if w != m then 1 else 0) = differsFrom w m := by
    unfold differsFrom
    by_cases h : w = m <;> simp [h]
  have hrange : List.range 6 = [0, 1, 2, 3, 4, 5] := rfl
  simp only [State.differing, hrange, filter_singleton_length, List.filter_nil, List.length_nil, Nat.add_zero, ← hone, Nat.add_assoc]
  rfl

theorem Notes.byte_eq (n : Notes) :
    Notes.byte n = boolByte n.ownedWrite + 2 * boolByte n.slotGuard + 4 * boolByte n.overlength + 8 * boolByte n.badRelease := by
  obtain ⟨ownedWrite, slotGuard, overlength, badRelease⟩ := n
  cases ownedWrite <;> cases slotGuard <;> cases overlength <;> cases badRelease <;> rfl

theorem echoBytes_cases (s : State) : s.echoBytes = if s.port.setting.getLsbD 0 then [0, 0, 0]
    else [if s.port.running then 1 else 0, byte s.differing, s.port.notes.byte] := by
  unfold State.echoBytes State.echoOn
  cases s.port.setting.getLsbD 0 <;> rfl

theorem settled_blocks {s : State} (h : s.settled = true) :
    s.pub.image = s.imageBytes ∧ s.pub.door = s.doorBytes ∧ s.pub.heat = s.heatBytes ∧ s.pub.readings = s.readingsBytes ∧
      s.door.summary = s.summaryNow := by
  simp only [State.settled, Bool.and_eq_true, beq_iff_eq] at h
  obtain ⟨⟨⟨⟨⟨-, himage⟩, hdoor⟩, hheat⟩, hreadings⟩, hsummary⟩ := h
  exact ⟨himage, hdoor, hheat, hreadings, hsummary⟩

/-- Settles O7, by laying the rows of each table over the block that shows the state. -/
theorem readOutEchoAndAttnShowState : Obligations.ReadOutEchoAndAttnShowState := by
  refine ⟨fun s hs => ?_, by decide, fun s => ?_⟩
  · obtain ⟨himage, hdoor, hheat, hreadings, hsummary⟩ := settled_blocks hs
    refine ⟨shows_summary s, fun x hh he => ?_, shows_image himage, fun i r hi hr => shows_record himage hi hr,
      fun i hi hr => shows_noRecord himage hi hr, shows_door hdoor, fun k => ?_, fun hrole hcounts => shows_lead hdoor hrole hsummary hcounts,
      fun hrole => shows_member hdoor hrole, shows_heat hheat, fun p hp hp' => shows_share hheat hp hp', fun hfire => shows_fire hheat hfire,
      shows_readings hreadings, fun a ha => ?_⟩
    · cases x
      exacts [shows_span s .a hh he, shows_span s .b hh he]
    · cases k
      exacts [⟨shows_side hdoor (k := .one), shows_absentSide hdoor (k := .one)⟩, ⟨shows_side hdoor (k := .two), shows_absentSide hdoor (k := .two)⟩]
    · rw [State.readByte, ha]
  · have hcount := differing_eq s
    rw [mark_eq s (show 0 < 6 by decide), mark_eq s (show 1 < 6 by decide), mark_eq s (show 2 < 6 by decide),
      mark_eq s (show 3 < 6 by decide), mark_eq s (show 4 < 6 by decide), mark_eq s (show 5 < 6 by decide)] at hcount
    refine ⟨hcount, Notes.byte_eq _, ?_, ?_, ?_⟩
    · exact (echoBytes_cases s).trans (by rw [hcount]; rfl)
    · rw [State.attnActive, hcount]
      rfl
    · unfold State.attnPin
      cases s.port.setting.getLsbD 2 <;> cases s.attnActive == s.port.setting.getLsbD 1 <;> rfl

end Sys2Proof.Machine

/-!
The published blocks with their counters and tallies, and the operations that leave them as they are: they are rewritten at the end of
a step, and within it only where the image is split (R75; log 25).
-/

namespace Sys2Proof.Machine

/-- The published blocks with the tallies that rewrites raise. -/
def State.published (s : State) : Published × Word16 × Word16 × Word16 :=
  (s.pub, s.tallies.consist, s.tallies.door, s.tallies.heat)

theorem kept_iff_published {s t : State} : Part.pub.kept s t ↔ t.published = s.published := by
  simp [Part.kept, State.published]

section
variable (s : State)

@[simp] theorem published_advance (dt : Nat) : (s.advance dt).published = s.published := rfl

@[simp] theorem published_raise (g : Nat) (e : Event) : (s.raise g e).published = s.published := rfl

@[simp] theorem published_setSlotState (k : Nat) (b : Byte) : (s.setSlotState k b).published = s.published := rfl

@[simp] theorem published_complete (k : Nat) (o : SlotOutcome) (d : Byte) (r : List Byte) : (s.complete k o d r).published = s.published := rfl

@[simp] theorem published_completeIf (k : Option Nat) (o : SlotOutcome) (d : Byte) (r : List Byte) :
    (s.completeIf k o d r).published = s.published := by cases k <;> rfl

@[simp] theorem published_setSpan (x : SpanId) (u : Span) : (s.setSpan x u).published = s.published := by cases x <;> rfl

@[simp] theorem published_setSide (k : SideId) (d : Side) : (s.setSide k d).published = s.published := by cases k <;> rfl

@[simp] theorem published_setCensus (c : Census) : (s.setCensus c).published = s.published := rfl

@[simp] theorem published_setWatch (k : RollKind) (w : RollWatch) : (s.setWatch k w).published = s.published := rfl

@[simp] theorem published_clearAllocations : s.clearAllocations.published = s.published := rfl

@[simp] theorem published_dropHeldRoll : s.dropHeldRoll.published = s.published := rfl

@[simp] theorem published_setRecords (rs : List ImageRecord) : (s.setRecords rs).published = s.published := rfl

theorem published_ite {p : Prop} [Decidable p] {s t u : State} (ht : t.published = s.published) (hu : u.published = s.published) :
    (if p then t else u).published = s.published := by
  split
  exacts [ht, hu]

@[simp] theorem published_offer (x : SpanId) (f : TxFrame) : (s.offer x f).1.published = s.published := by
  have h := (touches_offer (P := [.choices, .spanA, .spanB]) (s := s) (t := s) x f (by cases x <;> decide) (by decide)).mpr (Touches.refl _ _)
  exact kept_iff_published.1 (h .pub (by decide)).1

@[simp] theorem published_send (x : SpanId) (f : Frame) : (s.send x f).published = s.published := published_offer s x _

@[simp] theorem published_sendIf (x : Option SpanId) (f : Frame) : (s.sendIf x f).published = s.published := by
  cases x
  exacts [rfl, published_send s _ f]

@[simp] theorem published_enqueueHello (x : SpanId) : (s.enqueueHello x).published = s.published := published_offer s x _

/-! ## The heating share unit and the doors -/

@[simp] theorem published_setCap (new : CapState) (cause : CapCause) : (s.setCap new cause).published = s.published := by
  unfold State.setCap
  exact published_ite rfl rfl

@[simp] theorem published_takeGrant (value : Nat) (gen alloc : Word16) : (s.takeGrant value gen alloc).published = s.published := by
  unfold State.takeGrant
  dsimp only
  split
  case h_4 => exact published_setCap _ _ _
  all_goals rfl

@[simp] theorem published_generationChanged : s.generationChanged.published = s.published := by
  unfold State.generationChanged
  split
  case h_1 => exact published_setCap _ _ _
  all_goals rfl

theorem OnlySides.published {s t : State} (h : OnlySides s t) : t.published = s.published := by
  obtain ⟨d1, d2, l, rfl⟩ := h
  rfl

theorem published_door (v : Door) : State.published { s with door := v } = s.published := rfl

@[simp] theorem published_finishOrder (o : Outstanding) (m : OrderAck) (out : SlotOutcome) (d : Byte) :
    (s.finishOrder o m out d).published = s.published := by
  unfold State.finishOrder
  exact (published_door _ _).trans (published_complete s _ _ _ _)

@[simp] theorem published_endOutstanding (out : SlotOutcome) (d st og : Byte) : (s.endOutstanding out d st og).published = s.published := by
  unfold State.endOutstanding
  split
  exacts [published_finishOrder s _ _ _ _, rfl]

@[simp] theorem published_leadTakesAck (m : OrderAck) : (s.leadTakesAck m).published = s.published := by
  unfold State.leadTakesAck
  split
  · rfl
  · refine published_ite rfl ?_
    split
    exacts [rfl, published_finishOrder s _ _ _ _]

@[simp] theorem published_handOrder (o : Order) (gen : Word16) (applyAt : Nat) (late : Bool) (position : Nat) :
    (s.handOrder o gen applyAt late position).1.published = s.published := (onlySides_handOrder s o gen applyAt late position).published

@[simp] theorem published_leadTakesOwn (f : Flight) (applyAt : Nat) : (s.leadTakesOwn f applyAt).published = s.published := by
  have h := published_handOrder s f.order f.gen applyAt false 1
  unfold State.leadTakesOwn
  dsimp only
  split
  · exact h
  · exact published_ite ((published_door _ _).trans h) h

/-- The order leaves those in flight and the lead takes it. -/
theorem published_taken (v : Door) (f : Flight) (applyAt : Nat) :
    (State.leadTakesOwn { s with door := v } f applyAt).published = s.published := published_leadTakesOwn _ f applyAt

@[simp] theorem published_leadOrderCompleted (number : Byte) (start : Nat) : (s.leadOrderCompleted number start).published = s.published := by
  unfold State.leadOrderCompleted
  split
  · rfl
  · dsimp only
    split
    · refine published_ite ?_ (published_taken s _ _ _)
      split
      exacts [(published_leadTakesAck _ _).trans (published_taken s _ _ _), published_taken s _ _ _]
    · exact published_taken s _ _ _

@[simp] theorem published_leadOrderLost (number : Byte) (why : StopReason) : (s.leadOrderLost number why).published = s.published := by
  unfold State.leadOrderLost
  split
  · rfl
  · dsimp only
    split
    · exact published_ite ((published_finishOrder _ _ _ _ _).trans (published_taken s _ _ _)) (published_taken s _ _ _)
    · exact published_taken s _ _ _

/-! ## The wave relay -/

theorem published_relay (v : Relay) : State.published { s with relay := v } = s.published := rfl

@[simp] theorem published_sendAck (m : OrderAck) (gen : Word16) : (s.sendAck m gen).published = s.published := published_sendIf s _ _

@[simp] theorem published_startAck (number : Byte) (gen : Word16) (c : Contribution) (why : StopReason) :
    (s.startAck number gen c why).published = s.published := published_sendAck s _ _

@[simp] theorem published_endOpenOrder (why : StopReason) : (s.endOpenOrder why).published = s.published := by
  unfold State.endOpenOrder
  split
  · rfl
  · exact (published_startAck _ _ _ _ _).trans (published_relay s _)

@[simp] theorem published_forwardedLost (gen : Word16) (number : Byte) (why : StopReason) :
    (s.forwardedLost gen number why).published = s.published := by
  unfold State.forwardedLost
  split
  exacts [rfl, published_ite (published_endOpenOrder s _) rfl]

@[simp] theorem published_tellLost (why : StopReason) (f : TxFrame) : (s.tellLost why f).published = s.published := by
  unfold State.tellLost
  split
  exacts [rfl, published_leadOrderLost s _ _, published_forwardedLost s _ _ _]

theorem published_tellAll (fs : List TxFrame) : (s.tellAll fs).published = s.published := by
  unfold State.tellAll
  induction fs generalizing s with
  | nil => rfl
  | cons f fs ih => exact (ih _).trans (published_tellLost s _ _)

@[simp] theorem published_offerOrder (x : SpanId) (f : TxFrame) : (s.offerOrder x f).published = s.published := by
  have hoffer := published_offer s x f
  unfold State.offerOrder
  split
  all_goals
    rename_i heq
    rw [heq] at hoffer
  exacts [hoffer, (published_tellLost _ _ _).trans hoffer, (published_tellLost _ _ _).trans hoffer]

@[simp] theorem published_watchBelow : s.watchBelow.published = s.published := rfl

@[simp] theorem published_relaySpanDown (x : SpanId) : (s.relaySpanDown x).published = s.published := by
  unfold State.relaySpanDown
  exact published_ite (published_endOpenOrder s _) rfl

/-! ## The census engine -/

@[simp] theorem published_enterCensus (c : CensusState) : (s.enterCensus c).published = s.published := by
  unfold State.enterCensus
  refine published_ite rfl ?_
  dsimp only
  split
  exacts [rfl, (published_dropHeldRoll _).trans ((published_endOutstanding _ _ _ _ _).trans rfl)]

theorem published_table (v : Table) : State.published { s with table := v } = s.published := rfl

@[simp] theorem published_writeTable (own : Nat) (gen number : Word16) (lead : Word32) (rs : List CarRecord) :
    (s.writeTable own gen number lead rs).published = s.published := by
  unfold State.writeTable
  exact published_ite rfl ((published_generationChanged _).trans (published_table s _))

@[simp] theorem published_sendVoid (x : SpanId) (m : VoidMark) : (s.sendVoid x m).published = s.published := by
  unfold State.sendVoid
  exact published_ite (published_send s _ _) rfl

@[simp] theorem published_completeCensusSlot (o : SlotOutcome) (d : Byte) (n : Nat) (p : Byte) :
    (s.completeCensusSlot o d n p).published = s.published := by simp [State.completeCensusSlot]

@[simp] theorem published_censusFailedEvent (reason : FailReason) (p : Byte) : (s.censusFailedEvent reason p).published = s.published := rfl

@[simp] theorem published_startSettle (retry : Nat) : (s.startSettle retry).published = s.published := by
  unfold State.startSettle
  exact published_ite rfl rfl

@[simp] theorem published_failCensus (reason : FailReason) (p : Byte) : (s.failCensus reason p).published = s.published := by
  unfold State.failCensus
  exact published_ite (by simp) (by simp)

@[simp] theorem published_completeCensus : s.completeCensus.published = s.published := by simp [State.completeCensus]

@[simp] theorem published_becomeLead : s.becomeLead.published = s.published := rfl

@[simp] theorem published_becomeMember : s.becomeMember.published = s.published :=
  (published_clearAllocations _).trans (published_enterCensus s .uncensused)

@[simp] theorem published_goStale (p e c : Byte) : (s.goStale p e c).published = s.published := by
  unfold State.goStale
  exact published_ite (by simp) rfl

@[simp] theorem published_sendBreak (x : SpanId) (c : Byte) : (s.sendBreak x c).published = s.published := published_sendIf s _ _

@[simp] theorem published_leadSpanEvent (x : SpanId) (c : Byte) : (s.leadSpanEvent x c).published = s.published := by
  simp [State.leadSpanEvent]

@[simp] theorem published_leaveCensus : s.leaveCensus.published = s.published := published_enterCensus s _

@[simp] theorem published_reportSilent (c : Context) : (s.reportSilent c).published = s.published := by simp [State.reportSilent]

@[simp] theorem published_memberSpanLost (x : SpanId) (c : Byte) : (s.memberSpanLost x c).published = s.published := by
  unfold State.memberSpanLost
  exact published_ite (by simp) (published_ite (by simp) rfl)

@[simp] theorem published_censusSpanUp (x : SpanId) : (s.censusSpanUp x).published = s.published := by
  unfold State.censusSpanUp
  split
  · exact published_ite (published_ite (by simp) rfl) (by simp)
  · exact published_ite (by simp) rfl

@[simp] theorem published_censusSpanDown (x : SpanId) (cause : Cause) : (s.censusSpanDown x cause).published = s.published := by
  unfold State.censusSpanDown
  split
  · exact published_ite (published_ite (by simp) rfl) (by simp)
  · split
    case h_1 => exact published_ite (by simp) (by simp)
    case h_2 => exact published_ite (by simp) rfl
    case h_8 => simp
    case h_9 => simp
    all_goals rfl

end

end Sys2Proof.Machine

/-!
The commands' own operations that leave the published blocks as they are: the census answers, the orders, the doors, the heating.
-/

namespace Sys2Proof.Machine

section
variable (s : State)

/-! ## Census -/

@[simp] theorem published_dropLead : s.dropLead.published = s.published := by
  unfold State.dropLead
  exact published_ite (by simp) (by simp)

@[simp] theorem published_leadConflict (who : Byte) (lead : Word32) : (s.leadConflict who lead).published = s.published := rfl

@[simp] theorem published_adoptCall (x : SpanId) (m : CallMsg) : (s.adoptCall x m).published = s.published := by
  unfold State.adoptCall
  exact published_ite (published_ite (by simp) (by simp)) (by simp)

@[simp] theorem published_memberCall (x : SpanId) (m : CallMsg) : (s.memberCall x m).published = s.published := by
  unfold State.memberCall
  refine published_ite rfl ?_
  split
  · exact published_adoptCall s x m
  · exact published_ite (published_ite (by simp) rfl) (published_ite (by simp [State.memberConflict]) (by simp))

@[simp] theorem published_leadCall (x : SpanId) (m : CallMsg) : (s.leadCall x m).published = s.published := by
  unfold State.leadCall
  exact published_ite rfl (published_ite (by simp) (by simp))

@[simp] theorem published_takeCall (x : SpanId) (f : Frame) : (s.takeCall x f).published = s.published := by
  unfold State.takeCall
  split
  · rfl
  · split
    exacts [published_memberCall s x _, published_leadCall s x _]

@[simp] theorem published_relayReport (m : ReportMsg) (c : Context) : (s.relayReport m c).published = s.published := by
  unfold State.relayReport
  exact published_ite (by simp) (by simp)

@[simp] theorem published_buildTable (rs : List CarRecord) : (s.buildTable rs).published = s.published := by simp [State.buildTable]

@[simp] theorem published_leadReport (x : SpanId) (m : ReportMsg) : (s.leadReport x m).published = s.published := by
  unfold State.leadReport
  refine published_ite ?_ rfl
  split
  case h_4 => exact published_ite (by simp) (by simp)
  all_goals simp

@[simp] theorem published_takeReport (x : SpanId) (f : Frame) : (s.takeReport x f).published = s.published := by
  unfold State.takeReport
  split
  · rfl
  · split
    · unfold State.memberReport
      split
      exacts [published_ite (by simp) rfl, rfl]
    · exact published_leadReport s x _

@[simp] theorem published_sendTableAck (c : Context) (acks refusals first : Byte) :
    (s.sendTableAck c acks refusals first).published = s.published := published_send s _ _

@[simp] theorem published_adoptTable (m : TableMsg) (c : Context) (payload : List Byte) :
    (s.adoptTable m c payload).published = s.published := by
  unfold State.adoptTable
  exact published_ite (by simp) (published_ite (by simp) (by simp))

@[simp] theorem published_refuseTable (c : Context) : (s.refuseTable c).published = s.published := by simp [State.refuseTable]

@[simp] theorem published_takeTable (x : SpanId) (f : Frame) : (s.takeTable x f).published = s.published := by
  unfold State.takeTable
  split
  · unfold State.memberTable
    split
    · rfl
    · exact published_ite (published_ite (published_ite (by simp) (by simp)) (published_ite rfl (by simp))) rfl
  all_goals rfl

@[simp] theorem published_takeTableAck (x : SpanId) (f : Frame) : (s.takeTableAck x f).published = s.published := by
  unfold State.takeTableAck
  split
  · rfl
  · split
    · unfold State.memberTableAck
      split
      exacts [rfl, published_ite (by simp) rfl]
    · unfold State.leadTableAck
      exact published_ite (published_ite (by simp) (by simp)) rfl

@[simp] theorem published_takeVoid (x : SpanId) (f : Frame) : (s.takeVoid x f).published = s.published := by
  unfold State.takeVoid
  split
  · unfold State.memberVoid
    split
    exacts [rfl, published_ite (published_ite (by simp) (by simp)) rfl]
  all_goals rfl

@[simp] theorem published_takeBreak (x : SpanId) (f : Frame) : (s.takeBreak x f).published = s.published := by
  unfold State.takeBreak
  split
  · rfl
  · split
    · unfold State.memberBreak
      exact published_ite (by simp) rfl
    · unfold State.leadBreak
      refine published_ite ?_ rfl
      split
      all_goals simp

@[simp] theorem published_censusTimeout : s.censusTimeout.published = s.published := by
  unfold State.censusTimeout
  split
  all_goals simp

/-! ## Doors -/

@[simp] theorem published_enterSide (k : SideId) (new : DoorState) (cause : DoorCause) (number : Byte) :
    (s.enterSide k new cause number).published = s.published := (onlySides_enterSide s k new cause number).published

@[simp] theorem published_causeArises (k : SideId) (f : FaultCause) : (s.causeArises k f).published = s.published := by
  have hmarks : (s.marks k f).published = s.published := by
    unfold State.marks
    exact published_ite (by simp) ((published_raise _ _ _).trans (published_setSide s k _))
  obtain heq | ⟨new, heq⟩ := causeArises_cases s k f
  · rw [heq, hmarks]
  · rw [heq, published_enterSide, hmarks]

@[simp] theorem published_isolateSide (k : SideId) : (State.isolateSide k s).published = s.published := by
  unfold State.isolateSide
  exact published_ite rfl (by simp)

@[simp] theorem published_restoreSide (k : SideId) : (State.restoreSide k s).published = s.published := by
  unfold State.restoreSide
  exact published_ite (by simp) rfl

theorem published_doorLocal (r : Request) {act : SideId → State → State} (h : ∀ k u, (act k u).published = u.published) :
    (s.doorLocal r act).published = s.published := by
  have hone {p : Prop} [Decidable p] (k : SideId) (u : State) : (if p then act k u else u).published = u.published :=
    published_ite (h k u) rfl
  unfold State.doorLocal
  exact published_ite (by simp) (published_ite (by simp) ((published_complete _ _ _ _ _).trans ((hone _ _).trans (hone _ _))))

@[simp] theorem published_faultClearDoor (r : Request) : (s.faultClearDoor r).published = s.published := by
  have hclear (k : SideId) : (s.clearSide k r).published = s.published := by
    unfold State.clearSide State.completeClear
    refine published_ite (by simp) (published_ite (by simp) (published_ite (by simp) ?_))
    exact (published_complete _ _ _ _ _).trans (published_ite (by simp) (by simp))
  unfold State.faultClearDoor
  exact published_ite (hclear _) (published_ite (hclear _) (by simp))

@[simp] theorem published_lockTrue (k : SideId) : (s.lockTrue k).published = s.published := by
  unfold State.lockTrue
  dsimp only
  split
  all_goals simp

@[simp] theorem published_lockFalse (k : SideId) : (s.lockFalse k).published = s.published := by
  unfold State.lockFalse
  dsimp only
  split
  all_goals simp

@[simp] theorem published_takeFeedback (k : SideId) (high : Bool) : (s.takeFeedback k high).published = s.published := by
  unfold State.takeFeedback
  exact published_ite (by simp) (published_ite (by simp) (by simp))

@[simp] theorem published_applyAtInstant (i : Nat) (k : SideId) : (s.applyAtInstant i k).published = s.published := by
  unfold State.applyAtInstant
  split
  · exact published_ite (onlySides_applyPending s k _).published rfl
  · rfl

@[simp] theorem published_withdrawSide (k : SideId) : (s.withdrawSide k).published = s.published := by
  unfold State.withdrawSide
  exact published_ite (by simp) rfl

@[simp] theorem published_changeAux (low : Bool) (kind : Byte) : (s.changeAux low kind).published = s.published := rfl

@[simp] theorem published_doorOrder (r : Request) : (s.doorOrder r).published = s.published := by
  have hended := published_endOutstanding s .superseded 0 0 0
  unfold State.doorOrder
  split
  · simp
  · unfold State.takeDoorOrder
    refine published_ite ?_ ?_
    · exact (published_finishOrder _ _ _ _ _).trans ((published_handOrder _ _ _ _ _ _).trans ((published_door _ _).trans hended))
    · exact (published_offerOrder _ _ _).trans ((published_door _ _).trans ((published_door _ _).trans hended))
  · rfl

/-! ## Waves -/

@[simp] theorem published_forwardOrder (f : Frame) (o : Order) (endAt : Nat) (c : Contribution) :
    (s.forwardOrder f o endAt c).published = s.published := by
  unfold State.forwardOrder
  dsimp only
  split
  · rfl
  · exact (published_offerOrder _ _ _).trans (published_relay s _)

@[simp] theorem published_memberOrder (f : Frame) (o : Order) (endAt : Nat) : (s.memberOrder f o endAt).published = s.published := by
  have hlate (u : State) : (u.noteLate f o).published = u.published := published_ite rfl rfl
  have hhand : (((State.noteLate { s with relay := { s.relay with lastOrder := some (f.gen, o.number) } } f o).handOrder o f.gen
      (applyInstant f endAt) f.late s.table.own).1).published = s.published :=
    (published_handOrder _ _ _ _ _ _).trans ((hlate _).trans (published_relay s _))
  unfold State.memberOrder
  refine published_ite ?_ ((published_forwardOrder _ _ _ _ _).trans hhand)
  exact (published_startAck _ _ _ _ _).trans ((published_relay _ _).trans hhand)

@[simp] theorem published_takeOrder (x : SpanId) (f : Frame) (endAt : Nat) : (s.takeOrder x f endAt).published = s.published := by
  unfold State.takeOrder
  split
  · exact published_ite (published_send s _ _) (published_ite rfl (published_ite rfl (by simp)))
  all_goals rfl

@[simp] theorem published_takeOrderAck (x : SpanId) (f : Frame) : (s.takeOrderAck x f).published = s.published := by
  unfold State.takeOrderAck
  split
  · rfl
  · refine published_ite ?_ rfl
    split
    · unfold State.memberOrderAck
      split
      · rfl
      · exact published_ite ((published_sendAck _ _ _).trans (published_relay s _)) rfl
    · exact published_leadTakesAck s _

@[simp] theorem published_takeGrantFrame (x : SpanId) (f : Frame) : (s.takeGrantFrame x f).published = s.published := by
  unfold State.takeGrantFrame
  split
  · refine published_ite ?_ rfl
    have htaken (v : Relay) (value : Nat) (gen alloc : Word16) (rs : List ImageRecord) :
        (((State.takeGrant { s with relay := v } value gen alloc).setRecords rs).published) = s.published :=
      (published_setRecords _ _).trans ((published_takeGrant _ _ _ _).trans (published_relay s v))
    unfold State.memberGrant
    exact published_ite (htaken _ _ _ _ _) ((published_sendIf _ _ _).trans (htaken _ _ _ _ _))
  all_goals rfl

@[simp] theorem published_noteRoll (k : RollKind) : (s.noteRoll k).published = s.published := rfl

@[simp] theorem published_takeDoorState (x : SpanId) (f : Frame) : (s.takeDoorState x f).published = s.published := by
  unfold State.takeDoorState
  split
  · rfl
  · refine published_ite ?_ rfl
    split
    · exact (published_sendIf _ _ _).trans (published_noteRoll s _)
    · rfl

/-! ## Heating and readings -/

@[simp] theorem published_heatDemand (r : Request) : (s.heatDemand r).published = s.published :=
  published_complete _ _ _ _ _

@[simp] theorem published_faultClearHeating (r : Request) : (s.faultClearHeating r).published = s.published := by
  unfold State.faultClearHeating
  exact published_ite ((published_complete _ _ _ _ _).trans (published_setCap _ _ _)) (published_complete _ _ _ _ _)

@[simp] theorem published_completeReading (c : Chan) (block : List (BitVec 12)) : (s.completeReading c block).published = s.published := by
  have haux (u : State) (reading : Nat) : (u.judgeAux reading).published = u.published :=
    published_ite (published_ite rfl rfl) (published_ite rfl rfl)
  have hadd (u : State) (reading : Nat) : (u.addReading reading).published = u.published := published_ite rfl rfl
  unfold State.completeReading
  cases c
  exacts [rfl, hadd _ _, haux _ _]

end

end Sys2Proof.Machine

/-!
How often an operation rewrites the image within a step (R70, R71, R75): an allocation once, demands noted and a new end car twice.
-/

namespace Sys2Proof.Machine

/-- From `s` to `t` the image has been rewritten at most `n` times, its counter and CONSIST_TALLY raised with each rewrite, and no
other block has been (R70, R71). -/
structure Rewrites (n : Nat) (s t : State) : Prop where
  count : ∃ k : Nat, k ≤ n ∧ t.pub.imageCounter = s.pub.imageCounter + 2 * word32 k ∧
    t.tallies.consist = s.tallies.consist + word16 k ∧ (t.pub.image ≠ s.pub.image → 0 < k)
  rest : t.pub = { s.pub with image := t.pub.image, imageCounter := t.pub.imageCounter }
  door : t.tallies.door = s.tallies.door
  heat : t.tallies.heat = s.tallies.heat

theorem word32_zero : word32 0 = 0 := rfl

theorem word16_zero : word16 0 = 0 := rfl

/-- No block has been rewritten. -/
theorem Rewrites.of_published {s t : State} (h : t.published = s.published) : Rewrites 0 s t := by
  obtain ⟨hpub, hconsist, hdoor, hheat⟩ := kept_iff_published.2 h
  refine ⟨⟨0, Nat.le_refl _, ?_, ?_, fun hne => absurd (by rw [hpub]) hne⟩, by rw [hpub], hdoor, hheat⟩
  · rw [hpub, word32_zero]
    exact (BitVec.add_zero _).symm
  · rw [hconsist, word16_zero]
    exact (BitVec.add_zero _).symm

section
variable {n m : Nat} {s t u : State}

theorem Rewrites.refl (s : State) : Rewrites 0 s s := .of_published rfl

theorem Rewrites.mono (h : Rewrites n s t) (hn : n ≤ m) : Rewrites m s t := by
  obtain ⟨k, hk, hrest⟩ := h.count
  exact { h with count := ⟨k, Nat.le_trans hk hn, hrest⟩ }

theorem word32_add (a b : Nat) : word32 (a + b) = word32 a + word32 b := BitVec.ofNat_add _ _

theorem word16_add (a b : Nat) : word16 (a + b) = word16 a + word16 b := BitVec.ofNat_add _ _

theorem Rewrites.trans (h : Rewrites n s t) (h' : Rewrites m t u) : Rewrites (n + m) s u := by
  obtain ⟨k, hk, hcounter, htally, hchanged⟩ := h.count
  obtain ⟨l, hl, hcounter', htally', hchanged'⟩ := h'.count
  refine ⟨⟨k + l, Nat.add_le_add hk hl, ?_, ?_, fun hne => ?_⟩, by rw [h'.rest, h.rest], h'.door.trans h.door, h'.heat.trans h.heat⟩
  · rw [hcounter', hcounter, word32_add, BitVec.mul_add, BitVec.add_assoc]
  · rw [htally', htally, word16_add, BitVec.add_assoc]
  · by_cases heq : u.pub.image = t.pub.image
    · exact Nat.add_pos_left (hchanged fun hst => hne (heq.trans hst)) _
    · exact Nat.add_pos_right _ (hchanged' heq)

/-- Before rewrites nothing is rewritten. -/
theorem Rewrites.after (h' : Rewrites n t u) (h : Rewrites 0 s t) : Rewrites n s u := (h.trans h').mono (by omega)

theorem Rewrites.next (h : Rewrites n s t) (h' : Rewrites 0 t u) : Rewrites n s u := h.trans h'

theorem Rewrites.branch {p : Prop} [Decidable p] (ht : p → Rewrites n s t) (hu : ¬p → Rewrites n s u) : Rewrites n s (if p then t else u) := by
  split
  exacts [ht ‹_›, hu ‹_›]

theorem Rewrites.nothing (s : State) : Rewrites n s s := (Rewrites.refl s).mono (Nat.zero_le _)

/-- A guarded operation. -/
theorem Rewrites.when {p : Prop} [Decidable p] (ht : p → Rewrites n s t) : Rewrites n s (if p then t else s) :=
  .branch ht fun _ => .nothing s

end

/-- A rewrite of the image, if a byte changed (R70, R71). -/
theorem rewrites_publishImage (s : State) : Rewrites 1 s s.publishImage := by
  unfold State.publishImage
  split
  · exact .nothing s
  · exact ⟨⟨1, Nat.le_refl _, rfl, rfl, fun _ => Nat.one_pos⟩, rfl, rfl, rfl⟩

section
variable {n : Nat}

theorem Rewrites.takeFrame {f : RxFrame → State → State} (hf : ∀ r s, Rewrites n s (f r s)) (s : State) (x : SpanId) (k : FrameKind) :
    Rewrites n s (s.takeFrame x k f) := by
  unfold State.takeFrame
  dsimp only
  split
  · exact .when fun _ => (hf _ _).after (.of_published (published_setSpan s x _))
  · exact .nothing s

theorem Rewrites.takeWhileUp {f : Frame → Nat → State → State} (hf : ∀ r n' s, Rewrites n s (f r n' s)) (s : State) (x : SpanId)
    (k : FrameKind) : Rewrites n s (s.takeWhileUp x k f) :=
  .takeFrame (fun _ _ => .when fun _ => hf _ _ _) s x k

theorem Rewrites.takeWave {f : Frame → Nat → State → State} (hf : ∀ r n' s, Rewrites n s (f r n' s)) (s : State) (x : SpanId)
    (k : FrameKind) : Rewrites n s (s.takeWave x k f) :=
  .takeWhileUp (fun _ _ _ => .when fun _ => hf _ _ _) s x k

theorem Rewrites.serve {f : Request → State → State} (hf : ∀ r s, Rewrites n s (f r s)) (s : State) (p : Request → Bool) :
    Rewrites n s (s.serve p f) := by
  unfold State.serve
  split
  · exact (hf _ _).after (.of_published rfl)
  · exact .nothing s

end

section
variable (s : State)

/-- The demands are a rewrite of their own, after one of what changed before them (R75). -/
theorem rewrites_noteDemands (es : List (Nat × Nat)) : Rewrites 2 s (s.noteDemands es) := by
  have hnoted : Rewrites 1 s.publishImage (s.publishImage.setRecords (writeDemands s.publishImage.table.records es)).publishImage :=
    (rewrites_publishImage _).after (.of_published (published_setRecords _ _))
  exact (rewrites_publishImage s).trans hnoted

theorem rewrites_originate (k : RollKind) : Rewrites 2 s (s.originate k) := by
  cases k
  · exact (Rewrites.of_published (published_sendIf s _ _)).mono (Nat.zero_le _)
  · exact (rewrites_noteDemands s _).next (.of_published (published_sendIf _ _ _))

theorem rewrites_becomeEnd : Rewrites 2 s s.becomeEnd := by
  have harmed : Rewrites 0 s (s.endArmed.originate .doorState) :=
    .of_published ((published_sendIf s.endArmed _ _).trans (published_relay s _))
  rw [becomeEnd_eq]
  exact (rewrites_originate _ .demand).after harmed

theorem rewrites_reviewEnd : Rewrites 2 s s.reviewEnd := by
  unfold State.reviewEnd
  exact .when fun _ => .branch (fun _ => .branch (fun _ => .nothing s) fun _ => rewrites_becomeEnd s)
    fun _ => .branch (fun _ => .nothing s) fun _ => (Rewrites.of_published (published_watchBelow s)).mono (Nat.zero_le _)

theorem published_heat (v : Heat) : State.published { s with heat := v } = s.published := rfl

/-- The image is published before the grants, so that they are a rewrite of their own (R75). -/
theorem rewrites_allocate : Rewrites 1 s s.allocate := by
  have hown : s.ownGrant.published = s.publishImage.published := (published_takeGrant _ _ _ _).trans (published_heat _ _)
  have hallotted : Rewrites 1 s s.allotted :=
    (rewrites_publishImage s).next (.of_published ((published_heat _ _).trans ((published_setRecords _ _).trans hown)))
  rw [allocate_eq]
  exact .branch (fun _ => hallotted.next (.of_published (published_send _ _ _))) fun _ => hallotted

end

end Sys2Proof.Machine

/-!
Spans that leave UP (R21, R63, R86): the car becomes the end car at most once, also when both spans go down at one moment, so that
the image is rewritten at most twice.
-/

namespace Sys2Proof.Machine

/-- A member in VALID or STALE has been one before, and what the relay knew of the end car stands. -/
def EndKept (s t : State) : Prop :=
  t.census.role = .member → t.census.state.listed = true →
    s.census.role = .member ∧ s.census.state.listed = true ∧ t.relay.endCar = s.relay.endCar

section
variable {s t u : State}

theorem EndKept.refl (s : State) : EndKept s s := fun hr hl => ⟨hr, hl, rfl⟩

theorem EndKept.trans (h : EndKept s t) (h' : EndKept t u) : EndKept s u := fun hr hl => by
  obtain ⟨hr', hl', hend⟩ := h' hr hl
  obtain ⟨hr'', hl'', hend'⟩ := h hr' hl'
  exact ⟨hr'', hl'', hend.trans hend'⟩

theorem EndKept.of_eq (hc : t.census = s.census) (hr : t.relay.endCar = s.relay.endCar) : EndKept s t := fun hrole hl => by
  rw [hc] at hrole hl
  exact ⟨hrole, hl, hr⟩

theorem EndKept.of_unlisted (h : t.census.state.listed = false) : EndKept s t := fun _ hl => absurd hl (by simp [h])

theorem EndKept.of_lead (h : t.census.role = .lead) : EndKept s t := fun hr => absurd hr (by simp [h])

theorem EndKept.branch {p : Prop} [Decidable p] (ht : p → EndKept s t) (hu : ¬p → EndKept s u) : EndKept s (if p then t else u) := by
  split
  exacts [ht ‹_›, hu ‹_›]

end

section
variable (s : State)

theorem endKept_goStale (p e c : Byte) : EndKept s (s.goStale p e c) := by
  intro hr hl
  rw [goStale_role] at hr
  refine ⟨hr, ?_, by rw [(goStale_rest s p e c).2.2.1]⟩
  rw [goStale_state] at hl
  split at hl
  next hv => rw [hv]; rfl
  · exact hl

theorem endKept_leaveCensus : EndKept s s.leaveCensus := .of_unlisted (by rw [leaveCensus_state]; rfl)

theorem endKept_sendBreak (x : SpanId) (c : Byte) : EndKept s (s.sendBreak x c) :=
  .of_eq (sendBreak_census s x c) (congrArg Relay.endCar (sendIf_relay s _ _))

theorem endKept_relaySpanDown (x : SpanId) : EndKept s (s.relaySpanDown x) := by
  obtain ⟨h, -⟩ := told_endOpenOrder s
  unfold State.relaySpanDown
  exact .branch (fun _ => .of_eq h.census (by rw [h.relay])) fun _ => .refl s

theorem endKept_censusSpanDown (x : SpanId) (cause : Cause) : EndKept s (s.censusSpanDown x cause) := by
  have hlost : EndKept s (s.memberSpanLost x cause.code) := by
    unfold State.memberSpanLost
    exact .branch (fun _ => (endKept_sendBreak s x _).trans (endKept_goStale _ _ _ _)) fun _ => .branch (fun _ =>
      .of_unlisted (by rw [leaveCensus_state]; rfl)) fun _ => .refl s
  unfold State.censusSpanDown
  split
  next hr =>
    refine .branch (fun _ => .branch (fun _ => ?_) fun _ => .refl s) fun _ => .of_lead ?_
    · refine .of_unlisted ?_
      rw [failCensus_census]
      split <;> rfl
    · unfold State.leadSpanEvent
      rw [startSettle_census]
      split <;> exact (goStale_role s _ _ _).trans hr
  · split
    case h_1 => exact .branch (fun _ => endKept_leaveCensus s) fun _ => .of_unlisted (by rw [reportSilent_census]; rfl)
    case h_2 => exact .branch (fun _ => endKept_leaveCensus s) fun _ => .refl s
    case h_8 | h_9 => exact hlost
    all_goals exact .refl s

end

/-- No span is UP. -/
def BothDown (s : State) : Prop := ∀ x, s.isUp x = false

/-- The rewrites that becoming the end car may still take. -/
def State.endDue (s : State) : Nat :=
  if s.census.role = .member ∧ s.census.state.listed = true ∧ s.relay.endCar ≠ some true then 2 else 0

theorem EndKept.endDue_le {s t : State} (h : EndKept s t) : t.endDue ≤ s.endDue := by
  unfold State.endDue
  split
  next ht =>
    obtain ⟨hr, hl, hend⟩ := h ht.1 ht.2.1
    rw [if_pos ⟨hr, hl, hend ▸ ht.2.2⟩]
  · exact Nat.zero_le _

/-- With both spans down the operation rewrites the image no more often than a new end car still may. -/
def SpendsEnd (s t : State) : Prop := BothDown s → BothDown t ∧ ∃ n : Nat, Rewrites n s t ∧ n + t.endDue ≤ s.endDue

theorem SpendsEnd.trans {s t u : State} (h : SpendsEnd s t) (h' : SpendsEnd t u) : SpendsEnd s u := fun hs => by
  obtain ⟨ht, n, hn, hle⟩ := h hs
  obtain ⟨hu, m, hm, hle'⟩ := h' ht
  exact ⟨hu, n + m, hn.trans hm, by omega⟩

theorem spendsEnd_of_kept {s t : State} (hdown : BothDown s → BothDown t) (h : t.published = s.published) (hend : EndKept s t) : SpendsEnd s t :=
  fun hs => ⟨hdown hs, 0, .of_published h, by have := hend.endDue_le; omega⟩

section
variable (s : State)

theorem isEndCar_of_bothDown (h : BothDown s) : s.isEndCar = (s.census.role == .member && s.census.state.listed) := by
  have hdown : s.downstreamUp = false := by
    unfold State.downstreamUp
    split
    exacts [h _, rfl]
  simp [State.isEndCar, hdown]

theorem spendsEnd_reviewEnd : SpendsEnd s s.reviewEnd := fun hs => by
  refine ⟨(opsKeep_links fun _ => false).reviewEnd s hs, ?_⟩
  have hend := isEndCar_of_bothDown s hs
  unfold State.reviewEnd
  split
  next hm =>
    obtain ⟨hr, hl⟩ := hm
    rw [hend, hr, hl]
    simp only [beq_self_eq_true, Bool.and_self, if_true]
    split
    · exact ⟨0, .refl s, by omega⟩
    next hne =>
      refine ⟨2, rewrites_becomeEnd s, ?_⟩
      have hafter : s.becomeEnd.endDue = 0 := if_neg fun h => h.2.2 (by rw [becomeEnd_relay]; rfl)
      have hbefore : s.endDue = 2 := if_pos ⟨hr, hl, hne⟩
      omega
  · exact ⟨0, .refl s, by omega⟩

theorem spendsEnd_spanDownReport (x : SpanId) (cause : Cause) (lost : Word32) : SpendsEnd s (s.spanDownReport x cause lost) := by
  have hK := opsKeep_links fun _ => false
  have hraised : SpendsEnd s (s.downRaised x cause lost) := spendsEnd_of_kept (fun h => h) rfl (.of_eq rfl rfl)
  have hrelay (u : State) : SpendsEnd u (u.relaySpanDown x) :=
    spendsEnd_of_kept (hK.relaySpanDown u x) (published_relaySpanDown u x) (endKept_relaySpanDown u x)
  have hcensus (u : State) : SpendsEnd u (u.censusSpanDown x cause) :=
    spendsEnd_of_kept (hK.censusSpanDown u x cause) (published_censusSpanDown u x cause) (endKept_censusSpanDown u x cause)
  rw [spanDownReport_eq]
  exact ((hraised.trans (hrelay _)).trans (hcensus _)).trans (spendsEnd_reviewEnd _)

theorem spendsEnd_tellLost (f : TxFrame) : SpendsEnd s (s.tellLost .spanEnd f) := by
  have h := told_tellLost s f
  exact spendsEnd_of_kept ((opsKeep_links fun _ => false).tellLost s _ f) (published_tellLost s _ f) (.of_eq h.census (by rw [h.relay]))

theorem spendsEnd_exitFollows (x : SpanId) (u : Span) (cause : Cause) : SpendsEnd s (s.exitFollows x u cause) := by
  have htell (fs : List TxFrame) (v : State) : SpendsEnd v (v.tellAll fs) := by
    unfold State.tellAll
    induction fs generalizing v with
    | nil => exact spendsEnd_of_kept (fun h => h) rfl (.refl v)
    | cons f fs ih => exact (spendsEnd_tellLost v f).trans (ih _)
  have hchoices (n : Nat) : SpendsEnd s { s with choices := n } := spendsEnd_of_kept (fun h => h) rfl (.of_eq rfl rfl)
  by_cases hup : u.state = .up
  · obtain ⟨n, before, after, -, -, heq⟩ := exitFollows_form s x hup cause
    rw [heq]
    exact (((hchoices n).trans (htell before _)).trans (spendsEnd_spanDownReport _ _ _ _)).trans (htell after _)
  · rw [State.exitFollows, if_pos hup]
    exact spendsEnd_of_kept (fun h => h) rfl (.refl s)

/-! ## Exits and entries -/

theorem rewrites_spanDownReport (x : SpanId) (cause : Cause) (lost : Word32) : Rewrites 2 s (s.spanDownReport x cause lost) := by
  rw [spanDownReport_eq]
  exact (rewrites_reviewEnd _).after (.of_published ((published_censusSpanDown _ _ _).trans (published_relaySpanDown _ _)))

theorem rewrites_spanUpReport (x : SpanId) (p : Partner) : Rewrites 2 s (s.spanUpReport x p) := by
  unfold State.spanUpReport
  exact (rewrites_reviewEnd _).after (.of_published (published_censusSpanUp _ _))

theorem rewrites_exitFollows (x : SpanId) (u : Span) (cause : Cause) : Rewrites 2 s (s.exitFollows x u cause) := by
  by_cases hup : u.state = .up
  · obtain ⟨n, before, after, -, -, heq⟩ := exitFollows_form s x hup cause
    have hbefore : Rewrites 0 s (State.tellAll { s with choices := n } before) := .of_published ((published_tellAll _ before).trans rfl)
    rw [heq]
    exact ((rewrites_spanDownReport _ _ _ _).after hbefore).next (.of_published (published_tellAll _ after))
  · rw [State.exitFollows, if_pos hup]
    exact .nothing s

theorem rewrites_exitSpan (x : SpanId) (target : ExitTo) (cause : Cause) : Rewrites 2 s (s.exitSpan x target cause) :=
  (rewrites_exitFollows _ _ _ _).after (.of_published (published_setSpan s x _))

theorem exitedWhere_bothDown {p : SpanId → Bool} (hp : (p .a && p .b) = true) (target : ExitTo) (cause : Cause) :
    BothDown (s.exitedWhere p target cause) := fun x => by
  obtain ⟨ha, hb⟩ := Bool.and_eq_true_iff.1 hp
  have hx : p x = true := by cases x <;> assumption
  rw [State.isUp, exitedWhere_span, if_pos hx]
  exact beq_eq_false_iff_ne.2 (exit_not_up _ _ _ _)

/-- Two spans that exit at one moment make the car the end car once. -/
theorem rewrites_exitWhere (p : SpanId → Bool) (target : ExitTo) (cause : Cause) : Rewrites 2 s (s.exitWhere p target cause) := by
  have hexited : Rewrites 0 s (s.exitedWhere p target cause) := .of_published rfl
  rw [exitWhere_eq]
  split
  next hp =>
    have hfollows (y : SpanId) (u : State) : SpendsEnd u (s.following p cause y u) := by
      unfold State.following
      split
      exacts [spendsEnd_exitFollows u y _ cause, spendsEnd_of_kept (fun h => h) rfl (.refl u)]
    have hboth : SpendsEnd (s.exitedWhere p target cause)
        ((s.exitedWhere p target cause).eitherOrder (s.following p cause .a) (s.following p cause .b)) := by
      have hchoices (u : State) : SpendsEnd u { u with choices := u.choices + 1 } := spendsEnd_of_kept (fun h => h) rfl (.of_eq rfl rfl)
      unfold State.eitherOrder
      dsimp only
      split
      exacts [((hchoices _).trans (hfollows .a _)).trans (hfollows .b _), ((hchoices _).trans (hfollows .b _)).trans (hfollows .a _)]
    obtain ⟨-, n, hn, hle⟩ := hboth (exitedWhere_bothDown s hp target cause)
    have htwo : (s.exitedWhere p target cause).endDue ≤ 2 := by
      unfold State.endDue
      split <;> omega
    exact (hn.mono (by omega)).after hexited
  next hp =>
    have hone (y : SpanId) (u : State) : Rewrites 2 u (s.following p cause y u) :=
      .when fun _ => rewrites_exitFollows u y _ cause
    have hnone {y : SpanId} (hy : p y = false) (u : State) : s.following p cause y u = u := if_neg (by simp [hy])
    cases ha : p .a
    · rw [hnone ha]
      exact (hone .b _).after hexited
    · rw [hnone (y := .b) (by simpa [ha] using hp)]
      exact (hone .a _).after hexited

theorem rewrites_enterUp (x : SpanId) (p : Partner) : Rewrites 2 s (s.enterUp x p) :=
  (rewrites_spanUpReport _ _ _).after (.of_published ((published_enqueueHello _ _).trans (published_setSpan s x _)))

@[simp] theorem published_enterGreeting (x : SpanId) : (s.enterGreeting x).published = s.published :=
  (published_enqueueHello _ _).trans (published_setSpan s x _)

theorem rewrites_greet (x : SpanId) (m : HelloMsg) : Rewrites 2 s (s.greet x m) := by
  unfold State.greet
  exact .branch (fun _ => rewrites_exitSpan s _ _ _) fun _ => .branch (fun _ => rewrites_enterUp s _ _)
    fun _ => (Rewrites.of_published (published_setSpan s x _)).mono (Nat.zero_le _)

theorem rewrites_takeHello (x : SpanId) (f : Frame) : Rewrites 2 s (s.takeHello x f) := by
  have hsearching (m : HelloMsg) : Rewrites 2 s (s.helloWhileSearching x m) :=
    .branch (fun _ => rewrites_exitSpan s _ _ _) fun _ => .branch (fun _ => .nothing s)
      fun _ => (rewrites_greet _ _ _).after (.of_published (published_enterGreeting s x))
  have hup (m : HelloMsg) : Rewrites 2 s (s.helloWhileUp x m) := by
    have hset (u : Span) : Rewrites 0 s (s.setSpan x u) := .of_published (published_setSpan s x u)
    unfold State.helloWhileUp
    split
    · exact .nothing s
    · refine .branch (fun _ => rewrites_exitSpan s _ _ _) fun _ => .branch (fun _ => rewrites_exitSpan s _ _ _) fun _ => .branch
        (fun _ => rewrites_exitSpan s _ _ _) fun _ => ?_
      exact .branch (fun _ => ((hset _).next (.of_published (published_enqueueHello _ _))).mono (Nat.zero_le _))
        fun _ => (hset _).mono (Nat.zero_le _)
  unfold State.takeHello
  split
  · exact .nothing s
  · split
    exacts [hsearching _, hsearching _, rewrites_greet s x _, hup _, .nothing s, .nothing s]

theorem rewrites_takeKeepalive (x : SpanId) (f : Frame) : Rewrites 2 s (s.takeKeepalive x f) := by
  unfold State.takeKeepalive
  split
  · exact .branch (fun _ => rewrites_exitSpan s _ _ _) fun _ => (Rewrites.of_published (published_setSpan s x _)).mono (Nat.zero_le _)
  · exact .nothing s

end

end Sys2Proof.Machine

/-!
How often a command rewrites the image before the end of its step: at most three times (R75; log 25).
-/

namespace Sys2Proof.Machine

theorem Rewrites.of_same {n : Nat} {s t : State} (h : t.published = s.published) : Rewrites n s t :=
  (Rewrites.of_published h).mono (Nat.zero_le _)

/-! ## Requests and waves that allocate -/

section
variable (s : State)

theorem rewrites_startCensus (slot : Option Nat) : Rewrites 1 s (s.startCensus slot) := by
  have hbuild (u : State) : Rewrites 1 u u.buildSingle := by
    unfold State.buildSingle State.startAllocations
    exact (rewrites_allocate _).after (.of_published ((published_heat _ _).trans ((published_completeCensus _).trans
      ((published_clearAllocations _).trans (published_writeTable u _ _ _ _ _)))))
  unfold State.startCensus
  refine .branch (fun _ => .of_same (published_failCensus _ _ _)) fun _ => .branch (fun _ => .of_same ?_)
    fun _ => (hbuild _).after (.of_published (published_setCensus s _))
  exact (published_send _ _ _).trans ((published_enterCensus _ _).trans (published_setCensus s _))

theorem rewrites_takeLead (r : Request) : Rewrites 1 s (s.takeLead r) := by
  unfold State.takeLead
  refine .branch (fun _ => .of_same (published_complete s _ _ _ _)) fun _ => .branch (fun _ => .of_same (published_complete s _ _ _ _)) fun _ => ?_
  split
  · exact (rewrites_startCensus _ _).after (.of_published (published_becomeLead s))
  · exact rewrites_startCensus s _

theorem rewrites_censusStart (r : Request) : Rewrites 1 s (s.censusStart r) := by
  unfold State.censusStart
  split
  · exact .of_same (published_complete s _ _ _ _)
  · exact .branch (fun _ => .of_same (published_complete s _ _ _ _)) fun _ => (rewrites_startCensus _ _).after (.of_published rfl)

theorem rewrites_heatSupply (r : Request) : Rewrites 1 s (s.heatSupply r) := by
  have hallocates (b : Bool) (v : Heat) :
      Rewrites 1 s (if b then State.allocate { s with heat := v } else { s with heat := v }) :=
    .branch (fun _ => (rewrites_allocate _).after (.of_published (published_heat s v))) fun _ => .of_same (published_heat s v)
  unfold State.heatSupply
  exact .branch (fun _ => .of_same (published_complete s _ _ _ _)) fun _ => .branch (fun _ => .of_same (published_complete s _ _ _ _))
    fun _ => (hallocates _ _).next (.of_published (published_complete _ _ _ _ _))

theorem rewrites_takeDemand (x : SpanId) (f : Frame) : Rewrites 3 s (s.takeDemand x f) := by
  unfold State.takeDemand
  split
  · exact .nothing s
  · refine .when fun _ => ?_
    split
    · have hnoted (es : List (Nat × Nat)) : Rewrites 2 s ((s.noteRoll .demand).noteDemands es) :=
        (rewrites_noteDemands _ es).after (.of_published (published_noteRoll s .demand))
      exact ((hnoted _).next (.of_published (published_sendIf _ _ _))).mono (by omega)
    · have hnoted (v : Heat) (es : List (Nat × Nat)) : Rewrites 2 s (State.noteDemands { s with heat := v } es) :=
        (rewrites_noteDemands _ es).after (.of_published (published_heat s v))
      exact (hnoted _ _).trans (rewrites_allocate _)

theorem rewrites_originateDue (k : RollKind) : Rewrites 2 s (s.originateDue k) := by
  unfold State.originateDue
  dsimp only
  split
  · exact .when fun _ => (rewrites_originate _ _).after (.of_published (published_setWatch s k _))
  · exact .nothing s

/-! ## Lost and completed frames -/

/-- Every part but the published blocks. -/
def besidesPub : List Part :=
  [.now, .clock, .choices, .pending, .mem, .trail, .port, .settings, .req, .slotTally, .faultTally, .bypass, .spanA, .spanB, .census,
    .table, .relay, .side1, .side2, .doorLead, .summary, .heat, .fire, .mon]

theorem frameRel_published : FrameRel besidesPub fun s t => t.published = s.published :=
  ⟨fun h => kept_iff_published.1 (h .pub (by decide)).1, fun h h' => h'.trans h⟩

/-! ## SPAN_CONTROL -/

@[simp] theorem published_completeSpan (k : Nat) (o : SlotOutcome) : (s.completeSpan k o).published = s.published := published_complete s _ _ _ _

theorem rewrites_withSelector (r : Request) {f : Byte → State → State} (hf : ∀ sel v, Rewrites 2 v (f sel v)) :
    Rewrites 2 s (s.withSelector r f) :=
  .branch (fun _ => hf _ _) fun _ => .of_same (published_completeSpan s _ _)

end

/-- The commands that may rewrite a block before the end of their step, or whose end may. -/
def showsMore : Instr → Bool
  | .spanControlDisable _ | .spanControlRestart _ | .spanControlBypass _ | .hello _ _ | .keepalive _ _ | .silence _ _ | .errors _ _
  | .jamEnd _ _ | .frameCompleted _ _ | .takeLead _ | .censusStart _ | .dropLead _ | .call _ _ | .report _ _ | .table _ _ | .tableAck _ _
  | .void _ _ | .brk _ _ | .censusTimerExpired _ | .settleTimerExpired _ | .order _ _ | .orderAck _ _ | .grant _ _ | .doorStateRoll _ _
  | .demandRoll _ _ | .originationTimer _ _ | .substituteOrigination _ _ | .doorOrder _ | .doorOrderTimedOut _ | .rollAgeTimerExpired _
  | .doorLocalIsolate _ | .doorLocalRestore _ | .faultClearDoor _ | .faultClearHeating _ | .lockLevelChanged _ _ | .driveMismatch _ _
  | .driveMismatchEnded _ _ | .feedbackSample _ _ _ | .applyInstant _ | .leaseExpired _ _ | .closeTimeout _ _ | .heatDemand _
  | .demandLeaseExpired _ | .heatSupply _ | .allocationTimerExpired _ | .grantHoldExpired _ | .readingCompleted _ _ _
  | .lowTimerExpired _ | .returnTimerExpired _ => true
  | _ => false

/-- The firing unit's commands, whose rewrites are counted for themselves. -/
def startsPeriod : Instr → Bool
  | .configure _ | .periodStart _ => true
  | _ => false

theorem pub_notin_touches (c : Instr) (hp : fromPort c = false) (hf : startsPeriod c = false) (hd : showsMore c = false) :
    Part.pub ∉ touches c := by
  cases c
  case powerOn | resetn | memWrite | resetWord => simp [fromPort] at hp
  case configure | periodStart => simp [startsPeriod] at hf
  case probe dt x _ | foreignProbe dt x _ _ | probeAnswer dt x | greetTimeout dt x | transmitAttempt dt x _ | backoffEnd dt x |
    listenWindowEnd dt x _ | frameReceived dt x _ | greetingHelloDue dt x | keepaliveDue dt x =>
    cases x <;> simp [touches, spanPart, eventParts]
  case collision dt pin => cases h : pin.span <;> simp [touches, spanPart, h]
  case releaseHalfPeriod dt k => cases k <;> simp [touches, sidePart]
  case memRead | regRead | regWriteOther | portSetEcho | portSetAttnPolarity | portSetAttnDrive | misalign | misalignedTransaction |
    unknownOpcode | ignoredTransaction | take | spanControlEnable | spanControlUnbypass | relaySwitched | ackWaitTimeout | windowStart |
    windowEnd | millisecondTick => simp [touches, requestParts, relayParts, eventParts]
  all_goals simp [showsMore] at hd

section
variable {c : Instr} {s t : State}

/-- A command that is not among those of the firing unit rewrites the image at most three times before its end. -/
theorem exec_rewrites (hc : exec c s = .next t) (hp : fromPort c = false) (hf : startsPeriod c = false) :
    ∃ (dt : Nat) (u : State), t = u.settle ∧ Rewrites 3 (s.advance dt) u := by
  cases hd : showsMore c
  · obtain ⟨dt, u, hu, ht⟩ := runsWithin c s (by cases c <;> simp_all [fromPort, mayReset])
    exact ⟨dt, u, Host.Outcome.next.inj (hc.symm.trans hu), .of_same (kept_iff_published.1 (ht .pub (pub_notin_touches c hp hf hd)).1)⟩
  have hrun {dt : Nat} {f : State → State} (h : exec c s = .next (s.run dt f)) (hf : ∀ u, Rewrites 3 u (f u)) :
      ∃ (dt : Nat) (u : State), t = u.settle ∧ Rewrites 3 (s.advance dt) u := by
    obtain rfl : s.run dt f = t := Host.Outcome.next.inj (h.symm.trans hc)
    exact ⟨dt, f (s.advance dt), by rw [State.run], hf _⟩
  have hserve {dt : Nat} {p : Request → Bool} {f : Request → State → State} (h : exec c s = .next (s.run dt fun u => u.serve p f))
      (hf : ∀ r u, Rewrites 3 u (f r u)) : ∃ (dt : Nat) (u : State), t = u.settle ∧ Rewrites 3 (s.advance dt) u :=
    hrun h fun u => .serve hf u p
  have hcensus {dt : Nat} {x : SpanId} {k : FrameKind} {f : State → SpanId → Frame → State}
      (h : exec c s = .next (s.run dt fun u => u.takeWhileUp x k fun g _ v => (f v x g).reviewEnd))
      (hf : ∀ v g, (f v x g).published = v.published) : ∃ (dt : Nat) (u : State), t = u.settle ∧ Rewrites 3 (s.advance dt) u :=
    hrun h fun u => .takeWhileUp (fun g _ v => ((rewrites_reviewEnd (f v x g)).after (.of_published (hf v g))).mono (by decide)) u x k
  have hwave {dt : Nat} {x : SpanId} {k : FrameKind} {f : Frame → Nat → State → State}
      (h : exec c s = .next (s.run dt fun u => u.takeWave x k f)) (hf : ∀ g n v, Rewrites 3 v (f g n v)) :
      ∃ (dt : Nat) (u : State), t = u.settle ∧ Rewrites 3 (s.advance dt) u := hrun h fun u => .takeWave hf u x k
  have hexit {u v : State} {p : SpanId → Bool} (target : ExitTo) (cause : Cause) (h : v.published = u.published) :
      Rewrites 2 u (v.exitWhere p target cause) := (rewrites_exitWhere _ _ _ _).after (.of_published h)
  have hselect {r : Request} {u : State} {f : Byte → State → State} (h : ∀ sel v, Rewrites 2 v (f sel v)) :
      Rewrites 3 u (u.withSelector r f) := (rewrites_withSelector u r h).mono (by omega)
  cases c
  case spanControlDisable =>
    refine hserve rfl fun r u => hselect fun sel v => ?_
    have hone {p : Prop} [Decidable p] (x : SpanId) (w : State) : (if p then w.setEnable x false else w).published = w.published :=
      published_ite (published_setSpan w x _) rfl
    exact (hexit .off .disabled ((hone .b _).trans (hone .a v))).next (.of_published (published_completeSpan _ _ _))
  case spanControlRestart =>
    refine hserve rfl fun r u => hselect fun sel v => .branch (fun _ => .of_same (published_completeSpan v _ _)) fun _ => ?_
    exact (rewrites_exitWhere v _ _ _).next (.of_published (published_completeSpan _ _ _))
  case spanControlBypass =>
    refine hserve rfl fun r u => ?_
    split
    · exact Rewrites.mono (n := 2) (hexit (u := u) (v := u.switchRelay false r.slot) .off .bypassed rfl) (by decide)
    all_goals exact .of_same (published_completeSpan u _ _)
  case hello dt x => exact hrun rfl fun u => .takeFrame (fun r v => (rewrites_takeHello v x _).mono (by omega)) u x _
  case keepalive dt x => exact hrun rfl fun u => .takeFrame (fun r v => (rewrites_takeKeepalive v x _).mono (by omega)) u x _
  case silence | errors => exact hrun rfl fun u => .when fun _ => (rewrites_exitSpan u _ _ _).mono (by omega)
  case jamEnd =>
    refine hrun rfl fun u => ?_
    split
    · exact .when fun _ => .of_same (frameRel_published.endJam (by decide) published_tellLost u _ _)
    all_goals exact .nothing u
  case frameCompleted =>
    refine hrun rfl fun u => ?_
    split
    · exact .when fun _ => .of_same (frameRel_published.completeFrame (by decide) published_leadOrderCompleted u _ _ _ _)
    · exact .nothing u
  case takeLead => exact hserve rfl fun r u => (rewrites_takeLead u r).trans (rewrites_reviewEnd _)
  case censusStart => exact hserve rfl fun r u => (rewrites_censusStart u r).trans (rewrites_reviewEnd _)
  case dropLead =>
    refine hserve rfl fun r u => ?_
    split
    · exact .of_same (published_complete u _ _ _ _)
    · exact (((rewrites_reviewEnd _).after (.of_published (published_dropLead u))).next (.of_published (published_complete _ _ _ _ _))).mono
        (by omega)
  case call => exact hcensus rfl fun v => published_takeCall v _
  case report => exact hcensus rfl fun v => published_takeReport v _
  case table => exact hcensus rfl fun v => published_takeTable v _
  case tableAck => exact hcensus rfl fun v => published_takeTableAck v _
  case void => exact hcensus rfl fun v => published_takeVoid v _
  case brk => exact hcensus rfl fun v => published_takeBreak v _
  case censusTimerExpired =>
    exact hrun rfl fun u => .when fun _ => ((rewrites_reviewEnd _).after (.of_published (published_censusTimeout u))).mono (by omega)
  case settleTimerExpired =>
    exact hrun rfl fun u => .when fun _ => (rewrites_startCensus u none).trans (rewrites_reviewEnd _)
  case order => exact hwave rfl fun f n v => .of_same (published_takeOrder v _ f n)
  case orderAck => exact hwave rfl fun f _ v => .of_same (published_takeOrderAck v _ f)
  case grant => exact hwave rfl fun f _ v => .of_same (published_takeGrantFrame v _ f)
  case doorStateRoll => exact hwave rfl fun f _ v => .of_same (published_takeDoorState v _ f)
  case demandRoll => exact hwave rfl fun f _ v => rewrites_takeDemand v _ f
  case originationTimer => exact hrun rfl fun u => (rewrites_originateDue u _).mono (by omega)
  case substituteOrigination =>
    exact hrun rfl fun u => .when fun _ => ((rewrites_originate _ _).after (.of_published (published_setWatch u _ _))).mono (by omega)
  case doorOrder => exact hserve rfl fun r u => .of_same (published_doorOrder u r)
  case doorOrderTimedOut => exact hrun rfl fun u => .when fun _ => .of_same (published_endOutstanding u _ _ _ _)
  case rollAgeTimerExpired => exact hrun rfl fun u => .when fun _ => .of_same rfl
  case doorLocalIsolate => exact hserve rfl fun r u => .of_same (published_doorLocal u r fun k v => published_isolateSide v k)
  case doorLocalRestore => exact hserve rfl fun r u => .of_same (published_doorLocal u r fun k v => published_restoreSide v k)
  case faultClearDoor => exact hserve rfl fun r u => .of_same (published_faultClearDoor u r)
  case faultClearHeating => exact hserve rfl fun r u => .of_same (published_faultClearHeating u r)
  case lockLevelChanged =>
    exact hrun rfl fun u => .when fun _ => .branch (fun _ => .of_same (published_lockFalse u _)) fun _ => .of_same (published_lockTrue u _)
  case driveMismatch | driveMismatchEnded | feedbackSample => exact hrun rfl fun u => .when fun _ => .of_same (published_takeFeedback u _ _)
  case applyInstant =>
    refine hrun rfl fun u => ?_
    split
    · exact .when fun _ => .of_same ((published_applyAtInstant _ _ _).trans (published_applyAtInstant u _ _))
    · exact .nothing u
  case leaseExpired => exact hrun rfl fun u => .when fun _ => .of_same (published_enterSide u _ _ _ _)
  case closeTimeout => exact hrun rfl fun u => .when fun _ => .of_same (published_causeArises u _ _)
  case heatDemand => exact hserve rfl fun r u => .of_same (published_heatDemand u r)
  case demandLeaseExpired => exact hrun rfl fun u => .when fun _ => .of_same rfl
  case heatSupply => exact hserve rfl fun r u => (rewrites_heatSupply u r).mono (by omega)
  case allocationTimerExpired =>
    refine hrun rfl fun u => ?_
    split
    · exact .when fun _ => ((rewrites_allocate _).after (.of_published (published_heat u _))).mono (by omega)
    · exact .nothing u
  case grantHoldExpired => exact hrun rfl fun u => .when fun _ => .of_same (published_setCap u _ _)
  case readingCompleted => exact hrun rfl fun u => .when fun _ => .of_same (published_completeReading u _ _)
  case lowTimerExpired =>
    exact hrun rfl fun u => .when fun _ => .of_same ((published_withdrawSide _ _).trans ((published_withdrawSide _ _).trans
      (published_changeAux u _ _)))
  case returnTimerExpired => exact hrun rfl fun u => .when fun _ => .of_same (published_changeAux u _ _)
  all_goals exact absurd hd (by simp [showsMore])

end

end Sys2Proof.Machine

/-!
The rewrites of a step (R70, R71, R112, R143, R154; log 25): those before its end, and the one of each changed block at its end.
-/

namespace Sys2Proof.Machine

/-! ## One rewrite -/

section
variable (s : State)

/-- What a rewrite of the door board leaves (R112). -/
theorem publishDoor_raises :
    s.publishDoor.pub = { s.pub with
      door := s.publishDoor.pub.door
      doorCounter := s.pub.doorCounter + if s.publishDoor.pub.door = s.pub.door then 0 else 2 } ∧
    s.publishDoor.tallies = { s.tallies with door := s.tallies.door + if s.publishDoor.pub.door = s.pub.door then 0 else 1 } := by
  unfold State.publishDoor
  generalize s.doorBytes = b
  split
  · simp
  · simp

/-- What a rewrite of the heating bytes leaves; HEAT_TALLY follows those of R143. -/
theorem publishHeat_raises :
    s.publishHeat.pub = { s.pub with
      heat := s.publishHeat.pub.heat
      heatCounter := s.pub.heatCounter + if s.publishHeat.pub.heat = s.pub.heat then 0 else 2 } ∧
    s.publishHeat.tallies = { s.tallies with
      heat := s.tallies.heat + if heatTallyBytes s.publishHeat.pub.heat = heatTallyBytes s.pub.heat then 0 else 1 } := by
  unfold State.publishHeat
  generalize s.heatBytes = b
  split
  · simp
  · refine ⟨by simp, ?_⟩
    dsimp only
    split <;> simp

/-- What a rewrite of the firing bytes leaves (R151). -/
theorem publishFire_raises :
    s.publishFire.pub = { s.pub with
      fire := s.publishFire.pub.fire
      heatCounter := s.pub.heatCounter + if s.publishFire.pub.fire = s.pub.fire then 0 else 2 } ∧
    s.publishFire.tallies = s.tallies := by
  unfold State.publishFire
  generalize s.fire.board = b
  split
  · simp
  · simp

/-- What a rewrite of the readings leaves (R154). -/
theorem publishReadings_raises :
    s.publishReadings.pub = { s.pub with
      readings := s.publishReadings.pub.readings
      readingsCounter := s.pub.readingsCounter + if s.publishReadings.pub.readings = s.pub.readings then 0 else 2 } ∧
    s.publishReadings.tallies = s.tallies := by
  unfold State.publishReadings
  generalize s.readingsBytes = b
  split
  · simp
  · simp

theorem published_recompute : s.recompute.published = s.published := by
  unfold State.recompute
  exact published_ite rfl rfl

theorem published_flush : s.flush.published = s.published := by
  obtain ⟨-, -, -, -, -, -, -, hpub, -⟩ := flush_keeps s
  unfold State.published
  rw [hpub, flush_tallies]

end

/-! ## The count of the image and of the heating board -/

/-- From `s` to `t` the image has been rewritten `k` times and the heating board `j` times, HEAT_TALLY raised `h` times (R70, R71, R143). -/
structure Counted (k j h : Nat) (s t : State) : Prop where
  imageCounter : t.pub.imageCounter = s.pub.imageCounter + 2 * word32 k
  consist : t.tallies.consist = s.tallies.consist + word16 k
  image : t.pub.image ≠ s.pub.image → 0 < k
  heatCounter : t.pub.heatCounter = s.pub.heatCounter + 2 * word32 j
  heat : t.pub.heat ≠ s.pub.heat ∨ t.pub.fire ≠ s.pub.fire → 0 < j
  heatTally : t.tallies.heat = s.tallies.heat + word16 h
  tallied : heatTallyBytes t.pub.heat ≠ heatTallyBytes s.pub.heat → 0 < h

section
variable {s t u : State} {k j h k' j' h' n : Nat}

theorem changed_of_trans {α : Type} {a b c : α} {k l : Nat} (h : b ≠ a → 0 < k) (h' : c ≠ b → 0 < l) (hne : c ≠ a) : 0 < k + l := by
  by_cases heq : c = b
  · exact Nat.add_pos_left (h fun hba => hne (heq.trans hba)) _
  · exact Nat.add_pos_right _ (h' heq)

theorem Counted.trans (hr : Counted k j h s t) (hr' : Counted k' j' h' t u) : Counted (k + k') (j + j') (h + h') s u := by
  refine ⟨by rw [hr'.imageCounter, hr.imageCounter, word32_add, BitVec.mul_add, BitVec.add_assoc],
    by rw [hr'.consist, hr.consist, word16_add, BitVec.add_assoc], changed_of_trans hr.image hr'.image,
    by rw [hr'.heatCounter, hr.heatCounter, word32_add, BitVec.mul_add, BitVec.add_assoc], fun hne => ?_,
    by rw [hr'.heatTally, hr.heatTally, word16_add, BitVec.add_assoc], changed_of_trans hr.tallied hr'.tallied⟩
  rcases hne with hne | hne
  · exact changed_of_trans (fun h => hr.heat (.inl h)) (fun h => hr'.heat (.inl h)) hne
  · exact changed_of_trans (fun h => hr.heat (.inr h)) (fun h => hr'.heat (.inr h)) hne

/-- Neither the image nor the heating board is rewritten. -/
theorem counted_zero (image : t.pub.image = s.pub.image ∧ t.pub.imageCounter = s.pub.imageCounter)
    (heat : t.pub.heat = s.pub.heat ∧ t.pub.fire = s.pub.fire ∧ t.pub.heatCounter = s.pub.heatCounter)
    (tallies : t.tallies.consist = s.tallies.consist ∧ t.tallies.heat = s.tallies.heat) : Counted 0 0 0 s t := by
  obtain ⟨himage, hcounter⟩ := image
  obtain ⟨hheat, hfire, hheatCounter⟩ := heat
  obtain ⟨hconsist, htally⟩ := tallies
  exact ⟨by rw [hcounter, word32_zero]; exact (BitVec.add_zero _).symm, by rw [hconsist, word16_zero]; exact (BitVec.add_zero _).symm,
    fun hne => absurd himage hne, by rw [hheatCounter, word32_zero]; exact (BitVec.add_zero _).symm,
    fun hne => absurd hne (by simp [hheat, hfire]), by rw [htally, word16_zero]; exact (BitVec.add_zero _).symm,
    fun hne => absurd (by rw [hheat]) hne⟩

theorem Rewrites.counted (hr : Rewrites n s t) : ∃ k : Nat, k ≤ n ∧ Counted k 0 0 s t := by
  obtain ⟨k, hk, hcounter, htally, hchanged⟩ := hr.count
  have hpub := hr.rest
  exact ⟨k, hk, hcounter, htally, hchanged, by rw [hpub, word32_zero]; exact (BitVec.add_zero _).symm,
    fun hne => absurd hne (by rw [hpub]; simp), by rw [hr.heat, word16_zero]; exact (BitVec.add_zero _).symm,
    fun hne => absurd (by rw [hpub]) hne⟩

end

theorem word32_ite (p : Prop) [Decidable p] : (if p then 0 else 2 : Word32) = 2 * word32 (if p then 0 else 1) := by split <;> rfl

theorem word16_ite (p : Prop) [Decidable p] : (if p then 0 else 1 : Word16) = word16 (if p then 0 else 1) := by split <;> rfl

theorem pos_of_changed {α : Type} [DecidableEq α] {a b : α} (h : a ≠ b) : 0 < (if a = b then 0 else 1 : Nat) := by simp [h]

/-- A rewrite of the heating bytes, if one changed. -/
theorem counted_publishHeat (s : State) : Counted 0 (if s.publishHeat.pub.heat = s.pub.heat then 0 else 1)
    (if heatTallyBytes s.publishHeat.pub.heat = heatTallyBytes s.pub.heat then 0 else 1) s s.publishHeat := by
  obtain ⟨hpub, htallies⟩ := publishHeat_raises s
  generalize s.publishHeat = t at hpub htallies ⊢
  have hfire : t.pub.fire = s.pub.fire := by rw [hpub]
  have hcounter := congrArg Published.heatCounter hpub
  have htally := congrArg Tallies.heat htallies
  have hconsist := congrArg Tallies.consist htallies
  exact ⟨by rw [hpub, word32_zero]; exact (BitVec.add_zero _).symm, hconsist.trans (BitVec.add_zero _).symm, fun h => absurd (by rw [hpub]) h,
    hcounter.trans (by rw [word32_ite]), fun h => pos_of_changed (h.resolve_right (not_not.2 hfire)), htally.trans (by rw [word16_ite]),
    pos_of_changed⟩

/-- A rewrite of the firing bytes, if one changed. -/
theorem counted_publishFire (s : State) : Counted 0 (if s.publishFire.pub.fire = s.pub.fire then 0 else 1) 0 s s.publishFire := by
  obtain ⟨hpub, htallies⟩ := publishFire_raises s
  generalize s.publishFire = t at hpub htallies ⊢
  have hheat : t.pub.heat = s.pub.heat := by rw [hpub]
  have hcounter := congrArg Published.heatCounter hpub
  exact ⟨by rw [hpub, word32_zero]; exact (BitVec.add_zero _).symm, by rw [htallies]; exact (BitVec.add_zero _).symm,
    fun h => absurd (by rw [hpub]) h, hcounter.trans (by rw [word32_ite]), fun h => pos_of_changed (h.resolve_left (not_not.2 hheat)),
    by rw [htallies]; exact (BitVec.add_zero _).symm, fun h => absurd (by rw [hheat]) h⟩

/-! ## The door board and the readings -/

/-- Door board and readings stand as they were (R112, R154). -/
def Unread (s t : State) : Prop :=
  (t.pub.door = s.pub.door ∧ t.pub.doorCounter = s.pub.doorCounter ∧ t.tallies.door = s.tallies.door) ∧
    t.pub.readings = s.pub.readings ∧ t.pub.readingsCounter = s.pub.readingsCounter

theorem Unread.trans {s t u : State} (h : Unread s t) (h' : Unread t u) : Unread s u := by
  obtain ⟨⟨hdoor, hcounter, htally⟩, hread, hreadCounter⟩ := h
  obtain ⟨⟨hdoor', hcounter', htally'⟩, hread', hreadCounter'⟩ := h'
  exact ⟨⟨hdoor'.trans hdoor, hcounter'.trans hcounter, htally'.trans htally⟩, hread'.trans hread, hreadCounter'.trans hreadCounter⟩

theorem Rewrites.unread {n : Nat} {s t : State} (h : Rewrites n s t) : Unread s t := by
  rw [Unread, h.rest]
  exact ⟨⟨rfl, rfl, h.door⟩, rfl, rfl⟩

theorem unread_publishHeat (s : State) : Unread s s.publishHeat := by
  obtain ⟨hpub, htallies⟩ := publishHeat_raises s
  rw [Unread, hpub, htallies]
  exact ⟨⟨rfl, rfl, rfl⟩, rfl, rfl⟩

theorem unread_publishFire (s : State) : Unread s s.publishFire := by
  obtain ⟨hpub, htallies⟩ := publishFire_raises s
  rw [Unread, hpub, htallies]
  exact ⟨⟨rfl, rfl, rfl⟩, rfl, rfl⟩

/-! ## The whole step -/

/-- The rewrites of a whole step: those of the door board and of the readings are one at most, at its end (R112, R154). -/
structure StepRewrites (k j h : Nat) (s t : State) : Prop extends Counted k j h s t where
  doorCounter : t.pub.doorCounter = s.pub.doorCounter + (if t.pub.door = s.pub.door then 0 else 2)
  doorTally : t.tallies.door = s.tallies.door + (if t.pub.door = s.pub.door then 0 else 1)
  readingsCounter : t.pub.readingsCounter = s.pub.readingsCounter + (if t.pub.readings = s.pub.readings then 0 else 2)

/-- The end of a step rewrites each changed block once. -/
theorem settle_rewrites {s u : State} {k j h : Nat} (hr : Counted k j h s u) (hunread : Unread s u) :
    ∃ k' j' : Nat, k' ≤ k + 1 ∧ j' ≤ j + 1 ∧
      StepRewrites k' j' (h + if heatTallyBytes u.settle.pub.heat = heatTallyBytes u.pub.heat then 0 else 1) s u.settle := by
  obtain ⟨b, hb⟩ : ∃ b, u.recompute.flush.publishImage = b := ⟨_, rfl⟩
  have himage : Rewrites 1 u b := by
    rw [← hb]
    exact (rewrites_publishImage _).after (.of_published ((published_flush _).trans (published_recompute u)))
  obtain ⟨l, hl, hcount⟩ := himage.counted
  obtain ⟨c, hc⟩ : ∃ c, b.publishDoor = c := ⟨_, rfl⟩
  obtain ⟨d, hd⟩ : ∃ d, c.publishHeat = d := ⟨_, rfl⟩
  obtain ⟨e, he⟩ : ∃ e, d.publishReadings = e := ⟨_, rfl⟩
  have hsettle : u.settle = e := by rw [← he, ← hd, ← hc, ← hb]; rfl
  obtain ⟨hcp, hct⟩ := publishDoor_raises b
  rw [hc] at hcp hct
  have hheat := counted_publishHeat c
  have hkept := unread_publishHeat c
  rw [hd] at hheat hkept
  obtain ⟨hep, het⟩ := publishReadings_raises d
  rw [he] at hep het
  have hdoors : Counted 0 0 0 b c := counted_zero (by rw [hcp]; exact ⟨rfl, rfl⟩) (by rw [hcp]; exact ⟨rfl, rfl, rfl⟩) (by rw [hct]; exact ⟨rfl, rfl⟩)
  have hreadings : Counted 0 0 0 d e := counted_zero (by rw [hep]; exact ⟨rfl, rfl⟩) (by rw [hep]; exact ⟨rfl, rfl, rfl⟩) (by rw [het]; exact ⟨rfl, rfl⟩)
  obtain ⟨⟨hbdoor, hbcounter, hbtally⟩, hbread, hbreadCounter⟩ := hunread.trans himage.unread
  obtain ⟨⟨hddoor, hdcounter, hdtally⟩, hdread, hdreadCounter⟩ := hkept
  have hedoor : e.pub.door = c.pub.door := by rw [hep]; exact hddoor
  have hcread : c.pub.readings = b.pub.readings ∧ c.pub.readingsCounter = b.pub.readingsCounter := by rw [hcp]; exact ⟨rfl, rfl⟩
  have htallied : heatTallyBytes e.pub.heat = heatTallyBytes u.pub.heat ↔ heatTallyBytes d.pub.heat = heatTallyBytes c.pub.heat := by
    rw [show e.pub.heat = d.pub.heat by rw [hep], show c.pub.heat = u.pub.heat by rw [hcp, himage.rest]]
  rw [hsettle, if_congr htallied rfl rfl]
  refine ⟨_, _, ?_, ?_, (((hr.trans hcount).trans hdoors).trans hheat).trans hreadings, ?_, ?_, ?_⟩
  · omega
  · split <;> omega
  · rw [hep, hdcounter, hddoor, hcp, hbcounter, hbdoor]
  · rw [het, hdtally, hep, hddoor, hct, hbtally, hbdoor]
  · rw [hep, hdreadCounter, hdread, hcread.1, hcread.2, hbread, hbreadCounter]

end Sys2Proof.Machine

/-!
The commands that start a firing period (R146, R151, R164; log 25): CONFIGURE and PERIOD_START.
-/

namespace Sys2Proof.Machine

/-- From `s` to `t` the firing bytes have been rewritten at most `n` times, and no other block (R151). -/
structure Fires (n : Nat) (s t : State) : Prop where
  count : ∃ j : Nat, j ≤ n ∧ Counted 0 j 0 s t
  unread : Unread s t
  heat : t.pub.heat = s.pub.heat

section
variable {s t u : State} {n m : Nat}

theorem Fires.of_published (h : t.published = s.published) : Fires 0 s t := by
  have hr := Rewrites.of_published h
  obtain ⟨k, hk, hcount⟩ := hr.counted
  obtain rfl : k = 0 := Nat.le_zero.1 hk
  exact ⟨⟨0, Nat.le_refl _, hcount⟩, hr.unread, by rw [hr.rest]⟩

theorem Fires.trans (h : Fires n s t) (h' : Fires m t u) : Fires (n + m) s u := by
  obtain ⟨j, hj, hcount⟩ := h.count
  obtain ⟨l, hl, hcount'⟩ := h'.count
  exact ⟨⟨j + l, Nat.add_le_add hj hl, hcount.trans hcount'⟩, h.unread.trans h'.unread, h'.heat.trans h.heat⟩

theorem Fires.mono (h : Fires n s t) (hn : n ≤ m) : Fires m s t := by
  obtain ⟨j, hj, hcount⟩ := h.count
  exact { h with count := ⟨j, Nat.le_trans hj hn, hcount⟩ }

theorem Fires.after (h' : Fires n t u) (h : Fires 0 s t) : Fires n s u := (h.trans h').mono (by omega)

theorem Fires.nothing (s : State) : Fires n s s := (Fires.of_published rfl).mono (Nat.zero_le _)

theorem Fires.branch {p : Prop} [Decidable p] (ht : p → Fires n s t) (hu : ¬p → Fires n s u) : Fires n s (if p then t else u) := by
  split
  exacts [ht ‹_›, hu ‹_›]

end

section
variable (s : State)

theorem published_fire (v : Fire) : State.published { s with fire := v } = s.published := rfl

theorem fires_publishFire : Fires 1 s s.publishFire :=
  ⟨⟨_, by split <;> omega, counted_publishFire s⟩, unread_publishFire s, by rw [(publishFire_raises s).1]⟩

theorem fires_startPeriod (start : Nat) : Fires 1 s (s.startPeriod start) :=
  (fires_publishFire _).after (.of_published (published_fire s _))

theorem fires_judgePeriod : Fires 1 s s.judgePeriod := by
  have hfault (u : State) (e m : Nat) : Fires 1 u (u.overdrawFault e m) := by
    have hcap (v : State) (hv : v.published = u.published) (f : Fire) :
        Fires 1 u (State.publishFire { v.setCap .faulted .overdraw with fire := f }) :=
      (fires_publishFire _).after (.of_published ((published_fire _ f).trans ((published_setCap v _ _).trans hv)))
    have hraised (f : Event) :
        (State.raise { u with tallies := { u.tallies with fault := u.tallies.fault + 1 } } heatGroup f).published = u.published := rfl
    unfold State.overdrawFault
    exact hcap _ (hraised _) _
  have hjudged (f : Fire) : Fires 0 s { s with fire := f } := .of_published (published_fire s f)
  unfold State.judgePeriod
  exact .branch (fun _ => (hfault _ _ _).after (hjudged _)) fun _ => (hjudged _).mono (by decide)

theorem published_startSide (k : SideId) (present : Bool) (mask : Byte) : (s.startSide k present mask).published = s.published := by
  unfold State.startSide State.moveSide
  exact published_ite (by simp) rfl

theorem published_startMonitor : s.startMonitor.published = s.published := rfl

theorem published_startSpans : s.startSpans.published = s.published := rfl

theorem published_startHeat : s.startHeat.published = s.published := (published_setCap _ _ _).trans (published_heat s _)

theorem fires_adopt (new : Settings) : Fires 1 s (s.adopt new) := by
  have hsettings (v : Settings) (p : Port) : State.published { s with settings := v, port := p } = s.published := rfl
  have hstarts (u : State) (h : u.published = s.published) (start : Nat) : Fires 1 s (u.startHeat.startPeriod start) :=
    (fires_startPeriod _ _).after (.of_published ((published_startHeat u).trans h))
  unfold State.adopt
  refine Fires.mono (n := 1 + 0) (.trans (hstarts _ ?_ _) (.of_published ((published_raise _ _ _).trans (published_startMonitor _)))) (by decide)
  exact (published_startSide _ _ _ _).trans ((published_startSide _ _ _ _).trans ((published_startSpans _).trans (hsettings _ _)))

theorem fires_configure (r : Request) : Fires 1 s (s.configure r) := by
  unfold State.configure
  refine .branch (fun _ => (Fires.of_published (published_complete s _ _ _ _)).mono (by decide)) fun _ => ?_
  dsimp only
  split
  · exact (Fires.of_published (published_complete s _ _ _ _)).mono (by decide)
  · exact (fires_adopt s _).trans (.of_published (published_complete _ _ _ _ _))

end

section
variable {s t : State} {dt : Nat}

theorem exec_configure_rewrites (hc : exec (.configure dt) s = .next t) : ∃ u : State, t = u.settle ∧ Fires 1 (s.advance dt) u := by
  obtain rfl : s.run dt _ = t := Host.Outcome.next.inj hc
  refine ⟨_, by rw [State.run], ?_⟩
  unfold State.serve
  split
  · exact (fires_configure _ _).after (.of_published rfl)
  · exact .nothing _

/-- A period start: the fault's firing bytes, its heating bytes and the firing bytes of the new period are rewrites of their own (R149,
R151; log 25). -/
theorem exec_periodStart_rewrites (hc : exec (.periodStart dt) s = .next t) : ∃ (u : State) (j h : Nat), t = u.settle ∧ j ≤ 3 ∧ h ≤ 1 ∧
    Counted 0 j h (s.advance dt) u ∧ Unread (s.advance dt) u := by
  have hrun {f : State → State} (h : exec (.periodStart dt) s = .next (s.run dt f))
      (hf : ∀ v, ∃ j h : Nat, j ≤ 3 ∧ h ≤ 1 ∧ Counted 0 j h v (f v) ∧ Unread v (f v)) : ∃ (u : State) (j h : Nat), t = u.settle ∧ j ≤ 3 ∧
      h ≤ 1 ∧ Counted 0 j h (s.advance dt) u ∧ Unread (s.advance dt) u := by
    obtain rfl : s.run dt f = t := Host.Outcome.next.inj (h.symm.trans hc)
    obtain ⟨j, h, hrest⟩ := hf (s.advance dt)
    exact ⟨f (s.advance dt), j, h, by rw [State.run], hrest⟩
  have hstarts (v : State) (start : Nat) : ∃ j h : Nat, j ≤ 3 ∧ h ≤ 1 ∧ Counted 0 j h v (v.judgePeriod.publishHeat.startPeriod start) ∧
      Unread v (v.judgePeriod.publishHeat.startPeriod start) := by
    obtain ⟨⟨a, ha, hjudged⟩, hread, -⟩ := fires_judgePeriod v
    obtain ⟨⟨b, hb, hstarted⟩, hread', -⟩ := fires_startPeriod v.judgePeriod.publishHeat start
    refine ⟨_, _, ?_, ?_, (hjudged.trans (counted_publishHeat _)).trans hstarted, (hread.trans (unread_publishHeat _)).trans hread'⟩
    · split <;> omega
    · split <;> omega
  refine hrun rfl fun v => ?_
  have hnone : ∃ j h : Nat, j ≤ 3 ∧ h ≤ 1 ∧ Counted 0 j h v v ∧ Unread v v :=
    ⟨0, 0, by decide, by decide, counted_zero ⟨rfl, rfl⟩ ⟨rfl, rfl, rfl⟩ ⟨rfl, rfl⟩, ⟨rfl, rfl, rfl⟩, rfl, rfl⟩
  split
  · split
    exacts [hstarts v _, hnone]
  · exact hnone

end

end Sys2Proof.Machine

/-!
O52: every command keeps the memory in its canonical form.
-/

namespace Sys2Proof.Machine

/-! ## The operations that answer a slot or leave memory alone -/

theorem frameRel_memWf : FrameRel besidesSlots (fun s t => s.mem.wf = true → t.mem.wf = true) where
  frame {s t} h hs := by
    obtain ⟨hmem, -⟩ := h .mem (by simp [besidesSlots])
    rw [show t.mem = s.mem from hmem]
    exact hs
  trans h h' hs := h' (h hs)

section
variable {s : State}

theorem memWf_frame {t : State} (h : Touches besidesSlots s t) (hs : s.mem.wf = true) : t.mem.wf = true := frameRel_memWf.frame h hs

theorem memWf_setSpan (x : SpanId) (u : Span) (h : s.mem.wf = true) : (s.setSpan x u).mem.wf = true :=
  frameRel_memWf.setSpan links_besidesSlots s x u h

theorem memWf_serve {p : Request → Bool} {f : Request → State → State} (h : s.mem.wf = true)
    (hf : ∀ r u, u.mem.wf = true → (f r u).mem.wf = true) : (s.serve p f).mem.wf = true := by
  unfold State.serve
  split
  · exact hf _ _ h
  · exact h

theorem memWf_answered {r : Request} {t : State} (h : Answered r s t) (hs : s.mem.wf = true) : t.mem.wf = true := by
  obtain ⟨u, o, d, l, hu, rfl⟩ := h
  exact complete_wf _ _ _ _ _ (memWf_frame (hu.mono (by decide)) hs)

theorem memWf_exitSpan (x : SpanId) (target : ExitTo) (cause : Cause) (h : s.mem.wf = true) : (s.exitSpan x target cause).mem.wf = true :=
  opsKeep_memWf.exitSpan s x target cause (memWf_setSpan x _ h)

theorem memWf_exitWhere (p : SpanId → Bool) (target : ExitTo) (cause : Cause) (h : s.mem.wf = true) :
    (s.exitWhere p target cause).mem.wf = true := opsKeep_memWf.exitWhere s p target cause h

theorem memWf_searchIfReady (x : SpanId) (h : s.mem.wf = true) : (s.searchIfReady x).mem.wf = true :=
  iteClosed (K := fun u => u.mem.wf = true) (memWf_setSpan x _ h) h

theorem memWf_withSelector (r : Request) {f : Byte → State → State} (h : s.mem.wf = true) (hf : ∀ sel, (f sel s).mem.wf = true) :
    (s.withSelector r f).mem.wf = true :=
  iteClosed (K := fun u => u.mem.wf = true) (hf _) (complete_wf _ _ _ _ _ h)

theorem memWf_setEnable (x : SpanId) (b p : Bool) {u : State} (hu : u.mem.wf = true) :
    (if p then u.setEnable x b else u).mem.wf = true :=
  iteClosed (K := fun u => u.mem.wf = true) (memWf_setSpan x _ hu) hu

theorem memWf_enable (r : Request) (h : s.mem.wf = true) : (s.enableSpans r).mem.wf = true :=
  iteClosed (K := fun u => u.mem.wf = true) (memWf_withSelector r h fun sel => by
    have hone (x : SpanId) {u : State} (hu : u.mem.wf = true) :
        (if selects sel x then (u.setEnable x true).searchIfReady x else u).mem.wf = true :=
      iteClosed (K := fun u => u.mem.wf = true) (memWf_searchIfReady x (memWf_setSpan x _ hu)) hu
    exact complete_wf _ _ _ _ _ (hone .b (hone .a h))) (complete_wf _ _ _ _ _ h)

theorem memWf_relaySettles (h : s.mem.wf = true) : s.relaySettles.mem.wf = true := by
  rw [relaySettles_eq]
  exact completeIf_wf _ _ _ _ h

theorem memWf_take (k : Nat) (code : Byte) (params : List Byte) (h : s.mem.wf = true) : (s.routeRequest k code params).mem.wf = true := by
  unfold State.routeRequest
  split
  · exact complete_wf _ _ _ _ _ h
  · exact iteClosed (K := fun u => u.mem.wf = true) (complete_wf _ _ _ _ _ h) (setSlotState_wf _ _ _ h)

theorem memWf_configure (r : Request) (h : s.mem.wf = true) : (s.configure r).mem.wf = true := by
  unfold State.configure
  simp only
  refine iteClosed (K := fun u => u.mem.wf = true) (complete_wf _ _ _ _ _ h) ?_
  split
  · exact complete_wf _ _ _ _ _ h
  · exact complete_wf _ _ _ _ _ (memWf_frame ((touches_adopt_started s _).mono (by decide)) h)

theorem memWf_doorOrder (r : Request) (h : s.mem.wf = true) : (s.doorOrder r).mem.wf = true := by
  unfold State.doorOrder
  split
  · exact complete_wf _ _ _ _ _ h
  · exact opsKeep_memWf.takeDoorOrder s r _ fun _ _ => opsKeep_memWf.endOutstanding s _ _ _ _ h
  · exact h

theorem memWf_startCensus (o : Option Nat) (h : s.mem.wf = true) : (s.startCensus o).mem.wf = true :=
  opsKeep_memWf.startCensus s o h

theorem memWf_takeLead (r : Request) (h : s.mem.wf = true) : (s.takeLead r).mem.wf = true := by
  unfold State.takeLead
  split
  · exact complete_wf _ _ _ _ _ h
  split
  · exact complete_wf _ _ _ _ _ h
  split
  exacts [memWf_startCensus _ (opsKeep_memWf.becomeLead s h), memWf_startCensus _ h]

theorem memWf_censusStart (r : Request) (h : s.mem.wf = true) : (s.censusStart r).mem.wf = true := by
  unfold State.censusStart
  split
  · exact complete_wf _ _ _ _ _ h
  split
  · exact complete_wf _ _ _ _ _ h
  · exact memWf_startCensus _ (opsKeep_memWf.setCensus s _ h)

theorem memWf_heatSupply (r : Request) (h : s.mem.wf = true) : (s.heatSupply r).mem.wf = true := by
  have hheat (v : Heat) : ({ s with heat := v } : State).mem.wf = true := h
  unfold State.heatSupply
  simp only
  exact iteClosed (K := fun u => u.mem.wf = true) (complete_wf _ _ _ _ _ h) (iteClosed (K := fun u => u.mem.wf = true)
    (complete_wf _ _ _ _ _ h) (complete_wf _ _ _ _ _
      (iteClosed (K := fun u => u.mem.wf = true) (opsKeep_memWf.allocate _ (hheat _)) (hheat _))))

end

/-! ## Every command -/

/-- The slots' commands, which answer a slot or tell a lead's order of its span. -/
theorem slotCommand_memWf {c : Instr} {s t : State} (hc : exec c s = .next t) (hd : slotCommand c = true) (h : s.mem.wf = true) :
    ∃ u : State, t = u.settle ∧ u.mem.wf = true := by
  have hK := opsKeep_memWf
  have hR := frameRel_memWf
  have hrun {dt : Nat} {f : State → State} (h' : exec c s = .next (s.run dt f))
      (hf : ∀ u, u.mem.wf = true → (f u).mem.wf = true) : ∃ u : State, t = u.settle ∧ u.mem.wf = true := by
    obtain rfl : s.run dt f = t := Host.Outcome.next.inj (h'.symm.trans hc)
    exact ⟨f (s.advance dt), by rw [State.run], hf _ h⟩
  have hserve {dt : Nat} {p : Request → Bool} {f : Request → State → State} (h' : exec c s = .next (s.run dt fun u => u.serve p f))
      (hf : ∀ r u, u.mem.wf = true → (f r u).mem.wf = true) : ∃ u : State, t = u.settle ∧ u.mem.wf = true :=
    hrun h' fun _ hu => memWf_serve hu hf
  have hdone {u : State} (hu : u.mem.wf = true) (k : Nat) (o : SlotOutcome) (d : Byte) (l : List Byte) :
      (u.complete k o d l).mem.wf = true := complete_wf u k o d l hu
  have hite {u v : State} {p : Prop} [Decidable p] (hu : u.mem.wf = true) (hv : v.mem.wf = true) : (if p then u else v).mem.wf = true :=
    iteClosed (K := fun u => u.mem.wf = true) hu hv
  cases c
  case take =>
    refine hrun rfl fun u hu => ?_
    split
    · exact hu
    · exact memWf_take _ _ _ hu
  case configure => exact hserve rfl fun r u => memWf_configure r
  case spanControlEnable => exact hserve rfl fun r u => memWf_enable r
  case spanControlDisable =>
    exact hserve rfl fun r u hu => memWf_withSelector r hu fun sel =>
      hdone (memWf_exitWhere _ _ _ (memWf_setEnable .b _ _ (memWf_setEnable .a _ _ hu))) _ _ _ _
  case spanControlRestart =>
    exact hserve rfl fun r u hu => memWf_withSelector r hu fun sel => hite (hdone hu _ _ _ _) (hdone (memWf_exitWhere _ _ _ hu) _ _ _ _)
  case spanControlBypass =>
    refine hserve rfl fun r u hu => ?_
    split
    · exact memWf_exitWhere _ _ _ hu
    all_goals exact hdone hu _ _ _ _
  case spanControlUnbypass =>
    refine hserve rfl fun r u hu => ?_
    split
    · exact hdone hu _ _ _ _
    · exact hu
    · exact hdone hu _ _ _ _
  case relaySwitched => exact hrun rfl fun u hu => hite (memWf_relaySettles hu) hu
  case hello dt x =>
    exact hrun rfl fun u => hR.takeFrame links_besidesSlots (fun r v => hR.takeHello links_besidesSlots
      (fun w why f => hK.tellLost w why f) (fun w y cause lost => hK.spanDownReport w y cause lost)
      (fun w y p => hK.spanUpReport w y p) v x r.frame) u x _
  case keepalive dt x =>
    exact hrun rfl fun u => hR.takeFrame links_besidesSlots (fun r v => hR.takeKeepalive links_besidesSlots
      (fun w why f => hK.tellLost w why f) (fun w y cause lost => hK.spanDownReport w y cause lost) v x r.frame) u x _
  case silence | errors => exact hrun rfl fun u hu => hite (memWf_exitSpan _ _ _ hu) hu
  case jamEnd =>
    refine hrun rfl fun u hu => ?_
    split
    · exact hite (hR.endJam links_besidesSlots (fun w why f => hK.tellLost w why f) u _ _ hu) hu
    all_goals exact hu
  case frameCompleted =>
    refine hrun rfl fun u hu => ?_
    split
    · exact hite (hR.completeFrame links_besidesSlots (fun w n st => hK.leadOrderCompleted w n st) u _ _ _ _ hu) hu
    · exact hu
  case takeLead => exact hserve rfl fun r u hu => hK.reviewEnd _ (memWf_takeLead r hu)
  case censusStart => exact hserve rfl fun r u hu => hK.reviewEnd _ (memWf_censusStart r hu)
  case dropLead =>
    refine hserve rfl fun r u hu => ?_
    split
    · exact hdone hu _ _ _ _
    · exact hdone (hK.reviewEnd _ (hK.dropLead u hu)) _ _ _ _
  case settleTimerExpired =>
    refine hrun rfl fun u hu => ?_
    split
    · exact hK.reviewEnd _ (memWf_startCensus none hu)
    · exact hu
  case doorOrder => exact hserve rfl fun r u => memWf_doorOrder r
  case rollAgeTimerExpired => exact hrun rfl fun u hu => hite hu hu
  case doorLocalIsolate => exact hserve rfl fun r u => memWf_answered (answered_isolate u r)
  case doorLocalRestore => exact hserve rfl fun r u => memWf_answered (answered_restore u r)
  case faultClearDoor => exact hserve rfl fun r u => memWf_answered (answered_faultClearDoor u r)
  case faultClearHeating => exact hserve rfl fun r u => memWf_answered (answered_faultClearHeating u r)
  case heatDemand => exact hserve rfl fun r u => memWf_answered (answered_heatDemand u r)
  case heatSupply => exact hserve rfl fun r u => memWf_heatSupply r
  all_goals exact absurd hd (by simp [slotCommand])

theorem writeKeeps_memWf : WriteKeeps fun s => s.mem.wf = true where
  port _ _ h := h
  judge s a b h := by
    by_cases hstores : s.stores a
    · rw [judge_stores s b hstores]
      exact Memory.wf_write _ _ _ h
    · by_cases hdrops : s.drops a
      · rw [judge_drops s b hdrops]
        exact h
      · rwa [judge_passes s b hstores hdrops]
  guard s k b _ h := by
    have hset (v : Byte) : (s.setSlotState k v).mem.wf = true := setSlotState_wf s k v h
    unfold State.guardSlot
    simp only
    split_ifs
    exacts [h, hset _, hset _, hset _, h]
  release s seq h := by
    have hold (t : Trail) (u : State) (hu : u.mem.wf = true) : ({ u with trail := t } : State).mem.wf = true := hu
    unfold State.releaseTrail State.writeGap
    exact iteClosed (K := fun u => u.mem.wf = true)
      (iteClosed (K := fun u => u.mem.wf = true) (hold _ _ (writeEvent_wf _ _ (hold _ _ h))) (hold _ _ h)) h

theorem exec_memWf {c : Instr} {s t : State} (hc : exec c s = .next t) (h : s.mem.wf = true) : t.mem.wf = true := by
  have hsettle (ht : ∃ u : State, t = u.settle ∧ u.mem.wf = true) : t.mem.wf = true := by
    obtain ⟨u, hu, hwf⟩ := ht
    rw [hu]
    exact settle_mem_wf hwf
  cases hp : fromPort c
  · refine hsettle ?_
    cases he : eventCommand c
    · cases ho : opsCommand c
      · cases hd : slotCommand c
        · obtain ⟨dt, u, hu, ht⟩ := runsWithin c s (by cases c <;> simp_all [fromPort, mayReset])
          exact ⟨u, Host.Outcome.next.inj (hc.symm.trans hu), memWf_frame (ht.mono (touches_besidesSlots c hp he ho hd)) h⟩
        · exact slotCommand_memWf hc hd h
      · exact opsKeep_memWf.exec_unsettled hc ho h
    · obtain ⟨dt, u, hu, ht⟩ := eventCommand_quiet hc he
      exact ⟨u, hu, memWf_frame ht h⟩
  · cases c
    case powerOn | resetn =>
      obtain rfl : s.hardReset = t := Host.Outcome.next.inj hc
      rfl
    case resetWord =>
      exact hsettle (exec_resetWord (K := fun s => s.mem.wf = true) (fun _ hu => hu) (fun _ _ hu => hu)
        (fun _ hu => hu.2.2.2.2.2.1) hc h)
    case memWrite => exact hsettle (writeKeeps_memWrite writeKeeps_memWf hc h)
    all_goals exact absurd hp (by simp [fromPort])

end Sys2Proof.Machine

/-!
O52: every command leaves the published blocks current, with counters and tallies raised by each rewrite (R70, R71, R112, R143, R154).
-/

namespace Sys2Proof.Machine

/-! ## The bytes of R143 as the port reads them -/

/-- The offsets in the heating board of the bytes whose change raises HEAT_TALLY (R143). -/
def heatTallyOffsets : List Nat := [4, 5, 6, 7, 8, 9, 12, 13, 14, 15, 20, 21, 32, 33, 34, 35, 36, 37, 38, 39]

theorem take_drop_eq_map {l : List Byte} {a n : Nat} (h : a + n ≤ l.length) :
    (l.drop a).take n = (List.range' a n).map (byteAt l) := by
  refine List.ext_getElem (by simp; omega) fun i hi _ => ?_
  have hlen : a + i < l.length := by
    simp only [List.length_take, List.length_drop] at hi
    omega
  simp [byteAt, List.getD_eq_getElem?_getD, List.getElem?_eq_getElem hlen]

theorem heatTallyBytes_eq {l : List Byte} (h : 36 ≤ l.length) :
    heatTallyBytes l = heatTallyOffsets.map fun off => byteAt l (off - 4) := by
  have hhead := take_drop_eq_map (l := l) (a := 0) (n := 6) (by omega)
  rw [List.drop_zero] at hhead
  rw [heatTallyBytes, hhead, take_drop_eq_map (by omega), take_drop_eq_map (by omega), take_drop_eq_map (by omega)]
  rfl

theorem heatBytes_length (s : State) : s.heatBytes.length = 188 := by
  have hsize := congrArg List.length (heatRows_bytes s)
  simp only [List.length_append, heatRows_length, shareBytes_length, le32_length] at hsize
  omega

theorem readByte_heat {s : State} (hlen : s.pub.heat.length = 188) {off : Nat} (h : 4 ≤ off) (h' : off < 192) :
    s.readByte (0x0E00 + off) = byteAt s.pub.heat (off - 4) := by
  rw [State.readByte, areaOf_heat (by omega)]
  simp only [Nat.add_sub_cancel_left, boardByte]
  rw [if_neg (by omega), byteAt, byteAt, List.getD_append _ _ _ _ (by omega)]

/-- The port reads the bytes of R143 unchanged just when they are. -/
theorem heatKept_iff {s t : State} (hs : s.settled = true) (ht : t.settled = true) :
    (∀ off ∈ heatTallyOffsets, t.readByte (0x0E00 + off) = s.readByte (0x0E00 + off)) ↔
      heatTallyBytes t.pub.heat = heatTallyBytes s.pub.heat := by
  have hlen {u : State} (hu : u.settled = true) : u.pub.heat.length = 188 := by
    obtain ⟨-, -, hheat, -⟩ := settled_blocks hu
    rw [hheat, heatBytes_length]
  rw [heatTallyBytes_eq (by rw [hlen ht]; decide), heatTallyBytes_eq (by rw [hlen hs]; decide), List.map_inj_left]
  refine forall₂_congr fun off hoff => ?_
  have hrange : ∀ off ∈ heatTallyOffsets, 4 ≤ off ∧ off < 192 := by decide
  obtain ⟨h4, h192⟩ := hrange off hoff
  rw [readByte_heat (hlen hs) h4 h192, readByte_heat (hlen ht) h4 h192]

/-! ## Every command -/

theorem Counted.from_advance {s t : State} {dt k j h : Nat} (hr : Counted k j h (s.advance dt) t) : Counted k j h s t :=
  ⟨hr.imageCounter, hr.consist, hr.image, hr.heatCounter, hr.heat, hr.heatTally, hr.tallied⟩

/-- The rewrites of a command that is no reset and no MEM_WRITE (log 25). -/
theorem exec_stepRewrites {c : Instr} {s t : State} (hc : exec c s = .next t) (hp : fromPort c = false) :
    ∃ k j h : Nat, k ≤ 4 ∧ j ≤ 4 ∧ h ≤ 2 ∧ StepRewrites k j h s t ∧
      ((∀ dt : Nat, c ≠ .periodStart dt) → h = if heatTallyBytes t.pub.heat = heatTallyBytes s.pub.heat then 0 else 1) := by
  have hends {u : State} {dt k j h : Nat} (ht : t = u.settle) (hk : k ≤ 3) (hj : j ≤ 3) (hh : h ≤ 1) (hr : Counted k j h (s.advance dt) u)
      (hunread : Unread (s.advance dt) u) : ∃ k j : Nat, k ≤ 4 ∧ j ≤ 4 ∧
        h + (if heatTallyBytes t.pub.heat = heatTallyBytes u.pub.heat then 0 else 1) ≤ 2 ∧
        StepRewrites k j (h + if heatTallyBytes t.pub.heat = heatTallyBytes u.pub.heat then 0 else 1) s t := by
    obtain ⟨k', j', hk', hj', hsteps⟩ := settle_rewrites hr.from_advance (show Unread s u from hunread)
    rw [← ht] at hsteps
    exact ⟨k', j', by omega, by omega, by split <;> omega, hsteps⟩
  have hquiet {u : State} {dt k j : Nat} (ht : t = u.settle) (hk : k ≤ 3) (hj : j ≤ 3) (hr : Counted k j 0 (s.advance dt) u)
      (hunread : Unread (s.advance dt) u) (hheat : u.pub.heat = s.pub.heat) : ∃ k j h : Nat, k ≤ 4 ∧ j ≤ 4 ∧ h ≤ 2 ∧
        StepRewrites k j h s t ∧
        ((∀ dt : Nat, c ≠ .periodStart dt) → h = if heatTallyBytes t.pub.heat = heatTallyBytes s.pub.heat then 0 else 1) := by
    obtain ⟨k', j', hk', hj', hh, hsteps⟩ := hends ht hk hj (by decide) hr hunread
    exact ⟨k', j', _, hk', hj', hh, hsteps, fun _ => by rw [hheat, Nat.zero_add]⟩
  cases hf : startsPeriod c
  · obtain ⟨dt, u, ht, hr⟩ := exec_rewrites hc hp hf
    obtain ⟨k, hk, hcount⟩ := hr.counted
    exact hquiet ht hk (by decide) hcount hr.unread (by rw [hr.rest]; rfl)
  · cases c
    case configure dt =>
      obtain ⟨u, ht, ⟨j, hj, hcount⟩, hunread, hheat⟩ := exec_configure_rewrites hc
      exact hquiet ht (by decide) (by omega) hcount hunread hheat
    case periodStart dt =>
      obtain ⟨u, j, h, ht, hj, hh, hcount, hunread⟩ := exec_periodStart_rewrites hc
      obtain ⟨k', j', hk', hj', hh', hsteps⟩ := hends ht (by decide) hj hh hcount hunread
      exact ⟨k', j', _, hk', hj', hh', hsteps, fun hne => absurd rfl (hne dt)⟩
    all_goals exact absurd hf (by simp [startsPeriod])

theorem settled_of_exec {c : Instr} {s t : State} (hc : exec c s = .next t) : t.settled = true := by
  have hrun {dt : Nat} {f : State → State} (h : exec c s = .next (s.run dt f)) : t.settled = true := by
    obtain rfl : s.run dt f = t := Host.Outcome.next.inj (h.symm.trans hc)
    exact settle_settled _
  cases hm : mayReset c
  · obtain ⟨dt, u, hu, -⟩ := runsWithin c s hm
    rw [← Host.Outcome.next.inj (hu.symm.trans hc)]
    exact settle_settled _
  · cases c
    case powerOn | resetn =>
      obtain rfl : s.hardReset = t := Host.Outcome.next.inj hc
      exact hardReset_settled s
    case resetWord => exact hrun rfl
    all_goals exact absurd hm (by simp [mayReset])

/-- Settles O52: the rewrites before the end of a step are counted, and its end rewrites each changed block once. -/
theorem everyCommandPublishes : Obligations.EveryCommandPublishes := by
  unfold Obligations.EveryCommandPublishes
  intro c s t hc
  have ht := settled_of_exec hc
  refine ⟨ht, exec_memWf hc, fun hp => ?_⟩
  obtain ⟨k, j, h, hk, hj, hh, hsteps, hone⟩ := exec_stepRewrites hc hp
  refine ⟨⟨k, hk, hsteps.imageCounter, hsteps.consist, hsteps.image⟩, hsteps.doorCounter, hsteps.doorTally,
    ⟨j, hj, hsteps.heatCounter, hsteps.heat⟩, fun hs => ?_, hsteps.readingsCounter⟩
  intro kept
  have hkept : kept ↔ heatTallyBytes t.pub.heat = heatTallyBytes s.pub.heat := heatKept_iff hs ht
  refine ⟨fun hne => ⟨fun hk => ?_, fun hk => ?_⟩, h, hh, hsteps.heatTally, fun hk => hsteps.tallied (mt hkept.2 hk)⟩
  · rw [hsteps.heatTally, hone hne, if_pos (hkept.1 hk)]
    exact BitVec.add_zero _
  · rw [hsteps.heatTally, hone hne, if_neg (mt hkept.2 hk)]
    rfl

end Sys2Proof.Machine
